-- ==== Sys2Proof/Word.lean ====
section
/-! DEFINITION. The words of the Urowen CX-24: bytes, 16-bit values and 32-bit values (cabinet times, store words). -/

namespace Sys2Proof

/-- One byte of a frame or of a table record. -/
abbrev Byte := BitVec 8

/-- A two-byte value: a chain, a table generation, a current in mA. -/
abbrev Half := BitVec 16

/-- A word of the nonvolatile store, or a set check value. -/
abbrev Word := BitVec 32

/-- Cabinet time: milliseconds since the last reset, modulo 2^32 (00_scope.md, Time and units). -/
abbrev Time := BitVec 32

end Sys2Proof
end

