-- ==== Sys2Proof/Syntax.lean ====
section
/-! DEFINITION. The commands of the CX-24, one constructor for each row of spec/opcode_table.json, with the types of
their operands. Numbered resources count from 1 as the guide counts them (00_scope.md, Names). -/

namespace Sys2Proof

/-- The four field branches (00_scope.md). -/
inductive BranchId where
  | a | b | c | d
  deriving DecidableEq, Repr

/-- A line on which characters are received: the controller link or a branch. -/
inductive LineId where
  | controller
  | branch (which : BranchId)
  deriving DecidableEq, Repr

/-- Why a frame received on a line is discarded without an answer (R114, R179, R180, R182). -/
inductive Discard where
  /-- a character arrived with its stop bit missing -/
  | framingError
  /-- the length byte is above 200 -/
  | lengthAbove200
  /-- an idle gap came before the whole frame had been received -/
  | brokenByGap
  /-- a character arrived after the whole frame and before an idle gap -/
  | extraCharacter
  /-- the CRC of a complete frame does not match -/
  | badCrc
  /-- the frame is not addressed to the supervisor, or comes from another station than the awaited one -/
  | wrongAddress
  /-- a frame of a known kind whose length is not the kind's -/
  | wrongLength
  /-- on a branch: a frame of another kind than the awaited one -/
  | wrongKind
  /-- on a branch: a value that the layout of an LST or a DSM does not define -/
  | undefinedValue
  deriving DecidableEq, Repr

/-- The health a detector station reports of one input (R141). -/
inductive Health where
  | ok | openCircuit | shortCircuit
  deriving DecidableEq, Repr

/-- One input's entry of a detector sample DSM (R141). The ages are those of its listed transitions, oldest first;
their directions follow from the raw state and the count (R182). -/
structure DsmInput where
  health : Health
  occupied : Bool
  overrun : Bool
  ages : List Half
  deriving DecidableEq, Repr

/-- Bits of one word of the nonvolatile store that have gone wrong: the word's index in reading order, and which of its
39 bits (32 of the value, low bits first, then the seven check bits). -/
structure Upset where
  index : Nat
  bits : BitVec 39
  deriving DecidableEq, Repr

/-- The commands: everything that can happen to the supervisor, one row of the table each. -/
inductive Instr where
  /-- POWER_ON_RESET (R186) -/
  | powerOnReset
  /-- NRESET (R186): the line was held low for so many microseconds; the supply was rising meanwhile or not -/
  | nreset (lowMicros : Nat) (supplyRising : Bool)
  /-- SUPPLY_LOSS (R186) -/
  | supplyLoss
  /-- TABLE_LOAD_END (R168): the bits that have gone wrong in the store since it was last written or read, and whether the
  lockout record could be read -/
  | tableLoadEnd (upsets : List Upset) (recordReadable : Bool)
  /-- IMG (R67, layout R182): the 24 targets of two bits as sent, group 1 highest -/
  | img (chain next : Half) (inhibit : Byte) (targets : BitVec 48)
  /-- CAL_CALL (R90) -/
  | calCall (plan : Byte)
  /-- CAL_CANCEL (R91): a CAL whose request code is not CALL; 1 is CANCEL -/
  | calCancel (plan request : Byte)
  /-- MOD_RUN (R48) -/
  | modRun (cabinet generation startChain : Half)
  /-- MOD_FLASH (R50): a MOD whose request code is not RUN; 1 is FLASH -/
  | modFlash (request : Byte)
  /-- TWR (R170) -/
  | twr (table index : Byte) (content : List Byte)
  /-- TRD (R171): the copy is 0 ACTIVE, 1 WORKING, 2 STORED -/
  | trd (table index copy : Byte)
  /-- TCM (R173) -/
  | tcm
  /-- TDS (R172) -/
  | tds
  /-- STA (R164) -/
  | sta (part : Byte) (first : Half)
  /-- FCL (R161) -/
  | fcl
  /-- FWD (R120) -/
  | fwd (tag station inner : Byte) (payload : List Byte)
  /-- UNKNOWN_KIND_FRAME (R180) -/
  | unknownKindFrame (kind : Byte)
  /-- DAMAGED_FRAME (R179, R180): a controller-link frame that is discarded -/
  | damagedFrame (cause : Discard)
  /-- OUTGOING_FRAME_SENT (R185) -/
  | outgoingFrameSent
  /-- COMMIT_COMPLETION (R174) -/
  | commitCompletion
  /-- COMMIT_WRITE_FAILURE (R175) -/
  | commitWriteFailure
  /-- RECORD_WRITE_COMPLETION (R60) -/
  | recordWriteCompletion
  /-- RECORD_WRITE_FAILURE (R60) -/
  | recordWriteFailure
  /-- RECORD_ERASE_COMPLETION (R64) -/
  | recordEraseCompletion
  /-- RECORD_ERASE_FAILURE (R64) -/
  | recordEraseFailure
  /-- MAINT_STATE_CHANGE (R63): the line's level and for how many ms it has been held -/
  | maintStateChange (active : Bool) (heldMs : Nat)
  /-- PE_LINE_CHANGE (R86): the line 1 to 6, its level and for how many ms it has been held -/
  | peLineChange (line : Nat) (active : Bool) (heldMs : Nat)
  /-- START_UP_STOP_TIMER_EXPIRY (R51) -/
  | startUpStopTimerExpiry
  /-- SUPERVISION_TIMER_EXPIRY (R73) -/
  | supervisionTimerExpiry
  /-- WARNING_WINDOW_EXPIRY (R74) -/
  | warningWindowExpiry
  /-- END_OF_PREPARE (R11) -/
  | endOfPrepare (group : Nat)
  /-- END_OF_CLEAR (R13) -/
  | endOfClear (group : Nat)
  /-- MINIMUM_GO_REACHED (R12) -/
  | minimumGoReached (group : Nat)
  /-- MINIMUM_STOP_REACHED (R10) -/
  | minimumStopReached (group : Nat)
  /-- DEFERRAL_TIMER_EXPIRY (R34) -/
  | deferralTimerExpiry (group : Nat)
  /-- PLAN_DELAY_END (R97) -/
  | planDelayEnd
  /-- PLAN_DWELL_END (R99) -/
  | planDwellEnd
  /-- PLAN_DURATION_EXPIRY (R100) -/
  | planDurationExpiry (plan : Nat)
  /-- BRANCH_TRANSMISSION_END (R111) -/
  | branchTransmissionEnd (branch : BranchId)
  /-- LST_RECEIVED (R115): the applied image, none for NONE, and the 16 currents in mA -/
  | lstReceived (branch : BranchId) (station : Nat) (applied : Option Byte) (currents : List Half)
  /-- DSM_RECEIVED (R142): the entries of the 16 inputs -/
  | dsmReceived (branch : BranchId) (station : Nat) (inputs : List DsmInput)
  /-- SST_RECEIVED (R115) -/
  | sstReceived (branch : BranchId) (station : Nat) (status : List Byte)
  /-- FWR_RECEIVED (R121): a station's frame of kind FWR and its payload -/
  | fwrReceived (branch : BranchId) (station : Nat) (payload : List Byte)
  /-- BRANCH_FRAME_DISCARDED (R114) -/
  | branchFrameDiscarded (branch : BranchId) (cause : Discard)
  /-- POLL_ANSWER_TIMEOUT (R117) -/
  | pollAnswerTimeout (branch : BranchId)
  /-- FORWARD_ANSWER_TIMEOUT (R121) -/
  | forwardAnswerTimeout (branch : BranchId)
  /-- REPOLL_TIMER_EXPIRY (R117) -/
  | repollTimerExpiry (station : Nat)
  /-- STUCK_DEADLINE_EXPIRY (R147) -/
  | stuckDeadlineExpiry (channel : Nat)
  /-- IDLE_DEADLINE_EXPIRY (R147) -/
  | idleDeadlineExpiry (channel : Nat)
  /-- IDLE_GAP (R179) -/
  | idleGap (line : LineId)
  deriving DecidableEq, Repr

end Sys2Proof
end

