-- ==== Sys2Proof/Config.lean ====
section
/-! DEFINITION. The figures of the part that several chapters share (00_scope.md), and the FREE VALUES: constants
without a body for what the spec leaves open, so that a statement holds whatever the supervisor does there. -/

namespace Sys2Proof.Config

/-- Signal groups, live or not (00_scope.md; R1). -/
def groups : Nat := 24

/-- Output channels of the output map (00_scope.md). -/
def channels : Nat := 96

/-- Detector channels (00_scope.md). -/
def detectors : Nat := 48

/-- Preemption plans (00_scope.md). -/
def plans : Nat := 8

/-- Records of the station table (00_scope.md). -/
def stations : Nat := 32

/-- Entries the fault list can hold (R156). -/
def faultEntries : Nat := 32

/-- Frames the outgoing queue can hold (R185). -/
def queueFrames : Nat := 32

/-- Entries a branch's forward FIFO can hold (R120). -/
def fifoEntries : Nat := 4

/-- Plans the stack can hold (R93). -/
def stackDepth : Nat := 4

/-- Greatest value of the saturating 10 ms counts (R5). -/
def saturation : Nat := 65535

/-- FREE VALUE (log 10). What reading a word with three or more wrong bits gives (R168): none when it is found
uncorrectable, or the value it is corrected to. The arguments are the word as it was written and which of its 39
bits are wrong. -/
opaque manyWrongBits : Word → BitVec 39 → Option Word

/-- FREE VALUE (log 11). What a word of the store holds after a commit write that was cut or failed (R175): its
value and which of its 39 bits are wrong. The arguments are how many free values were drawn before and the word's
index. -/
opaque tornWord : Nat → Nat → Word × BitVec 39

/-- FREE VALUE (log 12). Whether the content of the lockout record can still be read after an erase that was cut or
failed (R61). -/
opaque eraseKeepsContent : Nat → Bool

/-- FREE VALUE (log 13). The count carried by the alarm of a fault that has no entry (R158, R163), by alarm number. -/
opaque unlistedCount : Half → Byte

/-- FREE VALUE (log 13). The action, by its place in the list of actions, carried by the alarm of the end of a fault
that has no entry. -/
opaque unlistedEndAction : Half → Fin 5

/-- FREE VALUE (log 13). The latched field of the alarm of the end of a fault that has no entry. -/
opaque unlistedEndLatched : Half → Bool

/-- FREE VALUE (log 14). The action, by its place in the list of actions, that a restored lockout record of kind
UNKNOWN carries (R45). -/
opaque restoredUnknownAction : Fin 5

end Sys2Proof.Config
end

