-- ==== Sys2Proof/Machine/Bytes.lean ====
section
/-! DEFINITION. Byte order, sets as bit fields, and the two cyclic redundancy checks of the guide. -/

namespace Sys2Proof.Machine

/-- Two bytes read as a 16-bit value, high byte first (00_scope.md, Values and ranges). -/
def half (hi lo : Byte) : Half := hi ++ lo

/-- The bytes of a 16-bit value, high byte first. -/
def halfBytes (x : Half) : List Byte := [x.extractLsb' 8 8, x.extractLsb' 0 8]

/-- Three bytes read as a 24-bit set: group 1 is bit 0 of the third byte (R183). -/
def triple (a b c : Byte) : BitVec 24 := a ++ (b ++ c)

/-- The bytes of a set of groups, three bytes (R183). -/
def tripleBytes (x : BitVec 24) : List Byte := [x.extractLsb' 16 8, x.extractLsb' 8 8, x.extractLsb' 0 8]

/-- Four bytes read as a 32-bit word, high byte first (10, section 10.2). -/
def word (a b c d : Byte) : Word := a ++ (b ++ (c ++ d))

/-- The bytes of a 32-bit word, high byte first. -/
def wordBytes (x : Word) : List Byte :=
  [x.extractLsb' 24 8, x.extractLsb' 16 8, x.extractLsb' 8 8, x.extractLsb' 0 8]

/-- A number that fits in one byte, as that byte. -/
def byteOf (n : Nat) : Byte := BitVec.ofNat 8 n

/-- A number that fits in two bytes, as those bytes. -/
def halfOf (n : Nat) : List Byte := halfBytes (BitVec.ofNat 16 n)

/-- A number that takes four bytes. -/
def wordOf (n : Nat) : List Byte := wordBytes (BitVec.ofNat 32 n)

/-- A yes/no field: one byte, 1 for yes and 0 for no (R183). -/
def flagByte (b : Bool) : Byte := if b then 1 else 0

/-- Byte `i` of a record or payload, counted from 0. -/
def byteAt (bytes : List Byte) (i : Nat) : Byte := bytes.getD i 0

/-- The 16-bit value whose high byte is byte `i`. -/
def halfAt (bytes : List Byte) (i : Nat) : Half := half (byteAt bytes i) (byteAt bytes (i + 1))

/-- Member `n` of a set that counts from 1, in a bit field whose bit 0 is member 1 (R182, R183). -/
def member {w : Nat} (s : BitVec w) (n : Nat) : Bool := decide (1 ≤ n) && s.getLsbD (n - 1)

/-- The set of the numbers 1 to `w` that satisfy `p`, as a bit field (R182, R183). -/
def setOf (w : Nat) (p : Nat → Bool) : BitVec w :=
  (List.range w).foldl (fun acc k => if p (k + 1) then acc ||| BitVec.ofNat w (2 ^ k) else acc) 0

/-- How many of a word's bits are set. -/
def bitCount {w : Nat} (x : BitVec w) : Nat := ((List.range w).filter (fun k => x.getLsbD k)).length

/-- One bit of the frame CRC: the register is shifted left and the polynomial x^16 + x^12 + x^5 + 1 is added when the bit
that leaves differs from the bit that comes (R178). -/
def crc16Bit (register : Half) (bit : Bool) : Half :=
  if register.msb == bit then register <<< 1 else (register <<< 1) ^^^ 0x1021

/-- One byte of the frame CRC, most significant bit first (R178). -/
def crc16Byte (register : Half) (byte : Byte) : Half :=
  [7, 6, 5, 4, 3, 2, 1, 0].foldl (fun r k => crc16Bit r (byte.getLsbD k)) register

/-- The frame CRC: the register starts at FFFFh and is sent as it stands (R178). -/
def crc16 (bytes : List Byte) : Half := bytes.foldl crc16Byte 0xFFFF

/-- One bit of the set check value: least significant bit first, so the register is shifted right and the reflected
polynomial is added (10, section 10.2). -/
def crc32Bit (register : Word) (bit : Bool) : Word :=
  if register.getLsbD 0 == bit then register >>> 1 else (register >>> 1) ^^^ 0xEDB88320

/-- One byte of the set check value, least significant bit first (10, section 10.2). -/
def crc32Byte (register : Word) (byte : Byte) : Word :=
  [0, 1, 2, 3, 4, 5, 6, 7].foldl (fun r k => crc32Bit r (byte.getLsbD k)) register

/-- The set check value: the register starts at FFFFFFFFh and is inverted at the end (10, section 10.2). -/
def crc32 (bytes : List Byte) : Word := ~~~ (bytes.foldl crc32Byte 0xFFFFFFFF)

end Sys2Proof.Machine
end

