-- ==== Sys2Proof/Machine/Numbered.lean ====
section
/-! DEFINITION. Lists whose places are counted from 1, as the guide counts groups, channels, plans and records. -/

namespace Sys2Proof.Machine

/-- The entry numbered `n`, counting from 1. -/
def entry? {α : Type} (l : List α) (n : Nat) : Option α := if n = 0 then none else l[n - 1]?

/-- The entry numbered `n`, or `d` where the list has none. -/
def entryD {α : Type} (l : List α) (n : Nat) (d : α) : α := (entry? l n).getD d

/-- The list with the entry numbered `n` changed by `f`; unchanged where there is no such entry. -/
def changeEntry {α : Type} (l : List α) (n : Nat) (f : α → α) : List α :=
  if n = 0 then l else l.modify (n - 1) f

/-- The numbers 1 to `n`. -/
def numbers (n : Nat) : List Nat := (List.range n).map (· + 1)

/-- The entries with their numbers, from 1. -/
def numberedEntries {α : Type} (l : List α) : List (Nat × α) := (numbers l.length).zip l

/-- The elements of `l` in the order of their keys, those of equal key in the order in which they stand. -/
def insertByKey {α : Type} (key : α → Nat) (x : α) : List α → List α
  | [] => [x]
  | y :: ys => if key x < key y then x :: y :: ys else y :: insertByKey key x ys

/-- A list sorted by key, keeping the order of equal keys. -/
def sortByKey {α : Type} (key : α → Nat) (l : List α) : List α := l.foldl (fun acc x => insertByKey key x acc) []

end Sys2Proof.Machine
end

