-- ==== Sys2Proof/Machine/Tables.lean ====
section
/-! DEFINITION. The table set: the records of the seven tables as they are sent and stored, byte for byte (R183; 10,
section 10.1), the default set (R165), and the set as the words of the nonvolatile store (10, section 10.2).

A record keeps every byte it was given, since a table write checks no values (R170). -/

namespace Sys2Proof.Machine

/-- The cabinet record, table 1 (10, section 10.1). Times in steps of 0.1 s, the settle time in steps of 10 ms. -/
structure CabinetRec where
  number : Half := 1
  groupsInUse : Byte := 1
  supervision : Byte := 5
  warning : Byte := 20
  startUp : Byte := 50
  settle : Byte := 30
  deriving DecidableEq, Repr

/-- A group record, table 2 (01, section 1.2). Times in steps of 0.1 s. The red-fail action is coded as an action (R183): REPORT 1, LOCKOUT 5. -/
structure GroupRec where
  kind : Byte := 0
  prepare : Byte := 10
  clear : Half := 30
  minGo : Half := 50
  minStop : Byte := 10
  dark : Byte := 0
  redFail : Byte := 5
  deriving DecidableEq, Repr

/-- One entry (i, j) of the conflict matrix, table 3 (02, section 2.1). The intergreen in steps of 0.1 s. -/
structure ConflictEntry where
  conflict : Byte := 0
  intergreen : Byte := 0
  deriving DecidableEq, Repr

/-- A channel record of the output map, table 4 (06, section 6.2 and 07, section 7.1). Station 0 is "channel unused". The
lamp-out qualifier in steps of 0.1 s, the foreign qualifier in steps of 10 ms. -/
structure ChannelRec where
  station : Byte := 0
  output : Byte := 1
  group : Byte := 1
  lit : Byte := 0
  flash : Byte := 0
  redProving : Byte := 0
  onThreshold : Half := 60
  offThreshold : Half := 25
  hysteresis : Byte := 10
  lampOutQualifier : Byte := 20
  foreignQualifier : Byte := 30
  latch : Byte := 0
  deriving DecidableEq, Repr

/-- A detector record, table 5 (08, section 8.1). Station 0 is "channel unused". The debounces in steps of 10 ms. -/
structure DetectorRec where
  station : Byte := 0
  input : Byte := 1
  kind : Byte := 0
  served : Byte := 1
  debounceOn : Byte := 5
  debounceOff : Byte := 10
  maxPresence : Byte := 0
  maxIdle : Byte := 0
  chatterLimit : Byte := 0
  faultDefault : Byte := 0
  deriving DecidableEq, Repr

/-- A plan record, table 6 (05, section 5.1). The entry delay in steps of 0.1 s, the other times in s. -/
structure PlanRec where
  enabled : Byte := 0
  source : Byte := 0
  sensitivity : Byte := 0
  entryDelay : Byte := 0
  forcedGo : BitVec 24 := 0
  forcedStop : BitVec 24 := 0
  minDwell : Byte := 0
  maxDuration : Half := 0
  deriving DecidableEq, Repr

/-- A station record, table 7 (06, section 6.1). Address 0 is "record unused". -/
structure StationRec where
  address : Byte := 0
  branch : Byte := 0
  role : Byte := 0
  deriving DecidableEq, Repr

/-- A table set: the records of the seven tables (10, section 10.1). -/
structure TableSet where
  cabinet : CabinetRec
  groups : List GroupRec
  conflicts : List (List ConflictEntry)
  outputs : List ChannelRec
  detectors : List DetectorRec
  plans : List PlanRec
  stations : List StationRec
  deriving DecidableEq, Repr

/-- The default set: every record at its defaults (R165). -/
def defaultSet : TableSet where
  cabinet := { }
  groups := List.replicate Config.groups { }
  conflicts := List.replicate Config.groups (List.replicate Config.groups { })
  outputs := List.replicate Config.channels { }
  detectors := List.replicate Config.detectors { }
  plans := List.replicate Config.plans { }
  stations := List.replicate Config.stations { }

/-- The bytes of a cabinet record (R183). -/
def encodeCabinet (r : CabinetRec) : List Byte :=
  halfBytes r.number ++ [r.groupsInUse, r.supervision, r.warning, r.startUp, r.settle]

/-- The cabinet record that seven bytes spell (R183). -/
def decodeCabinet (b : List Byte) : CabinetRec where
  number := halfAt b 0
  groupsInUse := byteAt b 2
  supervision := byteAt b 3
  warning := byteAt b 4
  startUp := byteAt b 5
  settle := byteAt b 6

/-- The bytes of a group record (R183). -/
def encodeGroup (r : GroupRec) : List Byte :=
  [r.kind, r.prepare] ++ halfBytes r.clear ++ halfBytes r.minGo ++ [r.minStop, r.dark, r.redFail]

/-- The group record that nine bytes spell (R183). -/
def decodeGroup (b : List Byte) : GroupRec where
  kind := byteAt b 0
  prepare := byteAt b 1
  clear := halfAt b 2
  minGo := halfAt b 4
  minStop := byteAt b 6
  dark := byteAt b 7
  redFail := byteAt b 8

/-- The bytes of a row of the conflict matrix: each entry its flag and then its intergreen (R183). -/
def encodeConflicts (row : List ConflictEntry) : List Byte := row.flatMap (fun e => [e.conflict, e.intergreen])

/-- The row of the conflict matrix that 48 bytes spell (R183). -/
def decodeConflicts : List Byte → List ConflictEntry
  | c :: ig :: rest => { conflict := c, intergreen := ig } :: decodeConflicts rest
  | _ => []

/-- The bytes of a channel record, the fields of 06 and then those of 07 (R183). -/
def encodeChannel (r : ChannelRec) : List Byte :=
  [r.station, r.output, r.group, r.lit, r.flash, r.redProving] ++ halfBytes r.onThreshold ++ halfBytes r.offThreshold
    ++ [r.hysteresis, r.lampOutQualifier, r.foreignQualifier, r.latch]

/-- The channel record that 14 bytes spell (R183). -/
def decodeChannel (b : List Byte) : ChannelRec where
  station := byteAt b 0
  output := byteAt b 1
  group := byteAt b 2
  lit := byteAt b 3
  flash := byteAt b 4
  redProving := byteAt b 5
  onThreshold := halfAt b 6
  offThreshold := halfAt b 8
  hysteresis := byteAt b 10
  lampOutQualifier := byteAt b 11
  foreignQualifier := byteAt b 12
  latch := byteAt b 13

/-- The bytes of a detector record (R183). -/
def encodeDetector (r : DetectorRec) : List Byte :=
  [r.station, r.input, r.kind, r.served, r.debounceOn, r.debounceOff, r.maxPresence, r.maxIdle, r.chatterLimit,
    r.faultDefault]

/-- The detector record that ten bytes spell (R183). -/
def decodeDetector (b : List Byte) : DetectorRec where
  station := byteAt b 0
  input := byteAt b 1
  kind := byteAt b 2
  served := byteAt b 3
  debounceOn := byteAt b 4
  debounceOff := byteAt b 5
  maxPresence := byteAt b 6
  maxIdle := byteAt b 7
  chatterLimit := byteAt b 8
  faultDefault := byteAt b 9

/-- The bytes of a plan record (R183). -/
def encodePlan (r : PlanRec) : List Byte :=
  [r.enabled, r.source, r.sensitivity, r.entryDelay] ++ tripleBytes r.forcedGo ++ tripleBytes r.forcedStop
    ++ [r.minDwell] ++ halfBytes r.maxDuration

/-- The plan record that 13 bytes spell (R183). -/
def decodePlan (b : List Byte) : PlanRec where
  enabled := byteAt b 0
  source := byteAt b 1
  sensitivity := byteAt b 2
  entryDelay := byteAt b 3
  forcedGo := triple (byteAt b 4) (byteAt b 5) (byteAt b 6)
  forcedStop := triple (byteAt b 7) (byteAt b 8) (byteAt b 9)
  minDwell := byteAt b 10
  maxDuration := halfAt b 11

/-- The bytes of a station record (R183). -/
def encodeStation (r : StationRec) : List Byte := [r.address, r.branch, r.role]

/-- The station record that three bytes spell (R183). -/
def decodeStation (b : List Byte) : StationRec where
  address := byteAt b 0
  branch := byteAt b 1
  role := byteAt b 2

/-- How many records a table has, by its number 1 to 7; no table has another number (10, section 10.1). -/
def recordCount : Nat → Nat
  | 1 => 1
  | 2 => Config.groups
  | 3 => Config.groups
  | 4 => Config.channels
  | 5 => Config.detectors
  | 6 => Config.plans
  | 7 => Config.stations
  | _ => 0

/-- The length of a table's records in bytes (R183). -/
def recordLength : Nat → Nat
  | 1 => 7
  | 2 => 9
  | 3 => 48
  | 4 => 14
  | 5 => 10
  | 6 => 13
  | 7 => 3
  | _ => 0

/-- The bytes of record `index` of table `table`, by the encoding of R183. -/
def recordBytes (t : TableSet) (table index : Nat) : List Byte :=
  match table with
  | 1 => encodeCabinet t.cabinet
  | 2 => encodeGroup (entryD t.groups index { })
  | 3 => encodeConflicts (entryD t.conflicts index [])
  | 4 => encodeChannel (entryD t.outputs index { })
  | 5 => encodeDetector (entryD t.detectors index { })
  | 6 => encodePlan (entryD t.plans index { })
  | 7 => encodeStation (entryD t.stations index { })
  | _ => []

/-- The set with record `index` of table `table` replaced by the content carried (R170). -/
def writeRecord (t : TableSet) (table index : Nat) (content : List Byte) : TableSet :=
  match table with
  | 1 => { t with cabinet := decodeCabinet content }
  | 2 => { t with groups := changeEntry t.groups index (fun _ => decodeGroup content) }
  | 3 => { t with conflicts := changeEntry t.conflicts index (fun _ => decodeConflicts content) }
  | 4 => { t with outputs := changeEntry t.outputs index (fun _ => decodeChannel content) }
  | 5 => { t with detectors := changeEntry t.detectors index (fun _ => decodeDetector content) }
  | 6 => { t with plans := changeEntry t.plans index (fun _ => decodePlan content) }
  | 7 => { t with stations := changeEntry t.stations index (fun _ => decodeStation content) }
  | _ => t

/-- The words of a record: its bytes packed high byte first, the last word filled out with 0 bytes (10, section 10.2). -/
def packWords : List Byte → List Word
  | a :: b :: c :: d :: rest => word a b c d :: packWords rest
  | [a, b, c] => [word a b c 0]
  | [a, b] => [word a b 0 0]
  | [a] => [word a 0 0 0]
  | [] => []

/-- How many words a record of a table takes. -/
def recordWords (table : Nat) : Nat := (recordLength table + 3) / 4

/-- The index, in reading order, of the first word of record `index` of table `table` (10, section 10.2). -/
def firstWord (table index : Nat) : Nat :=
  ((numbers (table - 1)).map (fun k => recordCount k * recordWords k)).sum + (index - 1) * recordWords table

/-- The words of tables 1 to 7 in table and record order (10, section 10.2). -/
def setWords (t : TableSet) : List Word :=
  (numbers 7).flatMap (fun table => (numbers (recordCount table)).flatMap (fun i => packWords (recordBytes t table i)))

/-- How many words the seven tables take. -/
def setWordCount : Nat := 954

/-- The bytes of record `index` of table `table`, read back from the words of the set. -/
def bytesFromWords (words : List Word) (table index : Nat) : List Byte :=
  (((words.drop (firstWord table index)).take (recordWords table)).flatMap wordBytes).take (recordLength table)

/-- The set that the words of the store spell. -/
def setFromWords (words : List Word) : TableSet where
  cabinet := decodeCabinet (bytesFromWords words 1 1)
  groups := (numbers (recordCount 2)).map (fun i => decodeGroup (bytesFromWords words 2 i))
  conflicts := (numbers (recordCount 3)).map (fun i => decodeConflicts (bytesFromWords words 3 i))
  outputs := (numbers (recordCount 4)).map (fun i => decodeChannel (bytesFromWords words 4 i))
  detectors := (numbers (recordCount 5)).map (fun i => decodeDetector (bytesFromWords words 5 i))
  plans := (numbers (recordCount 6)).map (fun i => decodePlan (bytesFromWords words 6 i))
  stations := (numbers (recordCount 7)).map (fun i => decodeStation (bytesFromWords words 7 i))

/-- The set check value of a set's words: CRC-32 over the words, each high byte first (10, section 10.2). -/
def setCheck (words : List Word) : Word := crc32 (words.flatMap wordBytes)

end Sys2Proof.Machine
end

