-- ==== Sys2Proof/Machine/State.lean ====
section
/-! DEFINITION. The state of the CX-24, block by block, as the chapters of the guide give it, and the state after a
power-on reset. INVENTORY.md lists every field with the rule that names it. -/

namespace Sys2Proof.Machine

/-- Why a command ends a run. No command of this block ends in a fault: each has its effect, is answered with a result
code or is discarded, as the spec says. -/
inductive Fault where
  /-- raised by no command; safe -/
  | none
  deriving DecidableEq, Repr

/-- Why a command has no meaning. -/
inductive Refusal where
  /-- raised by an arm of exec whose command is not modelled yet; safe. No arm is left with it. -/
  | notModelled (mnemonic : String)
  deriving DecidableEq, Repr

/-! ### Names shared by several blocks -/

/-- Result codes (11, section 11.2). -/
inductive Result where
  | ok | mode | busy | range | chain | conflict | full | noAnswer | invalid | mismatch | maint | unknown
  deriving DecidableEq, Repr

/-- The cabinet modes (03, section 3.1). -/
inductive Mode where
  | loading | flash | start | running | warning | closing | lockout
  deriving DecidableEq, Repr

/-- Causes of a mode change (R65). -/
inductive Cause where
  | reset | loadEnd | modRun | startDone | supervision | imageResumed | modFlash | supervisionClose | closeDone
  | faultFlash | faultLockout | maintClear
  deriving DecidableEq, Repr

/-- Shown aspects (R3). -/
inductive Aspect where
  | stop | prepare | go | clear | dark | flash
  deriving DecidableEq, Repr

/-- Targets of a group (01, section 1.4). -/
inductive Target where
  | stop | go | dark
  deriving DecidableEq, Repr

/-- Where a group's target comes from: the accepted image, or the STOP of a mode in which the image is not used; the
preemption overlay; a clamp of R8 or R9 (R7). -/
inductive Source where
  | image | overlay | clamp
  deriving DecidableEq, Repr

/-- Notes of a group (01, section 1.5). -/
inductive Note where
  | none | held | deferred | blocked | forced | clamped
  deriving DecidableEq, Repr

/-- Fault kinds in the order of 09, section 9.3, and UNKNOWN (R183). -/
inductive FaultKind where
  | tableInvalid | tableCorrected | storeWrite | noController | supervision | supervisionClose | chain
  | requestedConflict | fieldConflict | redFail | lampOut | foreignCurrent | stationAbsent | stationLag
  | detectorOpen | detectorShort | detectorStuck | detectorIdle | detectorChatter | nestingLimit | planTimeout
  | unknown
  deriving DecidableEq, Repr

/-- Actions in the order of their severity (R80). -/
inductive Action where
  | none | report | noRun | close | flash | lockout
  deriving DecidableEq, Repr

/-- A countdown that stands expired once it has run out (R51, R72): 10 ms units remaining, or expired. -/
inductive Countdown where
  | running (units : Nat)
  | expired
  deriving DecidableEq, Repr

/-! ### Frames toward the controller -/

/-- One group as an echo frame shows it (R80). -/
structure GroupView where
  shown : Aspect
  note : Note
  deriving DecidableEq, Repr

/-- Phases of a plan (05, section 5.7). -/
inductive Phase where
  | delay | entry | dwell | hold
  deriving DecidableEq, Repr

/-- The echo frame (R80). -/
structure Ech where
  result : Result
  mode : Mode
  strikes : Nat
  imageNumber : Byte
  groups : List GroupView
  topPlan : Option (Nat × Phase)
  depth : Nat
  pendingSet : Byte
  reportsLost : Bool
  nestingLimit : Bool
  tablesCorrected : Bool
  activeFaults : Nat
  worst : Action
  deriving DecidableEq, Repr

/-- The detector report (R151). -/
structure Det where
  channel : Nat
  occupied : Bool
  fault : Bool
  time : Time
  occupancy : Option Nat
  deriving DecidableEq, Repr

/-- What an alarm reports (R163). -/
inductive AlarmBody where
  | fault (kind : FaultKind) (subject : Option Nat) (active : Bool) (count : Nat) (action : Action) (latched listed : Bool)
  | mode (old new : Mode) (cause : Cause)
  deriving DecidableEq, Repr

/-- The alarm frame (R163). -/
structure Alarm where
  number : Half
  body : AlarmBody
  time : Time
  activeFaults : Nat
  worst : Action
  deriving DecidableEq, Repr

/-- Frames that wait to go to the controller (11, section 11.4). The content of an RPL is the bytes after the kind answered
and the result code (R184); an FWR carries the kind and payload of the station's answer for OK (R181). -/
inductive OutFrame where
  | ech (e : Ech)
  | rpl (kind : Byte) (result : Result) (content : List Byte)
  | fwr (tag station : Byte) (result : Result) (answer : List Byte)
  | det (d : Det)
  | alm (a : Alarm)
  deriving DecidableEq, Repr

/-! ### Link interface -/

/-- The receive assembler of a line (R179). -/
inductive Assembler where
  | waiting | receiving
  deriving DecidableEq, Repr

/-- The link interface (11, section 11.4; R179, R185). -/
structure Link where
  assembler : Assembler
  queue : List OutFrame
  reportsLost : Bool
  /-- the frame being sent; none while the transmitter is idle -/
  sending : Option OutFrame
  deriving DecidableEq, Repr

/-! ### Image exchange -/

/-- The accepted image (04, section 4.1), its 24 targets group 1 first. -/
structure Image where
  chain : Half
  next : Half
  inhibit : Byte
  targets : List Target
  time : Time
  deriving DecidableEq, Repr

/-- The image exchange (04, section 4.1). Absent items are none; the warning window timer counts 10 ms units. -/
structure Exchange where
  expectedChain : Option Half
  accepted : Option Image
  supervision : Option Countdown
  warning : Option Nat
  strikes : Nat
  imagesAccepted : Half
  imagesRefused : Half
  deriving DecidableEq, Repr

/-! ### Preemption unit -/

/-- Last outcomes of a plan (05, section 5.2). -/
inductive PlanOutcome where
  | none | ended | abandoned | timedOut | cleared
  deriving DecidableEq, Repr

/-- What the preemption unit keeps for one plan (05, section 5.2). -/
structure PlanState where
  pending : Bool
  spent : Bool
  active : Bool
  limitReported : Bool
  outcome : PlanOutcome
  deriving DecidableEq, Repr

/-- A stacked plan (05, section 5.2). The counts are 10 ms units; the plan runs while it is the top. -/
structure Stacked where
  plan : Nat
  phase : Phase
  delay : Option Nat
  dwell : Option Nat
  duration : Option Nat
  deriving DecidableEq, Repr

/-- The remote call slot when it holds a plan (R90, R91): CALLED, or CANCELLED. -/
structure Slot where
  plan : Nat
  called : Bool
  deriving DecidableEq, Repr

/-- The preemption unit (05, section 5.2), with the filtered states of PE1 to PE6 (R86). -/
structure Preemption where
  plans : List PlanState
  inhibit : Byte
  stack : List Stacked
  slot : Option Slot
  nestingLimit : Bool
  lines : List Bool
  deriving DecidableEq, Repr

/-! ### Aspect engine -/

/-- The state record of one group (01, section 1.4), with the source of its target (R7). Counts are 10 ms units. -/
structure Group where
  shown : Aspect
  time : Nat
  clearance : Nat
  target : Target
  source : Source
  note : Note
  deferral : Option Nat
  deriving DecidableEq, Repr

/-- The aspect engine (01). -/
structure Engine where
  groups : List Group
  imageNumber : Byte
  deriving DecidableEq, Repr

/-! ### Mode controller -/

/-- Close targets (03, section 3.1). -/
inductive CloseTarget where
  | flash | lockout
  deriving DecidableEq, Repr

/-- Close causes (03, section 3.1). -/
inductive CloseCause where
  | modFlash | supervisionClose
  deriving DecidableEq, Repr

/-- Record operations (03, section 3.1). A write carries the kind and subject being written (R60). -/
inductive RecordOp where
  | none
  | writing (kind : FaultKind) (subject : Option Nat)
  | erasing
  deriving DecidableEq, Repr

/-- The mode controller (03, section 3.1). The lockout record is in the nonvolatile store. -/
structure Control where
  mode : Mode
  runPermit : Bool
  closeTarget : Option CloseTarget
  closeCause : Option CloseCause
  startTimer : Option Countdown
  firstImage : Option Bool
  maint : Bool
  recordOp : RecordOp
  lastCause : Cause
  /-- a LOCKOUT action held during the load (R46) -/
  heldLockout : Option (FaultKind × Option Nat)
  deriving DecidableEq, Repr

/-! ### Branch controllers -/

/-- Commanded states of an output (R108). -/
inductive Lamp where
  | off | on | flash
  deriving DecidableEq, Repr

/-- Roles of a station (06, section 6.1). -/
inductive Role where
  | output | detector | sign
  deriving DecidableEq, Repr

/-- The drive slot of an OUTPUT station (06, section 6.3), its 16 states output 1 first. -/
structure DriveSlot where
  station : Nat
  image : Byte
  states : List Lamp
  pending : Bool
  deriving DecidableEq, Repr

/-- An entry of a forward FIFO (06, section 6.3). -/
structure Forward where
  tag : Byte
  station : Nat
  kind : Byte
  payload : List Byte
  deriving DecidableEq, Repr

/-- A frame that a branch transmitter sends (R111, R112). An APL is kept with the states that the branch's drive frames for
its image carried, which the lamp prover is given at its end (R127). -/
inductive BranchFrame where
  | drv (station : Nat) (image : Byte) (states : List Lamp)
  | apl (image : Byte) (carried : List (Nat × List Lamp))
  | pol (station : Nat)
  | fwd (entry : Forward)
  deriving DecidableEq, Repr

/-- The outstanding answer of a branch (R114): the tag is there for a forwarded frame, absent for a poll. -/
structure Awaited where
  station : Nat
  tag : Option Byte
  deadline : Time
  deriving DecidableEq, Repr

/-- The liveness record of a station (R107). -/
structure Liveness where
  station : Nat
  present : Bool
  timeouts : Nat
  repoll : Option Nat
  repollDue : Bool
  lagCount : Nat
  lagging : Bool
  lastApplied : Option Byte
  lastSign : Option (List Byte)
  deriving DecidableEq, Repr

/-- Whose turn it is (06, section 6.3). -/
inductive Turn where
  | fwd | pol
  deriving DecidableEq, Repr

/-- A branch controller (06, section 6.3). The drive slots and the liveness records stand in ascending address. -/
structure Branch where
  assembler : Assembler
  slots : List DriveSlot
  applyPending : Option Byte
  lastApply : Option (Byte × Time)
  fifo : List Forward
  pointer : Option Nat
  turn : Turn
  /-- the frame being sent; none while the transmitter is IDLE -/
  sending : Option BranchFrame
  awaited : Option Awaited
  liveness : List Liveness
  deriving DecidableEq, Repr

/-! ### Lamp prover -/

/-- The proving record of an output channel (07, section 7.2); a proved state of none is NONE. -/
structure Proving where
  proved : Option Lamp
  outRun : Option Time
  foreignRun : Option Time
  lampOut : Bool
  lampOutReleased : Bool
  foreign : Bool
  foreignReleased : Bool
  last : Option (Half × Time)
  deriving DecidableEq, Repr

/-- The lamp prover (07): 96 proving records, and RED_FAIL for each group. -/
structure Prover where
  channels : List Proving
  redFail : List Bool
  deriving DecidableEq, Repr

/-! ### Detector conditioner -/

/-- A raw transition not yet decided (08, section 8.2). -/
structure Transition where
  onset : Bool
  time : Time
  deriving DecidableEq, Repr

/-- The run-time record of a detector channel in use (08, section 8.2). A raw state of none is UNKNOWN. -/
structure Detector where
  raw : Option Bool
  pending : List Transition
  resync : Bool
  occupied : Bool
  since : Time
  health : Health
  okSince : Option Time
  stuckAt : Option Time
  idleAt : Option Time
  onsets : List Time
  openFault : Bool
  shortFault : Bool
  stuckFault : Bool
  idleFault : Bool
  chatterFault : Bool
  stationAbsent : Bool
  call : Option Time
  reported : Bool
  reportedSince : Time
  inFault : Bool
  /-- the channel's last report: its state, its fault field and its event time (R151) -/
  lastDet : Option (Bool × Bool × Time)
  deriving DecidableEq, Repr

/-! ### Fault list -/

/-- An entry of the fault list (09, section 9.1). -/
structure Entry where
  kind : FaultKind
  subject : Option Nat
  first : Time
  last : Time
  count : Nat
  active : Bool
  latched : Bool
  action : Action
  deriving DecidableEq, Repr

/-- The fault list (R156), oldest entry first, with the number of the last alarm made (R163). -/
structure FaultList where
  entries : List Entry
  changeNumber : Half
  alarmNumber : Half
  deriving DecidableEq, Repr

/-! ### Table store -/

/-- A word of the nonvolatile store: its value as written, and which of its 39 bits (32 of the value, low first, then the
seven check bits) are now wrong (10, section 10.2). -/
structure StoredWord where
  value : Word
  wrong : BitVec 39
  deriving DecidableEq, Repr

/-- The lockout record as the store holds it (03, section 3.8): none is ABSENT. -/
abbrev LockoutRecord := Option (FaultKind × Option Nat)

/-- The nonvolatile memory (10, section 10.2): the words of tables 1 to 7, the header and the lockout record. The header's layout, two words with check
bits and a mark outside them, is the model's choice (log 49). -/
structure Nonvolatile where
  words : List StoredWord
  generation : StoredWord
  check : StoredWord
  /-- the header is not marked incomplete (R174); a flag that no wrong bit reaches (log 49) -/
  complete : Bool
  record : LockoutRecord
  deriving DecidableEq, Repr

/-- Store operations (10, section 10.2). -/
inductive StoreOp where
  | idle | commit | record
  deriving DecidableEq, Repr

/-- Last commit outcomes (10, section 10.2). -/
inductive CommitOutcome where
  | none | done | failed
  deriving DecidableEq, Repr

/-- The table store (10, section 10.2). -/
structure Store where
  active : Option TableSet
  working : TableSet
  generation : Half
  corrected : Nat
  tablesCorrected : Bool
  valid : Bool
  op : StoreOp
  progress : Option (Time × Half)
  lastCommit : CommitOutcome
  nv : Nonvolatile
  deriving DecidableEq, Repr

/-! ### The whole -/

/-- Supply, NRESET, cabinet time and the model's own counts: how long a line's level can have been held since the reset (R63, R86; log 5), the
phase of the 10 ms count within cabinet time (log 2), and how many free values have been drawn (log 8). -/
structure Clock where
  powered : Bool
  /-- for how many ms more NRESET stays low and holds the supervisor in reset (R186, log 41); 0 while it is high -/
  lowFor : Nat
  /-- ms since the reset took effect, up to 100 -/
  awake : Nat
  now : Time
  phase : Nat
  drawn : Nat
  deriving DecidableEq, Repr

/-- The model's scratch record of the event being taken; empty between events. -/
structure Event where
  /-- the shown image before the event (R21) -/
  before : List Aspect := []
  /-- groups to be re-evaluated besides those whose target changes (R20) -/
  concerned : List Nat := []
  /-- groups that entered GO (R21) -/
  enteredGo : List Nat := []
  /-- the mode changed (R20, R65) -/
  modeChanged : Bool := false
  /-- the branch controllers mark their slots even if no image is numbered (R110) -/
  remark : Bool := false
  /-- the most severe action requested by a report of the event (R80) -/
  worst : Action := .none
  /-- detector reports made, oldest first (R151) -/
  reports : List Det := []
  deriving DecidableEq, Repr

/-- The state of the supervisor, and the queue of commands that wait. -/
structure State where
  pending : List Instr
  clock : Clock
  event : Event
  link : Link
  exchange : Exchange
  preempt : Preemption
  engine : Engine
  control : Control
  branches : List Branch
  prover : Prover
  detectors : List (Option Detector)
  faults : FaultList
  store : Store
  deriving DecidableEq, Repr

/-! ### Reset values -/

/-- A plan's state after either reset (R85). -/
def PlanState.reset : PlanState where
  pending := false
  spent := false
  active := false
  limitReported := false
  outcome := .none

/-- A group's record after either reset (R4). -/
def Group.reset : Group where
  shown := .flash
  time := 0
  clearance := 0
  target := .stop
  source := .image
  note := .none
  deferral := none

/-- A branch controller after either reset (R107, R109, R179). -/
def Branch.reset : Branch where
  assembler := .waiting
  slots := []
  applyPending := none
  lastApply := none
  fifo := []
  pointer := none
  turn := .pol
  sending := none
  awaited := none
  liveness := []

/-- A proving record after either reset (R125). -/
def Proving.reset : Proving where
  proved := none
  outRun := none
  foreignRun := none
  lampOut := false
  lampOutReleased := false
  foreign := false
  foreignReleased := false
  last := none

/-- The lamp prover after either reset (R125). -/
def Prover.reset : Prover where
  channels := List.replicate Config.channels Proving.reset
  redFail := List.replicate Config.groups false

/-- The alarm that reports the change to LOADING at a reset: the first frame of the emptied queue, with alarm number 0 and
old mode LOADING (R163). -/
def resetAlarm : OutFrame :=
  .alm { number := 0, body := .mode .loading .loading .reset, time := 0, activeFaults := 0, worst := .none }

/-- The link interface in reset: the queue is empty, the flag is clear and the transmitter is idle (R179, R185). -/
def Link.reset : Link where
  assembler := .waiting
  queue := []
  reportsLost := false
  sending := none

/-- The link interface when LOADING begins: the alarm of the change to LOADING is the first frame of the emptied queue (R163), which the idle
transmitter starts at once (R185). -/
def Link.loading : Link := { Link.reset with sending := some resetAlarm }

/-- The state after a reset, with what the reset keeps: the queue of commands, the free-value counter, the strike count of
the retention register (R66) and the nonvolatile memory (R43, R168). Every other value is the one its chapter gives
(R4, R43, R66, R85, R109, R125, R140, R156, R168, R185). While NRESET stays low no transmitter drives its pair, and LOADING begins when the
line returns high (R186). -/
def resetState (pending : List Instr) (lowFor drawn strikes : Nat) (nv : Nonvolatile) : State where
  pending := pending
  clock := { powered := true, lowFor := lowFor, awake := 0, now := 0, phase := 0, drawn := drawn }
  event := { }
  link := if lowFor = 0 then Link.loading else Link.reset
  exchange :=
    { expectedChain := none, accepted := none, supervision := none, warning := none, strikes := strikes,
      imagesAccepted := 0, imagesRefused := 0 }
  preempt :=
    { plans := List.replicate Config.plans PlanState.reset, inhibit := 0, stack := [], slot := none,
      nestingLimit := false, lines := List.replicate 6 false }
  engine := { groups := List.replicate Config.groups Group.reset, imageNumber := 0 }
  control :=
    { mode := .loading, runPermit := false, closeTarget := none, closeCause := none, startTimer := none,
      firstImage := none, maint := false, recordOp := .none, lastCause := .reset, heldLockout := none }
  branches := List.replicate 4 Branch.reset
  prover := Prover.reset
  detectors := List.replicate Config.detectors none
  faults := { entries := [], changeNumber := 0, alarmNumber := 0 }
  store :=
    { active := none, working := defaultSet, generation := 0, corrected := 0, tablesCorrected := false, valid := false,
      op := .idle, progress := none, lastCommit := .none, nv := nv }

/-- The nonvolatile memory of a new part: DESIGN CHOICE (log 7), the spec does not say what it holds. Blank words, a header
that is not complete, and no lockout record. -/
def Nonvolatile.blank : Nonvolatile where
  words := List.replicate setWordCount { value := 0, wrong := 0 }
  generation := { value := 0, wrong := 0 }
  check := { value := 0, wrong := 0 }
  complete := false
  record := none

/-- The machine right after a power-on reset (R186), with the queue empty. -/
def State.reset : State := resetState [] 0 0 0 Nonvolatile.blank

end Sys2Proof.Machine
end

