-- ==== Sys2Proof/WellFormed.lean ====
section
/-! DEFINITION. Which commands can come at all: operands that a line, a frame or a timer can carry. -/

namespace Sys2Proof

/-- A numbered resource counts from 1 (00_scope.md, Names). -/
def numbered (n last : Nat) : Bool := decide (1 ≤ n) && decide (n ≤ last)

/-- The ten kinds of frame that the controller sends to the supervisor (11, section 11.2). -/
def controllerKind (kind : Byte) : Bool := decide (0x10 ≤ kind.toNat) && decide (kind.toNat ≤ 0x19)

/-- A detector sample that a station can send: 16 inputs, at most 8 transitions for each and 92 in all (R141, R182). -/
def sampleFits (inputs : List DsmInput) : Bool :=
  decide (inputs.length = 16) && inputs.all (fun e => decide (e.ages.length ≤ 8))
    && decide ((inputs.map (fun e => e.ages.length)).sum ≤ 92)

/-- The commands whose operands can come: lengths that a frame can carry (R178, section 11.2), numbers that name a
resource, and request codes that the row stands for. -/
def wellFormed : Instr → Bool
  | .tableLoadEnd upsets _ => upsets.all (fun u => decide (u.index < 956) && decide (u.bits ≠ 0))
  | .calCancel _ request => decide (request ≠ 0)
  | .modFlash request => decide (request ≠ 0)
  | .twr _ _ content => decide (content.length ≤ 198)
  | .fwd _ _ _ payload => decide (payload.length ≤ 197)
  | .unknownKindFrame kind => !controllerKind kind
  | .damagedFrame cause => decide (cause ≠ .wrongKind) && decide (cause ≠ .undefinedValue)
  | .peLineChange line _ _ => numbered line 6
  | .endOfPrepare g => numbered g 24
  | .endOfClear g => numbered g 24
  | .minimumGoReached g => numbered g 24
  | .minimumStopReached g => numbered g 24
  | .deferralTimerExpiry g => numbered g 24
  | .planDurationExpiry p => numbered p 8
  | .lstReceived _ s _ currents => numbered s 32 && decide (currents.length = 16)
  | .dsmReceived _ s inputs => numbered s 32 && sampleFits inputs
  | .sstReceived _ s status => numbered s 32 && decide (status.length ≤ 200)
  | .fwrReceived _ s payload => numbered s 32 && decide (payload.length ≤ 200)
  | .repollTimerExpiry s => numbered s 32
  | .stuckDeadlineExpiry c => numbered c 48
  | .idleDeadlineExpiry c => numbered c 48
  | .powerOnReset | .nreset _ _ | .supplyLoss | .img _ _ _ _ | .calCall _ | .modRun _ _ _ | .trd _ _ _ | .tcm | .tds
  | .sta _ _ | .fcl | .outgoingFrameSent | .commitCompletion | .commitWriteFailure | .recordWriteCompletion
  | .recordWriteFailure | .recordEraseCompletion | .recordEraseFailure | .maintStateChange _ _
  | .startUpStopTimerExpiry | .supervisionTimerExpiry | .warningWindowExpiry | .planDelayEnd | .planDwellEnd
  | .branchTransmissionEnd _ | .branchFrameDiscarded _ _ | .pollAnswerTimeout _ | .forwardAnswerTimeout _
  | .idleGap _ => true

end Sys2Proof
end

