-- ==== Sys2Proof/Machine/Frames.lean ====
section
/-! DEFINITION. Frames: the codes of named values (R183), the payloads of the frames the supervisor sends (R182, R184), and
the command that a received frame is (R178 to R182). -/

namespace Sys2Proof.Machine

/-! ### Codes of named values (R182, R183; 11, section 11.2) -/

/-- Values of the result codes (11, section 11.2). -/
def Result.code : Result → Nat
  | .ok => 0 | .mode => 1 | .busy => 2 | .range => 3 | .chain => 4 | .conflict => 5 | .full => 6 | .noAnswer => 7
  | .invalid => 8 | .mismatch => 9 | .maint => 10 | .unknown => 11

/-- Modes as the echo frame codes them (R182). -/
def Mode.code : Mode → Nat
  | .loading => 0 | .flash => 1 | .start => 2 | .running => 3 | .warning => 4 | .closing => 5 | .lockout => 6

/-- Causes of a mode change by their place in the list of R65 (R183). -/
def Cause.code : Cause → Nat
  | .reset => 0 | .loadEnd => 1 | .modRun => 2 | .startDone => 3 | .supervision => 4 | .imageResumed => 5
  | .modFlash => 6 | .supervisionClose => 7 | .closeDone => 8 | .faultFlash => 9 | .faultLockout => 10
  | .maintClear => 11

/-- Shown aspects (R182). -/
def Aspect.code : Aspect → Nat
  | .stop => 0 | .prepare => 1 | .go => 2 | .clear => 3 | .dark => 4 | .flash => 5

/-- Notes (R182). -/
def Note.code : Note → Nat
  | .none => 0 | .held => 1 | .deferred => 2 | .blocked => 3 | .forced => 4 | .clamped => 5

/-- Targets (R182). -/
def Target.code : Target → Nat
  | .stop => 0 | .go => 1 | .dark => 2

/-- Phases (R182). -/
def Phase.code : Phase → Nat
  | .delay => 0 | .entry => 1 | .dwell => 2 | .hold => 3

/-- Actions, as the worst action of the echo frame (R182, R183). -/
def Action.code : Action → Nat
  | .none => 0 | .report => 1 | .noRun => 2 | .close => 3 | .flash => 4 | .lockout => 5

/-- Fault kinds by their place in the table of 09, section 9.3, UNKNOWN being 21 (R183). -/
def FaultKind.code : FaultKind → Nat
  | .tableInvalid => 0 | .tableCorrected => 1 | .storeWrite => 2 | .noController => 3 | .supervision => 4
  | .supervisionClose => 5 | .chain => 6 | .requestedConflict => 7 | .fieldConflict => 8 | .redFail => 9
  | .lampOut => 10 | .foreignCurrent => 11 | .stationAbsent => 12 | .stationLag => 13 | .detectorOpen => 14
  | .detectorShort => 15 | .detectorStuck => 16 | .detectorIdle => 17 | .detectorChatter => 18 | .nestingLimit => 19
  | .planTimeout => 20 | .unknown => 21

/-- A named value's byte. -/
def codeByte (n : Nat) : Byte := BitVec.ofNat 8 n

/-! ### Kinds of frame (11, section 11.2) -/

/-- The kind byte of a frame toward the controller. -/
def OutFrame.kind : OutFrame → Byte
  | .ech _ => 0x20
  | .rpl _ _ _ => 0x21
  | .fwr _ _ _ _ => 0x22
  | .det _ => 0x23
  | .alm _ => 0x24

/-! ### Payloads -/

/-- The payload of an echo frame, 34 bytes (R182). -/
def Ech.payload (e : Ech) : List Byte :=
  [codeByte e.result.code, codeByte e.mode.code, byteOf e.strikes, e.imageNumber]
    ++ e.groups.map (fun g => byteOf (g.shown.code * 8 + g.note.code))
    ++ [match e.topPlan with
        | some (plan, phase) => byteOf (plan * 16 + phase.code)
        | none => 0,
      byteOf e.depth, e.pendingSet,
      byteOf ((if e.reportsLost then 1 else 0) + (if e.nestingLimit then 2 else 0) + (if e.tablesCorrected then 4 else 0)),
      byteOf e.activeFaults, codeByte e.worst.code]

/-- A field that may be absent: one byte that says whether it is present, and its own bytes, sent as 0 when it is absent
(R183). -/
def optionalField (length : Nat) (field : Option (List Byte)) : List Byte :=
  match field with
  | some bytes => 1 :: bytes
  | none => 0 :: List.replicate length 0

/-- The payload of a detector report, 10 bytes (R184). The states of a channel are listed OCCUPIED, VACANT. -/
def Det.payload (d : Det) : List Byte :=
  [byteOf d.channel, if d.occupied then 0 else 1, flagByte d.fault] ++ wordBytes d.time
    ++ optionalField 2 (d.occupancy.map halfOf)

/-- The byte of a subject: its number, or 0 for none (R183). -/
def subjectByte (subject : Option Nat) : Byte := byteOf (subject.getD 0)

/-- The payload of an alarm, 19 bytes: the fields that its cause does not carry are sent as 0 (R184). -/
def Alarm.payload (a : Alarm) : List Byte :=
  halfBytes a.number
    ++ (match a.body with
      | .fault kind subject active count action latched listed =>
        [0, codeByte kind.code, subjectByte subject, if active then 0 else 1, byteOf count, codeByte action.code,
          flagByte latched, flagByte listed, 0, 0, 0]
      | .mode old new cause => [1, 0, 0, 0, 0, 0, 0, 0, codeByte old.code, codeByte new.code, codeByte cause.code])
    ++ wordBytes a.time ++ [byteOf a.activeFaults, codeByte a.worst.code]

/-- The payload of a frame toward the controller (R182, R184). -/
def OutFrame.payload : OutFrame → List Byte
  | .ech e => e.payload
  | .rpl kind result content => [kind, codeByte result.code] ++ content
  | .fwr tag station result answer => [tag, station, codeByte result.code] ++ answer
  | .det d => d.payload
  | .alm a => a.payload

/-- The characters of a frame: address, kind, length, payload, CRC high byte first (R178). -/
def frameBytes (address kind : Byte) (payload : List Byte) : List Byte :=
  let body := [address, kind, byteOf payload.length] ++ payload
  body ++ halfBytes (crc16 body)

/-- The characters of a frame toward the controller. The guide gives addresses to the supervisor, the stations and the
broadcast only; a frame on this link carries the supervisor's (log 25). -/
def OutFrame.bytes (f : OutFrame) : List Byte := frameBytes 0 f.kind f.payload

/-- Codes of the commanded states of a DRV (R182). -/
def Lamp.code : Lamp → Nat
  | .off => 0 | .on => 1 | .flash => 2

/-- Sixteen commanded states packed four to a byte, the first in the highest bits (R182). -/
def packStates : List Lamp → List Byte
  | a :: b :: c :: d :: rest => byteOf (a.code * 64 + b.code * 16 + c.code * 4 + d.code) :: packStates rest
  | _ => []

/-- The characters of a frame that a branch transmitter sends (R112, R121, R182; 11, section 11.2). -/
def BranchFrame.bytes : BranchFrame → List Byte
  | .drv station image states => frameBytes (byteOf station) 0x30 (image :: packStates states)
  | .apl image _ => frameBytes 63 0x31 [image]
  | .pol station => frameBytes (byteOf station) 0x32 []
  | .fwd entry => frameBytes (byteOf entry.station) entry.kind entry.payload

/-! ### Received frames on the controller link -/

/-- The two-bit code of the target of group `g` in the 24 targets of an image frame, group 1 highest (R182). -/
def targetCode (targets : BitVec 48) (g : Nat) : Nat := (targets.extractLsb' (2 * (24 - g)) 2).toNat

/-- The targets of an image frame whose codes are all below 3 (R69): 0 STOP, 1 GO, 2 DARK. -/
def targetOfCode : Nat → Target
  | 0 => .stop
  | 1 => .go
  | _ => .dark

/-- The command that a frame of a known kind is, by its payload; none when the payload's length is not the kind's
(R180; 11, section 11.2). -/
def commandOf (kind : Byte) (p : List Byte) : Option Instr :=
  match kind.toNat with
  | 0x10 =>
    if p.length = 11 then
      some (.img (halfAt p 0) (halfAt p 2) (byteAt p 4)
        (halfAt p 5 ++ (halfAt p 7 ++ halfAt p 9)))
    else none
  | 0x11 =>
    if p.length = 2 then
      some (if byteAt p 1 = 0 then .calCall (byteAt p 0) else .calCancel (byteAt p 0) (byteAt p 1))
    else none
  | 0x12 =>
    if p.length = 7 then
      some (if byteAt p 0 = 0 then .modRun (halfAt p 1) (halfAt p 3) (halfAt p 5) else .modFlash (byteAt p 0))
    else none
  | 0x13 => if 2 ≤ p.length then some (.twr (byteAt p 0) (byteAt p 1) (p.drop 2)) else none
  | 0x14 => if p.length = 3 then some (.trd (byteAt p 0) (byteAt p 1) (byteAt p 2)) else none
  | 0x15 => if p.length = 0 then some .tcm else none
  | 0x16 => if p.length = 0 then some .tds else none
  | 0x17 => if p.length = 3 then some (.sta (byteAt p 0) (halfAt p 1)) else none
  | 0x18 => if p.length = 0 then some .fcl else none
  | 0x19 => if 3 ≤ p.length then some (.fwd (byteAt p 0) (byteAt p 1) (byteAt p 2) (p.drop 3)) else none
  | _ => none

/-- What the characters between two idle gaps are: the frame's address, kind and payload, or why it is damaged (R179). -/
def splitFrame (chars : List Byte) : Except Discard (Byte × Byte × List Byte) :=
  match chars with
  | address :: kind :: length :: rest =>
    if 200 < length.toNat then .error .lengthAbove200
    else if rest.length < length.toNat + 2 then .error .brokenByGap
    else if length.toNat + 2 < rest.length then .error .extraCharacter
    else if crc16 ([address, kind, length] ++ rest.take length.toNat) = halfAt rest length.toNat then
      .ok (address, kind, rest.take length.toNat)
    else .error .badCrc
  | _ => .error .brokenByGap

/-- The command that the characters received on the controller link between two idle gaps are (R179, R180). -/
def controllerFrame (chars : List Byte) : Instr :=
  match splitFrame chars with
  | .error cause => .damagedFrame cause
  | .ok (address, kind, payload) =>
    if address ≠ 0 then .damagedFrame .wrongAddress
    else if controllerKind kind = false then .unknownKindFrame kind
    else (commandOf kind payload).getD (.damagedFrame .wrongLength)

/-- The kind and payload of the frame by which the controller sends a command (11, section 11.2); none for a command
that is no frame of the controller's. -/
def controllerPayload : Instr → Option (Byte × List Byte)
  | .img chain next inhibit targets =>
    some (0x10, halfBytes chain ++ halfBytes next ++ [inhibit] ++ halfBytes (targets.extractLsb' 32 16)
      ++ halfBytes (targets.extractLsb' 16 16) ++ halfBytes (targets.extractLsb' 0 16))
  | .calCall plan => some (0x11, [plan, 0])
  | .calCancel plan request => some (0x11, [plan, request])
  | .modRun cabinet generation startChain =>
    some (0x12, [0] ++ halfBytes cabinet ++ halfBytes generation ++ halfBytes startChain)
  | .modFlash request => some (0x12, [request, 0, 0, 0, 0, 0, 0])
  | .twr table index content => some (0x13, [table, index] ++ content)
  | .trd table index copy => some (0x14, [table, index, copy])
  | .tcm => some (0x15, [])
  | .tds => some (0x16, [])
  | .sta part first => some (0x17, [part] ++ halfBytes first)
  | .fcl => some (0x18, [])
  | .fwd tag station inner payload => some (0x19, [tag, station, inner] ++ payload)
  | _ => none

/-! ### Received frames on a branch -/

/-- The health of a DSM entry; 3 is not defined (R182). -/
def healthOf : Nat → Option Health
  | 0 => some .ok
  | 1 => some .openCircuit
  | 2 => some .shortCircuit
  | _ => none

/-- The two-byte values of a payload. -/
def halves : List Byte → List Half
  | hi :: lo :: rest => half hi lo :: halves rest
  | _ => []

/-- The entries of `n` inputs of a DSM; none when a value is not defined or the length is not the one that the transition
counts give (R182). -/
def sampleInputs : Nat → List Byte → Option (List DsmInput)
  | 0, [] => some []
  | 0, _ => none
  | _ + 1, [] => none
  | n + 1, head :: rest =>
    let count := (head.extractLsb' 0 4).toNat
    match healthOf (head.extractLsb' 6 2).toNat with
    | none => none
    | some health =>
      if 8 < count || rest.length < 2 * count then none
      else
        (sampleInputs n (rest.drop (2 * count))).map
          (fun more =>
            { health := health, occupied := head.getLsbD 5, overrun := head.getLsbD 4,
              ages := halves (rest.take (2 * count)) } :: more)

/-- The command that the characters received on a branch between two idle gaps are (R114, R179, R182). -/
def branchFrame (br : BranchId) (chars : List Byte) : Instr :=
  match splitFrame chars with
  | .error cause => .branchFrameDiscarded br cause
  | .ok (address, kind, payload) =>
    if numbered address.toNat 32 = false then .branchFrameDiscarded br .wrongAddress
    else
      match kind.toNat with
      | 0x33 =>
        if payload.length ≠ 34 then .branchFrameDiscarded br .wrongLength
        else if byteAt payload 0 = 0 then .lstReceived br address.toNat none (halves (payload.drop 2))
        else if byteAt payload 0 = 1 then .lstReceived br address.toNat (some (byteAt payload 1)) (halves (payload.drop 2))
        else .branchFrameDiscarded br .undefinedValue
      | 0x34 =>
        match sampleInputs 16 payload with
        | some inputs => .dsmReceived br address.toNat inputs
        | none => .branchFrameDiscarded br .undefinedValue
      | 0x35 => .sstReceived br address.toNat payload
      | 0x22 => .fwrReceived br address.toNat payload
      | _ => .branchFrameDiscarded br .wrongKind

end Sys2Proof.Machine
end

