-- ==== Sys2Proof/Machine/Parameters.lean ====
section
/-! DEFINITION. What the fields of the table records mean: sets, sources and roles, times in the units in which the
supervisor counts them, live groups and conflicts (R1, R2, R23, R25, R30, R83, R139). -/

namespace Sys2Proof.Machine

/-! ### Groups -/

/-- Prepare time in 10 ms units, the P of chapter 2 (R2). -/
def GroupRec.prepareUnits (r : GroupRec) : Nat := r.prepare.toNat * 10

/-- Clear time in 10 ms units (R2). -/
def GroupRec.clearUnits (r : GroupRec) : Nat := r.clear.toNat * 10

/-- Minimum GO in 10 ms units (R2). -/
def GroupRec.minGoUnits (r : GroupRec) : Nat := r.minGo.toNat * 10

/-- Minimum STOP in 10 ms units (R2). -/
def GroupRec.minStopUnits (r : GroupRec) : Nat := r.minStop.toNat * 10

/-- The group record of group `g`. -/
def TableSet.group (t : TableSet) (g : Nat) : GroupRec := entryD t.groups g { }

/-- The number of groups in use, N (R1). -/
def TableSet.inUse (t : TableSet) : Nat := t.cabinet.groupsInUse.toNat

/-- A live group is a group whose number is at most N (R1). -/
def TableSet.live (t : TableSet) (g : Nat) : Bool := decide (1 ≤ g) && decide (g ≤ t.inUse)

/-- The entry (i, j) of the conflict matrix, "from group i to group j" (02, section 2.1). -/
def TableSet.entry (t : TableSet) (i j : Nat) : ConflictEntry := entryD (entryD t.conflicts i []) j { }

/-- Two groups are in conflict when both are live and the matrix marks the pair (R25). -/
def TableSet.conflict (t : TableSet) (i j : Nat) : Bool :=
  t.live i && t.live j && decide ((t.entry i j).conflict = 1)

/-- The intergreen from group i to group j in 10 ms units, 10 × IG (R23). -/
def TableSet.intergreen (t : TableSet) (i j : Nat) : Nat := (t.entry i j).intergreen.toNat * 10

/-- The live groups in ascending number (R1). -/
def TableSet.liveGroups (t : TableSet) : List Nat := numbers t.inUse

/-- The groups in conflict with group `g`, in ascending number (R25). -/
def TableSet.conflicting (t : TableSet) (g : Nat) : List Nat := t.liveGroups.filter (fun i => t.conflict i g)

/-! ### Output channels -/

/-- A channel record is used when it names a station (06, section 6.2). -/
def ChannelRec.used (r : ChannelRec) : Bool := decide (r.station ≠ 0)

/-- A go lamp is a used channel whose lit set contains GO (R30). -/
def ChannelRec.goLamp (r : ChannelRec) : Bool := r.used && r.lit.getLsbD 2

/-- The output channel record of channel `c`. -/
def TableSet.output (t : TableSet) (c : Nat) : ChannelRec := entryD t.outputs c { }

/-- A channel is proved when its record names a station and its group is live (R124). -/
def TableSet.proved (t : TableSet) (c : Nat) : Bool :=
  (t.output c).used && t.live (t.output c).group.toNat

/-! ### Stations -/

/-- A station record is used when it has an address (06, section 6.1). -/
def StationRec.used (r : StationRec) : Bool := decide (r.address ≠ 0)

/-- The record of the station with an address, if the station table has one. -/
def TableSet.station (t : TableSet) (address : Nat) : Option StationRec :=
  t.stations.find? (fun r => r.used && decide (r.address.toNat = address))

/-! ### Detectors -/

/-- A detector channel is in use when its record names a station (R139). -/
def DetectorRec.used (r : DetectorRec) : Bool := decide (r.station ≠ 0)

/-- A DEMAND channel reports a stored call; the others are PRESENCE channels (R139). -/
def DetectorRec.demand (r : DetectorRec) : Bool := decide (r.kind = 1)

/-- The detector record of channel `c`. -/
def TableSet.detector (t : TableSet) (c : Nat) : DetectorRec := entryD t.detectors c { }

/-! ### Plans -/

/-- A plan takes part in preemption when its record is enabled (R83). -/
def PlanRec.on (r : PlanRec) : Bool := decide (r.enabled = 1)

/-- A plan with sensitivity LEVEL follows its source; the others follow its rising edges (R83). -/
def PlanRec.level (r : PlanRec) : Bool := decide (r.sensitivity = 0)

/-- The source is the remote call slot (R183: 54 is REMOTE). -/
def PlanRec.remote (r : PlanRec) : Bool := decide (r.source = 54)

/-- The source is preemption line `line`, 1 to 6 (R183: 0 to 5 are PE1 to PE6). -/
def PlanRec.onLine (r : PlanRec) (line : Nat) : Bool := decide (r.source.toNat + 1 = line) && decide (line ≤ 6)

/-- The source is detector channel `c`, 1 to 48 (R183: 6 to 53 are the detector channels). -/
def PlanRec.onDetector (r : PlanRec) (c : Nat) : Bool :=
  decide (r.source.toNat = c + 5) && decide (1 ≤ c) && decide (c ≤ 48)

/-- Entry delay in 10 ms units (R83). -/
def PlanRec.delayUnits (r : PlanRec) : Nat := r.entryDelay.toNat * 10

/-- Minimum dwell in 10 ms units (R83). -/
def PlanRec.dwellUnits (r : PlanRec) : Nat := r.minDwell.toNat * 100

/-- Maximum duration in 10 ms units; none when no bound applies (R83). -/
def PlanRec.durationUnits (r : PlanRec) : Option Nat :=
  if r.maxDuration = 0 then none else some (r.maxDuration.toNat * 100)

/-- The plan record of plan `p`. -/
def TableSet.plan (t : TableSet) (p : Nat) : PlanRec := entryD t.plans p { }

end Sys2Proof.Machine
end

