-- ==== Sys2Proof/Machine/Validation.lean ====
section
/-! DEFINITION. The validation checks V1 to V10 of a commit and of a load (R24, R84, R173). -/

namespace Sys2Proof.Machine

/-- A number lies within a range that includes both ends (00_scope.md, Values and ranges). -/
def within (lo hi n : Nat) : Bool := decide (lo ≤ n) && decide (n ≤ hi)

/-- V1: every field of the cabinet record within its range (10, section 10.1). -/
def cabinetValid (r : CabinetRec) : Bool :=
  within 1 65535 r.number.toNat && within 1 24 r.groupsInUse.toNat && within 2 20 r.supervision.toNat
    && within 5 50 r.warning.toNat && within 30 200 r.startUp.toNat && within 5 100 r.settle.toNat

/-- V2: every field of a group record within the range for the record's kind (01, section 1.2). The kinds are VEHICLE,
CYCLE, PEDESTRIAN, TRAM, LANE. -/
def groupValid (r : GroupRec) : Bool :=
  (match r.kind.toNat with
    | 0 => within 5 30 r.prepare.toNat && within 30 60 r.clear.toNat
    | 1 => within 5 30 r.prepare.toNat && within 30 60 r.clear.toNat
    | 2 => decide (r.prepare = 0) && within 0 300 r.clear.toNat
    | 3 => within 5 30 r.prepare.toNat && within 20 60 r.clear.toNat
    | 4 => decide (r.prepare = 0) && within 20 100 r.clear.toNat
    | _ => false)
    && within 10 1200 r.minGo.toNat && within 5 100 r.minStop.toNat && within 0 1 r.dark.toNat
    && (decide (r.redFail = 1) || decide (r.redFail = 5))

/-- V3 on row `i`: the flag agrees with the opposite entry's, the diagonal is clear, and a clear flag goes with an intergreen
of 0 (R24). A flag is 0 or 1 (log 21). Where the two flags of a pair disagree both rows fail, so that the reply names the lower one (log 22). -/
def conflictRowValid (t : TableSet) (i : Nat) : Bool :=
  (numbers Config.groups).all (fun j =>
    let e := t.entry i j
    within 0 1 e.conflict.toNat && decide (e.conflict = (t.entry j i).conflict)
      && (decide (i ≠ j) || decide (e.conflict = 0)) && (decide (e.conflict = 1) || decide (e.intergreen = 0)))

/-- V4 on record `i`: a used record has an address 1 to 32, a branch A to D and a role (log 21); its address is not that of
an earlier record, and at most seven earlier records name its branch (log 22). -/
def stationValid (t : TableSet) (i : Nat) : Bool :=
  let r := entryD t.stations i { }
  let earlier := (t.stations.take (i - 1)).filter StationRec.used
  !r.used || (within 1 32 r.address.toNat && within 0 3 r.branch.toNat && within 0 2 r.role.toNat
    && earlier.all (fun q => decide (q.address ≠ r.address))
    && decide ((earlier.filter (fun q => decide (q.branch = r.branch))).length < 8))

/-- A station with an address and a role stands in the station table (R173, V5 and V7). -/
def hasRole (t : TableSet) (address role : Nat) : Bool :=
  match t.station address with
  | some r => decide (r.role.toNat = role)
  | none => false

/-- V5 on channel `c`: a used record has its fields within range, its station stands in the table with the role OUTPUT, and no
earlier record uses its output (06, section 6.2; 07, section 7.1). A set of aspects has four members (log 21). -/
def channelValid (t : TableSet) (c : Nat) : Bool :=
  let r := t.output c
  !r.used || (within 1 32 r.station.toNat && within 1 16 r.output.toNat && within 1 24 r.group.toNat
    && within 0 15 r.lit.toNat && within 0 15 r.flash.toNat && within 0 1 r.redProving.toNat
    && within 20 2000 r.onThreshold.toNat && within 10 1000 r.offThreshold.toNat && within 5 100 r.lampOutQualifier.toNat
    && within 10 100 r.foreignQualifier.toNat && within 0 1 r.latch.toNat && hasRole t r.station.toNat 0
    && (t.outputs.take (c - 1)).all (fun q => decide (q.station ≠ r.station) || decide (q.output ≠ r.output)))

/-- V6 on group `g`: a live group has a red-proving channel, unless its red-fail action is REPORT. -/
def redProvingValid (t : TableSet) (g : Nat) : Bool :=
  !t.live g || decide ((t.group g).redFail = 1)
    || t.outputs.any (fun r => r.used && decide (r.group.toNat = g) && decide (r.redProving = 1))

/-- V7 on channel `c`: a used record has its fields within range, its station stands in the table with the role DETECTOR, and
no earlier record uses its input (08, section 8.1). -/
def detectorValid (t : TableSet) (c : Nat) : Bool :=
  let r := t.detector c
  !r.used || (within 1 32 r.station.toNat && within 1 16 r.input.toNat && within 0 1 r.kind.toNat
    && within 1 24 r.served.toNat && within 0 30 r.chatterLimit.toNat && within 0 2 r.faultDefault.toNat
    && hasRole t r.station.toNat 1
    && (t.detectors.take (c - 1)).all (fun q => decide (q.station ≠ r.station) || decide (q.input ≠ r.input)))

/-- V8 on channel `c`: the served group of a used DEMAND channel is live. -/
def demandValid (t : TableSet) (c : Nat) : Bool :=
  let r := t.detector c
  !(r.used && r.demand) || t.live r.served.toNat

/-- A plan record is checked by V9 and V10 unless it is disabled (R84, log 21). -/
def PlanRec.checked (r : PlanRec) : Bool := decide (r.enabled ≠ 0)

/-- V9 on plan `p`: the four requirements of R84. -/
def planSetsValid (t : TableSet) (p : Nat) : Bool :=
  let r := t.plan p
  !r.checked || (t.liveGroups.all (fun i => !member r.forcedGo i
      || t.liveGroups.all (fun j => !t.conflict i j || (!member r.forcedGo j && member r.forcedStop j)))
    && (numbers Config.groups).all (fun g => !(member r.forcedGo g && member r.forcedStop g))
    && (!r.remote || r.level))

/-- The source of a plan exists (R84): a PE line and REMOTE always, a detector channel when it is in use. -/
def sourceExists (t : TableSet) (r : PlanRec) : Bool :=
  if r.source.toNat < 6 then true
  else if r.source.toNat < 54 then (t.detector (r.source.toNat - 5)).used
  else decide (r.source = 54)

/-- V10 on plan `p`: every field within its range, and its source present (R84). -/
def planFieldsValid (t : TableSet) (p : Nat) : Bool :=
  let r := t.plan p
  !r.checked || (decide (r.enabled = 1) && within 0 54 r.source.toNat && within 0 1 r.sensitivity.toNat
    && within 0 900 r.maxDuration.toNat && sourceExists t r)

/-- Check V`check` on record `index` of its table (R173). -/
def checkRecord (t : TableSet) (check index : Nat) : Bool :=
  match check with
  | 1 => cabinetValid t.cabinet
  | 2 => groupValid (t.group index)
  | 3 => conflictRowValid t index
  | 4 => stationValid t index
  | 5 => channelValid t index
  | 6 => redProvingValid t index
  | 7 => detectorValid t index
  | 8 => demandValid t index
  | 9 => planSetsValid t index
  | 10 => planFieldsValid t index
  | _ => true

/-- The table whose records a check looks at (R173). -/
def checkTable : Nat → Nat
  | 1 => 1
  | 2 => 2
  | 3 => 3
  | 4 => 7
  | 5 => 4
  | 6 => 2
  | 7 => 5
  | 8 => 5
  | _ => 6

/-- The first failing check with the table and index of the first failing record, in the order of R173; none when V1 to V10
all hold. -/
def firstFailure (t : TableSet) : Option (Nat × Nat × Nat) :=
  (numbers 10).findSome? (fun check =>
    ((numbers (recordCount (checkTable check))).find? (fun i => !checkRecord t check i)).map
      (fun i => (check, checkTable check, i)))

/-- The set satisfies V1 to V10 (R166). -/
def TableSet.valid (t : TableSet) : Bool := (firstFailure t).isNone

end Sys2Proof.Machine
end

