-- ==== Sys2Proof/Machine/Ops.lean ====
section
/-! DEFINITION. Operations that every block uses: the tables in force, the kinds of mode, the outgoing queue (R185), alarms
(R163) and the recording of fault reports (R157, R158). Requesting a report's action is in Modes.lean. -/

namespace Sys2Proof.Machine

/-! ### The tables in force -/

/-- What the blocks read while the active copy is empty: no group is live, nothing is in use (R166). -/
def emptySet : TableSet where
  cabinet := { groupsInUse := 0 }
  groups := []
  conflicts := []
  outputs := []
  detectors := []
  plans := []
  stations := []

/-- The active tables, as every block reads them (R166). -/
def State.tables (s : State) : TableSet := s.store.active.getD emptySet

/-- The state record of group `g`. -/
def State.group (s : State) (g : Nat) : Group := entryD s.engine.groups g Group.reset

/-- The aspect that group `g` is shown (R3). -/
def State.shown (s : State) (g : Nat) : Aspect := (s.group g).shown

/-- The shown image: the 24 shown aspects, group 1 first (R3). -/
def State.shownImage (s : State) : List Aspect := s.engine.groups.map Group.shown

/-! ### Modes -/

/-- The permit modes (03, section 3.1). -/
def Mode.permit : Mode → Bool
  | .start | .running | .warning | .closing => true
  | .loading | .flash | .lockout => false

/-- The modes in which groups are admitted and plans taken (R15, R94). -/
def Mode.admits : Mode → Bool
  | .running | .warning => true
  | .loading | .flash | .start | .closing | .lockout => false

/-- The supervisor works: its supply is in range and NRESET is high (R186). -/
def State.up (s : State) : Bool := s.clock.powered && decide (s.clock.lowFor = 0)

/-! ### The outgoing queue -/

/-- The frame is a detector report. -/
def OutFrame.isDet : OutFrame → Bool
  | .det _ => true
  | _ => false

/-- The frame is a detector report of channel `c`. -/
def OutFrame.isDetOf (c : Nat) : OutFrame → Bool
  | .det d => decide (d.channel = c)
  | _ => false

/-- The frame is an echo frame. -/
def OutFrame.isEch : OutFrame → Bool
  | .ech _ => true
  | _ => false

/-- The queue with the most recently queued frame that satisfies `p` replaced by `f` (R185). -/
def replaceLast (p : OutFrame → Bool) (f : OutFrame) (queue : List OutFrame) : List OutFrame :=
  match queue.reverse.findIdx? p with
  | some k => queue.set (queue.length - 1 - k) f
  | none => queue

/-- The placement of a frame in the outgoing queue (R185): appended while there is room; a DET that finds the queue full
replaces the most recently queued DET of its channel or is dropped; any other frame that finds it full takes the place of
the oldest DET or is dropped. Each drop and each removal sets the reports-lost flag. An ECH that is placed clears the flag
before a removal sets it again (R81). -/
def Link.place (l : Link) (f : OutFrame) : Link :=
  if l.queue.length < Config.queueFrames then
    { l with queue := l.queue ++ [f], reportsLost := l.reportsLost && !f.isEch }
  else
    match f with
    | .det d =>
      if l.queue.any (OutFrame.isDetOf d.channel) then
        { l with queue := replaceLast (OutFrame.isDetOf d.channel) f l.queue }
      else { l with reportsLost := true }
    | _ =>
      if l.queue.any OutFrame.isDet then
        { l with queue := l.queue.eraseP OutFrame.isDet ++ [f], reportsLost := true }
      else { l with reportsLost := true }

/-- An idle transmitter starts the oldest queued frame, which leaves the queue at the start of its transmission (R185). -/
def Link.start (l : Link) : Link :=
  match l.sending, l.queue with
  | none, f :: rest => { l with sending := some f, queue := rest }
  | _, _ => l

/-- A frame handed to the link interface is placed, and an idle transmitter starts at once (R185, log 31). -/
def Link.accept (l : Link) (f : OutFrame) : Link := (l.place f).start

/-- A block hands a frame for the controller to the link interface (R185). -/
def send (f : OutFrame) (s : State) : State := { s with link := s.link.accept f }

/-- The reply to a management frame (R181): the kind answered, the result code and the content. -/
def reply (kind : Byte) (result : Result) (content : List Byte) (s : State) : State :=
  send (.rpl kind result content) s

/-! ### The fault list -/

/-- The more severe of two actions (R80). -/
def Action.max (a b : Action) : Action := if a.code < b.code then b else a

/-- The number of listed entries whose state is ACTIVE (R159). -/
def FaultList.activeCount (f : FaultList) : Nat := (f.entries.filter Entry.active).length

/-- The most severe action among the ACTIVE entries and the actions requested at the event (R80, R159). -/
def State.worst (s : State) : Action :=
  (s.faults.entries.filter Entry.active).foldl (fun a e => a.max e.action) s.event.worst

/-- Makes the next alarm and hands it to the link interface; alarm numbers advance by one for each alarm made, sent or
dropped (R163). -/
def alarm (body : AlarmBody) (s : State) : State :=
  let number := s.faults.alarmNumber + 1
  send (.alm { number := number, body := body, time := s.clock.now, activeFaults := s.faults.activeCount, worst := s.worst })
    { s with faults.alarmNumber := number }

/-- The alarm that shows an entry (R163). -/
def entryAlarm (e : Entry) : State → State :=
  alarm (.fault e.kind e.subject e.active e.count e.action e.latched true)

/-- The entry is that of a kind and subject. -/
def Entry.is (kind : FaultKind) (subject : Option Nat) (e : Entry) : Bool :=
  decide (e.kind = kind) && decide (e.subject = subject)

/-- A fault report that raises a fault or meets it again (09, section 9.2): a condition, or an occurrence, which is recorded
as ended at once. -/
structure Raise where
  kind : FaultKind
  subject : Option Nat
  action : Action
  condition : Bool
  latched : Bool := false
  deriving DecidableEq, Repr

/-- The entry that a raise makes (R157). -/
def Raise.entry (r : Raise) (now : Time) : Entry where
  kind := r.kind
  subject := r.subject
  first := now
  last := now
  count := 1
  active := r.condition
  latched := r.latched
  action := r.action

/-- An entry updated by a raise or recurrence: last time, count up to 255, the action carried, the latched flag, and the
state ACTIVE for a condition (R157). -/
def Entry.again (e : Entry) (r : Raise) (now : Time) : Entry :=
  { e with last := now, count := Nat.min 255 (e.count + 1), active := e.active || r.condition,
           latched := e.latched || r.latched, action := r.action }

/-- The entries with a new one: appended while there is room, or in place of the oldest one that is ENDED and not latched; none
when there is no such entry (R158). -/
def FaultList.append (f : FaultList) (e : Entry) : Option (List Entry) :=
  if f.entries.length < Config.faultEntries then some (f.entries ++ [e])
  else if f.entries.any (fun o => !o.active && !o.latched) then
    some (f.entries.eraseP (fun o => !o.active && !o.latched) ++ [e])
  else none

/-- Records a raise or a recurrence against the entry of its kind and subject and queues its alarm (R157, R158, R163). An
update of an ACTIVE entry by a condition sends no alarm. -/
def recordRaise (r : Raise) (s : State) : State :=
  let now := s.clock.now
  match s.faults.entries.find? (Entry.is r.kind r.subject) with
  | some e =>
    let changed :=
      { s with
        faults.entries := s.faults.entries.map (fun o => if o.is r.kind r.subject then o.again r now else o)
        faults.changeNumber := s.faults.changeNumber + 1 }
    if r.condition && e.active then changed else entryAlarm (e.again r now) changed
  | none =>
    match s.faults.append (r.entry now) with
    | some entries =>
      entryAlarm (r.entry now)
        { s with faults.entries := entries, faults.changeNumber := s.faults.changeNumber + 1 }
    | none =>
      alarm
        (.fault r.kind r.subject r.condition (Config.unlistedCount (s.faults.alarmNumber + 1)).toNat r.action r.latched
          false)
        s

/-- A raise or recurrence whose action moves no mode (R58: report and no run): it is recorded, alarmed, and counts for the
worst action of the event (R159). -/
def note (r : Raise) (s : State) : State :=
  recordRaise r { s with event.worst := s.event.worst.max r.action }

/-- The report of a fault without subject or lasting condition, with the action report. -/
def noteOccurrence (kind : FaultKind) (subject : Option Nat) : State → State :=
  note { kind := kind, subject := subject, action := .report, condition := false }

/-- The place of an action in the list of actions that an entry can carry (09, section 9.1). -/
def entryAction : Fin 5 → Action
  | 0 => .report
  | 1 => .noRun
  | 2 => .close
  | 3 => .flash
  | 4 => .lockout

/-- Records the end of a condition and sends its alarm (R157, R163). The end of a fault that is not listed records nothing and
sends an alarm marked not listed (R158), whose count, action and latched field the spec does not give (log 13). -/
def reportEnd (kind : FaultKind) (subject : Option Nat) (s : State) : State :=
  match s.faults.entries.find? (Entry.is kind subject) with
  | some e =>
    if e.active then
      entryAlarm { e with active := false }
        { s with
          faults.entries := s.faults.entries.map (fun o => if o.is kind subject then { o with active := false } else o)
          faults.changeNumber := s.faults.changeNumber + 1 }
    else s
  | none =>
    let number := s.faults.alarmNumber + 1
    alarm
      (.fault kind subject false (Config.unlistedCount number).toNat (entryAction (Config.unlistedEndAction number))
        (Config.unlistedEndLatched number) false)
      s

/-- Each step of a list taken in order. -/
def eachOf {α : Type} (l : List α) (f : α → State → State) (s : State) : State := l.foldl (fun acc x => f x acc) s

/-- Marks groups to be re-evaluated at this event (R20). -/
def concern (groups : List Nat) (s : State) : State :=
  { s with event.concerned := s.event.concerned ++ groups }

/-- A moment has come or has passed, in cabinet time taken modulo 2^32 (00_scope.md, Time and units). -/
def reached (deadline now : Time) : Bool := decide ((now - deadline).toNat < 2 ^ 31)

end Sys2Proof.Machine
end

