-- ==== Sys2Proof/Machine/Engine.lean ====
section
/-! DEFINITION. The aspect engine: the effective requested image (R7 to R9), the requested-conflict test (R26), admission
(R28 to R33), the sequence rules and notes (R6, R10 to R15), re-evaluation within an event (R20), and the settings of all
records at flash transfer, START entry and table changes (R17 to R19). -/

namespace Sys2Proof.Machine

/-! ### The effective requested image -/

/-- The plan whose overlay is in force: the top plan in ENTRY, DWELL or HOLD, in RUNNING or WARNING (R103). -/
def State.overlay (s : State) : Option PlanRec :=
  if s.control.mode.admits then
    match s.preempt.stack with
    | top :: _ => if top.phase = .delay then none else some (s.tables.plan top.plan)
    | [] => none
  else none

/-- The target that an overlay gives a group, if it names the group (R7). -/
def overlaid (o : Option PlanRec) (g : Nat) : Option Target :=
  match o with
  | some r => if member r.forcedStop g then some .stop else if member r.forcedGo g then some .go else none
  | none => none

/-- The target that the accepted image carries for a group. -/
def State.imageTarget (s : State) (g : Nat) : Target :=
  match s.exchange.accepted with
  | some image => entryD image.targets g .stop
  | none => .stop

/-- A live group would take target GO from the accepted image (R8). -/
def State.asksGo (s : State) (g : Nat) : Bool :=
  s.tables.live g && (overlaid s.overlay g).isNone && decide (s.imageTarget g = .go)

/-- The target of a live group in the effective requested image and its source: STOP where the mode does not use the image; the
overlay's target; else the accepted image's, a GO that conflicts with another such GO and a DARK that is not permitted being
clamped to STOP (R7, R8, R9). -/
def State.effective (s : State) (g : Nat) : Target × Source :=
  if s.control.mode.admits then
    match overlaid s.overlay g with
    | some target => (target, .overlay)
    | none =>
      match s.imageTarget g with
      | .go => if (s.tables.conflicting g).any s.asksGo then (.stop, .clamp) else (.go, .image)
      | .dark => if (s.tables.group g).dark = 1 then (.dark, .image) else (.stop, .clamp)
      | .stop => (.stop, .image)
  else (.stop, .image)

/-- The requested-conflict test of R26 fails: after the overlay in force, the targets ask GO for two live groups in
conflict. -/
def State.requestedConflict (s : State) (targets : List Target) : Bool :=
  let asks := fun g => decide ((overlaid s.overlay g).getD (entryD targets g .stop) = .go)
  s.tables.liveGroups.any (fun j => asks j && (s.tables.conflicting j).any asks)

/-- Sets the state record of group `g`. -/
def setGroup (g : Nat) (x : Group) (s : State) : State :=
  { s with engine.groups := changeEntry s.engine.groups g (fun _ => x) }

/-- Rebuilds the target of one live group. A change of its value or of its source is an event for the group (R7). -/
def rebuildGroup (g : Nat) (s : State) : State :=
  let x := s.group g
  let (target, source) := s.effective g
  if x.target = target ∧ x.source = source then s
  else concern [g] (setGroup g { x with target := target, source := source } s)

/-- Rebuilds the effective requested image (R7). At a mode change every live group is re-evaluated (R20). -/
def rebuild (s : State) : State :=
  let rebuilt := eachOf s.tables.liveGroups rebuildGroup s
  if rebuilt.event.modeChanged then concern rebuilt.tables.liveGroups rebuilt else rebuilt

/-! ### Admission -/

/-- A go lamp of group `i` carries an active FOREIGN_CURRENT fault (R30). -/
def State.goLampFault (s : State) (i : Nat) : Bool :=
  (numberedEntries s.tables.outputs).any (fun (c, r) =>
    r.goLamp && decide (r.group.toNat = i) && (entryD s.prover.channels c Proving.reset).foreign)

/-- A conflicting group blocks: it is shown PREPARE or GO, or a go lamp of it carries foreign current (R29, R30). -/
def State.blocks (s : State) (i : Nat) : Bool :=
  decide (s.shown i = .prepare) || decide (s.shown i = .go) || s.goLampFault i

/-- The shortfall of group `j` against a conflicting group `i`, in whole 10 ms units (R31). -/
def State.shortfall (s : State) (i j : Nat) : Int :=
  (s.tables.intergreen i j : Int) - ((s.tables.group j).prepareUnits : Int) - ((s.group i).clearance : Int)

/-- Outcomes of the admission test (R32). -/
inductive Verdict where
  | blocked
  | deferred (units : Nat)
  | admitted
  deriving DecidableEq, Repr

/-- The greatest of some shortfalls, and 0 when none is above 0. -/
def greatestShortfall (shortfalls : List Int) : Nat := shortfalls.foldl (fun acc x => Nat.max acc x.toNat) 0

/-- The admission test for group `j` (R28 to R33): blocked, short of time by the greatest shortfall, or admitted. -/
def State.admission (s : State) (j : Nat) : Verdict :=
  let rivals := s.tables.conflicting j
  if rivals.any s.blocks then .blocked
  else
    match greatestShortfall (rivals.map (fun i => s.shortfall i j)) with
    | 0 => .admitted
    | units => .deferred units

/-! ### The sequence rules -/

/-- The note that the source of a target gives (R6, lines 3 to 5). -/
def Source.note : Source → Note
  | .image => .none
  | .overlay => .forced
  | .clamp => .clamped

/-- The record with a note and no deferral timer (R6). -/
def Group.noted (x : Group) (n : Note) : Group := { x with note := n, deferral := none }

/-- The record of a group that enters an aspect: time in aspect 0, the clearance clock 0 at CLEAR, the note of the target's
source (R5, R6). -/
def Group.enter (x : Group) (a : Aspect) : Group :=
  { x with shown := a, time := 0, clearance := if a = .clear then 0 else x.clearance, note := x.source.note, deferral := none }

/-- The record of a live group after one evaluation by the sequence rules (R10 to R15) and the notes (R6). -/
def State.judge (s : State) (g : Nat) : Group :=
  let r := s.tables.group g
  let x := s.group g
  match x.shown with
  | .stop =>
    if x.target = .stop then x.noted x.source.note
    else if x.time < r.minStopUnits then x.noted .held
    else if s.control.mode.admits = false then x.noted x.source.note
    else if x.target = .dark then x.enter .dark
    else
      match s.admission g with
      | .blocked => x.noted .blocked
      | .deferred units => { x with note := .deferred, deferral := some units }
      | .admitted => x.enter (if r.prepareUnits = 0 then .go else .prepare)
  | .prepare => if r.prepareUnits ≤ x.time then x.enter .go else x.noted x.source.note
  | .go =>
    if x.target = .go then x.noted x.source.note
    else if x.time < r.minGoUnits then x.noted .held
    else x.enter .clear
  | .clear => if r.clearUnits ≤ x.time then x.enter .stop else x.noted x.source.note
  | .dark =>
    if s.control.mode.admits && decide (x.target ≠ .dark) then x.enter .stop else x.noted x.source.note
  | .flash => x.noted x.source.note

/-- The groups in conflict with `g` that wait for admission, BLOCKED or DEFERRED (R20). -/
def State.waiting (s : State) (g : Nat) : List Nat :=
  (s.tables.conflicting g).filter (fun i => decide ((s.group i).note = .blocked) || decide ((s.group i).note = .deferred))

/-- One re-evaluation of a group (R20). A group that has moved is evaluated once more, and its entry into CLEAR, STOP or DARK
concerns the groups in conflict with it that wait for admission. -/
def evaluate (g : Nat) (s : State) : State :=
  if s.tables.live g then
    let y := s.judge g
    let after := setGroup g y s
    if y.shown = s.shown g then after
    else
      let told := if y.shown = .go then { after with event.enteredGo := after.event.enteredGo ++ [g] } else after
      concern (g :: (if y.shown = .prepare ∨ y.shown = .go then [] else s.waiting g)) told
  else s

/-- Re-evaluates the groups concerned, in ascending number, until no group moves (R20). A group moves at most three times in
one event, since its minimum times are above 0; the passes allowed are more than enough. -/
def evaluateConcerned : Nat → State → State
  | 0, s => s
  | passes + 1, s =>
    match s.event.concerned with
    | [] => s
    | groups =>
      evaluateConcerned passes
        (eachOf (s.tables.liveGroups.filter (fun g => groups.contains g)) evaluate { s with event.concerned := [] })

/-- How many passes of re-evaluation one event may take. -/
def passLimit : Nat := 100

/-! ### Settings of all records -/

/-- Flash transfer and the completion of a close: every live group is shown FLASH with its counts at 0, target STOP, note NONE
and no deferral timer, and every clearance clock is 0 (R5, R17). -/
def showFlash (s : State) : State :=
  { s with
    engine.groups := (numberedEntries s.engine.groups).map (fun (g, x) =>
      if s.tables.live g then Group.reset else { x with clearance := 0 }) }

/-- START entry: every live group is shown STOP with its counts at 0 (R5, R18). -/
def showStop (s : State) : State :=
  { s with
    engine.groups := (numberedEntries s.engine.groups).map (fun (g, x) =>
      if s.tables.live g then { Group.reset with shown := .stop } else { x with clearance := 0 }) }

/-- The record of a group above N: shown DARK, target DARK (R1, log 26). -/
def Group.notLive : Group := { Group.reset with shown := .dark, target := .dark }

/-- A change of the active tables: every record is set anew, live groups FLASH and the others DARK (R1, R19). -/
def retableGroups (s : State) : State :=
  { s with
    engine.groups := (numbers Config.groups).map (fun g => if s.tables.live g then Group.reset else Group.notLive) }

/-- Every live group is shown STOP or DARK: the close is complete (R16, R56). -/
def State.closed (s : State) : Bool :=
  s.tables.liveGroups.all (fun g => decide (s.shown g = .stop) || decide (s.shown g = .dark))

end Sys2Proof.Machine
end

