-- ==== Sys2Proof/Machine/Plans.lean ====
section
/-! DEFINITION. The preemption unit: requests and sources (R86 to R91), taking and the nesting limit (R94 to R96), the phases of
a plan (R97 to R102), and what mode changes, table changes and resets do to it (R85, R104). -/

namespace Sys2Proof.Machine

/-- What the unit keeps for plan `p`. -/
def State.plan (s : State) (p : Nat) : PlanState := entryD s.preempt.plans p PlanState.reset

/-- Changes what the unit keeps for plan `p`. -/
def changePlan (p : Nat) (f : PlanState → PlanState) (s : State) : State :=
  { s with preempt.plans := changeEntry s.preempt.plans p f }

/-- Plan `p` is on the stack. -/
def State.stacked (s : State) (p : Nat) : Bool := s.preempt.stack.any (fun x => decide (x.plan = p))

/-- The numbers of the plans. -/
def planNumbers : List Nat := numbers Config.plans

/-- Sets the request of an enabled LEVEL plan that is not on the stack from its source and spent mark (R89). A request that leaves
PENDING loses its limit-reported mark (R95). -/
def refreshRequest (p : Nat) (s : State) : State :=
  let r := s.tables.plan p
  if r.on && r.level && !s.stacked p then
    changePlan p
      (fun x => { x with pending := x.active && !x.spent, limitReported := x.limitReported && (x.active && !x.spent) }) s
  else s

/-- The source of plan `p` is active or inactive: going inactive removes the spent mark, and a LEVEL request follows (R89). -/
def setSource (active : Bool) (p : Nat) (s : State) : State :=
  refreshRequest p (changePlan p (fun x => { x with active := active, spent := x.spent && active }) s)

/-- Empties the remote call slot; the source of the plan it held is inactive (R90, R91). -/
def emptySlot (s : State) : State :=
  match s.preempt.slot with
  | some slot => setSource false slot.plan { s with preempt.slot := none }
  | none => s

/-- Takes plan `p` off the stack, wherever it stands, with its last outcome (R100, R101): the slot is emptied if it holds the plan, and
a LEVEL request is set from source and spent mark. -/
def unstack (p : Nat) (outcome : PlanOutcome) (s : State) : State :=
  let removed :=
    changePlan p (fun x => { x with outcome := outcome })
      { s with preempt.stack := s.preempt.stack.filter (fun x => decide (x.plan ≠ p)) }
  refreshRequest p (if removed.preempt.slot.any (fun slot => decide (slot.plan = p)) then emptySlot removed else removed)

/-! ### Taking -/

/-- Plan `p` satisfies every condition of R94 but the depth: it is PENDING, enabled, not inhibited, and the stack is empty or its top
has a greater number. -/
def State.wantsTaking (s : State) (p : Nat) : Bool :=
  (s.plan p).pending && (s.tables.plan p).on && !member s.preempt.inhibit p
    && (match s.preempt.stack with
      | top :: _ => decide (p < top.plan)
      | [] => true)

/-- Taking plan `p` (R96): the former top is suspended with its counts, and `p` is pushed in DELAY. -/
def takePlan (p : Nat) (s : State) : State :=
  let r := s.tables.plan p
  changePlan p (fun x => { x with pending := false, limitReported := false })
    { s with
      preempt.stack :=
        { plan := p, phase := .delay, delay := some r.delayUnits, dwell := none, duration := r.durationUnits }
          :: s.preempt.stack }

/-- Reports NESTING_LIMIT for plan `p`, once for each period during which it is PENDING, and sets the flag (R95). -/
def reportLimit (p : Nat) (s : State) : State :=
  let flagged := { s with preempt.nestingLimit := true }
  if (s.plan p).limitReported then flagged
  else noteOccurrence .nestingLimit (some p) (changePlan p (fun x => { x with limitReported := true }) flagged)

/-- The unit considers taking (R94, R95): in RUNNING or WARNING, it takes the plan with the smallest number among those that may be
taken; at depth 4 those kept back by the depth alone meet the nesting limit, reported in ascending plan number where one event keeps back
several (log 43). -/
def consider (s : State) : State :=
  if s.control.mode.admits then
    let wanting := planNumbers.filter s.wantsTaking
    if s.preempt.stack.length < Config.stackDepth then
      match wanting with
      | p :: _ => takePlan p s
      | [] => s
    else eachOf wanting reportLimit s
  else s

/-! ### Phases -/

/-- Every live group of the plan's forced-GO set is shown GO (R98). -/
def State.forcedGoShown (s : State) (r : PlanRec) : Bool :=
  s.tables.liveGroups.all (fun g => !member r.forcedGo g || decide (s.shown g = .go))

/-- Changes the record of the top plan. -/
def changeTop (f : Stacked → Stacked) (s : State) : State :=
  match s.preempt.stack with
  | top :: rest => { s with preempt.stack := f top :: rest }
  | [] => s

/-- The next step of the top plan, if it has one to make at this event: abandonment or entry at the end of DELAY (R97), DWELL when its
forced groups show GO (R98), the decision at the end of DWELL and the end of HOLD (R99). An end or abandonment considers taking and
lets the plan below resume (R101, R102). -/
def topStep (s : State) : Option State :=
  match s.preempt.stack with
  | [] => none
  | top :: _ =>
    let r := s.tables.plan top.plan
    let gone := r.level && !(s.plan top.plan).active
    match top.phase with
    | .delay =>
      if gone then some (consider (unstack top.plan .abandoned s))
      else if top.delay = some 0 then some (changeTop (fun x => { x with phase := .entry, delay := none }) s)
      else none
    | .entry =>
      if s.forcedGoShown r then some (changeTop (fun x => { x with phase := .dwell, dwell := some r.dwellUnits }) s)
      else none
    | .dwell =>
      if top.dwell = some 0 then
        if r.level && !gone then some (changeTop (fun x => { x with phase := .hold, dwell := none }) s)
        else some (consider (unstack top.plan .ended s))
      else none
    | .hold => if gone then some (consider (unstack top.plan .ended s)) else none

/-- The top plan makes its steps, and so does each plan that becomes the top, until none has a step to make (R101). A plan passes through
at most four phases and can be taken at most once in an event; the steps allowed are more than enough. -/
def advance : Nat → State → State
  | 0, s => s
  | steps + 1, s =>
    match topStep s with
    | some s' => advance steps s'
    | none => s

/-- How many steps the plans may make in one event. -/
def stepLimit : Nat := 100

/-- Considers taking; a plan that is taken makes its steps at the same event (R96, R97). -/
def considerTaking (s : State) : State :=
  let s' := consider s
  if s'.preempt.stack = s.preempt.stack then s' else advance stepLimit s'

/-- The top plan, if any, is one of some plans. -/
def State.topAmong (s : State) (plans : List Nat) : Bool :=
  match s.preempt.stack with
  | top :: _ => plans.contains top.plan
  | [] => false

/-! ### Sources -/

/-- The source of a plan becomes active, with or without a rising edge. A rising edge makes an EDGE plan that is not on the stack PENDING in a
permit mode (R88); a LEVEL request follows (R89). -/
def sourceActive (edge : Bool) (p : Nat) (s : State) : State :=
  let s' := setSource true p s
  if edge && !(s.tables.plan p).level && s.control.mode.permit && !s.stacked p then
    changePlan p (fun x => { x with pending := true }) s'
  else s'

/-- The request of some plan is PENDING in the second state and was not in the first. -/
def newlyPending (before after : State) : Bool :=
  planNumbers.any (fun p => (after.plan p).pending && !(before.plan p).pending)

/-- The sources of some plans become active (R86 to R89); a request that becomes PENDING makes the unit consider taking (R94). Notices given
one after another within one event are each considered in turn (log 42). -/
def sourcesActive (edge : Bool) (plans : List Nat) (s : State) : State :=
  let s' := eachOf plans (sourceActive edge) s
  if newlyPending s s' then considerTaking s' else s'

/-- The sources of some plans become inactive (R89); the top plan acts on it as its phase requires (R97, R99). -/
def sourcesInactive (plans : List Nat) (s : State) : State :=
  let s' := eachOf plans (setSource false) s
  if s'.topAmong plans then advance stepLimit s' else s'

/-- The enabled plans whose source is preemption line `line` (R86). -/
def State.plansOnLine (s : State) (line : Nat) : List Nat :=
  planNumbers.filter (fun p => (s.tables.plan p).on && (s.tables.plan p).onLine line)

/-- The enabled plans whose source is detector channel `c` (R87). -/
def State.plansOnDetector (s : State) (c : Nat) : List Nat :=
  planNumbers.filter (fun p => (s.tables.plan p).on && (s.tables.plan p).onDetector c)

/-! ### Mode and table changes -/

/-- Empties the stack at a mode change (R104): each stacked plan is CLEARED, and the slot is emptied if its plan was stacked. -/
def clearStack (s : State) : State :=
  eachOf (s.preempt.stack.map Stacked.plan) (fun p => unstack p .cleared) s

/-- CLOSING entry (R104). -/
def plansClosing (s : State) : State := clearStack s

/-- Entry to FLASH or LOCKOUT from a permit mode (R104): the stack and the slot are emptied, EDGE requests and the limit-reported marks are
cleared, and the inhibit mask is emptied. -/
def plansFlash (s : State) : State :=
  eachOf planNumbers
    (fun p s =>
      changePlan p
        (fun x =>
          { x with pending := x.pending && (s.tables.plan p).level, limitReported := false })
        s)
    { emptySlot (clearStack s) with preempt.inhibit := 0 }

/-- The source of a plan as it stands: a line's filtered state, a detector channel that is conditioned occupied and not in fault, the
remote call slot (R85, R86, R87, R90). -/
def State.sourceNow (s : State) (p : Nat) : Bool :=
  let r := s.tables.plan p
  if r.on then
    if r.remote then s.preempt.slot.any (fun slot => decide (slot.plan = p) && slot.called)
    else if r.source.toNat < 6 then entryD s.preempt.lines (r.source.toNat + 1) false
    else
      match entryD s.detectors (r.source.toNat - 5) none with
      | some d => d.occupied && !d.inFault
      | none => false
  else false

/-- The unit takes new tables at the end of a load or at a commit (R85): every request IDLE, no marks, and the sources read afresh. -/
def retablePlans (s : State) : State :=
  eachOf planNumbers
    (fun p s =>
      refreshRequest p
        (changePlan p
          (fun x => { x with pending := false, spent := false, limitReported := false, active := s.sourceNow p }) s))
    s

/-- The plan number of a stack's top with its phase, as an echo frame carries it (R80). -/
def State.topPlan (s : State) : Option (Nat × Phase) :=
  match s.preempt.stack with
  | top :: _ => some (top.plan, top.phase)
  | [] => none

/-- The pending set (R80): the plans whose request is PENDING. -/
def State.pendingSet (s : State) : Byte := setOf 8 (fun p => (s.plan p).pending)

end Sys2Proof.Machine
end

