-- ==== Sys2Proof/Machine/Branches.lean ====
section
/-! DEFINITION. The branch controllers: commanded states (R108), marking (R110), arbitration of the transmitter (R111, R112), polling
(R113), liveness records (R107), and what new tables do to them (R109, R122). -/

namespace Sys2Proof.Machine

/-! ### The four branches -/

/-- The branches in order. -/
def branchIds : List BranchId := [.a, .b, .c, .d]

/-- A branch's place, from 1. -/
def placeOf : BranchId → Nat
  | .a => 1 | .b => 2 | .c => 3 | .d => 4

/-- The controller of a branch. -/
def State.branch (s : State) (br : BranchId) : Branch := entryD s.branches (placeOf br) Branch.reset

/-- Changes the controller of a branch. -/
def changeBranch (br : BranchId) (f : Branch → Branch) (s : State) : State :=
  { s with branches := changeEntry s.branches (placeOf br) f }

/-- The branch that a station record names: 0 to 3 are A to D (R183). -/
def StationRec.on (r : StationRec) (br : BranchId) : Bool := r.used && decide (r.branch.toNat + 1 = (placeOf br))

/-- The role that a station record names: OUTPUT, DETECTOR, SIGN (R183). -/
def StationRec.roleOf (r : StationRec) : Role :=
  match r.role.toNat with
  | 0 => .output
  | 1 => .detector
  | _ => .sign

/-- The stations that the table places on a branch, in ascending address. -/
def TableSet.stationsOn (t : TableSet) (br : BranchId) : List StationRec :=
  sortByKey (fun r => r.address.toNat) (t.stations.filter (fun r => r.on br))

/-- The role of a station that stands in the table on a branch. -/
def TableSet.roleOn (t : TableSet) (br : BranchId) (address : Nat) : Option Role :=
  match t.station address with
  | some r => if r.on br then some r.roleOf else none
  | none => none

/-- The branch of a station of the table. -/
def TableSet.branchOf (t : TableSet) (address : Nat) : Option BranchId :=
  branchIds.find? (fun br => (t.roleOn br address).isSome)

/-! ### Commanded states -/

/-- The bit of a running aspect in a set of aspects: STOP is bit 0, then PREPARE, GO, CLEAR (R183). -/
def aspectBit : Aspect → Option Nat
  | .stop => some 0
  | .prepare => some 1
  | .go => some 2
  | .clear => some 3
  | .dark => none
  | .flash => none

/-- The commanded state of a channel whose group is shown an aspect (R108). -/
def ChannelRec.lamp (r : ChannelRec) (shown : Aspect) : Lamp :=
  match aspectBit shown with
  | some k => if r.flash.getLsbD k then .flash else if r.lit.getLsbD k then .on else .off
  | none => .off

/-- The channel that uses an output of a station, if any. -/
def TableSet.channelAt (t : TableSet) (station output : Nat) : Option ChannelRec :=
  t.outputs.find? (fun r => r.used && decide (r.station.toNat = station) && decide (r.output.toNat = output))

/-- The 16 commanded states of a station, output 1 first (R108). -/
def State.stationStates (s : State) (station : Nat) : List Lamp :=
  (numbers 16).map (fun k =>
    match s.tables.channelAt station k with
    | some r => r.lamp (s.shown r.group.toNat)
    | none => .off)

/-! ### Marking -/

/-- Marks every drive slot of a branch pending with the current image, and sets apply pending (R110). A branch with no slot sets none, but an apply
pending that it still has takes the number too (log 29). -/
def markBranch (br : BranchId) (s : State) : State :=
  changeBranch br
    (fun b =>
      { b with
        slots := b.slots.map (fun slot =>
          { slot with image := s.engine.imageNumber, states := s.stationStates slot.station, pending := true })
        applyPending :=
          if b.slots.isEmpty then b.applyPending.map (fun _ => s.engine.imageNumber) else some s.engine.imageNumber })
    s

/-- Each branch controller marks its slots (R110). -/
def markAll (s : State) : State := eachOf branchIds markBranch s

/-! ### The transmitter -/

/-- The transmitter is free: IDLE, with no answer awaited (R111). -/
def Branch.free (b : Branch) : Bool := b.sending.isNone && b.awaited.isNone

/-- The first pending drive slot; the slots stand in ascending address (R111, line 1). -/
def Branch.pendingSlot (b : Branch) : Option DriveSlot := b.slots.find? DriveSlot.pending

/-- The station to poll (R113): an ABSENT station with re-poll due, lowest address first, without moving the pointer; otherwise the next
PRESENT station after the pointer, wrapping. -/
def Branch.pollChoice (b : Branch) : Option (Nat × Bool) :=
  match b.liveness.find? (fun l => !l.present && l.repollDue) with
  | some l => some (l.station, true)
  | none =>
    let present := b.liveness.filter Liveness.present
    match present.find? (fun l => match b.pointer with | some p => decide (p < l.station) | none => true) with
    | some l => some (l.station, false)
    | none => present.head?.map (fun l => (l.station, false))

/-- Starts sending a poll to the chosen station; the turn becomes FWD (R111, R113). -/
def Branch.startPoll (b : Branch) (choice : Nat × Bool) : Branch :=
  if choice.2 then
    { b with
      sending := some (.pol choice.1), turn := .fwd
      liveness := b.liveness.map (fun l => if l.station = choice.1 then { l with repollDue := false } else l) }
  else { b with sending := some (.pol choice.1), turn := .fwd, pointer := some choice.1 }

/-- Starts sending a forwarded frame: the oldest entry leaves the FIFO and the turn becomes POL (R111, R121). -/
def Branch.startForward (b : Branch) : Branch :=
  match b.fifo with
  | entry :: rest => { b with sending := some (.fwd entry), turn := .pol, fifo := rest }
  | [] => b

/-- The transmission that a free branch starts, by the first line of R111's table that applies. -/
def Branch.startNext (b : Branch) : Branch :=
  match b.pendingSlot with
  | some slot =>
    { b with
      sending := some (.drv slot.station slot.image slot.states)
      slots := b.slots.map (fun x => if x.station = slot.station then { x with pending := false } else x) }
  | none =>
    match b.applyPending with
    | some image =>
      { b with sending := some (.apl image (b.slots.map (fun x => (x.station, x.states)))), applyPending := none }
    | none =>
      if b.turn = .fwd ∧ b.fifo ≠ [] then b.startForward
      else
        match b.pollChoice with
        | some choice => b.startPoll choice
        | none => b.startForward

/-- A branch without stations never transmits (R109): the active tables give it none, so it keeps no liveness record (R107). -/
def Branch.stationless (b : Branch) : Bool := b.liveness.isEmpty

/-- A branch starts a transmission if its transmitter is free (R111) and it has stations (R109). -/
def Branch.arbitrate (b : Branch) : Branch := if b.free && !b.stationless then b.startNext else b

/-- Every branch arbitrates; the four are independent (R111). -/
def arbitrateAll (s : State) : State := { s with branches := s.branches.map Branch.arbitrate }

/-! ### Liveness and tables -/

/-- A new liveness record (R107). -/
def Liveness.fresh (station : Nat) : Liveness where
  station := station
  present := true
  timeouts := 0
  repoll := none
  repollDue := false
  lagCount := 0
  lagging := false
  lastApplied := none
  lastSign := none

/-- The liveness record of a station of a branch. -/
def Branch.record (b : Branch) (station : Nat) : Option Liveness :=
  b.liveness.find? (fun l => decide (l.station = station))

/-- Changes the liveness record of a station of a branch. -/
def changeLiveness (br : BranchId) (station : Nat) (f : Liveness → Liveness) (s : State) : State :=
  changeBranch br (fun b => { b with liveness := b.liveness.map (fun l => if l.station = station then f l else l) }) s

/-- A drive slot as it is made, before it is marked (R109, R122). -/
def DriveSlot.fresh (station : Nat) : DriveSlot where
  station := station
  image := 0
  states := List.replicate 16 .off
  pending := false

/-- The liveness records and drive slots of a branch made afresh from the active tables (R107, R109, R122). -/
def freshBranch (br : BranchId) (s : State) : State :=
  let stations := s.tables.stationsOn br
  changeBranch br
    (fun b =>
      { b with
        liveness := stations.map (fun r => Liveness.fresh r.address.toNat)
        slots := (stations.filter (fun r => decide (r.roleOf = .output))).map (fun r => DriveSlot.fresh r.address.toNat)
        pointer := none })
    s

/-- The branch controllers take the tables at the end of a load (R107, R109). -/
def loadBranches (s : State) : State := eachOf branchIds freshBranch s

/-- Reports the end of the STATION_ABSENT and STATION_LAG faults that a branch holds active (R122): in ascending station, the absence before the
lag (log 44). -/
def endStationFaults (br : BranchId) (s : State) : State :=
  eachOf (s.branch br).liveness
    (fun l s =>
      let s := if l.present then s else reportEnd .stationAbsent (some l.station) s
      if l.lagging then reportEnd .stationLag (some l.station) s else s)
    s

/-- Removes the FIFO entries whose station is no longer on the branch and answers each with RANGE (R122), behind the alarms of the branch's own
fault ends (log 45). -/
def purgeForwards (br : BranchId) (s : State) : State :=
  let stays := fun (e : Forward) => (s.tables.roleOn br e.station).isSome
  eachOf ((s.branch br).fifo.filter (fun e => !stays e))
    (fun e => send (.fwr e.tag (byteOf e.station) .range []))
    (changeBranch br (fun b => { b with fifo := b.fifo.filter stays }) s)

/-- A branch controller takes new tables at the completion of a commit (R122): the fault ends first, then the records, the slots and the
FIFO. Its turn, outstanding answer and last apply sent are kept. -/
def retableBranch (br : BranchId) (s : State) : State := purgeForwards br (freshBranch br (endStationFaults br s))

/-- The branch controllers take new tables at the completion of a commit (R122), branch A first (log 44). -/
def retableBranches (s : State) : State := eachOf branchIds retableBranch s

end Sys2Proof.Machine
end

