-- ==== Sys2Proof/Machine/Conditioning.lean ====
section
/-! DEFINITION. The detector conditioner: samples and continuity (R142), debounce (R143), resynchronization (R144), the five fault tests
(R145 to R148), the reported state and call memory (R149, R150), detector reports (R151) and the notices to preemption (R153). -/

namespace Sys2Proof.Machine

/-- The run-time record of channel `c`; none for a channel that is not in use (R139). -/
def State.detector (s : State) (c : Nat) : Option Detector := entryD s.detectors c none

/-- Changes the record of channel `c`, if it has one. -/
def changeDetector (c : Nat) (f : Detector → Detector) (s : State) : State :=
  { s with detectors := changeEntry s.detectors c (Option.map f) }

/-- The detector channels that have a record, in ascending number. -/
def State.detectorChannels (s : State) : List Nat :=
  (numbers s.detectors.length).filter (fun c => (s.detector c).isSome)

/-- The channels in use of a station, in ascending number (R142). -/
def State.channelsOf (s : State) (station : Nat) : List Nat :=
  s.detectorChannels.filter (fun c => decide ((s.tables.detector c).station.toNat = station))

/-! ### Times of a record -/

/-- Debounce of a transition in ms: the debounce on for an onset, the debounce off for an offset (R139, R143). -/
def DetectorRec.debounceMs (r : DetectorRec) (onset : Bool) : Nat :=
  (if onset then r.debounceOn.toNat else r.debounceOff.toNat) * 10

/-- Maximum presence in ms; 0 turns the test off (R139). -/
def DetectorRec.presenceMs (r : DetectorRec) : Nat := r.maxPresence.toNat * 60000

/-- Maximum idle in ms; 0 turns the test off (R139). -/
def DetectorRec.idleMs (r : DetectorRec) : Nat := r.maxIdle.toNat * 60000

/-- A cabinet time some milliseconds later. -/
def laterBy (t : Time) (ms : Nat) : Time := t + BitVec.ofNat 32 ms

/-! ### Reports (R151) -/

/-- The occupancy of a report: present when the state is VACANT, the fault field is no and the report before it was OCCUPIED and not made
in fault; it is the difference of the event times, up to 65 535 (R151). -/
def occupancyOf (d : Detector) (occupied fault : Bool) (time : Time) : Option Nat :=
  match d.lastDet with
  | some (true, false, since) => if occupied || fault then none else some (Nat.min 65535 (time - since).toNat)
  | _ => none

/-- Makes a detector report of channel `c` (R151). The reports of an event are handed to the link interface at its end. -/
def report (c : Nat) (occupied fault : Bool) (time : Time) (s : State) : State :=
  match s.detector c with
  | some d =>
    let det : Det := { channel := c, occupied := occupied, fault := fault, time := time,
                       occupancy := occupancyOf d occupied fault time }
    changeDetector c (fun x => { x with lastDet := some (occupied, fault, time) })
      { s with event.reports := s.event.reports ++ [det] }
  | none => s

/-- The reported state of a channel that is not in fault (R149). -/
def Detector.plain (r : DetectorRec) (d : Detector) : Bool := if r.demand then d.call.isSome else d.occupied

/-- Sets the reported state, dated at a time if it changes (R149). The time is that of the change as its DET tells it, not that of the event at which
it was decided (log 48). -/
def setReported (c : Nat) (state : Bool) (time : Time) : State → State :=
  changeDetector c (fun d => if d.reported = state then d else { d with reported := state, reportedSince := time })

/-- Reports a change of the reported state of a channel that is not in fault (R151). The reported state takes the DET's event time as its date
(log 48). -/
def reportChange (c : Nat) (time : Time) (s : State) : State :=
  match s.detector c with
  | some d =>
    let state := d.plain (s.tables.detector c)
    if d.inFault || d.reported == state then s else report c state false time (setReported c state time s)
  | none => s

/-! ### Faults of a channel -/

/-- The five kinds of detector fault (R145). -/
inductive DetectorFault where
  | openCircuit | shortCircuit | stuck | idle | chatter
  deriving DecidableEq, Repr

/-- The fault kind as the fault list names it. -/
def DetectorFault.kind : DetectorFault → FaultKind
  | .openCircuit => .detectorOpen
  | .shortCircuit => .detectorShort
  | .stuck => .detectorStuck
  | .idle => .detectorIdle
  | .chatter => .detectorChatter

/-- The kind is among the active faults of a channel. -/
def Detector.has (d : Detector) : DetectorFault → Bool
  | .openCircuit => d.openFault
  | .shortCircuit => d.shortFault
  | .stuck => d.stuckFault
  | .idle => d.idleFault
  | .chatter => d.chatterFault

/-- Adds a kind to the active faults, or removes it. -/
def Detector.mark (d : Detector) (active : Bool) : DetectorFault → Detector
  | .openCircuit => { d with openFault := active }
  | .shortCircuit => { d with shortFault := active }
  | .stuck => { d with stuckFault := active }
  | .idle => { d with idleFault := active }
  | .chatter => { d with chatterFault := active }

/-- The five kinds in the order of the fault table. -/
def detectorFaults : List DetectorFault := [.openCircuit, .shortCircuit, .stuck, .idle, .chatter]

/-- Raises a detector fault of channel `c`, unless it is already active (R145). -/
def raiseDetector (f : DetectorFault) (c : Nat) (s : State) : State :=
  match s.detector c with
  | some d =>
    if d.has f then s
    else
      note { kind := f.kind, subject := some c, action := .report, condition := true }
        (changeDetector c (fun x => x.mark true f) s)
  | none => s

/-- Ends a detector fault of channel `c`, if it is active (R145). -/
def endDetector (f : DetectorFault) (c : Nat) (s : State) : State :=
  match s.detector c with
  | some d =>
    if d.has f then reportEnd f.kind (some c) (changeDetector c (fun x => x.mark false f) s) else s
  | none => s

/-! ### Conditioned transitions -/

/-- A conditioned onset dated `t` (R143, R147, R148): the state, the stuck and idle deadlines and the onset history. -/
def Detector.onset (r : DetectorRec) (t now : Time) (d : Detector) : Detector :=
  { d with
    occupied := true, since := t
    stuckAt := if r.presenceMs = 0 ∨ r.presenceMs ≤ (now - t).toNat then none else some (laterBy t r.presenceMs)
    idleAt := if r.idleMs = 0 then d.idleAt else some (laterBy t r.idleMs)
    onsets :=
      if r.chatterLimit = 0 ∨ d.onsets.contains t then d.onsets
      else
        let all := d.onsets ++ [t]
        if r.chatterLimit.toNat + 1 < all.length then all.drop 1 else all }

/-- The call of a DEMAND channel is set by an onset, unless the channel is in fault or its served group is shown GO (R150). -/
def setCall (c : Nat) (t : Time) (s : State) : State :=
  let r := s.tables.detector c
  if r.demand && decide (s.shown r.served.toNat ≠ .go) then
    changeDetector c (fun d => if d.inFault then d else { d with call := some t }) s
  else s

/-- A channel is in fault, as decided at the end of the event before (R149). -/
def State.inFault (s : State) (c : Nat) : Bool := (s.detector c).any Detector.inFault

/-- Acts on a conditioned onset dated `t`, confirmed now (R143): the stuck, idle and chatter bookkeeping, the call memory, the report and the
rising edge for preemption, in that order. Onsets of one sample on two channels are notices one after the other, each considered in turn (log 42). -/
def takeOnset (c : Nat) (t : Time) (s : State) : State :=
  let r := s.tables.detector c
  let late := decide (r.presenceMs ≠ 0) && decide (r.presenceMs ≤ (s.clock.now - t).toNat)
  let s := changeDetector c (fun d => d.onset r t s.clock.now) s
  let s := if late then raiseDetector .stuck c s else s
  let s := reportChange c t (setCall c t (endDetector .idle c s))
  if s.inFault c then s else sourcesActive true (s.plansOnDetector c) s

/-- Acts on a conditioned offset dated `t` (R143, R147, R153). -/
def takeOffset (c : Nat) (t : Time) (s : State) : State :=
  let s := changeDetector c (fun d => { d with occupied := false, since := t, stuckAt := none }) s
  let s := reportChange c t (endDetector .stuck c s)
  sourcesInactive (s.plansOnDetector c) s

/-- Acts on a conditioned transition (R143). -/
def takeTransition (c : Nat) (x : Transition) : State → State :=
  if x.onset then takeOnset c x.time else takeOffset c x.time

/-! ### Debounce (R143) -/

/-- One decision about the head of a pending list (R143): the list after it and the transition confirmed, if one is; none when the head
waits. -/
def decideHead (r : DetectorRec) (now : Time) : List Transition → Option (List Transition × Option Transition)
  | [] => none
  | [x] => if r.debounceMs x.onset ≤ (now - x.time).toNat then some ([], some x) else none
  | x :: y :: rest =>
    if (y.time - x.time).toNat ≤ r.debounceMs x.onset then some (rest, none)
    else if r.debounceMs x.onset ≤ (now - x.time).toNat then some (y :: rest, some x)
    else none

/-- Decides the pending list of channel `c` from its head until the head waits (R143). Each decision shortens the list, so as many steps as
it is long are enough. -/
def debounce (c : Nat) : Nat → State → State
  | 0, s => s
  | steps + 1, s =>
    match s.detector c with
    | none => s
    | some d =>
      match decideHead (s.tables.detector c) s.clock.now d.pending with
      | none => s
      | some (rest, confirmed) =>
        let s := changeDetector c (fun x => { x with pending := rest }) s
        debounce c steps (match confirmed with | some x => takeTransition c x s | none => s)

/-! ### Samples -/

/-- The direction of the transition at place `k` of a list of `n` (R182): the list alternates and its last leads to the raw state sent. -/
def onsetAt (occupied : Bool) (n k : Nat) : Bool := if (n - 1 - k) % 2 = 0 then occupied else !occupied

/-- Of two times the later, seen from the receipt (R142). -/
def raisedTo (now last t : Time) : Time := if (now - last).toNat < (now - t).toNat then last else t

/-- The listed transitions of an entry with their times, none earlier than the one before it (R142). -/
def timedTransitions (now : Time) : Time → List (Bool × Half) → List Transition
  | _, [] => []
  | last, (onset, age) :: rest =>
    let t := raisedTo now last (now - BitVec.ofNat 32 age.toNat)
    { onset := onset, time := t } :: timedTransitions now t rest

/-- The time of the last transition held for a channel: in the pending list, or else the conditioned state's date (R142). -/
def Detector.lastTime (d : Detector) : Time := (d.pending.getLast?.map Transition.time).getD d.since

/-- The transitions that an entry lists (R141, R142). -/
def listedTransitions (e : DsmInput) (now last : Time) : List Transition :=
  timedTransitions now last
    ((List.range e.ages.length).map (fun k => (onsetAt e.occupied e.ages.length k, e.ages.getD k 0)))

/-- The continuity check of R142 passes. -/
def continuous (d : Detector) (e : DsmInput) : Bool :=
  !e.overrun && e.ages.all (fun age => decide (age ≠ 65535))
    && (match d.raw with
      | none => true
      | some held =>
        if e.ages.isEmpty then e.occupied == held else onsetAt e.occupied e.ages.length 0 != held)
    && decide (d.pending.length + e.ages.length ≤ 16)

/-- A resynchronization (R144): the conditioned state is set from the sample, dated at the receipt. -/
def resynchronize (c : Nat) (e : DsmInput) (s : State) : State :=
  match s.detector c with
  | some d =>
    let s := changeDetector c (fun x => { x with pending := [], raw := some e.occupied, resync := false }) s
    if d.occupied = e.occupied then s
    else takeTransition c { onset := e.occupied, time := s.clock.now } s
  | none => s

/-- The transitions of an entry are taken: debounced when the entry is continuous, else resynchronized (R142, R143, R144). -/
def takeEntry (c : Nat) (e : DsmInput) (s : State) : State :=
  match s.detector c with
  | some d =>
    if d.resync || !continuous d e then resynchronize c e s
    else
      let listed := listedTransitions e s.clock.now d.lastTime
      let s := changeDetector c
        (fun x => { x with pending := x.pending ++ listed, raw := if listed.isEmpty then x.raw else some e.occupied }) s
      debounce c (d.pending.length + listed.length) s
  | none => s

/-- The health tests (R146). Where DETECTOR_OPEN and DETECTOR_SHORT end together, the end of DETECTOR_OPEN is reported first (log 44). -/
def testHealth (c : Nat) (health : Health) (s : State) : State :=
  let s := changeDetector c (fun d => { d with health := health }) s
  match health with
  | .openCircuit => raiseDetector .openCircuit c (changeDetector c (fun d => { d with okSince := none }) s)
  | .shortCircuit => raiseDetector .shortCircuit c (changeDetector c (fun d => { d with okSince := none }) s)
  | .ok =>
    match s.detector c with
    | some d =>
      if d.openFault || d.shortFault then
        match d.okSince with
        | none => changeDetector c (fun x => { x with okSince := some s.clock.now }) s
        | some since =>
          if 10000 ≤ (s.clock.now - since).toNat then
            endDetector .shortCircuit c
              (endDetector .openCircuit c (changeDetector c (fun x => { x with okSince := none }) s))
          else s
      else s
    | none => s

/-- The chatter test (R148): L + 1 onsets within 60 s raise the fault, fewer end it. -/
def testChatter (c : Nat) (s : State) : State :=
  let limit := (s.tables.detector c).chatterLimit.toNat
  match s.detector c with
  | some d =>
    if limit = 0 then s
    else if limit < (d.onsets.filter (fun u => decide ((s.clock.now - u).toNat < 60000))).length then
      raiseDetector .chatter c s
    else endDetector .chatter c s
  | none => s

/-- Takes the entry of a channel's input: its transitions, then the health test, then the chatter test (R142, R146, R148; log 27). -/
def takeInput (inputs : List DsmInput) (c : Nat) (s : State) : State :=
  match entry? inputs (s.tables.detector c).input.toNat with
  | some e => testChatter c (testHealth c e.health (takeEntry c e s))
  | none => s

/-! ### Entry into and exit from fault (R149 to R151, R153) -/

/-- The state that a channel reports in fault (R149): OCCUPIED, VACANT, or the state that stands. -/
def faultState (r : DetectorRec) (d : Detector) : Bool :=
  match r.faultDefault.toNat with
  | 0 => true
  | 1 => false
  | _ => d.reported

/-- The channel enters fault (R149, R151, R153). -/
def enterFault (c : Nat) (d : Detector) (s : State) : State :=
  let state := faultState (s.tables.detector c) d
  let now := s.clock.now
  let s := setReported c state now (changeDetector c (fun x => { x with inFault := true }) s)
  let s := report c state true now s
  sourcesInactive (s.plansOnDetector c) s

/-- The channel leaves fault (R149, R150, R151, R153): a DEMAND channel that is occupied takes a call unless its served group is shown GO. -/
def leaveFault (c : Nat) (d : Detector) (s : State) : State :=
  let now := s.clock.now
  let s := changeDetector c (fun x => { x with inFault := false }) s
  let s := if d.occupied then setCall c now s else s
  let state := (s.detector c).any (fun x => x.plain (s.tables.detector c))
  let s := report c state false now (setReported c state now s)
  if d.occupied then sourcesActive false (s.plansOnDetector c) s else s

/-- What puts a channel in fault stands: an active fault, or its station is ABSENT (R145). -/
def Detector.faulty (d : Detector) : Bool := d.stationAbsent || detectorFaults.any d.has

/-- Decides, after the whole event has been taken, whether a channel enters or leaves fault (R149). -/
def decideFault (c : Nat) (s : State) : State :=
  match s.detector c with
  | some d =>
    if d.faulty && !d.inFault then enterFault c d s
    else if !d.faulty && d.inFault then leaveFault c d s
    else s
  | none => s

/-! ### Events at the conditioner -/

/-- Takes a detector sample for every channel of its station, then decides entries into and exits from fault, in ascending channel (R142,
R149; log 51). -/
def takeSample (station : Nat) (inputs : List DsmInput) (s : State) : State :=
  let channels := s.channelsOf station
  eachOf channels decideFault (eachOf channels (takeInput inputs) s)

/-- The notice that a station has become ABSENT (R149). Its channels enter fault, and give their notices to the preemption unit, in ascending
number (log 51). -/
def stationLost (station : Nat) (s : State) : State :=
  let channels := s.channelsOf station
  eachOf channels decideFault
    (eachOf channels
      (fun c => changeDetector c
        (fun d => { d with stationAbsent := true, pending := [], raw := none, resync := true, okSince := none }))
      s)

/-- The notice that a station has returned; the exit from fault is decided with the sample that ended the absence (R149). -/
def stationBack (station : Nat) (s : State) : State :=
  eachOf (s.channelsOf station) (fun c => changeDetector c (fun d => { d with stationAbsent := false })) s

/-- The notice that a group has entered GO: the calls of the DEMAND channels that serve it are cleared (R150). -/
def serveCalls (g : Nat) (s : State) : State :=
  eachOf
    (s.detectorChannels.filter (fun c =>
      (s.tables.detector c).demand && decide ((s.tables.detector c).served.toNat = g)))
    (fun c s => reportChange c s.clock.now (changeDetector c (fun d => { d with call := none }) s))
    s

/-- A new record, dated now (R140). -/
def Detector.fresh (r : DetectorRec) (now : Time) : Detector where
  raw := none
  pending := []
  resync := true
  occupied := false
  since := now
  health := .ok
  okSince := none
  stuckAt := none
  idleAt := if r.idleMs = 0 then none else some (laterBy now r.idleMs)
  onsets := []
  openFault := false
  shortFault := false
  stuckFault := false
  idleFault := false
  chatterFault := false
  stationAbsent := false
  call := none
  reported := false
  reportedSince := now
  inFault := false
  lastDet := none

/-- The conditioner makes its records from the active tables, at the end of a load (R140). -/
def loadDetectors (s : State) : State :=
  { s with
    detectors := (numbers Config.detectors).map (fun c =>
      if (s.tables.detector c).used then some (Detector.fresh (s.tables.detector c) s.clock.now) else none) }

/-- The conditioner takes new tables at the completion of a commit: first the ends of the faults it holds, in ascending channel and for each channel
in the order of the fault table (R140, log 44). -/
def retableDetectors (s : State) : State :=
  loadDetectors (eachOf s.detectorChannels (fun c => eachOf detectorFaults (fun f => endDetector f c)) s)

end Sys2Proof.Machine
end

