-- ==== Sys2Proof/Machine/Proving.lean ====
section
/-! DEFINITION. The lamp prover's record keeping: proved states and runs (R127), usable readings (R128) and their judging (R129, R130),
the stop at a flash mode (R126), latched faults at an FCL (R131), and new tables (R125, R137). Its faults that carry an action are
raised in Reports.lean. -/

namespace Sys2Proof.Machine

/-- The proving record of channel `c`. -/
def State.proving (s : State) (c : Nat) : Proving := entryD s.prover.channels c Proving.reset

/-- Changes the proving record of channel `c`. -/
def changeProving (c : Nat) (f : Proving → Proving) (s : State) : State :=
  { s with prover.channels := changeEntry s.prover.channels c f }

/-- The output channels that are proved, in ascending number (R124). -/
def State.provedChannels (s : State) : List Nat := (numbers s.tables.outputs.length).filter s.tables.proved

/-- The latch of a channel is yes (R124). -/
def ChannelRec.latched (r : ChannelRec) : Bool := decide (r.latch = 1)

/-! ### Runs and proved states -/

/-- Removes both runs of a channel (R127). -/
def Proving.noRuns (x : Proving) : Proving := { x with outRun := none, foreignRun := none }

/-- The runs of each proved channel whose commanded state differs between two shown images are discarded (R127). -/
def discardChanged (before after : List Aspect) (s : State) : State :=
  eachOf s.provedChannels
    (fun c s =>
      let r := s.tables.output c
      if r.lamp (entryD before r.group.toNat .dark) = r.lamp (entryD after r.group.toNat .dark) then s
      else changeProving c Proving.noRuns s)
    s

/-- At the end of an apply frame, each proved channel on the branch takes the state that the drive frames for its image carried; a change
of the proved state discards the channel's runs (R127). An apply frame that was in transmission at a commit counts here like any other (log 46). -/
def takeApply (br : BranchId) (carried : List (Nat × List Lamp)) (s : State) : State :=
  eachOf s.provedChannels
    (fun c s =>
      let r := s.tables.output c
      if (s.tables.roleOn br r.station.toNat).isSome then
        match carried.find? (fun x => decide (x.1 = r.station.toNat)) with
        | some x =>
          let state := entry? x.2 r.output.toNat
          changeProving c
            (fun p => if p.proved = state then p else { p.noRuns with proved := state }) s
        | none => s
      else s)
    s

/-! ### Readings -/

/-- The lamp-out qualifier of a channel in ms (R124). -/
def ChannelRec.lampOutMs (r : ChannelRec) : Nat := r.lampOutQualifier.toNat * 100

/-- The foreign qualifier of a channel in ms (R124). -/
def ChannelRec.foreignMs (r : ChannelRec) : Nat := r.foreignQualifier.toNat * 10

/-- The settle time of the cabinet record in ms (R118). -/
def TableSet.settleMs (t : TableSet) : Nat := t.cabinet.settle.toNat * 10

/-- The last apply of a branch was sent at least the settle time ago (R118, R128). -/
def State.settled (s : State) (br : BranchId) : Bool :=
  match (s.branch br).lastApply with
  | some (_, sent) => decide (s.tables.settleMs ≤ (s.clock.now - sent).toNat)
  | none => false

/-- A lamp report may be used: the mode is a permit mode, it names the image of the last apply sent on its branch, and it comes at least
the settle time after that apply (R128). -/
def State.usable (s : State) (br : BranchId) (applied : Option Byte) : Bool :=
  s.control.mode.permit && s.settled br
    && (match (s.branch br).lastApply, applied with
      | some (image, _), some n => decide (n = image)
      | _, _ => false)

/-- What judging a reading decides about a fault of a channel. -/
inductive Finding where
  | nothing | qualified | ended
  deriving DecidableEq, Repr

/-- A usable reading of an ON channel (R129): the record after it, and whether LAMP_OUT is newly active or ends. -/
def judgeOn (r : ChannelRec) (current : Half) (now : Time) (x : Proving) : Proving × Finding :=
  let x := { x with last := some (current, now) }
  if x.lampOut then
    if r.onThreshold.toNat + r.hysteresis.toNat ≤ current.toNat then
      if r.latched then ({ x with lampOutReleased := true }, .nothing)
      else ({ x with lampOut := false }, .ended)
    else (x, .nothing)
  else if current.toNat < r.onThreshold.toNat then
    match x.outRun with
    | none => ({ x with outRun := some now }, .nothing)
    | some start =>
      if r.lampOutMs ≤ (now - start).toNat then
        ({ x with lampOut := true, lampOutReleased := false, outRun := none }, .qualified)
      else (x, .nothing)
  else ({ x with outRun := none }, .nothing)

/-- A reading releases an active FOREIGN_CURRENT: it lies below the off threshold less the hysteresis, or is 0 where that difference is 0
or less (R130). -/
def ChannelRec.releasesForeign (r : ChannelRec) (current : Half) : Bool :=
  if r.offThreshold.toNat ≤ r.hysteresis.toNat then decide (current = 0)
  else decide (current.toNat < r.offThreshold.toNat - r.hysteresis.toNat)

/-- A usable reading of an OFF channel (R130): the record after it, and whether FOREIGN_CURRENT is newly active or ends. -/
def judgeOff (r : ChannelRec) (current : Half) (now : Time) (x : Proving) : Proving × Finding :=
  let x := { x with last := some (current, now) }
  if x.foreign then
    if r.releasesForeign current then
      if r.latched then ({ x with foreignReleased := true }, .nothing)
      else ({ x with foreign := false }, .ended)
    else (x, .nothing)
  else if r.offThreshold.toNat ≤ current.toNat then
    match x.foreignRun with
    | none => ({ x with foreignRun := some now }, .nothing)
    | some start =>
      if r.foreignMs ≤ (now - start).toNat then
        ({ x with foreign := true, foreignReleased := false, foreignRun := none }, .qualified)
      else (x, .nothing)
  else ({ x with foreignRun := none }, .nothing)

/-- The judging of one channel's reading; a proved state of FLASH or NONE is not proved (R128). -/
def judgeReading (r : ChannelRec) (current : Half) (now : Time) (x : Proving) : Proving × Finding :=
  match x.proved with
  | some .on => judgeOn r current now x
  | some .off => judgeOff r current now x
  | _ => (x, .nothing)

/-- The fault that a finding about a channel concerns: LAMP_OUT for a channel proved ON, FOREIGN_CURRENT for one proved OFF. -/
def Proving.faultKind (x : Proving) : FaultKind := if x.proved = some .on then .lampOut else .foreignCurrent

/-- The red-failure condition of R134 for a group: it is shown STOP or PREPARE, and LAMP_OUT is active on every one of its red-proving
channels, of which it has at least one. -/
def State.redOut (s : State) (g : Nat) : Bool :=
  let reds :=
    (numberedEntries s.tables.outputs).filter (fun (_, r) =>
      r.used && decide (r.group.toNat = g) && decide (r.redProving = 1))
  (decide (s.shown g = .stop) || decide (s.shown g = .prepare)) && !reds.isEmpty
    && reds.all (fun (c, _) => (s.proving c).lampOut)

/-- RED_FAIL of group `g` is active. -/
def State.redFail (s : State) (g : Nat) : Bool := entryD s.prover.redFail g false

/-- Sets whether RED_FAIL of group `g` is active. -/
def setRedFail (active : Bool) (g : Nat) (s : State) : State :=
  { s with prover.redFail := changeEntry s.prover.redFail g (fun _ => active) }

/-- Ends RED_FAIL of a group where it is active (R134). -/
def endRedFail (g : Nat) (s : State) : State :=
  if s.redFail g then reportEnd .redFail (some g) (setRedFail false g s) else s

/-! ### The stop, the clear and new tables -/

/-- The stop of proving for one channel (R126): its runs go, an unlatched fault ends, and a latched one stays. -/
def stopChannel (c : Nat) (s : State) : State :=
  let x := s.proving c
  let unlatched := !(s.tables.output c).latched
  let s := changeProving c
    (fun p => { p.noRuns with lampOut := p.lampOut && !unlatched, foreign := p.foreign && !unlatched }) s
  let s := if x.lampOut && unlatched then reportEnd .lampOut (some c) s else s
  if x.foreign && unlatched then reportEnd .foreignCurrent (some c) s else s

/-- The channels that have a proving record. -/
def State.channelNumbers (s : State) : List Nat := numbers s.prover.channels.length

/-- The groups by number. -/
def groupNumbers : List Nat := numbers Config.groups

/-- The prover stops at an entry to FLASH or LOCKOUT from a permit mode (R126). Every live group is shown FLASH from the same event, so
every active RED_FAIL ends (R134). The ends are reported channel by channel, LAMP_OUT before FOREIGN_CURRENT, then RED_FAIL by group (log 44). -/
def stopProving (s : State) : State := eachOf groupNumbers endRedFail (eachOf s.channelNumbers stopChannel s)

/-- A latched active fault ends at an accepted FCL in a flash mode, and in a permit mode when its released mark is set (R131). -/
def State.clears (s : State) (released : Bool) : Bool := !s.control.mode.permit || released

/-- The lamp prover acts on the latched faults of a channel at an accepted FCL and reports the ends (R131), LAMP_OUT before FOREIGN_CURRENT
(log 44). -/
def clearChannel (c : Nat) (s : State) : State :=
  let x := s.proving c
  let latched := (s.tables.output c).latched
  let out := latched && x.lampOut && s.clears x.lampOutReleased
  let foreign := latched && x.foreign && s.clears x.foreignReleased
  let s := changeProving c
    (fun p =>
      { p with
        lampOut := p.lampOut && !out, lampOutReleased := p.lampOutReleased && !out
        foreign := p.foreign && !foreign, foreignReleased := p.foreignReleased && !foreign })
    s
  let s := if out then reportEnd .lampOut (some c) s else s
  if foreign then reportEnd .foreignCurrent (some c) s else s

/-- The groups in conflict with the group of a go lamp that are BLOCKED: the aspect engine re-evaluates them when the lamp's foreign current
ends (R37, R132). -/
def State.blockedBy (s : State) (c : Nat) : List Nat :=
  let r := s.tables.output c
  if r.goLamp then
    (s.tables.conflicting r.group.toNat).filter (fun g => decide ((s.group g).note = .blocked))
  else []

/-- Ends the faults of one channel that are active, latched or not (R137). -/
def endChannelFaults (c : Nat) (s : State) : State :=
  let x := s.proving c
  let s := if x.lampOut then reportEnd .lampOut (some c) s else s
  if x.foreign then reportEnd .foreignCurrent (some c) s else s

/-- The prover takes a new output map at the completion of a commit (R137): the ends of all active faults, channel by channel, LAMP_OUT before
FOREIGN_CURRENT, then RED_FAIL by group (log 44); then every record as after a reset. -/
def retableProver (s : State) : State :=
  { eachOf groupNumbers endRedFail (eachOf s.channelNumbers endChannelFaults s) with prover := Prover.reset }

end Sys2Proof.Machine
end

