-- ==== Sys2Proof/Machine/Modes.lean ====
section
/-! DEFINITION. The mode controller: each change of mode with what every block does at it (R45, R49, R51, R53, R55, R56, R58, R64, R65, R82,
R104), the lockout record's operations (R60, R64), and the taking of fault actions (R46, R54, R57, R58, R59).

At a change of mode the blocks act in the order aspect engine, image exchange, preemption unit, lamp prover, branch controllers, table
store, and the alarm of the change is made last (log 15). The effective requested image is rebuilt at the end of the event. -/

namespace Sys2Proof.Machine

/-! ### The change itself -/

/-- The mode, the RUNPERMIT line with it (R44), and the last cause (R65). The branch controllers will mark their slots (R110). -/
def setMode (new : Mode) (cause : Cause) (s : State) : State :=
  { s with
    control.mode := new, control.runPermit := new.permit, control.lastCause := cause
    event.modeChanged := true, event.remark := true }

/-- The alarm of a change of mode (R65, R163). -/
def announce (old : Mode) (s : State) : State := alarm (.mode old s.control.mode s.control.lastCause) s

/-- The working copy is set equal to the active copy, or to the default set when the active copy is empty (R167). -/
def resetWorking (s : State) : State := { s with store.working := s.store.active.getD defaultSet }

/-- A record write starts (R60): from its start the stored record reads as PRESENT (R61). That it shows kind UNKNOWN and no subject while the write
is in progress is the model's choice (log 50). -/
def startRecordWrite (kind : FaultKind) (subject : Option Nat) (s : State) : State :=
  { s with
    control.recordOp := .writing kind subject
    store.op := .record
    store.nv.record := some (.unknown, none) }

/-- A record erase starts (R64); the record reads as PRESENT until it has completed (R61), with the kind and subject it held (log 50). -/
def startRecordErase (s : State) : State := { s with control.recordOp := .erasing, store.op := .record }

/-- The record write of an entry to LOCKOUT, if it makes one. -/
def writeRecordOf (record : Option (FaultKind × Option Nat)) (s : State) : State :=
  match record with
  | some (kind, subject) => startRecordWrite kind subject s
  | none => s

/-- The SUPERVISION fault ends when WARNING is left (R78). A supervision close has ended it before (R74), and its window timer is gone. -/
def endLapse (s : State) : State :=
  if s.exchange.warning.isSome then reportEnd .supervision none { s with exchange.warning := none } else s

/-! ### Entries to the flash modes -/

/-- The image exchange at an entry to FLASH or LOCKOUT from a permit mode (R82). -/
def exchangeFlash (s : State) : State :=
  endLapse { s with exchange.expectedChain := none, exchange.accepted := none, exchange.supervision := none }

/-- A permit mode is left for FLASH or LOCKOUT (R56, R58): RUNPERMIT is released, every live group is shown FLASH, supervision, preemption
and proving stop, the working copy is reset, and a record write starts where one is due. -/
def leavePermit (new : Mode) (cause : Cause) (record : Option (FaultKind × Option Nat)) (s : State) : State :=
  let old := s.control.mode
  let s := setMode new cause s
  let s :=
    { s with
      control.closeTarget := none, control.closeCause := none, control.startTimer := none, control.firstImage := none }
  announce old (writeRecordOf record (resetWorking (stopProving (plansFlash (exchangeFlash (showFlash s))))))

/-- A change among LOADING, FLASH and LOCKOUT (R45, R58, R64): no aspect changes; the working copy is reset (R167). -/
def changeFlashMode (new : Mode) (cause : Cause) (record : Option (FaultKind × Option Nat)) (s : State) : State :=
  announce s.control.mode (writeRecordOf record (resetWorking (setMode new cause s)))

/-! ### The permit modes -/

/-- RUNNING is entered from START or from WARNING (R51, R53): the start-up timer, the first-image flag and a warning window go, a lapse
ends, and plans may be taken (R94, R104). -/
def enterRunning (cause : Cause) (s : State) : State :=
  let old := s.control.mode
  let s := setMode .running cause s
  announce old (considerTaking (endLapse { s with control.startTimer := none, control.firstImage := none }))

/-- WARNING is entered from RUNNING (R53, R73): the warning window starts, SUPERVISION is reported, and plans may be taken. -/
def enterWarning (s : State) : State :=
  let window := s.tables.cabinet.warning.toNat * 10
  let s := note { kind := .supervision, subject := none, action := .report, condition := true }
    { s with exchange.supervision := some .expired, exchange.warning := some window }
  announce .running (considerTaking (setMode .warning .supervision s))

/-- The cause of a mode change to CLOSING (R55). -/
def CloseCause.cause : CloseCause → Cause
  | .modFlash => .modFlash
  | .supervisionClose => .supervisionClose

/-- CLOSING is entered from START, RUNNING or WARNING (R55). The close completes when every live group is shown STOP or DARK (R56), which is
judged at the end of the event. -/
def enterClosing (target : CloseTarget) (cause : CloseCause) (s : State) : State :=
  let old := s.control.mode
  let s := setMode .closing cause.cause s
  let s :=
    { s with
      control.closeTarget := some target, control.closeCause := some cause
      control.startTimer := none, control.firstImage := none, exchange.supervision := none }
  announce old (plansClosing (endLapse s))

/-- The mode in which a close ends (R56). -/
def CloseTarget.mode : CloseTarget → Mode
  | .flash => .flash
  | .lockout => .lockout

/-- The record of a close toward LOCKOUT: kind SUPERVISION_CLOSE and no subject (R56, R57). -/
def CloseTarget.record : CloseTarget → Option (FaultKind × Option Nat)
  | .flash => none
  | .lockout => some (.supervisionClose, none)

/-- The close completes: the close target is entered (R56). -/
def completeClose (s : State) : State :=
  let target := s.control.closeTarget.getD .flash
  leavePermit target.mode .closeDone target.record s

/-! ### Fault actions -/

/-- The mode controller takes a fault action according to the mode (R58): in LOADING a LOCKOUT is held (R46); in CLOSING a FLASH ends the
close in the close target's mode (R57) and a CLOSE can raise the target (R54); a LOCKOUT in FLASH enters LOCKOUT (R58, R59). -/
def takeAction (r : Raise) (close : CloseTarget) (s : State) : State :=
  match r.action with
  | .none | .report | .noRun => s
  | .flash =>
    match s.control.mode with
    | .start | .running | .warning => leavePermit .flash .faultFlash none s
    | .closing =>
      match s.control.closeTarget with
      | some .lockout => leavePermit .lockout .faultLockout (CloseTarget.record .lockout) s
      | _ => leavePermit .flash .faultFlash none s
    | .loading | .flash | .lockout => s
  | .close =>
    match s.control.mode with
    | .start | .running | .warning => enterClosing close .supervisionClose s
    | .closing =>
      match close with
      | .lockout => { s with control.closeTarget := some .lockout, control.closeCause := some .supervisionClose }
      | .flash => s
    | .loading | .flash | .lockout => s
  | .lockout =>
    match s.control.mode with
    | .start | .running | .warning | .closing => leavePermit .lockout .faultLockout (some (r.kind, r.subject)) s
    | .flash => changeFlashMode .lockout .faultLockout (some (r.kind, r.subject)) s
    | .loading => { s with control.heldLockout := s.control.heldLockout.or (some (r.kind, r.subject)) }
    | .lockout => s

/-- A raise or recurrence at the fault list: recorded and alarmed, then its action is requested (R159). -/
def raise (r : Raise) (s : State) : State := takeAction r .flash (note r s)

/-! ### Red failure (R134) -/

/-- The report of a red failure: its action is the one that the group's record names (R2, R134). -/
def redFailRaise (t : TableSet) (g : Nat) : Raise where
  kind := .redFail
  subject := some g
  action := if (t.group g).redFail = 1 then .report else .lockout
  condition := true

/-- The live groups whose red-failure condition differs from their RED_FAIL, in ascending number, each with whether the condition holds (R134). -/
def State.redDue (s : State) : List (Nat × Bool) :=
  (s.tables.liveGroups.filter (fun g => s.redOut g != s.redFail g)).map (fun g => (g, s.redOut g))

/-- Hands on one change of red failure (R132, step 2; R134). A group that a transfer of the same event has put to FLASH ends the condition at once
(log 38). -/
def handRed (change : Nat × Bool) (s : State) : State :=
  if change.2 then
    let s := raise (redFailRaise s.tables change.1) (setRedFail true change.1 s)
    if s.redOut change.1 then s else endRedFail change.1 s
  else endRedFail change.1 s

/-- The red-failure evaluation of every live group (R134): the condition is evaluated for all of them on one state, and the changes are then
handed on in ascending number. -/
def evaluateReds (s : State) : State := eachOf s.redDue handRed s

/-! ### START entry -/

/-- A station of a branch with the role OUTPUT. -/
def State.isOutput (s : State) (br : BranchId) (station : Nat) : Bool :=
  decide (s.tables.roleOn br station = some .output)

/-- At START entry a branch controller reports again the STATION_ABSENT fault of every ABSENT OUTPUT station, then the STATION_LAG fault of
every lagging one, with the action FLASH (R119). -/
def recurStations (br : BranchId) (s : State) : State :=
  let outputs := (s.branch br).liveness.filter (fun l => s.isOutput br l.station)
  let again := fun (kind : FaultKind) (l : Liveness) =>
    raise { kind := kind, subject := some l.station, action := .flash, condition := true }
  eachOf (outputs.filter Liveness.lagging) (again .stationLag)
    (eachOf (outputs.filter (fun l => !l.present)) (again .stationAbsent) s)

/-- START entry (R49): RUNPERMIT is energized, the start-up stop timer and supervision start, every live group is shown STOP. Red failure is
then evaluated (R134) and the stations' faults are reported again (R119), after the alarm of the change (log 15). -/
def enterStart (startChain : Half) (s : State) : State :=
  let old := s.control.mode
  let cabinet := s.tables.cabinet
  let s := showStop (setMode .start .modRun s)
  let s :=
    { s with
      control.startTimer := some (.running (cabinet.startUp.toNat * 10)), control.firstImage := some false
      exchange.expectedChain := some startChain, exchange.accepted := none
      exchange.supervision := some (.running (cabinet.supervision.toNat * 10)), exchange.warning := none }
  eachOf branchIds recurStations (evaluateReds (announce old s))

end Sys2Proof.Machine
end

