-- ==== Sys2Proof/Machine/Conclude.lean ====
section
/-! DEFINITION. An event as a whole: what comes about within it once a command has had its own effect. The effective requested image is
rebuilt and the groups concerned are re-evaluated until none moves (R7, R20), the plans and the close react (R56, R98), one new image is
numbered (R21), the branches mark and arbitrate (R110, R111) and the detector reports are handed on (R151). -/

namespace Sys2Proof.Machine

/-! ### The settling of one event -/

/-- A forced-GO group of the top plan has entered GO, and the plan may pass from ENTRY (R98). -/
def State.entryMet (s : State) : Bool :=
  match s.preempt.stack with
  | top :: _ =>
    decide (top.phase = .entry) && s.forcedGoShown (s.tables.plan top.plan)
      && s.event.enteredGo.any (fun g => member (s.tables.plan top.plan).forcedGo g)
  | [] => false

/-- The rebuild and the re-evaluations of the event; when they let the top plan pass from ENTRY, its steps may change the overlay, and the
rebuild is made again (R20, R98, R103). The last round leaves the image rebuilt. -/
def settle : Nat → State → State
  | 0, s => evaluateConcerned passLimit (rebuild s)
  | rounds + 1, s =>
    let s := evaluateConcerned passLimit (rebuild s)
    if s.entryMet then settle rounds (advance stepLimit s) else s

/-- How many rounds of settling one event may take. Each round after the first takes a plan out of ENTRY, and an event takes few. -/
def roundLimit : Nat := 20

/-- The report of the aspect engine that the close is complete (R16, R56). -/
def closeIfDone (s : State) : State :=
  if s.control.mode = .closing ∧ s.closed = true then completeClose s else s

/-- The notices to the detector conditioner of the groups that have entered GO (R21, R150). -/
def noticeGo (s : State) : State := eachOf (groupNumbers.filter (fun g => s.event.enteredGo.contains g)) serveCalls s

/-- The red-failure evaluation at an event that numbers a new image (R134). -/
def evaluateShown (s : State) : State := if s.shownImage = s.event.before then s else evaluateReds s

/-- The new image, if the shown image at the end of the event differs from the one before it: its number advances by one, and the lamp prover
discards the runs of the channels whose commanded state changed (R21, R127). -/
def numberImage (s : State) : State :=
  if s.shownImage = s.event.before then s
  else
    discardChanged s.event.before s.shownImage
      { s with engine.imageNumber := s.engine.imageNumber + 1, event.remark := true }

/-- The branch controllers mark their slots when an image was numbered, the mode changed or a commit completed, once for the event
(R110). -/
def markIfDue (s : State) : State := if s.event.remark then markAll s else s

/-- The detector reports of the event, in ascending channel number and for each channel in the order of the changes, are handed to the link
interface (R151). -/
def handReports (s : State) : State := eachOf (sortByKey Det.channel s.event.reports) (fun d => send (.det d)) s

/-- The conclusion of an event (log 16, log 18). -/
def conclude (s : State) : State :=
  handReports (arbitrateAll (markIfDue (numberImage (evaluateShown (noticeGo (closeIfDone (settle roundLimit s)))))))

/-! ### Events -/

/-- The scratch record at the start of an event: the shown image before it (R21). -/
def openEvent (s : State) : State := { s with event := { before := s.shownImage } }

/-- The scratch record is empty between events. -/
def closeEvent (s : State) : State := { s with event := { } }

/-- An event: a command's own effect, the conclusion, and the frame that answers it (log 18). -/
def asEvent (effect answer : State → State) (s : State) : State := closeEvent (answer (conclude (effect (openEvent s))))

/-- A command has no effect while the supply is below its range or NRESET is low, but for those of the supply and of the line themselves
(R186, log 6, log 41). -/
def whileUp (effect : State → State) (s : State) : State := if s.up then effect s else s

/-- The meaning of a command that is an event of the powered supervisor and is not answered. -/
def eventOutcome (effect : State → State) (s : State) : Host.Outcome State Fault Refusal :=
  .next (whileUp (asEvent effect id) s)

/-- The receive assembler of the controller link is receiving, so that a frame now complete was taken from its first character (R179). -/
def State.hears (s : State) : Bool := decide (s.link.assembler = .receiving)

/-- An idle gap on the controller link leaves the assembler receiving (R179). -/
def received (s : State) : State := { s with link.assembler := .receiving }

/-- Where the assembler stands after it has discarded a frame (R179): after a missing stop bit, a length above 200 or a character too many it
waits for an idle gap; in the other cases the gap has come. -/
def afterDiscard : Discard → Assembler
  | .framingError | .lengthAbove200 | .extraCharacter => .waiting
  | .brokenByGap | .badCrc | .wrongAddress | .wrongLength | .wrongKind | .undefinedValue => .receiving

/-- The meaning of a frame from the controller, answered after its event (R180, log 18). A frame that began while the assembler waited for an
idle gap is never taken; the idle gap that ends it leaves the assembler receiving (R179, log 19). -/
def frameOutcome (effect answer : State → State) (s : State) : Host.Outcome State Fault Refusal :=
  .next (whileUp (fun s => if s.hears then asEvent effect answer s else received s) s)

/-- The meaning of a frame from the controller whose answer depends on the state it finds. -/
def answeredOutcome (handle : State → (State → State) × (State → State)) (s : State) : Host.Outcome State Fault Refusal :=
  frameOutcome (handle s).1 (handle s).2 s

end Sys2Proof.Machine
end

