-- ==== Sys2Proof/Machine/LampReports.lean ====
section
/-! DEFINITION. The taking of a lamp report by the lamp prover (R132 to R134) and its counting for lag (R118). -/

namespace Sys2Proof.Machine

/-! ### Judging -/

/-- The proved channels of a station, in ascending number (R128). -/
def State.channelsOfStation (s : State) (station : Nat) : List Nat :=
  s.provedChannels.filter (fun c => decide ((s.tables.output c).station.toNat = station))

/-- What a report decides about one channel: the fault concerned and whether it is newly active or ends. -/
structure Judged where
  channel : Nat
  kind : FaultKind
  finding : Finding
  deriving DecidableEq, Repr

/-- Judges the reading of one channel (R129, R130). -/
def judgeChannel (currents : List Half) (c : Nat) (x : State × List Judged) : State × List Judged :=
  let (s, found) := x
  let r := s.tables.output c
  match entry? currents r.output.toNat with
  | some current =>
    let before := s.proving c
    let (after, finding) := judgeReading r current s.clock.now before
    (changeProving c (fun _ => after) s, found ++ [{ channel := c, kind := before.faultKind, finding := finding }])
  | none => (s, found)

/-- Judges every reading of a usable report, in ascending channel number (R132). -/
def judgeReport (station : Nat) (currents : List Half) (s : State) : State × List Judged :=
  (s.channelsOfStation station).foldl (fun x c => judgeChannel currents c x) (s, [])

/-! ### Field conflict (R133) -/

/-- The reading of a channel makes the field-conflict check: the channel is a go lamp proved ON or OFF, its FOREIGN_CURRENT is active, and the
reading does not release it (log 36). -/
def State.checksConflict (s : State) (currents : List Half) (c : Nat) : Bool :=
  let r := s.tables.output c
  let x := s.proving c
  let current := (entry? currents r.output.toNat).getD 0
  r.goLamp && x.foreign && (decide (x.proved = some .on) || (decide (x.proved = some .off) && !r.releasesForeign current))

/-- A live group in conflict with `g` is shown PREPARE or GO (R133). -/
def State.rivalReleased (s : State) (g : Nat) : Bool :=
  (s.tables.conflicting g).any (fun i => decide (s.shown i = .prepare) || decide (s.shown i = .go))

/-- The group of each reading that raises FIELD_CONFLICT: one raise for each such reading of a go lamp, in ascending group number (R132, R133). -/
def State.fieldConflicts (s : State) (station : Nat) (currents : List Half) : List Nat :=
  let groupOf := fun (c : Nat) => (s.tables.output c).group.toNat
  sortByKey id
    (((s.channelsOfStation station).filter (fun c => s.checksConflict currents c && s.rivalReleased (groupOf c))).map groupOf)

/-- The report of a field conflict on a group (R133, R135). -/
def fieldConflictRaise (g : Nat) : Raise where
  kind := .fieldConflict
  subject := some g
  action := .lockout
  condition := false

/-! ### Red failure at a report (R134) -/

/-- The changes of red failure of those groups of which the report changed the LAMP_OUT of a red-proving channel (R134). -/
def State.redChanges (s : State) (found : List Judged) : List (Nat × Bool) :=
  s.redDue.filter (fun change =>
    found.any (fun j =>
      decide (j.kind = .lampOut) && decide (j.finding ≠ .nothing)
        && decide ((s.tables.output j.channel).group.toNat = change.1)
        && decide ((s.tables.output j.channel).redProving = 1)))

/-! ### Handing on (R132) -/

/-- The faults that a report released, then those it qualified, in ascending channel number (R132, step 1). -/
def handFindings (found : List Judged) (s : State) : State :=
  let ended := found.filter (fun j => decide (j.finding = .ended))
  let qualified := found.filter (fun j => decide (j.finding = .qualified))
  eachOf qualified
    (fun j s =>
      note
        { kind := j.kind, subject := some j.channel, action := .report, condition := true
          latched := (s.tables.output j.channel).latched }
        s)
    (eachOf ended (fun j => reportEnd j.kind (some j.channel)) s)

/-- The go lamps whose FOREIGN_CURRENT a report ended (R132, step 4). -/
def foreignReleased (found : List Judged) : List Nat :=
  (found.filter (fun j => decide (j.kind = .foreignCurrent) && decide (j.finding = .ended))).map Judged.channel

/-- The taking of a usable report (R132): all readings are judged, the field conflicts and red failures are found on the states that result, and
what changed is handed on: findings, red failures, field conflicts, and the notices of ended foreign currents. -/
def takeReadings (station : Nat) (currents : List Half) (s : State) : State :=
  let (s, found) := judgeReport station currents s
  let reds := s.redChanges found
  let conflicts := s.fieldConflicts station currents
  let s := eachOf conflicts (fun g => raise (fieldConflictRaise g)) (eachOf reds handRed (handFindings found s))
  concern ((foreignReleased found).flatMap s.blockedBy) s

/-- The lamp prover takes a report; one that is not usable changes nothing (R128). -/
def proveReport (br : BranchId) (station : Nat) (applied : Option Byte) (currents : List Half) (s : State) : State :=
  if s.usable br applied then takeReadings station currents s else s

/-! ### Lag (R118) -/

/-- The report of a lagging station (R118). -/
def lagRaise (station : Nat) : Raise where
  kind := .stationLag
  subject := some station
  action := .flash
  condition := true

/-- A counted report that names the last apply sent: the lag count is 0, and lagging ends (R118). -/
def lagMatched (br : BranchId) (l : Liveness) (s : State) : State :=
  let s := changeLiveness br l.station (fun x => { x with lagCount := 0, lagging := false }) s
  if l.lagging then reportEnd .stationLag (some l.station) s else s

/-- A counted report that names another image or none: the lag count rises, and at 3 the station is lagging (R118). -/
def lagMissed (br : BranchId) (l : Liveness) (s : State) : State :=
  let count := Nat.min 3 (l.lagCount + 1)
  if count = 3 ∧ l.lagging = false then
    raise (lagRaise l.station) (changeLiveness br l.station (fun x => { x with lagCount := count, lagging := true }) s)
  else changeLiveness br l.station (fun x => { x with lagCount := count }) s

/-- Counts a report for lag, if it was received at least the settle time after the last apply sent on the branch (R118). -/
def countLag (br : BranchId) (station : Nat) (applied : Option Byte) (s : State) : State :=
  match (s.branch br).lastApply, (s.branch br).record station with
  | some (image, _), some l =>
    if s.settled br = false then s else if applied = some image then lagMatched br l s else lagMissed br l s
  | _, _ => s

end Sys2Proof.Machine
end

