-- ==== Sys2Proof/Machine/BranchEvents.lean ====
section
/-! DEFINITION. The events of the field branches: BRANCH_TRANSMISSION_END (R111, R112, R114), the answers LST, DSM, SST and FWR (R114, R115, R121),
BRANCH_FRAME_DISCARDED (R114), and the expiries of the waits and of the re-poll timer (R117, R121). An event that is not due, or a frame that is not
the awaited answer, changes nothing but the receive assembler (R114, log 4, log 19). -/

namespace Sys2Proof.Machine

/-! ### Transmissions -/

/-- Starts waiting for an answer: the deadline comes so many ms after the end of the transmission (R114). -/
def await (br : BranchId) (station : Nat) (tag : Option Byte) (ms : Nat) (s : State) : State :=
  changeBranch br
    (fun b => { b with awaited := some { station := station, tag := tag, deadline := laterBy s.clock.now ms } }) s

/-- The wait for the answer to a poll, in ms (R114). -/
def pollWaitMs : Nat := 5

/-- The wait for the answer to a forwarded frame, in ms (R114). -/
def forwardWaitMs : Nat := 20

/-- What the end of a transmission does (R112, R114, R127). -/
def endTransmission (br : BranchId) (f : BranchFrame) (s : State) : State :=
  let s := changeBranch br (fun b => { b with sending := none }) s
  match f with
  | .drv _ _ _ => s
  | .apl image carried =>
    takeApply br carried (changeBranch br (fun b => { b with lastApply := some (image, s.clock.now) }) s)
  | .pol station => await br station none pollWaitMs s
  | .fwd entry => await br entry.station (some entry.tag) forwardWaitMs s

/-- BRANCH_TRANSMISSION_END (R111): the freed transmitter starts its next transmission at the end of the event. -/
def execBranchTransmissionEnd (branch : BranchId) (s : State) : Host.Outcome State Fault Refusal :=
  eventOutcome
    (fun s =>
      match (s.branch branch).sending with
      | some f => endTransmission branch f s
      | none => s)
    s

/-! ### Poll answers -/

/-- The receive assembler of a branch is receiving, so that a frame now complete was taken from its first character (R179). -/
def State.hearsOn (s : State) (br : BranchId) : Bool := decide ((s.branch br).assembler = .receiving)

/-- A frame from a station is the answer to the outstanding poll: it was taken from its first character (R179), the record names a POL to that
station, and the station stands in the table on the branch with the role that answers so (R114, R122). -/
def State.answersPoll (s : State) (br : BranchId) (station : Nat) (role : Role) : Bool :=
  s.hearsOn br && (match (s.branch br).awaited with
    | some w => decide (w.station = station) && w.tag.isNone
    | none => false)
    && decide (s.tables.roleOn br station = some role)

/-- The idle gap that ends a frame on a branch leaves its assembler receiving (R179, log 19). -/
def receivedOn (br : BranchId) (s : State) : State := changeBranch br (fun b => { b with assembler := .receiving }) s

/-- The station is ABSENT (R107). -/
def State.absent (s : State) (br : BranchId) (station : Nat) : Bool :=
  ((s.branch br).record station).any (fun l => !l.present)

/-- The receipt of a poll answer (R115, R117): the wait ends, poll timeouts become 0, and an ABSENT station returns to PRESENT with the end of its
STATION_ABSENT. -/
def pollAnswered (br : BranchId) (station : Nat) (s : State) : State :=
  let was := s.absent br station
  let s := changeBranch br (fun b => { b with awaited := none }) s
  let s := changeLiveness br station
    (fun l => { l with timeouts := 0, present := true, repoll := if was then none else l.repoll,
                       repollDue := l.repollDue && !was }) s
  if was then reportEnd .stationAbsent (some station) s else s

/-- The meaning of a poll answer from a station of a role, with what the receiving block does with it (R114, R115). -/
def answerOutcome (br : BranchId) (station : Nat) (role : Role) (take : State → State) (s : State) :
    Host.Outcome State Fault Refusal :=
  eventOutcome
    (fun s =>
      if s.answersPoll br station role then take s else receivedOn br s)
    s

/-- LST_RECEIVED (R115): the applied image is kept, the report is proved (R132), then counted for lag (R118). -/
def execLstReceived (branch : BranchId) (station : Nat) (applied : Option Byte) (currents : List Half) (s : State) :
    Host.Outcome State Fault Refusal :=
  answerOutcome branch station .output
    (fun s =>
      countLag branch station applied
        (proveReport branch station applied currents
          (changeLiveness branch station (fun l => { l with lastApplied := applied }) (pollAnswered branch station s))))
    s

/-- DSM_RECEIVED (R115, R142): the sample is taken by the detector conditioner, together with the notice of a return (R149). -/
def execDsmReceived (branch : BranchId) (station : Nat) (inputs : List DsmInput) (s : State) :
    Host.Outcome State Fault Refusal :=
  answerOutcome branch station .detector
    (fun s =>
      takeSample station inputs
        (if s.absent branch station then stationBack station (pollAnswered branch station s)
          else pollAnswered branch station s))
    s

/-- SST_RECEIVED (R115): the status becomes the station's last sign status. -/
def execSstReceived (branch : BranchId) (station : Nat) (status : List Byte) (s : State) :
    Host.Outcome State Fault Refusal :=
  answerOutcome branch station .sign
    (fun s =>
      changeLiveness branch station (fun l => { l with lastSign := some status }) (pollAnswered branch station s))
    s

/-! ### Forwarded frames -/

/-- The tag of the outstanding forwarded frame to a station of the branch that a frame now complete answers (R114, R122, R179). -/
def State.forwardTag (s : State) (br : BranchId) (station : Nat) : Option Byte :=
  match (s.branch br).awaited with
  | some w =>
    if s.hearsOn br = true ∧ w.station = station ∧ (s.tables.roleOn br station).isSome = true then w.tag else none
  | none => none

/-- The outstanding answer of a branch ends. -/
def endWait (br : BranchId) (s : State) : State := changeBranch br (fun b => { b with awaited := none }) s

/-- The FWR that returns a station's answer (R121, R181): with the answer's kind and payload, or RANGE when the payload is longer than 196
bytes. -/
def forwardAnswer (tag : Byte) (station : Nat) (payload : List Byte) : OutFrame :=
  if 196 < payload.length then .fwr tag (byteOf station) .range []
  else .fwr tag (byteOf station) .ok (0x22 :: payload)

/-- FWR_RECEIVED (R121): the answer ends the wait and is returned to the controller. -/
def execFwrReceived (branch : BranchId) (station : Nat) (payload : List Byte) (s : State) :
    Host.Outcome State Fault Refusal :=
  .next
    (whileUp
      (fun s =>
        match s.forwardTag branch station with
        | some tag =>
          asEvent (endWait branch) (send (forwardAnswer tag station payload)) s
        | none => asEvent (receivedOn branch) id s)
      s)

/-- BRANCH_FRAME_DISCARDED (R114, R179): an answer wait runs on through it. -/
def execBranchFrameDiscarded (branch : BranchId) (cause : Discard) (s : State) : Host.Outcome State Fault Refusal :=
  .next
    (whileUp
      (fun s =>
        changeBranch branch (fun b => { b with assembler := afterDiscard cause }) s)
      s)

/-! ### Expiries -/

/-- The outstanding poll, or the outstanding forwarded frame, has reached its deadline: the wait that it ends (R114). -/
def State.waitOver (s : State) (br : BranchId) (forwarded : Bool) : Option Awaited :=
  (s.branch br).awaited.filter (fun w => w.tag.isSome == forwarded && reached w.deadline s.clock.now)

/-- The report of an absent station: FLASH for an OUTPUT station in a permit mode, report otherwise (R117). -/
def absentRaise (role : Option Role) (mode : Mode) (station : Nat) : Raise where
  kind := .stationAbsent
  subject := some station
  action := if role = some .output ∧ mode.permit = true then .flash else .report
  condition := true

/-- The re-poll interval of an ABSENT station: 1 s in 10 ms units (R117). -/
def repollUnits : Nat := 100

/-- The station becomes ABSENT (R117): its fault is reported with the action of its role and the mode, and then a DETECTOR station's channels are told
(R149; log 52). -/
def becomeAbsent (br : BranchId) (station : Nat) (s : State) : State :=
  let role := s.tables.roleOn br station
  let s := changeLiveness br station
    (fun l => { l with present := false, timeouts := 3, repoll := some repollUnits, lagCount := 0 }) s
  let s := raise (absentRaise role s.control.mode station) s
  if role = some .detector then stationLost station s else s

/-- A poll ends without an answer (R117). -/
def pollMissed (br : BranchId) (station : Nat) (s : State) : State :=
  match (s.branch br).record station with
  | some l =>
    if l.present = false then changeLiveness br station (fun x => { x with repoll := some repollUnits }) s
    else if 3 ≤ l.timeouts + 1 then becomeAbsent br station s
    else changeLiveness br station (fun x => { x with timeouts := l.timeouts + 1 }) s
  | none => s

/-- POLL_ANSWER_TIMEOUT (R117). -/
def execPollAnswerTimeout (branch : BranchId) (s : State) : Host.Outcome State Fault Refusal :=
  eventOutcome
    (fun s =>
      match s.waitOver branch false with
      | some w => pollMissed branch w.station (endWait branch s)
      | none => s)
    s

/-- FORWARD_ANSWER_TIMEOUT (R121): the controller receives an FWR with NOANSWER. -/
def execForwardAnswerTimeout (branch : BranchId) (s : State) : Host.Outcome State Fault Refusal :=
  .next
    (whileUp
      (fun s =>
        match s.waitOver branch true with
        | some w => asEvent (endWait branch) (send (.fwr (w.tag.getD 0) (byteOf w.station) .noAnswer [])) s
        | none => s)
      s)

/-- The re-poll timer of a station's record runs out (R117). -/
def Liveness.repollOver (l : Liveness) (station : Nat) : Bool :=
  decide (l.station = station) && decide (l.repoll = some 0)

/-- REPOLL_TIMER_EXPIRY (R117): the timer is removed and the re-poll is due. -/
def execRepollTimerExpiry (station : Nat) (s : State) : Host.Outcome State Fault Refusal :=
  eventOutcome
    (eachOf branchIds (fun br =>
      changeBranch br (fun b =>
        { b with
          liveness := b.liveness.map (fun l =>
            if l.repollOver station then { l with repoll := none, repollDue := true } else l) })))
    s

end Sys2Proof.Machine
end

