-- ==== Sys2Proof/Machine/DetectorEvents.lean ====
section
/-! DEFINITION. The deadlines of a detector channel: STUCK_DEADLINE_EXPIRY and IDLE_DEADLINE_EXPIRY (R147). An expiry that is not due changes nothing
(log 4). -/

namespace Sys2Proof.Machine

/-- The stuck deadline of channel `c` is reached (R147). -/
def State.stuckOver (s : State) (c : Nat) : Bool :=
  (s.detector c).any (fun d => d.stuckAt.any (fun t => reached t s.clock.now))

/-- The idle deadline of channel `c` is reached (R147). -/
def State.idleOver (s : State) (c : Nat) : Bool :=
  (s.detector c).any (fun d => d.idleAt.any (fun t => reached t s.clock.now))

/-- STUCK_DEADLINE_EXPIRY (R147): DETECTOR_STUCK is raised and the deadline is removed; then the entry into fault is decided (R149). -/
def execStuckDeadlineExpiry (channel : Nat) (s : State) : Host.Outcome State Fault Refusal :=
  eventOutcome
    (fun s =>
      if s.stuckOver channel then
        decideFault channel (raiseDetector .stuck channel (changeDetector channel (fun d => { d with stuckAt := none }) s))
      else s)
    s

/-- IDLE_DEADLINE_EXPIRY (R147): DETECTOR_IDLE is raised and the deadline is removed; then the entry into fault is decided (R149). -/
def execIdleDeadlineExpiry (channel : Nat) (s : State) : Host.Outcome State Fault Refusal :=
  eventOutcome
    (fun s =>
      if s.idleOver channel then
        decideFault channel (raiseDetector .idle channel (changeDetector channel (fun d => { d with idleAt := none }) s))
      else s)
    s

end Sys2Proof.Machine
end

