-- ==== Sys2Proof/Machine/PlanEvents.lean ====
section
/-! DEFINITION. The expiries of the preemption plans: PLAN_DELAY_END (R97), PLAN_DWELL_END (R99), PLAN_DURATION_EXPIRY (R100). An expiry that is not
due changes nothing (log 4). -/

namespace Sys2Proof.Machine

/-- The top plan is in DELAY and its entry delay has run out (R97). -/
def State.delayOver (s : State) : Bool :=
  match s.preempt.stack with
  | top :: _ => decide (top.phase = .delay) && decide (top.delay = some 0)
  | [] => false

/-- PLAN_DELAY_END (R97): the plan enters ENTRY and its overlay is laid. -/
def execPlanDelayEnd (s : State) : Host.Outcome State Fault Refusal :=
  eventOutcome (fun s => if s.delayOver then advance stepLimit s else s) s

/-- The top plan is in DWELL and its dwell has run out (R99). -/
def State.dwellOver (s : State) : Bool :=
  match s.preempt.stack with
  | top :: _ => decide (top.phase = .dwell) && decide (top.dwell = some 0)
  | [] => false

/-- PLAN_DWELL_END (R99): the plan ends or enters HOLD. -/
def execPlanDwellEnd (s : State) : Host.Outcome State Fault Refusal :=
  eventOutcome (fun s => if s.dwellOver then advance stepLimit s else s) s

/-- A stacked plan's maximum duration has run out (R100). -/
def State.durationOver (s : State) (p : Nat) : Bool :=
  s.preempt.stack.any (fun x => decide (x.plan = p) && decide (x.duration = some 0))

/-- A plan ends by its maximum duration (R100): the spent mark of a LEVEL plan whose source is active is set, the plan leaves the stack with the
outcome TIMED_OUT, and PLAN_TIMEOUT is reported. -/
def timeOut (p : Nat) (s : State) : State :=
  let s := changePlan p (fun x => { x with spent := x.spent || ((s.tables.plan p).level && x.active) }) s
  noteOccurrence .planTimeout (some p) (unstack p .timedOut s)

/-- What follows the removal of a timed-out plan (R100, R101): taking is considered; when the plan was the top, the plan that is then on top makes
its steps. -/
def afterTimeOut (wasTop : Bool) (s : State) : State :=
  if wasTop then advance stepLimit (consider s) else considerTaking s

/-- PLAN_DURATION_EXPIRY (R100). -/
def execPlanDurationExpiry (plan : Nat) (s : State) : Host.Outcome State Fault Refusal :=
  eventOutcome
    (fun s => if s.durationOver plan then afterTimeOut (s.topAmong [plan]) (timeOut plan s) else s) s

end Sys2Proof.Machine
end

