-- ==== Sys2Proof/Machine/TimerEvents.lean ====
section
/-! DEFINITION. The expiries of supervision and start-up (R51, R73, R74) and of the groups' timed aspects (R10 to R13, R34). An expiry that is not
due changes nothing (log 4). -/

namespace Sys2Proof.Machine

/-- START_UP_STOP_TIMER_EXPIRY (R51): RUNNING is entered if an image has already been accepted. -/
def execStartUpStopTimerExpiry (s : State) : Host.Outcome State Fault Refusal :=
  eventOutcome
    (fun s =>
      if s.control.mode = .start ∧ s.control.startTimer = some (.running 0) then
        let s := { s with control.startTimer := some .expired }
        if s.control.firstImage = some true then enterRunning .startDone s else s
      else s)
    s

/-- The report of a controller that fell silent in START (R52, R78). -/
def noControllerRaise : Raise where
  kind := .noController
  subject := none
  action := .flash
  condition := false

/-- SUPERVISION_TIMER_EXPIRY (R73): NO_CONTROLLER in START, WARNING in RUNNING. -/
def execSupervisionTimerExpiry (s : State) : Host.Outcome State Fault Refusal :=
  eventOutcome
    (fun s =>
      if s.exchange.supervision = some (.running 0) then
        let s := { s with exchange.supervision := some .expired }
        match s.control.mode with
        | .start => raise noControllerRaise s
        | .running => enterWarning s
        | .warning | .closing | .loading | .flash | .lockout => s
      else s)
    s

/-- The close target that the strike count chooses (R54, R74). -/
def closeTargetOf (strikes : Nat) : CloseTarget := if strikes = 2 then .lockout else .flash

/-- The report of a supervision close (R74, R78). -/
def supervisionCloseRaise : Raise where
  kind := .supervisionClose
  subject := none
  action := .close
  condition := false

/-- A supervision close (R74), in its order: the strike, the close target, the end of SUPERVISION, and SUPERVISION_CLOSE with the target. The count
is never greater than 2 (R77). -/
def superviseClose (s : State) : State :=
  let strikes := Nat.min 2 (s.exchange.strikes + 1)
  let s := endLapse { s with exchange.strikes := strikes }
  takeAction supervisionCloseRaise (closeTargetOf strikes) (note supervisionCloseRaise s)

/-- WARNING_WINDOW_EXPIRY (R74). -/
def execWarningWindowExpiry (s : State) : Host.Outcome State Fault Refusal :=
  eventOutcome
    (fun s => if s.control.mode = .warning ∧ s.exchange.warning = some 0 then superviseClose s else s) s

/-! ### Groups -/

/-- The end of a group's PREPARE is due (R5, R11). -/
def State.prepareOver (s : State) (g : Nat) : Bool :=
  s.tables.live g && decide (s.shown g = .prepare) && decide ((s.tables.group g).prepareUnits ≤ (s.group g).time)

/-- The end of a group's CLEAR is due (R5, R13). -/
def State.clearOver (s : State) (g : Nat) : Bool :=
  s.tables.live g && decide (s.shown g = .clear) && decide ((s.tables.group g).clearUnits ≤ (s.group g).time)

/-- A group held in GO has reached its minimum GO (R12). -/
def State.minGoOver (s : State) (g : Nat) : Bool :=
  s.tables.live g && decide (s.shown g = .go) && decide ((s.group g).note = .held)
    && decide ((s.tables.group g).minGoUnits ≤ (s.group g).time)

/-- A group held in STOP has reached its minimum STOP (R10). -/
def State.minStopOver (s : State) (g : Nat) : Bool :=
  s.tables.live g && decide (s.shown g = .stop) && decide ((s.group g).note = .held)
    && decide ((s.tables.group g).minStopUnits ≤ (s.group g).time)

/-- A group's deferral timer has run out (R34). -/
def State.deferralOver (s : State) (g : Nat) : Bool := s.tables.live g && decide ((s.group g).deferral = some 0)

/-- An expiry of a group re-evaluates that group (R20). -/
def groupExpiry (due : State → Nat → Bool) (g : Nat) (s : State) : State := if due s g then concern [g] s else s

/-- END_OF_PREPARE (R11). -/
def execEndOfPrepare (group : Nat) (s : State) : Host.Outcome State Fault Refusal :=
  eventOutcome (groupExpiry State.prepareOver group) s

/-- END_OF_CLEAR (R13). -/
def execEndOfClear (group : Nat) (s : State) : Host.Outcome State Fault Refusal :=
  eventOutcome (groupExpiry State.clearOver group) s

/-- MINIMUM_GO_REACHED (R12). -/
def execMinimumGoReached (group : Nat) (s : State) : Host.Outcome State Fault Refusal :=
  eventOutcome (groupExpiry State.minGoOver group) s

/-- MINIMUM_STOP_REACHED (R10). -/
def execMinimumStopReached (group : Nat) (s : State) : Host.Outcome State Fault Refusal :=
  eventOutcome (groupExpiry State.minStopOver group) s

/-- DEFERRAL_TIMER_EXPIRY (R34). -/
def execDeferralTimerExpiry (group : Nat) (s : State) : Host.Outcome State Fault Refusal :=
  eventOutcome (groupExpiry State.deferralOver group) s

end Sys2Proof.Machine
end

