-- ==== Sys2Proof/Machine/Clock.lean ====
section
/-! DEFINITION. The passing of time: one millisecond of cabinet time, the 10 ms counts, and the expiries that are then due (log 1 to log 3). -/

namespace Sys2Proof.Machine

/-! ### The 10 ms counts -/

/-- A count that stops at 65 535 (R5). -/
def saturating (n : Nat) : Nat := Nat.min Config.saturation (n + 1)

/-- A group's counts (R5, R34). -/
def Group.count (x : Group) : Group :=
  { x with time := saturating x.time, clearance := saturating x.clearance, deferral := x.deferral.map (· - 1) }

/-- A countdown that stands expired once it has run out. -/
def Countdown.count : Countdown → Countdown
  | .running n => .running (n - 1)
  | .expired => .expired

/-- The duration of a stacked plan runs whether it is the top or suspended (R100). -/
def Stacked.countDuration (x : Stacked) : Stacked := { x with duration := x.duration.map (· - 1) }

/-- The delay and the dwell of the top plan run (R97, R99). -/
def Stacked.countTop (x : Stacked) : Stacked :=
  { x with delay := x.delay.map (· - 1), dwell := x.dwell.map (· - 1) }

/-- The counts of the plan stack: every duration, and the delay and dwell of the top. -/
def countStack (stack : List Stacked) : List Stacked :=
  match stack.map Stacked.countDuration with
  | top :: rest => top.countTop :: rest
  | [] => []

/-- A station's re-poll timer (R117). -/
def Liveness.count (l : Liveness) : Liveness := { l with repoll := l.repoll.map (· - 1) }

/-- All counts in units of 10 ms move by one (R5, R51, R72, R74, R83, R117). -/
def countUnits (s : State) : State :=
  { s with
    engine.groups := s.engine.groups.map Group.count
    control.startTimer := s.control.startTimer.map Countdown.count
    exchange.supervision := s.exchange.supervision.map Countdown.count
    exchange.warning := s.exchange.warning.map (· - 1)
    preempt.stack := countStack s.preempt.stack
    branches := s.branches.map (fun b => { b with liveness := b.liveness.map Liveness.count }) }

/-! ### The expiries that are due -/

/-- The groups of which an expiry is due, as commands. -/
def dueGroups (s : State) (due : State → Nat → Bool) (command : Nat → Instr) : List Instr :=
  (groupNumbers.filter (due s)).map command

/-- A branch's wait that has reached its deadline (R114). -/
def dueWait (s : State) (br : BranchId) : List Instr :=
  (if (s.waitOver br false).isSome then [.pollAnswerTimeout br] else [])
    ++ (if (s.waitOver br true).isSome then [.forwardAnswerTimeout br] else [])

/-- The re-poll timers of a branch that have run out (R117). -/
def dueRepolls (s : State) (br : BranchId) : List Instr :=
  ((s.branch br).liveness.filter (fun l => decide (l.repoll = some 0))).map (fun l => .repollTimerExpiry l.station)

/-- The expiries that are due, in the model's fixed order (log 3). -/
def dueCommands (s : State) : List Instr :=
  (if s.control.mode = .start ∧ s.control.startTimer = some (.running 0) then [.startUpStopTimerExpiry] else [])
    ++ (if s.exchange.supervision = some (.running 0) then [.supervisionTimerExpiry] else [])
    ++ (if s.control.mode = .warning ∧ s.exchange.warning = some 0 then [.warningWindowExpiry] else [])
    ++ dueGroups s State.prepareOver .endOfPrepare
    ++ dueGroups s State.clearOver .endOfClear
    ++ dueGroups s State.minGoOver .minimumGoReached
    ++ dueGroups s State.minStopOver .minimumStopReached
    ++ dueGroups s State.deferralOver .deferralTimerExpiry
    ++ (if s.delayOver then [.planDelayEnd] else [])
    ++ (if s.dwellOver then [.planDwellEnd] else [])
    ++ (planNumbers.filter s.durationOver).map .planDurationExpiry
    ++ branchIds.flatMap (dueWait s)
    ++ branchIds.flatMap (dueRepolls s)
    ++ (s.detectorChannels.filter s.stuckOver).map .stuckDeadlineExpiry
    ++ (s.detectorChannels.filter s.idleOver).map .idleDeadlineExpiry

/-! ### One millisecond -/

/-- The longest time for which a line's level is filtered, in ms: that of MAINT (R63). -/
def longestFilterMs : Nat := 100

/-- Cabinet time advances by one millisecond; at every tenth all 10 ms counts move (log 2). -/
def passMillisecond (s : State) : State :=
  let phase := (s.clock.phase + 1) % 10
  let s :=
    { s with
      clock.now := s.clock.now + 1, clock.phase := phase, clock.awake := Nat.min longestFilterMs (s.clock.awake + 1) }
  if phase = 0 then countUnits s else s

/-- One millisecond of a supervisor that NRESET holds in reset: cabinet time stands, and when the line returns high LOADING begins
(R186, log 41). -/
def passLow (s : State) : State :=
  { s with clock.lowFor := s.clock.lowFor - 1, link := if s.clock.lowFor = 1 then Link.loading else s.link }

/-- One millisecond of an idle supervisor: time passes, and the commands of the expiries then due join the queue (log 1). Without supply no time
passes (log 6). -/
def tick (s : State) : State :=
  if s.clock.powered && decide (s.clock.lowFor ≠ 0) then passLow s
  else whileUp (fun s => let s := passMillisecond s; { s with pending := s.pending ++ dueCommands s }) s

end Sys2Proof.Machine
end

