-- ==== Sys2Proof/Machine/ModeFrames.lean ====
section
/-! DEFINITION. The mode request frame MOD: MOD_RUN (R47 to R49) and MOD_FLASH (R47, R50). -/

namespace Sys2Proof.Machine

/-- The kind code of a MOD frame (11, section 11.2). -/
def modKind : Byte := 0x12

/-- A store write is in flight: a commit, or a record operation (R48, R62, R160). -/
def State.storeBusy (s : State) : Bool := decide (s.store.op ≠ .idle) || decide (s.control.recordOp ≠ .none)

/-- The checks of a MOD RUN, in the order of R48. -/
def runResult (cabinet generation : Half) (s : State) : Result :=
  if s.control.mode ≠ .flash then .mode
  else if s.storeBusy then .busy
  else if s.store.active.isNone then .invalid
  else if cabinet ≠ s.tables.cabinet.number ∨ generation ≠ s.store.generation then .mismatch
  else .ok

/-- MOD_RUN (R48, R49). -/
def execModRun (cabinet generation startChain : Half) (s : State) : Host.Outcome State Fault Refusal :=
  answeredOutcome
    (fun s =>
      let result := runResult cabinet generation s
      (if result = .ok then enterStart startChain else id, reply modKind result []))
    s

/-- The result of a MOD whose request is not RUN: FLASH by the mode at its arrival (R50), or RANGE for another request (R47). -/
def flashResult (request : Byte) (s : State) : Result :=
  match s.control.mode with
  | .loading => .mode
  | .lockout => if request = 1 then .mode else .range
  | .flash | .start | .running | .warning | .closing => if request = 1 then .ok else .range

/-- MOD_FLASH (R47, R50): START, RUNNING and WARNING enter CLOSING toward FLASH (R55). -/
def execModFlash (request : Byte) (s : State) : Host.Outcome State Fault Refusal :=
  answeredOutcome
    (fun s =>
      let result := flashResult request s
      (if result = .ok ∧ s.control.mode ≠ .flash ∧ s.control.mode ≠ .closing then enterClosing .flash .modFlash else id,
        reply modKind result []))
    s

end Sys2Proof.Machine
end

