-- ==== Sys2Proof/Machine/Status.lean ====
section
/-! DEFINITION. The items of a status read, section by section (R164, R184), in the encoding of R183. Log 23 lists the widths and orders
that the rules leave to be inferred. -/

namespace Sys2Proof.Machine

/-! ### Fields -/

/-- A pair of named values, coded by place: 0 for the first, 1 for the second (R183). -/
def firstOf (isFirst : Bool) : Byte := if isFirst then 0 else 1

/-- Units remaining of a countdown, 0 once it has expired. -/
def Countdown.units : Countdown → Nat
  | .running n => n
  | .expired => 0

/-- Close targets by place: FLASH, LOCKOUT. -/
def CloseTarget.code : CloseTarget → Nat
  | .flash => 0 | .lockout => 1

/-- Close causes by place: MOD_FLASH, SUPERVISION_CLOSE. -/
def CloseCause.code : CloseCause → Nat
  | .modFlash => 0 | .supervisionClose => 1

/-- Record operations by place: none, WRITING, ERASING. -/
def RecordOp.code : RecordOp → Nat
  | .none => 0 | .writing _ _ => 1 | .erasing => 2

/-- Store operations by place: IDLE, COMMIT, RECORD. -/
def StoreOp.code : StoreOp → Nat
  | .idle => 0 | .commit => 1 | .record => 2

/-- Last commit outcomes by place: NONE, DONE, FAILED. -/
def CommitOutcome.code : CommitOutcome → Nat
  | .none => 0 | .done => 1 | .failed => 2

/-- Last outcomes of a plan by place: NONE, ENDED, ABANDONED, TIMED_OUT, CLEARED. -/
def PlanOutcome.code : PlanOutcome → Nat
  | .none => 0 | .ended => 1 | .abandoned => 2 | .timedOut => 3 | .cleared => 4

/-- Proved states by place: ON, FLASH, OFF, NONE. -/
def provedCode : Option Lamp → Nat
  | some .on => 0 | some .flash => 1 | some .off => 2 | none => 3

/-- Raw states of a detector by place: OCCUPIED, VACANT, UNKNOWN. -/
def rawCode : Option Bool → Nat
  | some true => 0 | some false => 1 | none => 2

/-- Health by place: OK, OPEN, SHORT. -/
def healthCode : Health → Nat
  | .ok => 0 | .openCircuit => 1 | .shortCircuit => 2

/-- Roles by place: OUTPUT, DETECTOR, SIGN. -/
def Role.code : Role → Nat
  | .output => 0 | .detector => 1 | .sign => 2

/-- A list of varying length: how many members, then the members (R183). -/
def listField {α : Type} (l : List α) (f : α → List Byte) : List Byte := byteOf l.length :: l.flatMap f

/-- An optional cabinet time. -/
def timeField (t : Option Time) : List Byte := optionalField 4 (t.map wordBytes)

/-! ### Section 0: cabinet -/

/-- The lockout record as the store holds it: state, kind and subject (R60; 03, section 3.8); kind and subject are 0 when it is ABSENT
(log 23). -/
def recordField (r : LockoutRecord) : List Byte :=
  match r with
  | some (kind, subject) => [1, codeByte kind.code, subjectByte subject]
  | none => [0, 0, 0]

/-- The items of the mode controller (R65). A start-up stop timer that has elapsed is sent as present with 0 (log 23). -/
def controlItem (s : State) : List Byte :=
  [codeByte s.control.mode.code, codeByte s.control.lastCause.code]
    ++ optionalField 1 (s.control.closeTarget.map (fun t => [codeByte t.code]))
    ++ optionalField 1 (s.control.closeCause.map (fun c => [codeByte c.code]))
    ++ optionalField 2 (s.control.startTimer.map (fun t => halfOf t.units))
    ++ [firstOf s.control.maint] ++ recordField s.store.nv.record ++ [codeByte s.control.recordOp.code]

/-- The items of the image exchange (R82). The supervision timer's remaining time takes one byte, since the period is at most 200 units (R183), and
an expired timer is sent as 0; one presence byte stands before the accepted image's chain, time and targets together, and each of the 24 targets takes a
byte (log 23). -/
def exchangeItem (s : State) : List Byte :=
  optionalField 2 (s.exchange.expectedChain.map halfBytes)
    ++ optionalField 30
      (s.exchange.accepted.map (fun i =>
        halfBytes i.chain ++ wordBytes i.time ++ i.targets.map (fun t => codeByte t.code)))
    ++ optionalField 1 (s.exchange.supervision.map (fun t => [byteOf t.units]))
    ++ optionalField 2 (s.exchange.warning.map halfOf)
    ++ [byteOf s.exchange.strikes] ++ halfBytes s.exchange.imagesAccepted ++ halfBytes s.exchange.imagesRefused

/-- The items of the table store (R164, R176). The generation being written and the time elapsed since the commit began each have a presence byte of
their own, and the time takes four bytes, as a cabinet time (log 23). -/
def storeItem (s : State) : List Byte :=
  halfBytes s.store.generation ++ halfOf s.store.corrected ++ [codeByte s.store.op.code]
    ++ optionalField 2 (s.store.progress.map (fun p => halfBytes p.2))
    ++ timeField (s.store.progress.map (fun p => s.clock.now - p.1))
    ++ [codeByte s.store.lastCommit.code, firstOf s.store.valid, flagByte s.store.tablesCorrected]

/-- The one item of the cabinet section (R164). -/
def cabinetItems (s : State) : List (List Byte) := [controlItem s ++ exchangeItem s ++ storeItem s]

/-! ### Section 1: faults -/

/-- A fault entry, every field of 09, section 9.1. -/
def entryItem (e : Entry) : List Byte :=
  [codeByte e.kind.code, subjectByte e.subject] ++ wordBytes e.first ++ wordBytes e.last
    ++ [byteOf e.count, firstOf e.active, flagByte e.latched, codeByte e.action.code]

/-- The fault entries in list order (R164). -/
def faultItems (s : State) : List (List Byte) := s.faults.entries.map entryItem

/-! ### Section 2: groups -/

/-- A group's record, the fields of 01, section 1.4. -/
def groupItem (x : Group) : List Byte :=
  [codeByte x.shown.code] ++ halfOf x.time ++ halfOf x.clearance ++ [codeByte x.target.code, codeByte x.note.code]
    ++ optionalField 2 (x.deferral.map halfOf)

/-- The group state table (R164). -/
def groupItems (s : State) : List (List Byte) := s.engine.groups.map groupItem

/-! ### Section 3: preemption -/

/-- An optional mark whose one value is set: a presence byte, then the value's place 0, which is 0 also when it is absent (R183). -/
def markField (present : Bool) : List Byte := optionalField 1 (if present then some [0] else none)

/-- A plan's items (R106): what the unit keeps for it, and its place, phase and counts while it is stacked. The source-active value is one
yes/no byte for a disabled plan too; the place is 1 for the top of the stack, and 0 for a plan that is not stacked (log 23). -/
def planItem (s : State) (p : Nat) : List Byte :=
  let x := s.plan p
  let place := match s.preempt.stack.findIdx? (fun y => decide (y.plan = p)) with | some k => k + 1 | none => 0
  let stacked := s.preempt.stack.find? (fun y => decide (y.plan = p))
  [flagByte x.pending] ++ markField x.spent ++ [flagByte x.active, codeByte x.outcome.code, byteOf place]
    ++ optionalField 1 (stacked.map (fun y => [codeByte y.phase.code]))
    ++ optionalField 2 ((stacked.bind Stacked.delay).map halfOf)
    ++ optionalField 2 ((stacked.bind Stacked.dwell).map halfOf)
    ++ optionalField 4 ((stacked.bind Stacked.duration).map wordOf)

/-- The items of the unit as a whole (R106). The remote call slot is a presence byte, 0 while it is empty, then the plan and its state, CALLED 0 or
CANCELLED 1; a line's filtered state is 0 for active and 1 for inactive (log 23). -/
def unitItem (s : State) : List Byte :=
  [s.preempt.inhibit]
    ++ optionalField 2 (s.preempt.slot.map (fun slot => [byteOf slot.plan, firstOf slot.called]))
    ++ [firstOf s.preempt.nestingLimit] ++ s.preempt.lines.map firstOf

/-- The preemption section: the eight plans, then the unit (R184). -/
def preemptionItems (s : State) : List (List Byte) := planNumbers.map (planItem s) ++ [unitItem s]

/-! ### Section 4: branches -/

/-- A branch's items (R123). A pending drive slot is named by its station's address, then its image number; the remaining wait is in ms
(log 23). -/
def branchItem (s : State) (b : Branch) : List Byte :=
  listField (b.slots.filter DriveSlot.pending) (fun x => [byteOf x.station, x.image])
    ++ optionalField 1 (b.applyPending.map (fun n => [n]))
    ++ optionalField 5 (b.lastApply.map (fun x => x.1 :: wordBytes x.2))
    ++ [byteOf b.fifo.length]
    ++ optionalField 3
      (b.awaited.map (fun w =>
        [byteOf w.station, firstOf w.tag.isNone,
          if reached w.deadline s.clock.now then 0 else byteOf (w.deadline - s.clock.now).toNat]))

/-- A station's items (R123). The last sign status is a presence byte and a list; an absent one is presence 0 and the one byte 0 of an empty list
(log 23). -/
def stationItem (br : BranchId) (r : StationRec) (l : Liveness) : List Byte :=
  [byteOf (placeOf br - 1), codeByte r.roleOf.code, firstOf l.present, byteOf l.timeouts, byteOf l.lagCount,
      flagByte l.lagging]
    ++ optionalField 1 (l.lastApplied.map (fun n => [n]))
    ++ optionalField 1 (l.lastSign.map (fun status => listField status (fun b => [b])))

/-- The items of the stations of the active table, in ascending address (R184). -/
def stationItems (s : State) : List (List Byte) :=
  (numbers Config.stations).filterMap (fun address =>
    match s.tables.branchOf address, s.tables.station address with
    | some br, some r => some (stationItem br r (((s.branch br).record address).getD (Liveness.fresh address)))
    | _, _ => none)

/-- The branches section: the four branches, then the stations (R184). -/
def branchItems (s : State) : List (List Byte) := s.branches.map (branchItem s) ++ stationItems s

/-! ### Section 5: proving -/

/-- The live groups of which RED_FAIL is active (R138). -/
def State.redFailSet (s : State) : BitVec 24 := setOf Config.groups (fun g => s.tables.live g && s.redFail g)

/-- A channel's items (R138), with both released marks for a channel that is not latched too, followed by the set of the live groups of which RED_FAIL is active, which every item carries (log 23). -/
def provingItem (s : State) (c : Nat) : List Byte :=
  let x := s.proving c
  [codeByte (provedCode x.proved), flagByte (s.tables.proved c)] ++ timeField x.outRun ++ timeField x.foreignRun
    ++ [firstOf x.lampOut, flagByte x.lampOutReleased, firstOf x.foreign, flagByte x.foreignReleased]
    ++ optionalField 6 (x.last.map (fun l => halfBytes l.1 ++ wordBytes l.2))
    ++ tripleBytes s.redFailSet

/-- The proving section: the 96 channels (R184). -/
def provingItems (s : State) : List (List Byte) := s.channelNumbers.map (provingItem s)

/-! ### Section 6: detectors -/

/-- The call of a channel, set or clear, by place (R183), then its date, which is 0 while the call is clear (log 23). -/
def callField (call : Option Time) : List Byte := firstOf call.isSome :: wordBytes (call.getD 0)

/-- A detector channel's items (R155). -/
def detectorItem (d : Detector) : List Byte :=
  [codeByte (rawCode d.raw), byteOf d.pending.length, firstOf d.occupied] ++ wordBytes d.since
    ++ [codeByte (healthCode d.health)] ++ timeField d.okSince ++ timeField d.stuckAt ++ timeField d.idleAt
    ++ listField d.onsets wordBytes
    ++ [byteOf ((if d.openFault then 1 else 0) + (if d.shortFault then 2 else 0) + (if d.stuckFault then 4 else 0)
        + (if d.idleFault then 8 else 0) + (if d.chatterFault then 16 else 0)), flagByte d.stationAbsent]
    ++ callField d.call ++ [firstOf d.reported] ++ wordBytes d.reportedSince ++ [flagByte d.inFault]

/-- The channels in use, in ascending number (R184). -/
def detectorItems (s : State) : List (List Byte) :=
  s.detectors.filterMap (fun d => d.map detectorItem)

/-! ### The reply -/

/-- The items of a section; none for a number outside the table of R164. -/
def statusItems (s : State) (part : Nat) : Option (List (List Byte)) :=
  match part with
  | 0 => some (cabinetItems s)
  | 1 => some (faultItems s)
  | 2 => some (groupItems s)
  | 3 => some (preemptionItems s)
  | 4 => some (branchItems s)
  | 5 => some (provingItems s)
  | 6 => some (detectorItems s)
  | _ => none

/-- As many whole items as fit in a number of bytes (R164, R184). -/
def wholeItems : Nat → List (List Byte) → List (List Byte)
  | _, [] => []
  | room, item :: rest => if item.length ≤ room then item :: wholeItems (room - item.length) rest else []

/-- Bytes that items can take in a reply: a payload of 200, less the kind, the result, the section, the first item, the two numbers of items
and the change number (R184). -/
def itemRoom : Nat := 191

/-- The answer to a status read (R164, R184): RANGE for a section outside the table or a first item beyond the section's end, also where
the section has no items (log 24). -/
def statusAnswer (part : Byte) (first : Half) (s : State) : Result × List Byte :=
  match statusItems s part.toNat with
  | some items =>
    if items.length < first.toNat then (.range, [])
    else
      let asked := items.drop first.toNat
      let carried := wholeItems itemRoom asked
      (.ok, [part] ++ halfBytes first ++ [byteOf carried.length, byteOf (asked.length - carried.length)]
        ++ halfBytes s.faults.changeNumber ++ carried.flatten)
  | none => (.range, [])

end Sys2Proof.Machine
end

