-- ==== Sys2Proof/Machine/FaultFrames.lean ====
section
/-! DEFINITION. The frames of the fault list: the status read STA (R164) and the fault clear FCL (R131, R160, R161, R64). -/

namespace Sys2Proof.Machine

/-- The kind code of an STA frame (11, section 11.2). -/
def staKind : Byte := 0x17

/-- The kind code of an FCL frame (11, section 11.2). -/
def fclKind : Byte := 0x18

/-- STA (R164): the reply reads the state as it stands at the event. -/
def execSta (part : Byte) (first : Half) (s : State) : Host.Outcome State Fault Refusal :=
  frameOutcome id (fun s => reply staKind (statusAnswer part first s).1 (statusAnswer part first s).2 s) s

/-- The checks of an FCL, in the order of R160. -/
def clearResult (s : State) : Result :=
  if s.control.mode = .loading then .mode
  else if s.storeBusy then .busy
  else if s.control.mode = .lockout ∧ s.control.maint = false then .maint
  else .ok

/-- The go lamps whose FOREIGN_CURRENT was active in one state and is not in another. -/
def foreignEnded (before after : State) : List Nat :=
  before.channelNumbers.filter (fun c => (before.proving c).foreign && !(after.proving c).foreign)

/-- Step 1 of an accepted FCL (R161): the lamp prover ends its latched faults (R131), then evaluates red failure (R134). In a permit mode it
gives the aspect engine a notice for each go lamp whose foreign current the clear has ended. -/
def clearLatched (s : State) : State :=
  let cleared := eachOf s.channelNumbers clearChannel s
  let judged := evaluateReds cleared
  if s.control.mode.permit then concern ((foreignEnded s cleared).flatMap judged.blockedBy) judged else judged

/-- Steps 2 to 4 of an accepted FCL (R161): every ENDED entry is removed, the latched flags of the rest are cleared, and the nesting-limit flag
too. The change number advances once for the clear (log 28). -/
def pruneFaults (s : State) : State :=
  { s with
    faults.entries := (s.faults.entries.filter Entry.active).map (fun e => { e with latched := false })
    faults.changeNumber := s.faults.changeNumber + 1
    preempt.nestingLimit := false }

/-- Step 5 of an accepted FCL (R161): with MAINT active the strike count is 0 (R77), and LOCKOUT is left for FLASH with a record erase (R64). -/
def clearStrikes (s : State) : State :=
  if s.control.maint then
    let s := { s with exchange.strikes := 0 }
    if s.control.mode = .lockout then changeFlashMode .flash .maintClear none (startRecordErase s) else s
  else s

/-- How many entries an accepted FCL removes: those that are ENDED after its first step (R160, R161). -/
def removedCount (s : State) : Nat := ((clearLatched s).faults.entries.filter (fun e => !e.active)).length

/-- FCL (R160, R161). -/
def execFcl (s : State) : Host.Outcome State Fault Refusal :=
  answeredOutcome
    (fun s =>
      let result := clearResult s
      if result = .ok then
        (fun s => clearStrikes (pruneFaults (clearLatched s)), reply fclKind .ok [byteOf (removedCount s)])
      else (id, reply fclKind result []))
    s

end Sys2Proof.Machine
end

