-- ==== Sys2Proof/Machine/ImageFrames.lean ====
section
/-! DEFINITION. The image frame IMG: its checks (R67 to R69), acceptance (R70), refusal (R71), and the echo frame that answers it (R79, R80). -/

namespace Sys2Proof.Machine

/-- The 24 targets that an image frame carries, group 1 first (R182). -/
def targetsOf (targets : BitVec 48) : List Target := groupNumbers.map (fun g => targetOfCode (targetCode targets g))

/-- Some target has the value 3 (R69). -/
def undefinedTarget (targets : BitVec 48) : Bool := groupNumbers.any (fun g => decide (targetCode targets g = 3))

/-- The checks of an image frame, in the order of R67. -/
def imageResult (chain next : Half) (targets : BitVec 48) (s : State) : Result :=
  if s.control.mode.permit = false then .mode
  else if s.exchange.expectedChain ≠ some chain then .chain
  else if next = chain then .range
  else if undefinedTarget targets then .range
  else if s.requestedConflict (targetsOf targets) then .conflict
  else .ok

/-- The image exchange keeps an accepted image (R70): the frame becomes the accepted image, the chain advances, the counter too, and the
supervision timer is set but in CLOSING. -/
def keepImage (chain next : Half) (inhibit : Byte) (targets : BitVec 48) (s : State) : State :=
  { s with
    exchange.accepted :=
      some { chain := chain, next := next, inhibit := inhibit, targets := targetsOf targets, time := s.clock.now }
    exchange.expectedChain := some next
    exchange.imagesAccepted := s.exchange.imagesAccepted + 1
    exchange.supervision :=
      if s.control.mode = .closing then s.exchange.supervision
      else some (.running (s.tables.cabinet.supervision.toNat * 10))
    preempt.inhibit := inhibit }

/-- Acceptance of an image (R70): WARNING returns to RUNNING (R53), the first image in START is noted and may let RUNNING be entered (R51), and
a changed inhibit mask makes the preemption unit consider taking (R92, R94). Where acceptance also enters RUNNING, from START or from WARNING, the
taking considered at that mode change reads the mask that the frame carries (log 47: R70 does not say in which order its effects come). -/
def acceptImage (chain next : Half) (inhibit : Byte) (targets : BitVec 48) (s : State) : State :=
  let mask := s.preempt.inhibit
  let s := keepImage chain next inhibit targets s
  match s.control.mode with
  | .warning => enterRunning .imageResumed s
  | .start =>
    let s := { s with control.firstImage := some true }
    if s.control.startTimer = some .expired then enterRunning .startDone s else s
  | .running => if inhibit = mask then s else considerTaking s
  | .closing | .loading | .flash | .lockout => s

/-- Refusal of an image (R71): it counts as refused, a CHAIN or CONFLICT refusal reports its fault, and in WARNING every refusal is a recurrence
of SUPERVISION, reported behind the refusal's own fault (log 52). -/
def refuseImage (result : Result) (s : State) : State :=
  let s := { s with exchange.imagesRefused := s.exchange.imagesRefused + 1 }
  let s :=
    match result with
    | .chain => noteOccurrence .chain none s
    | .conflict => noteOccurrence .requestedConflict none s
    | _ => s
  if s.control.mode = .warning then
    note { kind := .supervision, subject := none, action := .report, condition := true } s
  else s

/-- The echo frame as the blocks stand (R80). -/
def State.echo (s : State) (result : Result) : Ech where
  result := result
  mode := s.control.mode
  strikes := s.exchange.strikes
  imageNumber := s.engine.imageNumber
  groups := s.engine.groups.map (fun x => { shown := x.shown, note := x.note })
  topPlan := s.topPlan
  depth := s.preempt.stack.length
  pendingSet := s.pendingSet
  reportsLost := s.link.reportsLost
  nestingLimit := s.preempt.nestingLimit
  tablesCorrected := s.store.tablesCorrected
  activeFaults := s.faults.activeCount
  worst := s.worst

/-- The answer to an image frame: one echo frame, built at the end of the event (R79). -/
def echoAnswer (result : Result) (s : State) : State := send (.ech (s.echo result)) s

/-- IMG (R67, R70, R71, R79). -/
def execImg (chain next : Half) (inhibit : Byte) (targets : BitVec 48) (s : State) : Host.Outcome State Fault Refusal :=
  answeredOutcome
    (fun s =>
      let result := imageResult chain next targets s
      (if result = .ok then acceptImage chain next inhibit targets else refuseImage result, echoAnswer result))
    s

end Sys2Proof.Machine
end

