-- ==== Sys2Proof/Machine/LineEvents.lean ====
section
/-! DEFINITION. The filtered input lines: MAINT_STATE_CHANGE (R63) and PE_LINE_CHANGE (R86). -/

namespace Sys2Proof.Machine

/-- How long MAINT must hold a level, in ms (R63). -/
def maintFilterMs : Nat := 100

/-- How long a preemption line must hold a level, in ms (R86). -/
def lineFilterMs : Nat := 30

/-- A line has been at a level for so long since the reset (R63, R86): a hold that began before the reset counts from the reset. -/
def State.heldSince (s : State) (heldMs filterMs : Nat) : Bool := decide (filterMs ≤ heldMs) && decide (filterMs ≤ s.clock.awake)

/-- MAINT_STATE_CHANGE (R63): the state becomes the level that the line has held for 100 ms; a shorter change leaves it. -/
def execMaintStateChange (active : Bool) (heldMs : Nat) (s : State) : Host.Outcome State Fault Refusal :=
  .next (whileUp (fun s => if s.heldSince heldMs maintFilterMs then { s with control.maint := active } else s) s)

/-- The filtered state of preemption line `line`. -/
def State.line (s : State) (line : Nat) : Bool := entryD s.preempt.lines line false

/-- A change of the filtered state of a line (R86): a rising edge, or the source going inactive, for each plan whose source is the line. -/
def changeLine (line : Nat) (active : Bool) (s : State) : State :=
  let s := { s with preempt.lines := changeEntry s.preempt.lines line (fun _ => active) }
  if active then sourcesActive true (s.plansOnLine line) s else sourcesInactive (s.plansOnLine line) s

/-- PE_LINE_CHANGE (R86): the filtered state becomes the level that the line has held for 30 ms; a shorter change leaves it. -/
def execPeLineChange (line : Nat) (active : Bool) (heldMs : Nat) (s : State) : Host.Outcome State Fault Refusal :=
  eventOutcome
    (fun s => if s.heldSince heldMs lineFilterMs ∧ s.line line ≠ active then changeLine line active s else s) s

end Sys2Proof.Machine
end

