-- ==== Sys2Proof/Machine/LinkEvents.lean ====
section
/-! DEFINITION. The link interface: FWD (R120, R180), UNKNOWN_KIND_FRAME (R180), DAMAGED_FRAME (R179, R180), OUTGOING_FRAME_SENT (R185) and IDLE_GAP
(R179). -/

namespace Sys2Proof.Machine

/-- The inner kinds that may not be forwarded: DRV, APL, POL, LST, DSM, SST and FWR (R180). -/
def reservedInner (kind : Byte) : Bool :=
  (decide (0x30 ≤ kind.toNat) && decide (kind.toNat ≤ 0x35)) || decide (kind = 0x22)

/-- The checks of an FWD: the link interface's in the order of R180, then the branch controller's (R120). Passing, it gives the branch. -/
def forwardCheck (station inner : Byte) (s : State) : Except Result BranchId :=
  if s.control.mode = .loading then .error .mode
  else if reservedInner inner then .error .range
  else
    match s.tables.branchOf station.toNat with
    | none => .error .range
    | some br => if (s.branch br).fifo.length < Config.fifoEntries then .ok br else .error .full

/-- FWD (R120): placed at the end of the branch's FIFO, or answered at once. -/
def execFwd (tag station inner : Byte) (payload : List Byte) (s : State) : Host.Outcome State Fault Refusal :=
  answeredOutcome
    (fun s =>
      match forwardCheck station inner s with
      | .error result => (id, send (.fwr tag station result []))
      | .ok br =>
        (changeBranch br (fun b =>
          { b with fifo := b.fifo ++ [{ tag := tag, station := station.toNat, kind := inner, payload := payload }] }),
          id))
    s

/-- UNKNOWN_KIND_FRAME (R180): the RPL carries the unknown kind value and no content (R181). -/
def execUnknownKindFrame (kind : Byte) (s : State) : Host.Outcome State Fault Refusal :=
  frameOutcome id (reply kind .unknown []) s

/-- DAMAGED_FRAME (R179, R180): the frame is discarded without an answer and changes nothing but where the assembler stands. -/
def execDamagedFrame (cause : Discard) (s : State) : Host.Outcome State Fault Refusal :=
  .next (whileUp (fun s => { s with link.assembler := afterDiscard cause }) s)

/-- OUTGOING_FRAME_SENT (R185): the transmission ends, and the idle transmitter starts the oldest queued frame (log 31). -/
def execOutgoingFrameSent (s : State) : Host.Outcome State Fault Refusal :=
  .next
    (whileUp
      (fun s => { s with link := { s.link with sending := none }.start })
      s)

/-- IDLE_GAP (R179): an assembler that was waiting for an idle gap takes the next character as the start of a frame. -/
def execIdleGap (line : LineId) (s : State) : Host.Outcome State Fault Refusal :=
  .next
    (whileUp
      (fun s =>
        match line with
        | .controller => { s with link.assembler := .receiving }
        | .branch br => changeBranch br (fun b => { b with assembler := .receiving }) s)
      s)

end Sys2Proof.Machine
end

