-- ==== Sys2Proof/Machine/PlanCalls.lean ====
section
/-! DEFINITION. The remote call frame CAL: CAL_CALL (R90) and CAL_CANCEL (R91). -/

namespace Sys2Proof.Machine

/-- The kind code of a CAL frame (11, section 11.2). -/
def calKind : Byte := 0x11

/-- The checks of a CAL, in the order of R91; the request code is 0 CALL or 1 CANCEL. -/
def calResult (plan request : Byte) (s : State) : Result :=
  let r := s.tables.plan plan.toNat
  if s.control.mode.permit = false then .mode
  else if numbered plan.toNat Config.plans = false ∨ 1 < request.toNat then .range
  else if r.on = false ∨ r.remote = false then .range
  else .ok

/-- The slot takes a plan, CALLED, and the plan's source is active (R90). -/
def fillSlot (p : Nat) (s : State) : State :=
  sourcesActive false [p] { s with preempt.slot := some { plan := p, called := true } }

/-- The handling of a call that passes the checks, by the slot it finds (R90). -/
def callPlan (p : Nat) (s : State) : Result × (State → State) :=
  match s.preempt.slot with
  | none => (.ok, fillSlot p)
  | some slot =>
    if s.stacked slot.plan then (.busy, id)
    else if slot.plan = p then (.ok, id)
    else (.ok, fun s => fillSlot p (emptySlot s))

/-- The handling of a cancel that passes the checks (R91): the slot is emptied, or marked CANCELLED when its plan is stacked; a plan that the slot
does not hold is left alone. -/
def cancelPlan (p : Nat) (s : State) : State :=
  match s.preempt.slot with
  | some slot =>
    if slot.plan ≠ p then s
    else if s.stacked p then sourcesInactive [p] { s with preempt.slot := some { slot with called := false } }
    else emptySlot s
  | none => s

/-- CAL_CALL (R90, R91). -/
def execCalCall (plan : Byte) (s : State) : Host.Outcome State Fault Refusal :=
  answeredOutcome
    (fun s =>
      let checked := calResult plan 0 s
      let handled := if checked = .ok then callPlan plan.toNat s else (checked, id)
      (handled.2, reply calKind handled.1 []))
    s

/-- CAL_CANCEL (R91). -/
def execCalCancel (plan request : Byte) (s : State) : Host.Outcome State Fault Refusal :=
  answeredOutcome
    (fun s =>
      let checked := calResult plan request s
      (if checked = .ok then cancelPlan plan.toNat else id, reply calKind checked []))
    s

end Sys2Proof.Machine
end

