-- ==== Sys2Proof/Machine/StoreWords.lean ====
section
/-! DEFINITION. The nonvolatile store: its words with their check bits (10, section 10.2), the load (R168), the reading of one record (R171),
the writing of a set (R174), and what a write or erase that is cut or fails leaves (R61, R175). -/

namespace Sys2Proof.Machine

/-! ### Words and their check bits -/

/-- What reading a word finds (R168). -/
inductive WordStatus where
  | clean | corrected | uncorrectable
  deriving DecidableEq, Repr

/-- A word as it stands, before correction. -/
def StoredWord.raw (w : StoredWord) : Word := w.value ^^^ w.wrong.extractLsb' 0 32

/-- A word read with its check bits (R168; 10, section 10.2): one wrong bit is corrected, two are found. Three or more may be found
uncorrectable or corrected to a wrong value (free value, log 10). An uncorrectable word is returned as read. -/
def StoredWord.read (w : StoredWord) : Word × WordStatus :=
  match bitCount w.wrong with
  | 0 => (w.value, .clean)
  | 1 => (w.value, .corrected)
  | 2 => (w.raw, .uncorrectable)
  | _ =>
    match Config.manyWrongBits w.value w.wrong with
    | some v => if v = w.value then (w.raw, .uncorrectable) else (v, .corrected)
    | none => (w.raw, .uncorrectable)

/-- A word freshly written, with right check bits (R174). -/
def StoredWord.fresh (value : Word) : StoredWord where
  value := value
  wrong := 0

/-- All words of the store in reading order: the seven tables, then the header. The header's layout is the model's choice (log 49): two words with
check bits, the generation and the set check value, both counted when corrected, and its incomplete mark outside them, where no bit goes wrong. -/
def Nonvolatile.all (nv : Nonvolatile) : List StoredWord := nv.words ++ [nv.generation, nv.check]

/-- Bits of a word that have gone wrong; a bit that goes wrong twice is right again. -/
def Nonvolatile.upset (nv : Nonvolatile) (u : Upset) : Nonvolatile :=
  let spoil := fun (w : StoredWord) => { w with wrong := w.wrong ^^^ u.bits }
  if u.index < nv.words.length then { nv with words := nv.words.modify u.index spoil }
  else if u.index = setWordCount then { nv with generation := spoil nv.generation }
  else if u.index = setWordCount + 1 then { nv with check := spoil nv.check }
  else nv

/-! ### The load (R168) -/

/-- How many words of the tables and the header are corrected, up to 65 535 (R168). -/
def Nonvolatile.corrected (nv : Nonvolatile) : Nat :=
  Nat.min 65535 (nv.all.filter (fun w => decide (w.read.2 = .corrected))).length

/-- The set that the corrected words spell. -/
def Nonvolatile.set (nv : Nonvolatile) : TableSet := setFromWords (nv.words.map (fun w => w.read.1))

/-- The stored set passes every test of R168: no word is uncorrectable, the header is complete and its set check value matches, and V1 to V10
hold. -/
def Nonvolatile.passes (nv : Nonvolatile) : Bool :=
  nv.all.all (fun w => decide (w.read.2 ≠ .uncorrectable)) && nv.complete
    && decide (setCheck (nv.words.map (fun w => w.read.1)) = nv.check.read.1) && nv.set.valid

/-- The generation that the header carries. -/
def Nonvolatile.headerGeneration (nv : Nonvolatile) : Half := nv.generation.read.1.extractLsb' 0 16

/-- The store after the bits that went wrong, and a lockout record that cannot be read taken as PRESENT with kind UNKNOWN (R61, R168). -/
def Nonvolatile.found (nv : Nonvolatile) (upsets : List Upset) (recordReadable : Bool) : Nonvolatile :=
  let nv := upsets.foldl Nonvolatile.upset nv
  if recordReadable then nv else { nv with record := some (.unknown, none) }

/-! ### One record (R171) -/

/-- The words of a record as the store holds them. -/
def Nonvolatile.recordWordsOf (nv : Nonvolatile) (table index : Nat) : List StoredWord :=
  (nv.words.drop (firstWord table index)).take (recordWords table)

/-- The ECC status of a record: 0 CLEAN, 1 CORRECTED, 2 UNCORRECTABLE (R171, R184). -/
def eccStatus (words : List StoredWord) : Byte :=
  if words.any (fun w => decide (w.read.2 = .uncorrectable)) then 2
  else if words.any (fun w => decide (w.read.2 = .corrected)) then 1
  else 0

/-- The content of a record after correction (R171). -/
def Nonvolatile.recordContent (nv : Nonvolatile) (table index : Nat) : List Byte :=
  ((nv.recordWordsOf table index).flatMap (fun w => wordBytes w.read.1)).take (recordLength table)

/-! ### Writing (R173, R174) -/

/-- The generation that a commit gives (R173). -/
def nextGeneration (g : Half) : Half := if g = 0 ∨ g = 65535 then 1 else g + 1

/-- The store after a set has been written whole with a new header (R174). The lockout record is not touched. -/
def Nonvolatile.write (nv : Nonvolatile) (t : TableSet) (generation : Half) : Nonvolatile :=
  { nv with
    words := (setWords t).map StoredWord.fresh
    generation := .fresh (generation.zeroExtend 32)
    check := .fresh (setCheck (setWords t))
    complete := true }

/-! ### Writes that are cut or fail (R61, R175) -/

/-- A word of the store after a write that was cut or failed (free value, log 11). -/
def tornWord (drawn index : Nat) : StoredWord where
  value := (Config.tornWord drawn index).1
  wrong := (Config.tornWord drawn index).2

/-- The store after a commit write that was cut or failed: its header is incomplete, and what its words hold is open (R175, log 11). -/
def Nonvolatile.torn (nv : Nonvolatile) (drawn : Nat) : Nonvolatile :=
  { nv with
    words := (List.range setWordCount).map (tornWord drawn)
    generation := tornWord drawn setWordCount
    check := tornWord drawn (setWordCount + 1)
    complete := false }

/-- The lockout record after an erase that was cut or failed (R61): PRESENT with what it held, or UNKNOWN if that cannot be read
(free value, log 12). -/
def unerased (drawn : Nat) (r : LockoutRecord) : LockoutRecord :=
  if Config.eraseKeepsContent drawn then some (r.getD (.unknown, none)) else some (.unknown, none)

/-- A commit write ends torn: one draw of free values. -/
def tearCommit (s : State) : State :=
  { s with store.nv := s.store.nv.torn s.clock.drawn, clock.drawn := s.clock.drawn + 1 }

/-- A record erase ends before it has completed: one draw of free values. -/
def spoilErase (s : State) : State :=
  { s with store.nv.record := unerased s.clock.drawn s.store.nv.record, clock.drawn := s.clock.drawn + 1 }

/-- A reset or a loss of supply cuts the store write or the record operation that is in progress (R61, R168, R175). A record write leaves the
record as it has read since its start. -/
def cutWrites (s : State) : State :=
  let s := if s.store.op = .commit then tearCommit s else s
  if s.control.recordOp = .erasing then spoilErase s else s

end Sys2Proof.Machine
end

