-- ==== Sys2Proof/Machine/Resets.lean ====
section
/-! DEFINITION. The commands of the supply and of the NRESET line (R186): POWER_ON_RESET, NRESET, SUPPLY_LOSS. -/

namespace Sys2Proof.Machine

/-- The state after a reset: writes in progress are cut, the nonvolatile memory and the queue of commands stay, the strike count is what the
reset leaves, and every block takes its reset values (R43, R66, R168). NRESET may stay low for some ms more (R186). -/
def resetKeeping (lowFor strikes : Nat) (s : State) : State :=
  let cut := cutWrites s
  resetState cut.pending lowFor cut.clock.drawn strikes cut.store.nv

/-- POWER_ON_RESET (R186): every block takes its power-on values, with the strike count 0, and LOADING begins. What was left of a
low level of NRESET is dropped (log 41). -/
def execPowerOnReset (s : State) : Host.Outcome State Fault Refusal := .next (resetKeeping 0 0 s)

/-- How long NRESET must be held low to reset the supervisor, in µs (R186). -/
def nresetMicros : Nat := 1000

/-- For how many ms, rounded up, a low level goes on after the 1 ms that resets the supervisor (R186, log 41). -/
def lowAfterReset (lowMicros : Nat) : Nat := (lowMicros - nresetMicros + 999) / 1000

/-- NRESET (R186): a low level of at least 1 ms resets every block and keeps the strike count; while the supply is rising the reset is a
power-on reset all the same. The supervisor stays in reset for as long as the level goes on. A shorter level is ignored, and so is one without
supply. -/
def execNreset (lowMicros : Nat) (supplyRising : Bool) (s : State) : Host.Outcome State Fault Refusal :=
  .next
    (if nresetMicros ≤ lowMicros ∧ (s.clock.powered = true ∨ supplyRising = true) then
      resetKeeping (lowAfterReset lowMicros) (if supplyRising then 0 else s.exchange.strikes) s
    else s)

/-- SUPPLY_LOSS (R186): RUNPERMIT is released at once and a write in progress is cut (R61, R175). The supervisor does nothing more until the
supply returns (log 6), and what was left of a low level of NRESET is dropped (log 41). -/
def execSupplyLoss (s : State) : Host.Outcome State Fault Refusal :=
  .next
    (if s.clock.powered then
      let cut := cutWrites s
      { cut with
        clock.powered := false, clock.lowFor := 0, control.runPermit := false, control.recordOp := .none
        store.op := .idle, store.progress := none }
    else s)

end Sys2Proof.Machine
end

