-- ==== Sys2Proof/Machine/StoreEvents.lean ====
section
/-! DEFINITION. The events of the nonvolatile memory: TABLE_LOAD_END (R45, R168, R169), COMMIT_COMPLETION (R174), COMMIT_WRITE_FAILURE (R175),
and the ends of the lockout record's operations (R60, R64). An event that is not due changes nothing (log 4). -/

namespace Sys2Proof.Machine

/-! ### The end of the load -/

/-- The action that a restored fault carries (R45): that of its kind in 09, section 9.3 (log 14). -/
def restoredAction : FaultKind → Action
  | .unknown => entryAction Config.restoredUnknownAction
  | .tableInvalid => .noRun
  | .noController => .flash
  | .supervisionClose => .close
  | .fieldConflict => .lockout
  | .redFail => .lockout
  | .stationAbsent => .flash
  | .stationLag => .flash
  | .tableCorrected | .storeWrite | .supervision | .chain | .requestedConflict | .lampOut | .foreignCurrent
  | .detectorOpen | .detectorShort | .detectorStuck | .detectorIdle | .detectorChatter | .nestingLimit
  | .planTimeout => .report

/-- The report of a restored lockout: a latched occurrence whose action is not requested (R45, R159). -/
def restoredRaise (kind : FaultKind) (subject : Option Nat) : Raise where
  kind := kind
  subject := subject
  action := restoredAction kind
  condition := false
  latched := true

/-- The mode controller leaves LOADING (R45): for LOCKOUT by the record, by the strike count or by a held LOCKOUT action, or for FLASH. -/
def leaveLoading (s : State) : State :=
  let held := s.control.heldLockout
  let s := { s with control.heldLockout := none }
  match s.store.nv.record with
  | some (kind, subject) => changeFlashMode .lockout .loadEnd none (recordRaise (restoredRaise kind subject) s)
  | none =>
    if s.exchange.strikes = 2 then changeFlashMode .lockout .loadEnd (some (.supervisionClose, none)) s
    else
      match held with
      | some record => changeFlashMode .lockout .loadEnd (some record) s
      | none => changeFlashMode .flash .loadEnd none s

/-- What the table store finds at the end of the load (R168): the active copy and its generation when the set passes, an empty active copy
when it does not. -/
def loadStore (nv : Nonvolatile) (s : State) : State :=
  let pass := nv.passes
  { s with
    store.nv := nv
    store.active := if pass then some nv.set else none
    store.generation := if pass then nv.headerGeneration else 0
    store.valid := pass
    store.corrected := nv.corrected
    store.tablesCorrected := pass && decide (0 < nv.corrected) }

/-- The reports of the table store at the end of the load (R169, steps 1 and 2). -/
def reportLoad (s : State) : State :=
  let s := if 0 < s.store.corrected then noteOccurrence .tableCorrected none s else s
  if s.store.valid then s
  else raise { kind := .tableInvalid, subject := none, action := .noRun, condition := true } s

/-- The blocks take the active copy at the end of the load (R169, step 4): aspect engine, branch controllers, lamp prover (whose records stand
reset), detector conditioner, preemption unit. -/
def takeLoaded (s : State) : State := retablePlans (loadDetectors (loadBranches (retableGroups s)))

/-- TABLE_LOAD_END (R168, R169). -/
def execTableLoadEnd (upsets : List Upset) (recordReadable : Bool) (s : State) : Host.Outcome State Fault Refusal :=
  eventOutcome
    (fun s =>
      if s.control.mode = .loading then
        takeLoaded (leaveLoading (reportLoad (loadStore (s.store.nv.found upsets recordReadable) s)))
      else s)
    s

/-! ### The commit -/

/-- The table store at the completion of a commit (R174, step 1). -/
def activate (s : State) : State :=
  let generation := (s.store.progress.map Prod.snd).getD (nextGeneration s.store.generation)
  { s with
    store.nv := s.store.nv.write s.store.working generation
    store.active := some s.store.working, store.generation := generation, store.valid := true
    store.corrected := 0, store.tablesCorrected := false, store.op := .idle, store.progress := none
    store.lastCommit := .done }

/-- The end of TABLE_INVALID, if its entry is ACTIVE (R174, step 2). -/
def endInvalid (s : State) : State :=
  if s.faults.entries.any (fun e => e.is .tableInvalid none && e.active) then reportEnd .tableInvalid none s else s

/-- The blocks take the new active copy at the completion of a commit (R174, steps 3 to 6). The branch controllers mark their slots once
(R110, R122). -/
def takeCommitted (s : State) : State :=
  retablePlans (retableDetectors (retableProver (retableBranches (retableGroups { s with event.remark := true }))))

/-- COMMIT_COMPLETION (R174). -/
def execCommitCompletion (s : State) : Host.Outcome State Fault Refusal :=
  eventOutcome (fun s => if s.store.op = .commit then takeCommitted (endInvalid (activate s)) else s) s

/-- COMMIT_WRITE_FAILURE (R175): the commit ends FAILED, the stored set is INVALID and STORE_WRITE is reported; the active copy stays. -/
def execCommitWriteFailure (s : State) : Host.Outcome State Fault Refusal :=
  eventOutcome
    (fun s =>
      if s.store.op = .commit then
        let s := tearCommit s
        noteOccurrence .storeWrite none
          { s with store.op := .idle, store.progress := none, store.lastCommit := .failed, store.valid := false }
      else s)
    s

/-! ### The lockout record -/

/-- The record operation returns to none and the store operation to IDLE (R60, R64). -/
def endRecordOp (s : State) : State := { s with control.recordOp := .none, store.op := .idle }

/-- RECORD_WRITE_COMPLETION (R60): the stored record is PRESENT with the kind and subject written. -/
def execRecordWriteCompletion (s : State) : Host.Outcome State Fault Refusal :=
  eventOutcome
    (fun s =>
      match s.control.recordOp with
      | .writing kind subject => { endRecordOp s with store.nv.record := some (kind, subject) }
      | _ => s)
    s

/-- RECORD_WRITE_FAILURE (R60): STORE_WRITE is reported; the record goes on reading as PRESENT with kind UNKNOWN (R61). -/
def execRecordWriteFailure (s : State) : Host.Outcome State Fault Refusal :=
  eventOutcome
    (fun s =>
      match s.control.recordOp with
      | .writing _ _ => noteOccurrence .storeWrite none (endRecordOp s)
      | _ => s)
    s

/-- RECORD_ERASE_COMPLETION (R64): the stored record is ABSENT. -/
def execRecordEraseCompletion (s : State) : Host.Outcome State Fault Refusal :=
  eventOutcome
    (fun s => if s.control.recordOp = .erasing then { endRecordOp s with store.nv.record := none } else s) s

/-- RECORD_ERASE_FAILURE (R64): STORE_WRITE is reported; the record stays PRESENT in the store (R61). -/
def execRecordEraseFailure (s : State) : Host.Outcome State Fault Refusal :=
  eventOutcome
    (fun s => if s.control.recordOp = .erasing then noteOccurrence .storeWrite none (endRecordOp (spoilErase s)) else s)
    s

end Sys2Proof.Machine
end

