-- ==== Sys2Proof/Machine/TableFrames.lean ====
section
/-! DEFINITION. The frames that edit, read and commit the tables: TWR (R170), TRD (R171), TCM (R173), TDS (R172). -/

namespace Sys2Proof.Machine

/-- The kind codes of the table frames (11, section 11.2). -/
def twrKind : Byte := 0x13
/-- See `twrKind`. -/
def trdKind : Byte := 0x14
/-- See `twrKind`. -/
def tcmKind : Byte := 0x15
/-- See `twrKind`. -/
def tdsKind : Byte := 0x16

/-- The mode is FLASH or LOCKOUT, in which the tables may be edited (R170, R173). -/
def Mode.edits : Mode → Bool
  | .flash | .lockout => true
  | .loading | .start | .running | .warning | .closing => false

/-- The table number is 1 to 7 and the index lies within the table's records (R170, R171). -/
def recordExists (table index : Byte) : Bool := numbered index.toNat (recordCount table.toNat)

/-- The checks of a TWR, in the order of R170. -/
def writeResult (table index : Byte) (content : List Byte) (s : State) : Result :=
  if s.control.mode.edits = false then .mode
  else if s.store.op ≠ .idle then .busy
  else if recordExists table index = false ∨ content.length ≠ recordLength table.toNat then .range
  else .ok

/-- TWR (R170): the record of the working copy is replaced, with no check of its values. -/
def execTwr (table index : Byte) (content : List Byte) (s : State) : Host.Outcome State Fault Refusal :=
  answeredOutcome
    (fun s =>
      let result := writeResult table index content s
      (if result = .ok then
          fun s => { s with store.working := writeRecord s.store.working table.toNat index.toNat content }
        else id,
        reply twrKind result []))
    s

/-- The answer to a TRD (R171): the checks in order, then the record; from the stored copy it is read afresh, with its ECC status before it
(R184). -/
def readAnswer (table index copy : Byte) (s : State) : Result × List Byte :=
  if s.control.mode = .loading then (.mode, [])
  else if recordExists table index = false then (.range, [])
  else
    match copy.toNat with
    | 0 =>
      match s.store.active with
      | some t => (.ok, recordBytes t table.toNat index.toNat)
      | none => (.invalid, [])
    | 1 => (.ok, recordBytes s.store.working table.toNat index.toNat)
    | 2 =>
      if s.store.op ≠ .idle then (.busy, [])
      else
        (.ok,
          eccStatus (s.store.nv.recordWordsOf table.toNat index.toNat)
            :: s.store.nv.recordContent table.toNat index.toNat)
    | _ => (.range, [])

/-- TRD (R171). -/
def execTrd (table index copy : Byte) (s : State) : Host.Outcome State Fault Refusal :=
  answeredOutcome (fun s => (id, reply trdKind (readAnswer table index copy s).1 (readAnswer table index copy s).2)) s

/-- The checks of a TCM, in the order of R173, with the content of its reply (R184): the generation that it will give, or the failing check with
its table and index. -/
def commitAnswer (s : State) : Result × List Byte :=
  if s.control.mode.edits = false then (.mode, [])
  else if s.store.op ≠ .idle then (.busy, [])
  else
    match firstFailure s.store.working with
    | some (check, table, index) => (.invalid, [byteOf check, byteOf table, byteOf index])
    | none => (.ok, halfBytes (nextGeneration s.store.generation))

/-- The store write of a commit begins (R173, R174): the stored header is first marked incomplete. -/
def startCommit (s : State) : State :=
  { s with
    store.op := .commit
    store.progress := some (s.clock.now, nextGeneration s.store.generation)
    store.nv.complete := false }

/-- TCM (R173). -/
def execTcm (s : State) : Host.Outcome State Fault Refusal :=
  answeredOutcome
    (fun s =>
      let answer := commitAnswer s
      (if answer.1 = .ok then startCommit else id, reply tcmKind answer.1 answer.2))
    s

/-- The checks of a TDS (R172). -/
def discardResult (s : State) : Result :=
  if s.control.mode = .loading then .mode else if s.store.op ≠ .idle then .busy else .ok

/-- TDS (R172): the working copy is set equal to the active copy. -/
def execTds (s : State) : Host.Outcome State Fault Refusal :=
  answeredOutcome
    (fun s =>
      let result := discardResult s
      (if result = .ok then resetWorking else id, reply tdsKind result []))
    s

end Sys2Proof.Machine
end

