-- ==== Sys2Proof/Machine/Dispatch.lean ====
section
/-! DEFINITION. The commands and their meanings, one arm for each row of spec/opcode_table.json. -/

namespace Sys2Proof.Machine

def exec (i : Instr) (s : State) : Host.Outcome State Fault Refusal :=
  match i with
  | .powerOnReset => Sys2Proof.Machine.execPowerOnReset s
  | .nreset lowMicros supplyRising => Sys2Proof.Machine.execNreset lowMicros supplyRising s
  | .supplyLoss => Sys2Proof.Machine.execSupplyLoss s
  | .tableLoadEnd upsets recordReadable => Sys2Proof.Machine.execTableLoadEnd upsets recordReadable s
  | .img chain next inhibit targets => Sys2Proof.Machine.execImg chain next inhibit targets s
  | .calCall plan => Sys2Proof.Machine.execCalCall plan s
  | .calCancel plan request => Sys2Proof.Machine.execCalCancel plan request s
  | .modRun cabinet generation startChain => Sys2Proof.Machine.execModRun cabinet generation startChain s
  | .modFlash request => Sys2Proof.Machine.execModFlash request s
  | .twr table index content => Sys2Proof.Machine.execTwr table index content s
  | .trd table index copy => Sys2Proof.Machine.execTrd table index copy s
  | .tcm => Sys2Proof.Machine.execTcm s
  | .tds => Sys2Proof.Machine.execTds s
  | .sta part first => Sys2Proof.Machine.execSta part first s
  | .fcl => Sys2Proof.Machine.execFcl s
  | .fwd tag station inner payload => Sys2Proof.Machine.execFwd tag station inner payload s
  | .unknownKindFrame kind => Sys2Proof.Machine.execUnknownKindFrame kind s
  | .damagedFrame cause => Sys2Proof.Machine.execDamagedFrame cause s
  | .outgoingFrameSent => Sys2Proof.Machine.execOutgoingFrameSent s
  | .commitCompletion => Sys2Proof.Machine.execCommitCompletion s
  | .commitWriteFailure => Sys2Proof.Machine.execCommitWriteFailure s
  | .recordWriteCompletion => Sys2Proof.Machine.execRecordWriteCompletion s
  | .recordWriteFailure => Sys2Proof.Machine.execRecordWriteFailure s
  | .recordEraseCompletion => Sys2Proof.Machine.execRecordEraseCompletion s
  | .recordEraseFailure => Sys2Proof.Machine.execRecordEraseFailure s
  | .maintStateChange active heldMs => Sys2Proof.Machine.execMaintStateChange active heldMs s
  | .peLineChange line active heldMs => Sys2Proof.Machine.execPeLineChange line active heldMs s
  | .startUpStopTimerExpiry => Sys2Proof.Machine.execStartUpStopTimerExpiry s
  | .supervisionTimerExpiry => Sys2Proof.Machine.execSupervisionTimerExpiry s
  | .warningWindowExpiry => Sys2Proof.Machine.execWarningWindowExpiry s
  | .endOfPrepare group => Sys2Proof.Machine.execEndOfPrepare group s
  | .endOfClear group => Sys2Proof.Machine.execEndOfClear group s
  | .minimumGoReached group => Sys2Proof.Machine.execMinimumGoReached group s
  | .minimumStopReached group => Sys2Proof.Machine.execMinimumStopReached group s
  | .deferralTimerExpiry group => Sys2Proof.Machine.execDeferralTimerExpiry group s
  | .planDelayEnd => Sys2Proof.Machine.execPlanDelayEnd s
  | .planDwellEnd => Sys2Proof.Machine.execPlanDwellEnd s
  | .planDurationExpiry plan => Sys2Proof.Machine.execPlanDurationExpiry plan s
  | .branchTransmissionEnd branch => Sys2Proof.Machine.execBranchTransmissionEnd branch s
  | .lstReceived branch station applied currents => Sys2Proof.Machine.execLstReceived branch station applied currents s
  | .dsmReceived branch station inputs => Sys2Proof.Machine.execDsmReceived branch station inputs s
  | .sstReceived branch station status => Sys2Proof.Machine.execSstReceived branch station status s
  | .fwrReceived branch station payload => Sys2Proof.Machine.execFwrReceived branch station payload s
  | .branchFrameDiscarded branch cause => Sys2Proof.Machine.execBranchFrameDiscarded branch cause s
  | .pollAnswerTimeout branch => Sys2Proof.Machine.execPollAnswerTimeout branch s
  | .forwardAnswerTimeout branch => Sys2Proof.Machine.execForwardAnswerTimeout branch s
  | .repollTimerExpiry station => Sys2Proof.Machine.execRepollTimerExpiry station s
  | .stuckDeadlineExpiry channel => Sys2Proof.Machine.execStuckDeadlineExpiry channel s
  | .idleDeadlineExpiry channel => Sys2Proof.Machine.execIdleDeadlineExpiry channel s
  | .idleGap line => Sys2Proof.Machine.execIdleGap line s

end Sys2Proof.Machine
end

