-- ==== Sys2Proof/Safety.lean ====
section
/-! DEFINITION. What a lawful state is: the laws of the device that the guide numbers, each as a test of one state, and the conditions of
calm under which a command's own effect is all that its event brings about. -/

namespace Sys2Proof.Safety

open Sys2Proof.Machine

/-- Group `g` is shown PREPARE or GO: it is released. -/
def released (s : State) (g : Nat) : Bool := decide (s.shown g = .prepare) || decide (s.shown g = .go)

/-- Every ordered pair of groups, 1 to 24, that the active matrix marks as in conflict satisfies `p`. -/
def overConflicts (s : State) (p : Nat → Nat → Bool) : Bool :=
  groupNumbers.all (fun i => groupNumbers.all (fun j => !s.tables.conflict i j || p i j))

/-- FIRST LAW (R29): no two live groups marked in conflict are both shown PREPARE or GO, in any combination. -/
def exclusionLaw (s : State) : Bool := overConflicts s (fun i j => !(released s i && released s j))

/-- SECOND LAW as the aspect engine keeps it (R39): for a group in GO the clearance clock of every group in conflict with it has reached the
intergreen; for one in PREPARE it will have done so when the prepare time is over. -/
def intergreenLaw (s : State) : Bool :=
  overConflicts s (fun i j =>
    (!decide (s.shown j = .go) || decide (s.tables.intergreen i j ≤ (s.group i).clearance))
      && (!decide (s.shown j = .prepare)
        || decide (s.tables.intergreen i j
            ≤ (s.group i).clearance + ((s.tables.group j).prepareUnits - (s.group j).time))))

/-- THIRD LAW (R44): RUNPERMIT is energized exactly while the mode is START, RUNNING, WARNING or CLOSING. Without supply and while NRESET is low
it is released, and while NRESET is low the mode is LOADING (R186). -/
def permitLaw (s : State) : Bool :=
  s.control.runPermit == (s.up && s.control.mode.permit)
    && (decide (s.clock.lowFor = 0) || decide (s.control.mode = .loading))

/-- FOURTH LAW (R3): a live group is shown FLASH in LOADING, FLASH and LOCKOUT and in no other mode. The engine has its 24 records. -/
def aspectLaw (s : State) : Bool :=
  decide (s.engine.groups.length = Config.groups)
    && groupNumbers.all (fun g => !s.tables.live g || (decide (s.shown g = .flash) == !s.control.mode.permit))

/-- Groups above the number in use (R1, R4): in LOADING all 24 are shown FLASH with note NONE; in every other mode one that is not live is shown DARK,
with target DARK (log 26), note NONE and no deferral timer. -/
def darkLaw (s : State) : Bool :=
  groupNumbers.all (fun g =>
    let x := s.group g
    if s.control.mode = .loading then decide (x.shown = .flash) && decide (x.note = .none)
    else s.tables.live g || decide (x.shown = .dark) && decide (x.target = .dark) && decide (x.note = .none) && x.deferral.isNone)

/-- FIFTH LAW (R6): a group carries note DEFERRED exactly while its deferral timer is present. -/
def deferralLaw (s : State) : Bool := s.engine.groups.all (fun x => decide (x.note = .deferred) == x.deferral.isSome)

/-- A stacked plan holds a delay exactly in DELAY and a dwell exactly in DWELL (05, section 5.2). -/
def countsOfPhase (x : Stacked) : Bool :=
  (x.delay.isSome == decide (x.phase = .delay)) && (x.dwell.isSome == decide (x.phase = .dwell))

/-- SIXTH LAW (R93): at most four plans, each below the top with a larger number than the one above it, and none outside RUNNING and
WARNING. Each has a number 1 to 8, is enabled in the active tables, holds the counts of its phase, and its request is IDLE. -/
def stackLaw (s : State) : Bool :=
  decide (s.preempt.stack.length ≤ Config.stackDepth)
    && decide (s.preempt.stack.Pairwise (fun a b => a.plan < b.plan))
    && (s.control.mode.admits || s.preempt.stack.isEmpty)
    && s.preempt.stack.all (fun x => within 1 Config.plans x.plan && countsOfPhase x && (s.tables.plan x.plan).on && !(s.plan x.plan).pending)

/-- SEVENTH LAW (R8): the effective requested image never has target GO for two live groups in conflict. -/
def targetLaw (s : State) : Bool :=
  overConflicts s (fun i j => !(decide ((s.group i).target = .go) && decide ((s.group j).target = .go)))

/-- A group is live and has a record. -/
def inService (s : State) (g : Nat) : Bool :=
  decide (1 ≤ g) && decide (g ≤ s.engine.groups.length) && s.tables.live g

/-- The overlay in force forces a group to STOP: the top plan is in ENTRY, DWELL or HOLD in RUNNING or WARNING, and its forced-STOP set names the
group (R7, R103). -/
def stopForced (s : State) (g : Nat) : Bool :=
  match s.preempt.stack with
  | top :: _ => s.control.mode.admits && decide (top.phase ≠ .delay) && member (s.tables.plan top.plan).forcedStop g
  | [] => false

/-- The overlay in force forces a group to GO (R7, R103). -/
def goForced (s : State) (g : Nat) : Bool :=
  match s.preempt.stack with
  | top :: _ =>
    s.control.mode.admits && decide (top.phase ≠ .delay) && !member (s.tables.plan top.plan).forcedStop g
      && member (s.tables.plan top.plan).forcedGo g
  | [] => false

/-- A live group that the overlay does not name, and for which the accepted image has a target (R7). -/
def imageAsks (s : State) (g : Nat) (target : Target) : Bool :=
  s.tables.live g && !stopForced s g && !goForced s g
    && (match s.exchange.accepted with
      | some image => decide (entryD image.targets g .stop = target)
      | none => decide (target = .stop))

/-- The effective requested image, as R7 to R9 give it: outside RUNNING and WARNING every live group has target STOP; there the overlay's target,
else that of the accepted image, a GO clamped to STOP beside another such GO in conflict, and a DARK where the group's record does not permit
it. -/
def effectiveLaw (s : State) : Prop :=
  ∀ g, inService s g = true →
    (s.control.mode.admits = false → (s.group g).target = .stop)
      ∧ (stopForced s g = true → (s.group g).target = .stop ∧ (s.group g).source = .overlay)
      ∧ (goForced s g = true → (s.group g).target = .go ∧ (s.group g).source = .overlay)
      ∧ (s.control.mode.admits = true →
        (imageAsks s g .stop = true → (s.group g).target = .stop ∧ (s.group g).source = .image)
          ∧ (imageAsks s g .dark = true →
            ((s.tables.group g).dark = 1 → (s.group g).target = .dark ∧ (s.group g).source = .image)
              ∧ ((s.tables.group g).dark ≠ 1 → (s.group g).target = .stop ∧ (s.group g).source = .clamp))
          ∧ (imageAsks s g .go = true →
            ((∃ i, s.tables.conflict i g = true ∧ imageAsks s i .go = true) →
              (s.group g).target = .stop ∧ (s.group g).source = .clamp)
              ∧ ((∀ i, s.tables.conflict i g = true → imageAsks s i .go = false) →
                (s.group g).target = .go ∧ (s.group g).source = .image)))

/-- EIGHTH LAW (R77): the strike count is at most 2, and 2 only in LOADING, in CLOSING toward LOCKOUT, or in LOCKOUT. -/
def strikeLaw (s : State) : Bool :=
  decide (s.exchange.strikes ≤ 2)
    && (!decide (s.exchange.strikes = 2)
      || (match s.control.mode with
        | .loading | .lockout => true
        | .closing => decide (s.control.closeTarget = some .lockout)
        | .flash | .start | .running | .warning => false))

/-- NINTH LAW (R166): the active tables satisfy V1 to V10, and when there are none the mode is LOADING, FLASH or LOCKOUT. A commit that
is being written keeps it: the mode is FLASH or LOCKOUT, and the working copy has passed the checks (R173, R174). -/
def tableLaw (s : State) : Bool :=
  (match s.store.active with
    | some t => t.valid
    | none => !s.control.mode.permit)
    && (!decide (s.store.op = .commit) || (s.control.mode.edits && s.store.working.valid))

/-- TENTH LAW as the branch controller keeps it (R111): a branch that awaits an answer sends nothing, so it never awaits two; and its
forward FIFO holds at most four entries (R109). -/
def branchLaw (s : State) : Bool :=
  s.branches.all (fun b => !(b.awaited.isSome && b.sending.isSome) && decide (b.fifo.length ≤ Config.fifoEntries))

/-- ELEVENTH LAW (R156): at most 32 entries, never two with the same kind and subject, and each with a count of 1 to 255. -/
def faultLaw (s : State) : Bool :=
  decide (s.faults.entries.length ≤ Config.faultEntries)
    && decide (s.faults.entries.Pairwise (fun a b => ¬(a.kind = b.kind ∧ a.subject = b.subject)))
    && s.faults.entries.all (fun e => within 1 255 e.count)

/-- The outgoing queue holds at most 32 frames, and none waits while the transmitter is idle (R185). -/
def queueLaw (s : State) : Bool :=
  decide (s.link.queue.length ≤ Config.queueFrames) && (s.link.sending.isSome || s.link.queue.isEmpty)

/-- The lockout record (R60, R61, R64): while it is being written the mode is LOCKOUT, while it is being erased FLASH, and in LOCKOUT as in both
a record is PRESENT. The store operation is RECORD exactly while one is being written or erased. -/
def recordLaw (s : State) : Bool :=
  (match s.control.recordOp with
    | .writing _ _ => decide (s.control.mode = .lockout)
    | .erasing => decide (s.control.mode = .flash) && s.store.nv.record.isSome
    | .none => true)
    && (!decide (s.control.mode = .lockout) || s.store.nv.record.isSome)
    && (decide (s.store.op = .record) == decide (s.control.recordOp ≠ .none))

/-- A detector channel holds at most 16 pending transitions, and a stuck deadline only while it is conditioned OCCUPIED (08, section
8.2; R147). -/
def detectorLaw (s : State) : Bool :=
  s.detectors.all (fun x =>
    match x with
    | some d => decide (d.pending.length ≤ 16) && (d.occupied || d.stuckAt.isNone)
    | none => true)

/-- A channel holds no run toward a fault that is already active (R129, R130). -/
def provingLaw (s : State) : Bool :=
  s.prover.channels.all (fun x => !(x.lampOut && x.outRun.isSome) && !(x.foreign && x.foreignRun.isSome))

/-! ### Calm -/

/-- No channel has LAMP_OUT active, so that no group can fail red (R134). -/
def noLampOut (s : State) : Bool := s.prover.channels.all (fun x => !x.lampOut)

/-- Every station is PRESENT and none is lagging, so that START entry reports none again (R119). -/
def stationsWell (s : State) : Bool := s.branches.all (fun b => b.liveness.all (fun l => l.present && !l.lagging))

/-- The supervisor works and rests in a flash mode as the fourth law has it: every live group is shown FLASH. -/
def resting (s : State) : Bool := s.up && !s.control.mode.permit && aspectLaw s

/-- The supervisor works, and its receive assembler took the frame now complete from its first character (R179). -/
def listening (s : State) : Bool := s.up && s.hears

/-! ### Frames -/

/-- What an event leaves as it is when it numbers no image in a flash mode: everything but the outgoing queue, the targets and notes of the
groups, and the transmitters of the branches, of which a free one may start its next transmission. -/
def restFrame (s t : State) : Prop :=
  t.pending = s.pending ∧ t.clock = s.clock ∧ t.event = { } ∧ t.exchange = s.exchange ∧ t.preempt = s.preempt
    ∧ t.control = s.control ∧ t.prover = s.prover ∧ t.detectors = s.detectors ∧ t.faults = s.faults ∧ t.store = s.store
    ∧ t.branches = s.branches.map Branch.arbitrate ∧ t.engine.imageNumber = s.engine.imageNumber
    ∧ ∀ g, (t.group g).shown = (s.group g).shown ∧ (t.group g).time = (s.group g).time
        ∧ (t.group g).clearance = (s.group g).clearance

/-- What an event leaves as it is in a permit mode while it moves no mode: time, the image exchange, the mode controller and the table
store. -/
def calmFrame (s t : State) : Prop :=
  t.pending = s.pending ∧ t.clock = s.clock ∧ t.event = { } ∧ t.exchange = s.exchange ∧ t.control = s.control
    ∧ t.store = s.store

/-- The frames that an event makes before its answer (log 18): alarms and detector reports. -/
def isReport : OutFrame → Bool
  | .alm _ | .det _ => true
  | _ => false

/-- The link interface has been handed some alarms and detector reports, each placed behind what the queue held, and then a frame: what an event
does with its answer (log 18). -/
def answered (s t : State) (f : OutFrame) : Prop :=
  ∃ made : List OutFrame, made.all isReport = true ∧ t.link = (made.foldl Link.accept s.link).accept f

/-- The link interface has been handed a frame and, before or behind it, some alarms and detector reports, each placed behind what the queue
held. -/
def replied (s t : State) (f : OutFrame) : Prop :=
  ∃ before after : List OutFrame, before.all isReport = true ∧ after.all isReport = true
    ∧ t.link = (before ++ f :: after).foldl Link.accept s.link

/-- Between two states one alarm has been made and handed to the link interface: it carries the next alarm number, the time, and the active fault
count and worst action of the later state (R163, log 17). -/
def alarmed (body : AlarmBody) (s t : State) : Prop :=
  t.faults.alarmNumber = s.faults.alarmNumber + 1
    ∧ t.link
      = s.link.accept
        (.alm
          { number := s.faults.alarmNumber + 1, body := body, time := s.clock.now, activeFaults := t.faults.activeCount
            worst := t.worst })

/-- No alarm has been made between two states, and no frame handed to the link interface. -/
def unalarmed (s t : State) : Prop := t.faults.alarmNumber = s.faults.alarmNumber ∧ t.link = s.link

/-- What the alarms among some frames tell in their order, from an alarm number, a mode and a last cause (R65, R163): each carries the next number and
the time of the event, and each alarm of a mode change leads from the mode reached to another one. The number, mode and cause that they lead to; none
where one does not follow. -/
def alarmTrail (now : Time) : Half × Mode × Cause → List OutFrame → Option (Half × Mode × Cause)
  | reached, [] => some reached
  | (number, mode, cause), .alm a :: rest =>
    if a.number = number + 1 ∧ a.time = now then
      match a.body with
      | .mode old new because =>
        if old = mode ∧ new ≠ mode then alarmTrail now (number + 1, new, because) rest else none
      | .fault _ _ _ _ _ _ _ => alarmTrail now (number + 1, mode, cause) rest
    else none
  | reached, _ :: rest => alarmTrail now reached rest

/-- An ACTIVE or ENDED entry of a kind and subject stands in the list, with an action. -/
def listed (s : State) (kind : FaultKind) (subject : Option Nat) (active : Bool) (action : Action) : Prop :=
  ∃ e ∈ s.faults.entries, e.kind = kind ∧ e.subject = subject ∧ e.active = active ∧ e.action = action

/-- No entry of a kind and subject is ACTIVE. -/
def notActive (s : State) (kind : FaultKind) (subject : Option Nat) : Prop :=
  ∀ e ∈ s.faults.entries, e.kind = kind → e.subject = subject → e.active = false

/-- What a refused image reports to the fault list (R71): with CHAIN or CONFLICT its occurrence, and in WARNING, behind it (log 52), the recurrence of
SUPERVISION. -/
def refusalReported (result : Result) (s : State) : State :=
  let own :=
    match result with
    | .chain => recordRaise { kind := .chain, subject := none, action := .report, condition := false } s
    | .conflict => recordRaise { kind := .requestedConflict, subject := none, action := .report, condition := false } s
    | _ => s
  if s.control.mode = .warning then
    recordRaise { kind := .supervision, subject := none, action := .report, condition := true } own
  else own

/-- An accepted fault clear ends the condition of an entry (R131, R134): a latched lamp fault, in a permit mode only where its released mark is set,
and in a flash mode the RED_FAIL of a live group. -/
def endsAtClear (s : State) (e : Entry) : Bool :=
  match e.kind, e.subject with
  | .lampOut, some c =>
    (s.proving c).lampOut && decide ((s.tables.output c).latch = 1)
      && (!s.control.mode.permit || (s.proving c).lampOutReleased)
  | .foreignCurrent, some c =>
    (s.proving c).foreign && decide ((s.tables.output c).latch = 1)
      && (!s.control.mode.permit || (s.proving c).foreignReleased)
  | .redFail, some g => !s.control.mode.permit && s.tables.live g && s.redFail g
  | _, _ => false

/-- The completion of a commit ends the condition of an entry: TABLE_INVALID (R174), a station's faults (R122), those of the lamp prover (R137) and
those of a detector channel (R140). -/
def endsAtCommit (s : State) (e : Entry) : Bool :=
  match e.kind, e.subject with
  | .tableInvalid, none => true
  | .stationAbsent, some a => branchIds.any (fun br => (s.branch br).liveness.any (fun l => decide (l.station = a) && !l.present))
  | .stationLag, some a => branchIds.any (fun br => (s.branch br).liveness.any (fun l => decide (l.station = a) && l.lagging))
  | .lampOut, some c => (s.proving c).lampOut
  | .foreignCurrent, some c => (s.proving c).foreign
  | .redFail, some g => groupNumbers.contains g && s.redFail g
  | .detectorOpen, some c => (s.detector c).any Detector.openFault
  | .detectorShort, some c => (s.detector c).any Detector.shortFault
  | .detectorStuck, some c => (s.detector c).any Detector.stuckFault
  | .detectorIdle, some c => (s.detector c).any Detector.idleFault
  | .detectorChatter, some c => (s.detector c).any Detector.chatterFault
  | _, _ => false

/-- A branch as new tables leave it, before it may transmit (R107, R109, R110, R122): a new liveness record for each of its stations, a drive slot for
each OUTPUT station, marked pending with the current image, in which every channel is OFF since no group is shown a running aspect, apply pending, and
no poll pointer; all else is kept. A branch without slots sets no apply pending (log 29). -/
def retaken (t : State) (br : BranchId) (b : Branch) : Branch :=
  let stations := t.tables.stationsOn br
  let outputs := stations.filter (fun r => decide (r.roleOf = .output))
  { b with
    liveness := stations.map (fun r => Liveness.fresh r.address.toNat)
    slots := outputs.map (fun r =>
      { station := r.address.toNat, image := t.engine.imageNumber, states := List.replicate 16 .off, pending := true })
    pointer := none
    applyPending :=
      if outputs.isEmpty then b.applyPending.map (fun _ => t.engine.imageNumber) else some t.engine.imageNumber }

/-- The source of plan `p` as new tables find it (R85, R86, R90): an enabled plan's line, or the call that the slot holds. A detector channel is VACANT
in its new record. -/
def sourceAfresh (s t : State) (p : Nat) : Bool :=
  let r := t.tables.plan p
  r.on
    && (if r.remote then s.preempt.slot.any (fun slot => decide (slot.plan = p) && slot.called)
      else decide (r.source.toNat < 6) && entryD s.preempt.lines (r.source.toNat + 1) false)

/-- What new tables leave of the detector channels (R140) and, while no plan is stacked, of the plans (R85). -/
def inputsRetaken (s t : State) : Prop :=
  (∀ c, 1 ≤ c → c ≤ 48 →
      t.detector c
        = if (t.tables.detector c).station = 0 then none else some (Detector.fresh (t.tables.detector c) s.clock.now))
    ∧ t.preempt.stack = s.preempt.stack ∧ t.preempt.slot = s.preempt.slot ∧ t.preempt.lines = s.preempt.lines
    ∧ (s.preempt.stack = [] → s.preempt.plans.length = 8 → ∀ p, 1 ≤ p → p ≤ 8 →
      t.plan p
        = { pending := (t.tables.plan p).on && (t.tables.plan p).level && sourceAfresh s t p, spent := false
            active := sourceAfresh s t p, limitReported := false, outcome := (s.plan p).outcome })

/-- What an entry to FLASH or LOCKOUT from a permit mode leaves (R17, R44, R58, R65, R82, R104). -/
def transferred (s t : State) (mode : Mode) (cause : Cause) : Prop :=
  t.control.mode = mode ∧ t.control.runPermit = false ∧ t.control.lastCause = cause ∧ t.control.closeTarget = none
    ∧ t.control.startTimer = none ∧ t.control.maint = s.control.maint
    ∧ (∀ g, inService s g = true → t.shown g = .flash ∧ (t.group g).target = .stop)
    ∧ t.exchange.expectedChain = none ∧ t.exchange.accepted = none ∧ t.exchange.supervision = none
    ∧ t.exchange.warning = none ∧ t.exchange.strikes = s.exchange.strikes
    ∧ t.preempt.stack = [] ∧ t.preempt.slot = none ∧ t.preempt.inhibit = 0 ∧ t.store.active = s.store.active

/-- What the stop of proving leaves (R126): no run, an unlatched fault inactive, a latched one as it stood, and no RED_FAIL (R134). -/
def provingStopped (s t : State) : Prop :=
  (∀ c, 1 ≤ c → c ≤ s.prover.channels.length →
      (t.proving c).outRun = none ∧ (t.proving c).foreignRun = none ∧ (t.proving c).proved = (s.proving c).proved
        ∧ (t.proving c).last = (s.proving c).last
        ∧ (t.proving c).lampOut = ((s.proving c).lampOut && decide ((s.tables.output c).latch = 1))
        ∧ (t.proving c).foreign = ((s.proving c).foreign && decide ((s.tables.output c).latch = 1)))
    ∧ ∀ g ∈ groupNumbers, t.redFail g = false

/-- Plan `p` may be taken once it is PENDING (R94): it is enabled, a mask does not name it, and the stack is empty or its top has a greater
number. -/
def mayTake (s : State) (mask : Byte) (p : Nat) : Bool :=
  decide (1 ≤ p) && decide (p ≤ 8) && (s.tables.plan p).on && !member mask p
    && (match s.preempt.stack with
      | top :: _ => decide (p < top.plan)
      | [] => true)

/-- A plan as it is pushed (R96), in DELAY. -/
def pushed (s : State) (p : Nat) : Stacked where
  plan := p
  phase := .delay
  delay := some ((s.tables.plan p).entryDelay.toNat * 10)
  dwell := none
  duration :=
    if (s.tables.plan p).maxDuration = 0 then none else some ((s.tables.plan p).maxDuration.toNat * 100)

/-- The link interface has been handed some alarms and detector reports and nothing else. -/
def reportedOnly (s t : State) : Prop :=
  ∃ made : List OutFrame, made.all isReport = true ∧ t.link = made.foldl Link.accept s.link

/-- What becomes of a FIFO of forwarded frames that held `queue` when its branch was let arbitrate: it holds it still, or the branch was free and
has begun to send the oldest entry (R111, R121). -/
def fifoKept (before : Branch) (queue : List Forward) (after : Branch) : Prop :=
  after.fifo = queue
    ∨ before.sending = none ∧ before.awaited = none
      ∧ ∃ entry, queue = entry :: after.fifo ∧ after.sending = some (.fwd entry)

/-- The state after a reset of `s` that leaves NRESET low for some ms more and a strike count: every block at its reset values, the queue of
commands kept, and of the nonvolatile memory everything that was not being written (R43, R61, R168, R175). The alarm of the change to LOADING is
being sent once NRESET is high (R163, R185). -/
def resetFrom (s : State) (lowFor strikes : Nat) (t : State) : Prop :=
  t.pending = s.pending ∧ t.clock.powered = true ∧ t.clock.now = 0 ∧ t.clock.awake = 0 ∧ t.event = { }
    ∧ t.clock.lowFor = lowFor ∧ t.link = (if lowFor = 0 then State.reset.link else { State.reset.link with sending := none })
    ∧ t.exchange = { State.reset.exchange with strikes := strikes } ∧ t.preempt = State.reset.preempt
    ∧ t.engine = State.reset.engine ∧ t.control = State.reset.control ∧ t.branches = State.reset.branches
    ∧ t.prover = State.reset.prover ∧ t.detectors = State.reset.detectors ∧ t.faults = State.reset.faults
    ∧ { t.store with nv := State.reset.store.nv } = State.reset.store
    ∧ (s.store.op ≠ .commit → s.control.recordOp ≠ .erasing → t.store.nv = s.store.nv)
    ∧ (s.store.op = .commit → t.store.nv.complete = false)
    ∧ (s.control.recordOp = .erasing → t.store.nv.record.isSome = true)

/-- The command is one of the two resets. -/
def isReset : Instr → Bool
  | .powerOnReset | .nreset _ _ => true
  | _ => false

/-- The command is the end of a table load. -/
def isLoadEnd : Instr → Bool
  | .tableLoadEnd _ _ => true
  | _ => false

/-- The command is a frame from the controller. -/
def isControllerFrame : Instr → Bool
  | .img _ _ _ _ | .calCall _ | .calCancel _ _ | .modRun _ _ _ | .modFlash _ | .twr _ _ _ | .trd _ _ _ | .tcm | .tds
  | .sta _ _ | .fcl | .fwd _ _ _ _ | .unknownKindFrame _ => true
  | _ => false

/-- The command is an image frame. -/
def isImage : Instr → Bool
  | .img _ _ _ _ => true
  | _ => false

/-- The command is a lamp report that the lamp prover may use (R128). -/
def isUsableReport (s : State) : Instr → Bool
  | .lstReceived br _ applied _ => s.usable br applied
  | _ => false

/-- The command can change what a detector channel is sensed to be. -/
def isSensing : Instr → Bool
  | .dsmReceived _ _ _ | .pollAnswerTimeout _ | .commitCompletion => true
  | _ => false

/-- The command is a remote call frame. -/
def isCall : Instr → Bool
  | .calCall _ | .calCancel _ _ => true
  | _ => false

/-- The command is a run request. -/
def isRun : Instr → Bool
  | .modRun _ _ _ => true
  | _ => false

/-- The table set has the records of all seven tables (10, section 10.1). -/
def fullSet (t : TableSet) : Bool :=
  decide (t.groups.length = recordCount 2) && decide (t.conflicts.length = recordCount 3)
    && decide (t.outputs.length = recordCount 4) && decide (t.detectors.length = recordCount 5)
    && decide (t.plans.length = recordCount 6) && decide (t.stations.length = recordCount 7)

/-- The three conditions of a conflict matrix, over all 576 entries (R24). -/
def matrixSound (t : TableSet) : Prop :=
  ∀ i ∈ groupNumbers, ∀ j ∈ groupNumbers,
    (t.entry i j).conflict = (t.entry j i).conflict ∧ (t.entry i i).conflict = 0
      ∧ ((t.entry i j).conflict = 0 → (t.entry i j).intergreen = 0)

/-- RUNNING in calm: the supervisor works and no LAMP_OUT is active. -/
def runningCalm (s : State) : Bool := s.up && decide (s.control.mode = .running) && noLampOut s

end Sys2Proof.Safety
end

