-- ==== Sys2Proof/Certificates/Slice0/Obligations.lean ====
section
/-! DEFINITION. The statements for the provers: steps and resets, the laws of the device as invariants of every step, what each kind of state
is changed by, and what each command does. The rules of spec/ that a statement rests on stand in OBLIGATIONS.json. -/

open Sys2Proof Sys2Proof.Machine Sys2Proof.Safety

/-! ### Steps, resets and supply -/

/-- A step with a command in front of the queue is that command's effect on the state with the queue's rest. -/
def Obligations.StepRunsFrontCommand : Prop :=
  ∀ (c : Instr) (rest : List Instr) (s : State), s.pending = c :: rest → step s = exec c { s with pending := rest }

/-- The model's choice (log 1, log 2): a step with an empty queue passes one millisecond; at every tenth all 10 ms counts move by one, those
of the groups stopping at 65 535 (R5), a delay and a dwell only on top of the plan stack (R97, R99), and a count that has run out stays so. The
expiries then due, and no other command, join the queue. -/
def Obligations.IdleStepPassesOneMillisecond : Prop :=
  ∀ s : State, s.pending = [] → s.up = true →
    ∃ t, step s = .next t ∧ t.clock.now = s.clock.now + 1 ∧ t.clock.phase = (s.clock.phase + 1) % 10
      ∧ t.clock.awake = min 100 (s.clock.awake + 1) ∧ t.clock.lowFor = 0 ∧ t.clock.powered = true
      ∧ t.pending = dueCommands { t with pending := [] } ∧ (∀ g, t.shown g = s.shown g) ∧ t.link = s.link
      ∧ t.prover = s.prover ∧ t.detectors = s.detectors ∧ t.faults = s.faults ∧ t.store = s.store
      ∧ t.control.mode = s.control.mode ∧ t.control.runPermit = s.control.runPermit ∧ t.control.maint = s.control.maint
      ∧ t.exchange.accepted = s.exchange.accepted ∧ t.exchange.strikes = s.exchange.strikes
      ∧ ((s.clock.phase + 1) % 10 ≠ 0 →
        t.engine = s.engine ∧ t.exchange = s.exchange ∧ t.preempt = s.preempt ∧ t.control = s.control
          ∧ t.branches = s.branches)
      ∧ ((s.clock.phase + 1) % 10 = 0 →
        (∀ g, 1 ≤ g → g ≤ s.engine.groups.length →
          (t.group g).time = min 65535 ((s.group g).time + 1)
            ∧ (t.group g).clearance = min 65535 ((s.group g).clearance + 1)
            ∧ (t.group g).deferral = (s.group g).deferral.map (· - 1))
        ∧ (∀ n, s.exchange.supervision = some (.running n) → t.exchange.supervision = some (.running (n - 1)))
        ∧ (∀ n, s.exchange.warning = some n → t.exchange.warning = some (n - 1))
        ∧ (∀ n, s.control.startTimer = some (.running n) → t.control.startTimer = some (.running (n - 1)))
        ∧ (s.control.startTimer = some .expired → t.control.startTimer = some .expired)
        ∧ (s.exchange.supervision = some .expired → t.exchange.supervision = some .expired)
        ∧ t.preempt = { s.preempt with stack := t.preempt.stack } ∧ (s.preempt.stack = [] → t.preempt.stack = [])
        ∧ (∀ x rest, s.preempt.stack = x :: rest →
          t.preempt.stack
            = { x with delay := x.delay.map (· - 1), dwell := x.dwell.map (· - 1), duration := x.duration.map (· - 1) }
              :: rest.map (fun y => { y with duration := y.duration.map (· - 1) }))
        ∧ t.branches
          = s.branches.map (fun b =>
            { b with liveness := b.liveness.map (fun l => { l with repoll := l.repoll.map (· - 1) }) }))
      ∧ (t.control.mode = .start → t.control.startTimer = some (.running 0) → .startUpStopTimerExpiry ∈ t.pending)
      ∧ (t.exchange.supervision = some (.running 0) → .supervisionTimerExpiry ∈ t.pending)
      ∧ (t.control.mode = .warning → t.exchange.warning = some 0 → .warningWindowExpiry ∈ t.pending)
      ∧ (∀ g ∈ groupNumbers, t.tables.live g = true →
        (t.shown g = .prepare → (t.tables.group g).prepareUnits ≤ (t.group g).time → .endOfPrepare g ∈ t.pending)
          ∧ (t.shown g = .clear → (t.tables.group g).clearUnits ≤ (t.group g).time → .endOfClear g ∈ t.pending)
          ∧ (t.shown g = .go → (t.group g).note = .held → (t.tables.group g).minGoUnits ≤ (t.group g).time →
            .minimumGoReached g ∈ t.pending)
          ∧ (t.shown g = .stop → (t.group g).note = .held → (t.tables.group g).minStopUnits ≤ (t.group g).time →
            .minimumStopReached g ∈ t.pending)
          ∧ ((t.group g).deferral = some 0 → .deferralTimerExpiry g ∈ t.pending))
      ∧ (∀ x rest, t.preempt.stack = x :: rest →
        (x.phase = .delay → x.delay = some 0 → .planDelayEnd ∈ t.pending)
          ∧ (x.phase = .dwell → x.dwell = some 0 → .planDwellEnd ∈ t.pending))
      ∧ (∀ x ∈ t.preempt.stack, 1 ≤ x.plan → x.plan ≤ 8 → x.duration = some 0 → .planDurationExpiry x.plan ∈ t.pending)
      ∧ (∀ (br : BranchId) (w : Awaited), (t.branch br).awaited = some w → reached w.deadline t.clock.now = true →
        (w.tag = none → .pollAnswerTimeout br ∈ t.pending)
          ∧ (w.tag.isSome = true → .forwardAnswerTimeout br ∈ t.pending))
      ∧ (∀ br, ∀ l ∈ (t.branch br).liveness, l.repoll = some 0 → .repollTimerExpiry l.station ∈ t.pending)
      ∧ (∀ c d due, t.detector c = some d → reached due t.clock.now = true →
        (d.stuckAt = some due → .stuckDeadlineExpiry c ∈ t.pending)
          ∧ (d.idleAt = some due → .idleDeadlineExpiry c ∈ t.pending))

/-- Either reset sets every block to its reset values; a power-on reset sets the strike count to 0 and the NRESET line keeps it, unless the
supply is rising. A low level shorter than 1 ms is ignored. While the line stays low, which the model counts in ms rounded up (log 41), nothing but a
reset or a loss of supply changes anything and cabinet time stands; when it returns high LOADING begins, and its alarm is sent. -/
def Obligations.ResetsSetEveryBlock : Prop :=
  ∀ s : State,
    (∃ t, exec .powerOnReset s = .next t ∧ resetFrom s 0 0 t)
      ∧ (∀ (low : Nat) (rising : Bool),
        (low < 1000 → exec (.nreset low rising) s = .next s)
          ∧ (1000 ≤ low → rising = true →
            ∃ t, exec (.nreset low rising) s = .next t ∧ resetFrom s ((low - 1) / 1000) 0 t)
          ∧ (1000 ≤ low → rising = false → s.clock.powered = true →
            ∃ t, exec (.nreset low rising) s = .next t ∧ resetFrom s ((low - 1) / 1000) s.exchange.strikes t))
      ∧ (s.clock.powered = true → s.clock.lowFor ≠ 0 →
        (∀ c : Instr, isReset c = false → c ≠ .supplyLoss → exec c s = .next s)
          ∧ (s.pending = [] →
            (1 < s.clock.lowFor → step s = .next { s with clock.lowFor := s.clock.lowFor - 1 })
              ∧ (s.clock.lowFor = 1 → step s = .next { s with clock.lowFor := 0, link := State.reset.link })))

/-- A supply that falls below its range releases RUNPERMIT at once, and nothing else that the blocks show changes. From then on (the model's
choice, log 6) no command but a reset by the returning supply changes anything. -/
def Obligations.SupplyLossReleasesRunpermit : Prop :=
  (∀ s : State, s.clock.powered = true →
    ∃ t, exec .supplyLoss s = .next t ∧ t.clock.powered = false ∧ t.control.runPermit = false
      ∧ t.control.mode = s.control.mode ∧ t.clock.now = s.clock.now ∧ t.pending = s.pending ∧ t.link = s.link
      ∧ t.exchange = s.exchange ∧ t.preempt = s.preempt ∧ t.engine = s.engine ∧ t.branches = s.branches
      ∧ t.prover = s.prover ∧ t.detectors = s.detectors ∧ t.faults = s.faults ∧ t.store.active = s.store.active
      ∧ (s.store.op ≠ .commit → s.control.recordOp ≠ .erasing → t.store.nv = s.store.nv)
      ∧ (s.store.op = .commit → t.store.nv.complete = false)
      ∧ (s.control.recordOp = .erasing → t.store.nv.record.isSome = true))
    ∧ ∀ (c : Instr) (s : State), s.clock.powered = false → c ≠ .powerOnReset → (∀ low, c ≠ .nreset low true) →
      exec c s = .next s

/-- The values that the chapters give for a reset: mode, RUNPERMIT, image exchange, preemption, groups, proving, fault list, table store, and
the one alarm, which the idle transmitter has begun to send; and every law holds there. -/
def Obligations.ResetValuesAndLaws : Prop :=
  State.reset.control.mode = .loading ∧ State.reset.control.runPermit = false ∧ State.reset.control.lastCause = .reset
    ∧ State.reset.control.maint = false ∧ State.reset.control.closeTarget = none
    ∧ State.reset.control.startTimer = none ∧ State.reset.control.recordOp = .none
    ∧ State.reset.exchange.expectedChain = none ∧ State.reset.exchange.accepted = none
    ∧ State.reset.exchange.supervision = none ∧ State.reset.exchange.warning = none
    ∧ State.reset.exchange.strikes = 0 ∧ State.reset.exchange.imagesAccepted = 0
    ∧ State.reset.preempt.stack = [] ∧ State.reset.preempt.slot = none ∧ State.reset.preempt.inhibit = 0
    ∧ (∀ g ∈ groupNumbers, State.reset.group g
        = { shown := .flash, time := 0, clearance := 0, target := .stop, source := .image, note := .none,
            deferral := none })
    ∧ State.reset.engine.imageNumber = 0
    ∧ (∀ c ∈ numbers 96, (State.reset.proving c).proved = none ∧ (State.reset.proving c).lampOut = false
        ∧ (State.reset.proving c).foreign = false ∧ (State.reset.proving c).last = none)
    ∧ (∀ br ∈ branchIds, (State.reset.branch br).turn = .pol ∧ (State.reset.branch br).fifo = []
        ∧ (State.reset.branch br).lastApply = none ∧ (State.reset.branch br).awaited = none
        ∧ (State.reset.branch br).assembler = .waiting)
    ∧ (∀ c ∈ numbers 48, State.reset.detector c = none)
    ∧ State.reset.faults.entries = [] ∧ State.reset.faults.changeNumber = 0 ∧ State.reset.faults.alarmNumber = 0
    ∧ State.reset.store.active = none ∧ State.reset.store.working = defaultSet ∧ State.reset.store.generation = 0
    ∧ State.reset.store.valid = false ∧ State.reset.store.op = .idle ∧ State.reset.store.lastCommit = .none
    ∧ State.reset.link.sending.map OutFrame.payload
      = some [0, 0, 1, 0, 0, 0, 0, 0, 0, 0, 0, 0, 0, 0, 0, 0, 0, 0, 0]
    ∧ State.reset.link.queue = [] ∧ State.reset.link.reportsLost = false ∧ State.reset.link.assembler = .waiting
    ∧ State.reset.up = true ∧ State.reset.clock.now = 0
    ∧ exclusionLaw State.reset = true ∧ intergreenLaw State.reset = true ∧ permitLaw State.reset = true
    ∧ aspectLaw State.reset = true ∧ darkLaw State.reset = true ∧ deferralLaw State.reset = true ∧ stackLaw State.reset = true
    ∧ targetLaw State.reset = true ∧ effectiveLaw State.reset ∧ strikeLaw State.reset = true ∧ tableLaw State.reset = true
    ∧ branchLaw State.reset = true ∧ faultLaw State.reset = true ∧ queueLaw State.reset = true
    ∧ detectorLaw State.reset = true ∧ provingLaw State.reset = true ∧ recordLaw State.reset = true

/-! ### The laws, kept by every step -/

/-- First law: no step shows two groups in conflict PREPARE or GO together. The other laws it leans on stand as premises, each a statement of
its own. -/
def Obligations.StepKeepsExclusion : Prop :=
  ∀ s t : State, tableLaw s = true → aspectLaw s = true → exclusionLaw s = true → step s = .next t →
    exclusionLaw t = true

/-- Second law, as the clocks keep it. -/
def Obligations.StepKeepsIntergreens : Prop :=
  ∀ s t : State, tableLaw s = true → aspectLaw s = true → exclusionLaw s = true → intergreenLaw s = true →
    step s = .next t → intergreenLaw t = true

/-- A group is shown entering GO only when the clearance clock of every live group in conflict with it is at least ten times the intergreen
from that group to it. -/
def Obligations.GoOnlyAfterIntergreens : Prop :=
  ∀ s t : State, tableLaw s = true → aspectLaw s = true → exclusionLaw s = true → intergreenLaw s = true →
    step s = .next t →
    ∀ i j : Nat, t.tables.conflict i j = true → s.shown j ≠ .go → t.shown j = .go →
      (t.tables.entry i j).intergreen.toNat * 10 ≤ (t.group i).clearance

/-- Third law: RUNPERMIT is energized exactly in the permit modes, and released without supply and while NRESET is low. -/
def Obligations.StepKeepsRunpermitLaw : Prop :=
  ∀ s t : State, permitLaw s = true → step s = .next t → permitLaw t = true

/-- Fourth law: live groups are shown FLASH exactly in LOADING, FLASH and LOCKOUT. And a group above the number in use is shown DARK in every mode but
LOADING, with its target (log 26), note and deferral timer as R1 has them; in LOADING all 24 are shown FLASH. -/
def Obligations.StepKeepsAspectLaw : Prop :=
  ∀ s t : State, tableLaw s = true → aspectLaw s = true → step s = .next t →
    aspectLaw t = true ∧ (darkLaw s = true → darkLaw t = true)

/-- Fifth law: note DEFERRED exactly with a deferral timer. -/
def Obligations.StepKeepsDeferralLaw : Prop :=
  ∀ s t : State, deferralLaw s = true → step s = .next t → deferralLaw t = true

/-- Sixth law: the plan stack. -/
def Obligations.StepKeepsStackLaw : Prop :=
  ∀ s t : State, tableLaw s = true → stackLaw s = true → step s = .next t → stackLaw t = true

/-- Seventh law: the effective requested image never asks GO for two groups in conflict. And every step leaves each group's target as R7 to R9 give
it: that of the overlay in force, else that of the accepted image with its clamps, and STOP outside RUNNING and WARNING. -/
def Obligations.StepKeepsTargetLaw : Prop :=
  ∀ s t : State, step s = .next t →
    (tableLaw s = true → stackLaw s = true → targetLaw s = true → targetLaw t = true)
      ∧ (effectiveLaw s → effectiveLaw t)

/-- Eighth law: the strike count. -/
def Obligations.StepKeepsStrikeLaw : Prop :=
  ∀ s t : State, strikeLaw s = true → step s = .next t → strikeLaw t = true

/-- Ninth law: the active tables pass the checks, and without them the mode is a flash mode. -/
def Obligations.StepKeepsTableLaw : Prop :=
  ∀ s t : State, tableLaw s = true → step s = .next t → tableLaw t = true

/-- Eleventh law: at most 32 fault entries, no two of one kind and subject. -/
def Obligations.StepKeepsFaultLaw : Prop :=
  ∀ s t : State, faultLaw s = true → step s = .next t → faultLaw t = true

/-- Tenth law: a branch that awaits an answer sends nothing, and its FIFO holds at most four entries. With it the bounds of the outgoing queue
and of the detectors' pending lists, that no run is held toward an active lamp fault, and that a lockout record is PRESENT in LOCKOUT and while one is
being written or erased. -/
def Obligations.StepKeepsBranchLawAndBounds : Prop :=
  ∀ s t : State, step s = .next t →
    (branchLaw s = true → branchLaw t = true) ∧ (queueLaw s = true → queueLaw t = true) ∧ (detectorLaw s = true → detectorLaw t = true)
      ∧ (provingLaw s = true → provingLaw t = true) ∧ (recordLaw s = true → recordLaw t = true)

/-! ### What changes each kind of state -/

/-- The active tables and their generation change only at the end of a load, at the completion of a commit and at a reset; the words of the
nonvolatile store only where a write is made or cut, or a load finds bits gone wrong. -/
def Obligations.TablesChangeOnlyWhereGiven : Prop :=
  ∀ (c : Instr) (s t : State), exec c s = .next t → isReset c = false → isLoadEnd c = false →
    (c ≠ .commitCompletion →
        t.store.active = s.store.active ∧ t.store.generation = s.store.generation
          ∧ t.store.corrected = s.store.corrected ∧ t.store.tablesCorrected = s.store.tablesCorrected)
      ∧ (c ≠ .commitCompletion → c ≠ .commitWriteFailure → c ≠ .supplyLoss →
        t.store.nv.words = s.store.nv.words ∧ t.store.nv.generation = s.store.nv.generation
          ∧ t.store.nv.check = s.store.nv.check ∧ t.store.valid = s.store.valid
          ∧ t.store.lastCommit = s.store.lastCommit
          ∧ (c ≠ .tcm → t.store.nv.complete = s.store.nv.complete))

/-- Cabinet time, the supply, NRESET and the queue of commands: no command but a reset moves cabinet time, only resets and a loss of supply concern
the supply and the line, and no command changes the queue behind it. -/
def Obligations.CommandsPassNoTime : Prop :=
  ∀ (c : Instr) (s t : State), exec c s = .next t →
    t.pending = s.pending
      ∧ (isReset c = false → t.clock.now = s.clock.now ∧ t.clock.phase = s.clock.phase ∧ t.clock.awake = s.clock.awake
        ∧ (c ≠ .supplyLoss → t.clock.powered = s.clock.powered ∧ t.clock.lowFor = s.clock.lowFor))

/-- What comes from outside is kept as it came: the strike count, the counters of images, the MAINT state, the preemption lines, the inhibit
mask, the chain and the accepted image, the remote call slot, the frame being sent and what a detector is sensed to be change only at the
commands that concern them, or are removed with the mode. An event numbers at most one image. -/
def Obligations.InputsChangeOnlyWhereGiven : Prop :=
  ∀ (c : Instr) (s t : State), exec c s = .next t → isReset c = false →
    (c ≠ .warningWindowExpiry → c ≠ .fcl → t.exchange.strikes = s.exchange.strikes)
      ∧ (isImage c = false →
        t.exchange.imagesAccepted = s.exchange.imagesAccepted ∧ t.exchange.imagesRefused = s.exchange.imagesRefused
          ∧ (t.preempt.inhibit = s.preempt.inhibit ∨ t.preempt.inhibit = 0)
          ∧ (t.exchange.accepted = s.exchange.accepted ∨ t.exchange.accepted = none)
          ∧ (isRun c = false →
            t.exchange.expectedChain = s.exchange.expectedChain ∨ t.exchange.expectedChain = none))
      ∧ ((∀ active held, c ≠ .maintStateChange active held) → t.control.maint = s.control.maint)
      ∧ ((∀ line active held, c ≠ .peLineChange line active held) → t.preempt.lines = s.preempt.lines)
      ∧ (isCall c = false → t.preempt.slot = s.preempt.slot ∨ t.preempt.slot = none)
      ∧ (c ≠ .outgoingFrameSent → s.link.sending.isSome = true → t.link.sending = s.link.sending)
      ∧ (isSensing c = false → isLoadEnd c = false → ∀ n,
        (t.detector n).map Detector.raw = (s.detector n).map Detector.raw
          ∧ (t.detector n).map Detector.occupied = (s.detector n).map Detector.occupied)
      ∧ (t.engine.imageNumber = s.engine.imageNumber ∨ t.engine.imageNumber = s.engine.imageNumber + 1)

/-- Twelfth law: a lamp-out or foreign-current run is advanced only by a usable lamp report: every other command leaves each run as it is or
removes it. -/
def Obligations.RunsAdvanceOnlyAtUsableReports : Prop :=
  ∀ (c : Instr) (s t : State), exec c s = .next t → isUsableReport s c = false →
    ∀ n : Nat,
      ((t.proving n).outRun = (s.proving n).outRun ∨ (t.proving n).outRun = none)
        ∧ ((t.proving n).foreignRun = (s.proving n).foreignRun ∨ (t.proving n).foreignRun = none)

/-! ### Frames from the controller -/

/-- Every frame but a forwarded one is answered: an image by an echo frame that shows the blocks as they stand, every other frame, also one of an
unknown kind, by a reply. That the answer is placed behind the alarms and detector reports of its event is the model's choice (log 18); what the queue
held before stands before them. The echo's worst action is that of the ACTIVE entries, or the report that the event made. -/
def Obligations.FramesAreAnswered : Prop :=
  ∀ s : State, listening s = true →
    (∀ (chain next : Half) (inhibit : Byte) (targets : BitVec 48), ∃ t e, ∃ made : List OutFrame,
        exec (.img chain next inhibit targets) s = .next t ∧ made.all isReport = true
          ∧ t.link = (made.foldl Link.accept s.link).accept (.ech e)
          ∧ e.reportsLost = (made.foldl Link.accept s.link).reportsLost
          ∧ e.mode = t.control.mode ∧ e.strikes = t.exchange.strikes ∧ e.imageNumber = t.engine.imageNumber
          ∧ e.groups = t.engine.groups.map (fun x => { shown := x.shown, note := x.note })
          ∧ e.topPlan = t.topPlan ∧ e.depth = t.preempt.stack.length ∧ e.pendingSet = t.pendingSet
          ∧ e.nestingLimit = t.preempt.nestingLimit
          ∧ e.tablesCorrected = t.store.tablesCorrected ∧ e.activeFaults = t.faults.activeCount
          ∧ (s.control.mode.permit = false → e.result = .mode)
          ∧ (s.control.mode.permit = true → s.exchange.expectedChain ≠ some chain → e.result = .chain)
          ∧ (s.control.mode.permit = true → s.exchange.expectedChain = some chain →
            ((next = chain ∨ ∃ g ∈ groupNumbers, targetCode targets g = 3) → e.result = .range)
              ∧ (next ≠ chain → (∀ g ∈ groupNumbers, targetCode targets g ≠ 3) →
                e.result = (if s.requestedConflict (targetsOf targets) then .conflict else .ok)))
          ∧ (∀ x ∈ t.faults.entries, x.active = true → x.action.code ≤ e.worst.code)
          ∧ (e.result = .chain ∨ e.result = .conflict → 1 ≤ e.worst.code)
          ∧ (noLampOut s = true → e.worst.code ≤ 1 ∨ ∃ x ∈ t.faults.entries, x.active = true ∧ x.action = e.worst))
      ∧ (∀ plan : Byte, ∃ t r, exec (.calCall plan) s = .next t ∧ answered s t (.rpl 0x11 r [])
          ∧ (s.control.mode.permit = false → r = .mode))
      ∧ (∀ plan request : Byte, ∃ t r, exec (.calCancel plan request) s = .next t
          ∧ answered s t (.rpl 0x11 r []) ∧ (s.control.mode.permit = false → r = .mode)
          ∧ (s.control.mode.permit = true → 1 < request.toNat → r = .range))
      ∧ (∀ cabinet generation chain : Half, ∃ t r, exec (.modRun cabinet generation chain) s = .next t
          ∧ answered s t (.rpl 0x12 r []) ∧ (s.control.mode ≠ .flash → r = .mode)
          ∧ (s.control.mode = .flash → s.storeBusy = true → r = .busy)
          ∧ (s.control.mode = .flash → s.storeBusy = false → s.store.active = none → r = .invalid)
          ∧ (s.control.mode = .flash → s.storeBusy = false → s.store.active.isSome = true →
            (cabinet ≠ s.tables.cabinet.number ∨ generation ≠ s.store.generation) → r = .mismatch))
      ∧ (∀ request : Byte, request ≠ 1 → ∃ t r, exec (.modFlash request) s = .next t
          ∧ answered s t (.rpl 0x12 r []) ∧ (s.control.mode = .loading → r = .mode)
          ∧ (s.control.mode ≠ .loading → r = .range))
      ∧ (∀ (table index : Byte) (content : List Byte), ∃ t r, exec (.twr table index content) s = .next t
          ∧ answered s t (.rpl 0x13 r []))
      ∧ (∀ table index copy : Byte, ∃ t r b, exec (.trd table index copy) s = .next t
          ∧ answered s t (.rpl 0x14 r b) ∧ (s.control.mode = .loading → r = .mode)
          ∧ (s.control.mode ≠ .loading → recordExists table index = false → r = .range)
          ∧ (s.control.mode ≠ .loading → 2 < copy.toNat → r = .range))
      ∧ (∃ t r b, exec .tcm s = .next t ∧ answered s t (.rpl 0x15 r b))
      ∧ (∃ t r, exec .tds s = .next t ∧ answered s t (.rpl 0x16 r []))
      ∧ (∀ (part : Byte) (first : Half), ∃ t r b, exec (.sta part first) s = .next t
          ∧ answered s t (.rpl 0x17 r b))
      ∧ (∃ t r b, exec .fcl s = .next t ∧ answered s t (.rpl 0x18 r b))
      ∧ (∀ kind : Byte, ∃ t, exec (.unknownKindFrame kind) s = .next t
          ∧ answered s t (.rpl kind .unknown []))

/-- An accepted image in RUNNING becomes the accepted image, advances the chain and the counter, sets the supervision timer and hands on the
inhibit mask; the mode stays. A changed mask makes the preemption unit consider taking: of the PENDING plans that the new mask leaves free, the one with
the smallest number is taken, and stays in DELAY unless it is a LEVEL plan whose source is inactive. -/
def Obligations.ImageAcceptedInRunning : Prop :=
  ∀ (chain next : Half) (inhibit : Byte) (targets : BitVec 48) (s : State), runningCalm s = true → s.hears = true →
    s.exchange.expectedChain = some chain → next ≠ chain → (∀ g ∈ groupNumbers, targetCode targets g ≠ 3) →
    s.requestedConflict (targetsOf targets) = false →
    ∃ t e, exec (.img chain next inhibit targets) s = .next t
      ∧ calmFrame
        { s with
          exchange :=
            { s.exchange with
              accepted := some { chain := chain, next := next, inhibit := inhibit, targets := targetsOf targets,
                                 time := s.clock.now }
              expectedChain := some next, imagesAccepted := s.exchange.imagesAccepted + 1
              supervision := some (.running (s.tables.cabinet.supervision.toNat * 10)) } } t
      ∧ t.preempt.inhibit = inhibit ∧ replied s t (.ech e) ∧ e.result = .ok
      ∧ (inhibit ≠ s.preempt.inhibit → s.preempt.stack.length < 4 → s.preempt.plans.length = 8 →
        ∀ p, (s.plan p).pending = true → mayTake s inhibit p = true →
          (∀ q, q < p → (s.plan q).pending = true → mayTake s inhibit q = false) → (s.tables.plan p).entryDelay ≠ 0 →
          ((s.tables.plan p).level = true → (s.plan p).active = true) →
          t.preempt.stack = pushed s p :: s.preempt.stack ∧ (t.plan p).pending = false)

/-- A refused image counts as refused and changes no mode, no chain, no accepted image and no timer. The first check that fails, of the mode,
the chain, the next chain and the targets' range, and the requested conflict, gives the result. A refusal with CHAIN or CONFLICT reports its occurrence,
which is listed ENDED with the action REPORT; in WARNING every refusal also reports the recurrence of SUPERVISION, and its own fault first (the model's
choice, log 52); a refusal with MODE, or with RANGE outside WARNING, reports nothing. -/
def Obligations.ImageRefused : Prop :=
  ∀ (chain next : Half) (inhibit : Byte) (targets : BitVec 48) (s : State), listening s = true →
    noLampOut s = true → s.control.mode ≠ .closing →
    (s.control.mode.permit = false ∨ s.exchange.expectedChain ≠ some chain ∨ next = chain
      ∨ (∃ g ∈ groupNumbers, targetCode targets g = 3) ∨ s.requestedConflict (targetsOf targets) = true) →
    ∃ t e, exec (.img chain next inhibit targets) s = .next t
      ∧ calmFrame { s with exchange.imagesRefused := s.exchange.imagesRefused + 1 } t
      ∧ replied s t (.ech e)
      ∧ (s.control.mode.permit = false → e.result = .mode)
      ∧ (s.control.mode.permit = true → s.exchange.expectedChain ≠ some chain → e.result = .chain)
      ∧ (s.control.mode.permit = true → s.exchange.expectedChain = some chain →
        (next = chain ∨ ∃ g ∈ groupNumbers, targetCode targets g = 3) → e.result = .range)
      ∧ (s.control.mode.permit = true → s.exchange.expectedChain = some chain → next ≠ chain →
        (∀ g ∈ groupNumbers, targetCode targets g ≠ 3) → e.result = .conflict)
      ∧ (s.preempt.stack.length ≤ 4 → faultLaw s = true → s.faults.entries.length < 31 →
        (e.result = .chain → notActive s .chain none → listed t .chain none false .report)
          ∧ (e.result = .conflict → notActive s .requestedConflict none → listed t .requestedConflict none false .report)
          ∧ (s.control.mode = .warning → listed t .supervision none true .report))
      ∧ (s.preempt.stack.length ≤ 4 → (∀ g, s.redFail g = false) →
        t.faults = (refusalReported e.result s).faults)

/-- An accepted image takes WARNING back to RUNNING and ends the lapse. In START it enters RUNNING once the start-up stop timer has expired,
and until then is noted as the first image. -/
def Obligations.ImageEndsWarningAndStart : Prop :=
  ∀ (chain next : Half) (inhibit : Byte) (targets : BitVec 48) (s : State), listening s = true →
    noLampOut s = true → s.exchange.expectedChain = some chain → next ≠ chain →
    (∀ g ∈ groupNumbers, targetCode targets g ≠ 3) → s.requestedConflict (targetsOf targets) = false →
    (s.control.mode = .warning → ∃ t, exec (.img chain next inhibit targets) s = .next t
        ∧ t.control = { s.control with mode := .running, runPermit := true, lastCause := .imageResumed,
                                       startTimer := none, firstImage := none }
        ∧ t.exchange.warning = none ∧ t.exchange.expectedChain = some next
        ∧ t.exchange.supervision = some (.running (s.tables.cabinet.supervision.toNat * 10)) ∧ t.store = s.store)
      ∧ (s.control.mode = .start → s.control.startTimer = some .expired →
        ∃ t, exec (.img chain next inhibit targets) s = .next t
          ∧ t.control = { s.control with mode := .running, runPermit := true, lastCause := .startDone,
                                         startTimer := none, firstImage := none }
          ∧ t.exchange.expectedChain = some next ∧ t.store = s.store)
      ∧ (s.control.mode = .start → s.control.startTimer ≠ some .expired →
        ∃ t, exec (.img chain next inhibit targets) s = .next t
          ∧ t.control = { s.control with firstImage := some true } ∧ t.exchange.expectedChain = some next
          ∧ t.store = s.store)

/-- A remote call fills the empty slot and makes its plan's source active, so that a LEVEL plan not spent is PENDING; in RUNNING the plan with the smallest
number among those that may be taken is taken at once, and stays in DELAY. A call that finds the slot's plan on the stack is answered BUSY and changes
nothing, here where the targets are the effective ones (effectiveLaw, which every step keeps), so that no group moves at the event. A cancel empties the
slot while its plan is not stacked, and marks it CANCELLED while the plan dwells; a LEVEL plan in HOLD ends at it, the slot is emptied, and the plan below
resumes where none is taken. -/
def Obligations.RemoteCallAndCancel : Prop :=
  ∀ (plan : Byte) (s : State), listening s = true → s.preempt.plans.length = 8 → 1 ≤ plan.toNat → plan.toNat ≤ 8 →
    (s.tables.plan plan.toNat).on = true → (s.tables.plan plan.toNat).remote = true →
    (noLampOut s = true → s.control.mode = .start → s.preempt.stack = [] → s.preempt.slot = none →
      ∃ t, exec (.calCall plan) s = .next t ∧ calmFrame s t ∧ t.preempt.stack = []
        ∧ t.preempt.slot = some { plan := plan.toNat, called := true } ∧ (t.plan plan.toNat).active = true
        ∧ ((s.tables.plan plan.toNat).level = true → (t.plan plan.toNat).pending = !(s.plan plan.toNat).spent)
        ∧ (∀ q, q ≠ plan.toNat → t.plan q = s.plan q) ∧ replied s t (.rpl 0x11 .ok []))
      ∧ (∀ called, s.control.mode.permit = true → s.preempt.slot = some { plan := plan.toNat, called := called } →
        s.stacked plan.toNat = false →
        ∃ t, exec (.calCancel plan 1) s = .next t ∧ t.preempt.slot = none ∧ (t.plan plan.toNat).active = false
          ∧ replied s t (.rpl 0x11 .ok []))
      ∧ (∀ called x rest n, runningCalm s = true →
        s.preempt.slot = some { plan := plan.toNat, called := called } → s.preempt.stack = x :: rest →
        x.plan = plan.toNat → x.phase = .dwell → x.dwell = some (n + 1) →
        ∃ t, exec (.calCancel plan 1) s = .next t ∧ calmFrame s t
          ∧ t.preempt.slot = some { plan := plan.toNat, called := false } ∧ t.preempt.stack = s.preempt.stack
          ∧ replied s t (.rpl 0x11 .ok []))
      ∧ (runningCalm s = true → s.preempt.slot = none → s.preempt.stack.length < 4 → s.stacked plan.toNat = false →
        (s.tables.plan plan.toNat).level = true → (s.plan plan.toNat).spent = false → (s.plan plan.toNat).pending = false →
        mayTake s s.preempt.inhibit plan.toNat = true →
        (∀ q, q < plan.toNat → (s.plan q).pending = true → mayTake s s.preempt.inhibit q = false) →
        (s.tables.plan plan.toNat).entryDelay ≠ 0 →
        ∃ t, exec (.calCall plan) s = .next t ∧ calmFrame s t
          ∧ t.preempt.slot = some { plan := plan.toNat, called := true }
          ∧ t.preempt.stack = pushed s plan.toNat :: s.preempt.stack
          ∧ (t.plan plan.toNat).active = true ∧ (t.plan plan.toNat).pending = false
          ∧ (∀ q, q ≠ plan.toNat → t.plan q = s.plan q) ∧ replied s t (.rpl 0x11 .ok []))
      ∧ (∀ slot, noLampOut s = true → s.control.mode.admits = true → effectiveLaw s → s.preempt.slot = some slot →
        s.stacked slot.plan = true →
        ∃ t, exec (.calCall plan) s = .next t ∧ calmFrame s t ∧ t.preempt = s.preempt
          ∧ replied s t (.rpl 0x11 .busy []))
      ∧ (∀ called x rest, runningCalm s = true →
        s.preempt.slot = some { plan := plan.toNat, called := called } → s.preempt.stack = x :: rest →
        x.plan = plan.toNat → x.phase = .hold → (s.tables.plan plan.toNat).level = true →
        ∃ t, exec (.calCancel plan 1) s = .next t ∧ calmFrame s t ∧ t.preempt.slot = none
          ∧ t.stacked plan.toNat = false ∧ (t.plan plan.toNat).outcome = .ended ∧ (t.plan plan.toNat).active = false
          ∧ (t.plan plan.toNat).pending = false ∧ replied s t (.rpl 0x11 .ok [])
          ∧ ((∀ q, q ≠ plan.toNat → (s.plan q).pending = false) → (∀ y ∈ rest, y.plan ≠ plan.toNat) →
            (∀ y below, rest = y :: below → (s.tables.plan y.plan).level = true → (s.plan y.plan).active = true) →
            (∀ y below, rest = y :: below → y.phase = .hold ∧ (s.tables.plan y.plan).level = true
              ∨ y.phase = .delay ∧ y.delay ≠ some 0 ∨ y.phase = .dwell ∧ y.dwell ≠ some 0) →
            t.preempt.stack = rest))

/-- START entry: RUNPERMIT is energized, the start-up stop timer and supervision start, the start chain is expected, and every live group is
shown STOP with its counts at 0. Where an OUTPUT station is ABSENT or lagging, its fault is reported again and the cabinet is back in FLASH at the
same event (R119), in the order of log 15. The change of mode makes one alarm, here with no RED_FAIL to end, and it stands before the reply (log 18). -/
def Obligations.RunRequestEntersStart : Prop :=
  ∀ (startChain : Half) (s : State), listening s = true → noLampOut s = true →
    s.control.mode = .flash → s.storeBusy = false → s.store.active.isSome = true →
    (stationsWell s = true → ∃ t, exec (.modRun s.tables.cabinet.number s.store.generation startChain) s = .next t
        ∧ t.control
          = { s.control with
              mode := .start, runPermit := true, lastCause := .modRun
              startTimer := some (.running (s.tables.cabinet.startUp.toNat * 10)), firstImage := some false }
        ∧ t.exchange
          = { s.exchange with
              expectedChain := some startChain, accepted := none, warning := none
              supervision := some (.running (s.tables.cabinet.supervision.toNat * 10)) }
        ∧ (∀ g, inService s g = true →
          t.shown g = .stop ∧ (t.group g).time = 0 ∧ (t.group g).clearance = 0 ∧ (t.group g).target = .stop)
        ∧ (aspectLaw s = true → s.tables.live 1 = true → t.engine.imageNumber = s.engine.imageNumber + 1)
        ∧ t.preempt = s.preempt ∧ t.detectors = s.detectors ∧ t.store = s.store ∧ t.clock = s.clock ∧ t.pending = s.pending
        ∧ replied s t (.rpl 0x12 .ok [])
        ∧ ((∀ g, s.redFail g = false) →
          t.faults = { s.faults with alarmNumber := s.faults.alarmNumber + 1 }
            ∧ t.link
              = (s.link.accept
                (.alm
                  { number := s.faults.alarmNumber + 1, body := .mode .flash .start .modRun, time := s.clock.now
                    activeFaults := t.faults.activeCount, worst := t.worst })).accept (.rpl 0x12 .ok [])))
      ∧ (∀ (br : BranchId) (l : Liveness) (kind : FaultKind), l ∈ (s.branch br).liveness →
        s.tables.roleOn br l.station = some .output →
        (kind = .stationAbsent ∧ l.present = false ∨ kind = .stationLag ∧ l.lagging = true) →
        ∃ t, exec (.modRun s.tables.cabinet.number s.store.generation startChain) s = .next t
          ∧ transferred s t .flash .faultFlash ∧ replied s t (.rpl 0x12 .ok [])
          ∧ ((∃ e ∈ s.faults.entries, e.kind = kind ∧ e.subject = some l.station ∧ e.active = true) → faultLaw s = true →
            listed t kind (some l.station) true .flash))

/-- A flash request by the mode at its arrival: refused in LOADING and LOCKOUT, without effect in FLASH and in CLOSING, where the close goes on, and the beginning of a
close toward FLASH in START, RUNNING and WARNING, which ends at once when every live group is shown STOP or DARK. It counts no strike. -/
def Obligations.FlashRequestByMode : Prop :=
  ∀ s : State, listening s = true → noLampOut s = true →
    ∃ t r, exec (.modFlash 1) s = .next t ∧ replied s t (.rpl 0x12 r [])
      ∧ t.exchange.strikes = s.exchange.strikes
      ∧ (s.control.mode = .loading ∨ s.control.mode = .lockout → r = .mode)
      ∧ (s.control.mode = .flash → r = .ok)
      ∧ (s.control.mode.permit = false → calmFrame s t
        ∧ (resting s = true → restFrame s t ∧ t.link = s.link.accept (.rpl 0x12 r [])))
      ∧ (s.control.mode = .closing → r = .ok ∧ (t.control.mode = .closing → t.control = s.control)
        ∧ ((∃ g, inService s g = true ∧ s.shown g = .clear ∧ (s.group g).time < (s.tables.group g).clearUnits) → t.control = s.control))
      ∧ (s.control.mode = .start ∨ s.control.mode = .running ∨ s.control.mode = .warning →
        r = .ok
          ∧ ((t.control.mode = .closing ∧ t.control.runPermit = true ∧ t.control.closeTarget = some .flash
              ∧ t.control.closeCause = some .modFlash ∧ t.control.lastCause = .modFlash)
            ∨ (t.control.mode = .flash ∧ t.control.runPermit = false ∧ t.control.lastCause = .closeDone))
          ∧ (s.closed = true → t.control.mode = .flash)
          ∧ ((∃ g, inService s g = true ∧ s.shown g = .clear
              ∧ (s.group g).time < (s.tables.group g).clearUnits) → t.control.mode = .closing))

/-! ### The table store -/

/-- A table write in FLASH or LOCKOUT replaces the record of the working copy and nothing else; a refused one changes nothing. -/
def Obligations.TableWriteEditsWorkingCopy : Prop :=
  ∀ (table index : Byte) (content : List Byte) (s : State), resting s = true → s.hears = true →
    (s.control.mode.edits = true → s.store.op = .idle → recordExists table index = true →
      content.length = recordLength table.toNat →
      ∃ t, exec (.twr table index content) s = .next t
        ∧ restFrame
          { s with store.working := writeRecord s.store.working table.toNat index.toNat content } t
        ∧ t.link = s.link.accept (.rpl 0x13 .ok []))
      ∧ (s.control.mode.edits = false ∨ s.store.op ≠ .idle ∨ recordExists table index = false
          ∨ content.length ≠ recordLength table.toNat →
        ∃ t r, exec (.twr table index content) s = .next t ∧ restFrame s t ∧ t.link = s.link.accept (.rpl 0x13 r [])
          ∧ (s.control.mode.edits = false → r = .mode)
          ∧ (s.control.mode.edits = true → s.store.op ≠ .idle → r = .busy)
          ∧ (s.control.mode.edits = true → s.store.op = .idle → r = .range))

/-- A record written is read back byte for byte, and every other record reads as before. -/
def Obligations.RecordWriteThenRead : Prop :=
  ∀ (t : TableSet) (table index : Nat) (content : List Byte), fullSet t = true → 1 ≤ index →
    index ≤ recordCount table → content.length = recordLength table →
    recordBytes (writeRecord t table index content) table index = content
      ∧ ∀ table' index', 1 ≤ index' → index' ≤ recordCount table' → (table' ≠ table ∨ index' ≠ index) →
        recordBytes (writeRecord t table index content) table' index' = recordBytes t table' index'

/-- The words of a set in the store spell the set back, record by record. -/
def Obligations.StoredWordsSpellTheSet : Prop :=
  ∀ (t : TableSet) (table index : Nat), fullSet t = true → (∀ row ∈ t.conflicts, row.length = 24) → 1 ≤ index →
    index ≤ recordCount table →
    bytesFromWords (setWords t) table index = recordBytes t table index
      ∧ (setWords t).length = setWordCount ∧ setFromWords (setWords t) = t

/-- Reads change nothing: a table read gives the record of the copy asked for, a status read the items as the blocks stand, and a frame of an
unknown kind is answered UNKNOWN. -/
def Obligations.ReadsChangeNothing : Prop :=
  ∀ s : State, resting s = true → s.hears = true →
    (∀ table index : Byte, s.control.mode ≠ .loading → recordExists table index = true →
      (∀ a, s.store.active = some a → ∃ t, exec (.trd table index 0) s = .next t ∧ restFrame s t
          ∧ t.link = s.link.accept (.rpl 0x14 .ok (recordBytes a table.toNat index.toNat)))
        ∧ (s.store.active = none → ∃ t, exec (.trd table index 0) s = .next t ∧ restFrame s t
          ∧ t.link = s.link.accept (.rpl 0x14 .invalid []))
        ∧ (∃ t, exec (.trd table index 1) s = .next t ∧ restFrame s t
          ∧ t.link = s.link.accept (.rpl 0x14 .ok (recordBytes s.store.working table.toNat index.toNat)))
        ∧ (s.store.op = .idle → ∃ t, exec (.trd table index 2) s = .next t ∧ restFrame s t
          ∧ t.link
            = s.link.accept
              (.rpl 0x14 .ok
                (eccStatus (s.store.nv.recordWordsOf table.toNat index.toNat)
                  :: s.store.nv.recordContent table.toNat index.toNat)))
        ∧ (s.store.op ≠ .idle → ∃ t, exec (.trd table index 2) s = .next t ∧ restFrame s t
          ∧ t.link = s.link.accept (.rpl 0x14 .busy [])))
      ∧ (∀ (part : Byte) (first : Half), ∃ t, exec (.sta part first) s = .next t ∧ restFrame s t
        ∧ t.link = s.link.accept (.rpl 0x17 (statusAnswer part first t).1 (statusAnswer part first t).2))
      ∧ (∀ kind : Byte, ∃ t, exec (.unknownKindFrame kind) s = .next t ∧ restFrame s t
        ∧ t.link = s.link.accept (.rpl kind .unknown []))

/-- A status reply fits in a frame: its content with the kind and the result takes at most 200 bytes. It is OK exactly for a section of the
table and a first item not beyond its end (the latter the model's reading, log 24), and carries the change number and as many whole items as fit in the
191 bytes that the fields before them leave: all that remain, or all up to one that does not fit any more. -/
def Obligations.StatusReplyFits : Prop :=
  ∀ (part : Byte) (first : Half) (s : State),
    (statusAnswer part first s).2.length + 2 ≤ 200
      ∧ (6 < part.toNat → statusAnswer part first s = (.range, []))
      ∧ (∀ items, statusItems s part.toNat = some items → items.length < first.toNat →
        statusAnswer part first s = (.range, []))
      ∧ (∀ items, statusItems s part.toNat = some items → first.toNat ≤ items.length →
        (statusAnswer part first s).1 = .ok
          ∧ ∃ carried left, items.drop first.toNat = carried ++ left
            ∧ (statusAnswer part first s).2
              = [part] ++ halfBytes first ++ [byteOf carried.length] ++ [byteOf left.length]
                ++ halfBytes s.faults.changeNumber ++ carried.flatten
            ∧ carried.flatten.length ≤ 191
            ∧ (∀ item rest, left = item :: rest → 191 < carried.flatten.length + item.length))

/-- A commit is checked against V1 to V10: when all pass, the store write starts and the stored header is marked incomplete; when one fails,
the first failing check with its table and index is answered and nothing changes. -/
def Obligations.CommitStartsOrIsRefused : Prop :=
  ∀ s : State, resting s = true → s.hears = true → s.control.mode.edits = true →
    (s.store.op = .idle → s.store.working.valid = true →
      ∃ t, exec .tcm s = .next t
        ∧ restFrame
          { s with
            store.op := .commit, store.progress := some (s.clock.now, nextGeneration s.store.generation)
            store.nv.complete := false } t
        ∧ t.link = s.link.accept (.rpl 0x15 .ok (halfBytes (nextGeneration s.store.generation))))
      ∧ (s.store.op = .idle → ∀ check table index, firstFailure s.store.working = some (check, table, index) →
        ∃ t, exec .tcm s = .next t ∧ restFrame s t
          ∧ t.link = s.link.accept (.rpl 0x15 .invalid [byteOf check, byteOf table, byteOf index]))
      ∧ (s.store.op ≠ .idle → ∃ t, exec .tcm s = .next t ∧ restFrame s t
        ∧ t.link = s.link.accept (.rpl 0x15 .busy []))

/-- A commit completes: the working copy becomes the active tables under the new generation and the stored set, the groups are shown FLASH or
DARK afresh, the prover starts anew, and TABLE_INVALID ends. The mode and the lockout record stay. Each branch has new liveness records and new drive slots,
marked with the current image (without slots, log 29), no poll pointer, its turn, wait and last apply as they were, and then may transmit; the FIFO entries
of stations that are gone are answered RANGE in their order, branch by branch (log 45), and the others stay. Each detector channel in use has a new record.
Every request is IDLE without marks, then a LEVEL plan whose source is active PENDING. Every fault that a station, the lamp prover or a detector channel
holds ends; no other entry of the list changes. -/
def Obligations.CommitCompletes : Prop :=
  ∀ (s : State) (began : Time) (generation : Half), s.up = true → s.control.mode.permit = false →
    s.store.op = .commit → s.store.progress = some (began, generation) →
    ∃ t, exec .commitCompletion s = .next t ∧ t.pending = s.pending ∧ t.clock = s.clock ∧ t.control = s.control
      ∧ t.exchange = s.exchange ∧ t.preempt.stack = s.preempt.stack ∧ t.preempt.slot = s.preempt.slot
      ∧ t.store
        = { s.store with
            active := some s.store.working, generation := generation, valid := true, corrected := 0
            tablesCorrected := false, op := .idle, progress := none, lastCommit := .done
            nv := s.store.nv.write s.store.working generation }
      ∧ t.store.nv.complete = true ∧ t.store.nv.record = s.store.nv.record
      ∧ (∀ g, 1 ≤ g → g ≤ 24 →
        (t.group g).time = 0 ∧ (t.group g).clearance = 0
          ∧ t.shown g = (if s.store.working.live g then .flash else .dark))
      ∧ (∀ c, t.proving c = Proving.reset) ∧ (∀ g, t.redFail g = false)
      ∧ (faultLaw s = true → notActive t .tableInvalid none)
      ∧ (s.branches.length = 4 → ∀ br,
        t.branch br
          = ({ retaken t br (s.branch br) with
              fifo := (s.branch br).fifo.filter (fun e => (s.store.working.roleOn br e.station).isSome) }).arbitrate)
      ∧ (∃ made : List OutFrame, t.link = made.foldl Link.accept s.link
        ∧ made.filter (fun f => !isReport f)
          = branchIds.flatMap (fun br =>
            ((s.branch br).fifo.filter (fun e => (s.store.working.roleOn br e.station).isNone)).map (fun e =>
              .fwr e.tag (byteOf e.station) .range [])))
      ∧ inputsRetaken s t
      ∧ (faultLaw s = true →
        t.faults.entries = s.faults.entries.map (fun e => if endsAtCommit s e then { e with active := false } else e))

/-- A commit whose write fails: the active tables stay, the stored set is INVALID with its header incomplete, and STORE_WRITE is listed. -/
def Obligations.CommitWriteFailureKeepsActive : Prop :=
  ∀ s : State, resting s = true → s.store.op = .commit →
    ∃ t, exec .commitWriteFailure s = .next t ∧ t.clock.now = s.clock.now
      ∧ restFrame { s with clock := t.clock, faults := t.faults, store := t.store } t
      ∧ { t.store with nv := s.store.nv }
        = { s.store with op := .idle, progress := none, lastCommit := .failed, valid := false }
      ∧ t.store.nv.complete = false ∧ t.store.nv.record = s.store.nv.record
      ∧ (faultLaw s = true → s.faults.entries.length < 32 →
        ∃ e ∈ t.faults.entries, e.kind = .storeWrite ∧ e.subject = none ∧ e.last = s.clock.now ∧ e.action = .report)

/-- A discard sets the working copy equal to the active copy, or to the default set when that is empty; it is refused in LOADING and while the
store is busy, and touches neither the active nor the stored copy. -/
def Obligations.DiscardRestoresWorkingCopy : Prop :=
  ∀ s : State, listening s = true → noLampOut s = true →
    (s.control.mode ≠ .loading → s.store.op = .idle →
      ∃ t, exec .tds s = .next t ∧ t.store.working = s.store.active.getD defaultSet
        ∧ t.store.active = s.store.active ∧ t.store.generation = s.store.generation
        ∧ t.store.nv.words = s.store.nv.words ∧ t.store.nv.generation = s.store.nv.generation
        ∧ t.store.nv.check = s.store.nv.check ∧ t.store.nv.complete = s.store.nv.complete
        ∧ replied s t (.rpl 0x16 .ok [])
        ∧ (s.control.mode ≠ .closing → calmFrame { s with store.working := s.store.active.getD defaultSet } t)
        ∧ (resting s = true → restFrame { s with store.working := s.store.active.getD defaultSet } t))
      ∧ (s.control.mode = .loading →
        ∃ t, exec .tds s = .next t ∧ calmFrame s t ∧ replied s t (.rpl 0x16 .mode []))
      ∧ (s.control.mode ≠ .loading → s.store.op ≠ .idle →
        ∃ t, exec .tds s = .next t ∧ replied s t (.rpl 0x16 .busy [])
          ∧ t.store.active = s.store.active ∧ t.store.nv.words = s.store.nv.words
          ∧ (s.control.mode ≠ .closing → calmFrame s t))

/-- The end of a load: the stored set becomes active when it passes every test and the active copy is empty when it does not; the mode becomes
LOCKOUT by the record, by two strikes or by a held action, and FLASH otherwise; live groups are shown FLASH and the others DARK. Each branch has the
liveness records and the marked drive slots of its stations (without slots, log 29) and then may transmit, each detector channel in use a new record, and
the plans read their sources. TABLE_CORRECTED is listed when a bit was corrected, TABLE_INVALID when the set does not pass, and the fault of a PRESENT
record is listed again, latched, with the action of its kind (log 14). -/
def Obligations.LoadEndsInFlashOrLockout : Prop :=
  ∀ (upsets : List Upset) (readable : Bool) (s : State), s.up = true → s.control.mode = .loading →
    ∃ t, exec (.tableLoadEnd upsets readable) s = .next t ∧ t.pending = s.pending ∧ t.clock = s.clock
      ∧ t.exchange = s.exchange
      ∧ ((s.store.nv.found upsets readable).passes = true →
        t.store.active = some (s.store.nv.found upsets readable).set
          ∧ t.store.generation = (s.store.nv.found upsets readable).headerGeneration ∧ t.store.valid = true)
      ∧ ((s.store.nv.found upsets readable).passes = false →
        t.store.active = none ∧ t.store.generation = 0 ∧ t.store.valid = false)
      ∧ t.store.working = t.store.active.getD defaultSet
      ∧ t.store.corrected = (s.store.nv.found upsets readable).corrected
      ∧ t.control.runPermit = false ∧ t.control.lastCause = .loadEnd
      ∧ ((s.store.nv.found upsets readable).record.isSome = true → t.control.mode = .lockout)
      ∧ ((s.store.nv.found upsets readable).record = none → s.exchange.strikes = 2 →
        t.control.mode = .lockout ∧ t.control.recordOp = .writing .supervisionClose none ∧ t.store.op = .record)
      ∧ ((s.store.nv.found upsets readable).record = none → s.exchange.strikes ≠ 2 →
        s.control.heldLockout.isSome = true → t.control.mode = .lockout)
      ∧ ((s.store.nv.found upsets readable).record = none → s.exchange.strikes ≠ 2 → s.control.heldLockout = none →
        t.control.mode = .flash)
      ∧ (∀ g, 1 ≤ g → g ≤ 24 → t.shown g = (if t.tables.live g then .flash else .dark))
      ∧ (s.branches.length = 4 → ∀ br, t.branch br = (retaken t br (s.branch br)).arbitrate)
      ∧ inputsRetaken s t
      ∧ (faultLaw s = true → s.faults.entries.length < 30 →
        (0 < (s.store.nv.found upsets readable).corrected → notActive s .tableCorrected none →
          listed t .tableCorrected none false .report)
          ∧ ((s.store.nv.found upsets readable).passes = false → listed t .tableInvalid none true .noRun)
          ∧ (∀ kind subject, (s.store.nv.found upsets readable).record = some (kind, subject) →
            ∃ e ∈ t.faults.entries, e.kind = kind ∧ e.subject = subject ∧ e.last = s.clock.now ∧ e.latched = true
              ∧ e.action = restoredAction kind
              ∧ (notActive s kind subject → kind ≠ .tableInvalid → e.active = false)))

/-- The ends of the lockout record's operations: a completed write stores the record, a completed erase removes it; a failed one lists
STORE_WRITE and leaves a record PRESENT. Each returns the record operation to none and the store to IDLE. -/
def Obligations.RecordOperationsEnd : Prop :=
  ∀ s : State, resting s = true → recordLaw s = true →
    (∀ kind subject, s.control.recordOp = .writing kind subject →
      (∃ t, exec .recordWriteCompletion s = .next t
          ∧ restFrame
            { s with control.recordOp := .none, store.op := .idle, store.nv.record := some (kind, subject) } t
          ∧ t.link = s.link)
        ∧ (∃ t, exec .recordWriteFailure s = .next t
          ∧ restFrame { s with control.recordOp := .none, store.op := .idle, faults := t.faults } t
          ∧ t.store.nv.record.isSome = true ∧ reportedOnly s t
          ∧ (faultLaw s = true → s.faults.entries.length < 32 →
            ∃ e ∈ t.faults.entries, e.kind = .storeWrite ∧ e.subject = none ∧ e.last = s.clock.now ∧ e.action = .report)))
      ∧ (s.control.recordOp = .erasing →
        (∃ t, exec .recordEraseCompletion s = .next t
            ∧ restFrame { s with control.recordOp := .none, store.op := .idle, store.nv.record := none } t
            ∧ t.link = s.link)
          ∧ (∃ t, exec .recordEraseFailure s = .next t ∧ t.store.nv.record.isSome = true
            ∧ t.clock.now = s.clock.now ∧ reportedOnly s t
            ∧ restFrame
              { s with
                clock := t.clock, control.recordOp := .none, store.op := .idle, store.nv.record := t.store.nv.record
                faults := t.faults } t
            ∧ (faultLaw s = true → s.faults.entries.length < 32 →
              ∃ e ∈ t.faults.entries, e.kind = .storeWrite ∧ e.subject = none ∧ e.last = s.clock.now
                ∧ e.action = .report)))

/-! ### The fault list -/

/-- The checks of a fault clear, in their order, and what a refused one leaves: everything. An accepted one is answered OK with the number of
entries that were ENDED once the lamp prover had acted. -/
def Obligations.FaultClearChecks : Prop :=
  ∀ s : State, listening s = true →
    ∃ t r b, exec .fcl s = .next t ∧ replied s t (.rpl 0x18 r b)
      ∧ (s.control.mode = .loading → r = .mode)
      ∧ (s.control.mode ≠ .loading → s.store.op ≠ .idle ∨ s.control.recordOp ≠ .none → r = .busy)
      ∧ (s.control.mode = .lockout → s.control.maint = false → s.store.op = .idle → s.control.recordOp = .none →
        r = .maint)
      ∧ (s.control.mode ≠ .loading → s.store.op = .idle → s.control.recordOp = .none →
        (s.control.mode ≠ .lockout ∨ s.control.maint = true) →
        r = .ok ∧ b = [byteOf ((clearLatched (openEvent s)).faults.entries.filter (fun e => !e.active)).length])
      ∧ (resting s = true → r ≠ .ok → restFrame s t ∧ t.link = s.link.accept (.rpl 0x18 r []))

/-- An accepted fault clear. At rest, with MAINT active or inactive, every ENDED entry goes, also those whose latched lamp fault the clear ends, and the ACTIVE
ones stay in their order with kind, subject, times, count and action, none of them latched; a latched lamp fault becomes inactive, and the nesting-limit
flag is cleared. With MAINT active the strike count is 0 and LOCKOUT is left for FLASH with a record erase, and with MAINT inactive both stay. In
RUNNING, here with no RED_FAIL concerned and no plan stacked, it prunes the list alike and changes no mode; a latched fault becomes inactive where its
released mark is set, and stays where it is not. -/
def Obligations.FaultClearPrunesAndLeavesLockout : Prop :=
  ∀ s : State, s.hears = true →
    (resting s = true → s.control.mode ≠ .loading → s.storeBusy = false → (s.control.maint = true ∨ s.control.mode = .flash) →
      ∃ t, exec .fcl s = .next t ∧ (∀ e ∈ t.faults.entries, e.active = true ∧ e.latched = false)
        ∧ (faultLaw s = true →
          t.faults.entries
            = (s.faults.entries.filter (fun e => e.active && !endsAtClear s e)).map (fun e => { e with latched := false }))
        ∧ t.preempt = { s.preempt with nestingLimit := false } ∧ t.control.mode = .flash ∧ (∀ g, t.shown g = s.shown g)
        ∧ (∀ c, 1 ≤ c → c ≤ s.prover.channels.length →
          (t.proving c).lampOut = ((s.proving c).lampOut && decide ((s.tables.output c).latch ≠ 1))
            ∧ (t.proving c).foreign = ((s.proving c).foreign && decide ((s.tables.output c).latch ≠ 1)))
        ∧ (s.control.maint = true → t.exchange = { s.exchange with strikes := 0 })
        ∧ (s.control.mode = .lockout →
          t.control.runPermit = false ∧ t.control.lastCause = .maintClear ∧ t.control.recordOp = .erasing ∧ t.store.op = .record
            ∧ t.store.nv = s.store.nv ∧ t.store.active = s.store.active
            ∧ t.store.working = s.store.active.getD defaultSet)
        ∧ (s.control.mode = .flash → t.control = s.control ∧ t.store = s.store)
        ∧ (s.control.maint = false → t.exchange = s.exchange))
      ∧ (s.up = true → s.control.mode = .running → s.storeBusy = false → s.preempt.stack = [] →
        (∀ c, (s.proving c).lampOut = true → (s.tables.output c).redProving ≠ 1) → (∀ g, s.redFail g = false) →
        ∃ t, exec .fcl s = .next t ∧ (∀ e ∈ t.faults.entries, e.active = true ∧ e.latched = false)
          ∧ (faultLaw s = true →
            t.faults.entries
              = (s.faults.entries.filter (fun e => e.active && !endsAtClear s e)).map (fun e => { e with latched := false }))
          ∧ t.control = s.control ∧ t.store = s.store ∧ t.preempt.nestingLimit = false
          ∧ t.exchange = { s.exchange with strikes := if s.control.maint then 0 else s.exchange.strikes }
          ∧ ∀ c, 1 ≤ c → c ≤ s.prover.channels.length →
            ((s.tables.output c).latch = 1 →
              ((s.proving c).lampOutReleased = true →
                (t.proving c).lampOut = false ∧ (t.proving c).lampOutReleased = ((s.proving c).lampOutReleased && !(s.proving c).lampOut))
                ∧ ((s.proving c).lampOutReleased = false → (t.proving c).lampOut = (s.proving c).lampOut)
                ∧ ((s.proving c).foreignReleased = true → (t.proving c).foreign = false)
                ∧ ((s.proving c).foreignReleased = false → (t.proving c).foreign = (s.proving c).foreign)
                ∧ (faultLaw s = true → (s.proving c).lampOut = true → (t.proving c).lampOut = false →
                  notActive t .lampOut (some c))
                ∧ (faultLaw s = true → (s.proving c).foreign = true → (t.proving c).foreign = false →
                  notActive t .foreignCurrent (some c)))
              ∧ ((s.tables.output c).latch ≠ 1 →
                (t.proving c).lampOut = (s.proving c).lampOut ∧ (t.proving c).foreign = (s.proving c).foreign))

/-- The recording of reports: a raise against no entry appends one while there is room, and in a full list in place of the oldest one that is ENDED
and not latched; against an entry it updates the last time, the count up to 255 and the action, and makes it ACTIVE for a condition; an end makes an
ACTIVE entry ENDED, with its times and count as they were, and records nothing otherwise. That each report which changes the list advances the change number by one, also where one event
makes several, is the model's reading (log 28). Each new entry, each change of an entry's state, each occurrence and each fault that is not listed hands
exactly one alarm with the next alarm number to the link interface, with the counts taken when it is made (log 17; of a fault that is not listed, fields
that the guide does not give are free, log 13), and a condition met again on an ACTIVE entry, or the end of an ENDED one, none. At every command but a
reset the alarms made carry consecutive numbers up to the one held after it, and those of mode changes lead, change by change and with the last cause,
from the mode before it to the mode after it: one for each change. -/
def Obligations.FaultReportsAreRecorded : Prop :=
  (∀ (s : State), faultLaw s = true →
    (∀ r : Raise, (∀ e ∈ s.faults.entries, e.is r.kind r.subject = false) → s.faults.entries.length < 32 →
        (recordRaise r s).faults.entries
          = s.faults.entries
            ++ [{ kind := r.kind, subject := r.subject, first := s.clock.now, last := s.clock.now, count := 1,
                  active := r.condition, latched := r.latched, action := r.action }]
        ∧ (recordRaise r s).faults.changeNumber = s.faults.changeNumber + 1
        ∧ alarmed (.fault r.kind r.subject r.condition 1 r.action r.latched true) s (recordRaise r s))
      ∧ (∀ (r : Raise) (before : List Entry) (o : Entry) (after : List Entry),
        (∀ e ∈ s.faults.entries, e.is r.kind r.subject = false) → s.faults.entries.length = 32 →
        s.faults.entries = before ++ o :: after → o.active = false → o.latched = false →
        (∀ e ∈ before, e.active = true ∨ e.latched = true) →
        (recordRaise r s).faults.entries
          = before ++ after
            ++ [{ kind := r.kind, subject := r.subject, first := s.clock.now, last := s.clock.now, count := 1,
                  active := r.condition, latched := r.latched, action := r.action }]
        ∧ (recordRaise r s).faults.changeNumber = s.faults.changeNumber + 1
        ∧ alarmed (.fault r.kind r.subject r.condition 1 r.action r.latched true) s (recordRaise r s))
      ∧ (∀ (r : Raise) (e : Entry), e ∈ s.faults.entries → e.is r.kind r.subject = true →
        { e with last := s.clock.now, count := min 255 (e.count + 1), active := e.active || r.condition,
                 latched := e.latched || r.latched, action := r.action } ∈ (recordRaise r s).faults.entries
          ∧ (recordRaise r s).faults.entries.length = s.faults.entries.length
          ∧ (∀ o ∈ s.faults.entries, o ≠ e → o ∈ (recordRaise r s).faults.entries)
          ∧ (recordRaise r s).faults.changeNumber = s.faults.changeNumber + 1
          ∧ (r.condition = true → e.active = true → unalarmed s (recordRaise r s))
          ∧ (r.condition = false ∨ e.active = false →
            alarmed
              (.fault r.kind r.subject (e.active || r.condition) (min 255 (e.count + 1)) r.action (e.latched || r.latched) true)
              s (recordRaise r s)))
      ∧ (∀ r : Raise, (∀ e ∈ s.faults.entries, e.is r.kind r.subject = false) → s.faults.entries.length = 32 →
        (∀ e ∈ s.faults.entries, e.active = true ∨ e.latched = true) →
        (recordRaise r s).faults.entries = s.faults.entries
          ∧ (recordRaise r s).faults.changeNumber = s.faults.changeNumber
          ∧ (recordRaise r s).faults.alarmNumber = s.faults.alarmNumber + 1
          ∧ ∃ count, alarmed (.fault r.kind r.subject r.condition count r.action r.latched false) s (recordRaise r s))
      ∧ (∀ (kind : FaultKind) (subject : Option Nat), notActive (reportEnd kind subject s) kind subject
          ∧ (reportEnd kind subject s).faults.entries.length = s.faults.entries.length
          ∧ (∀ o ∈ s.faults.entries, o.is kind subject = false → o ∈ (reportEnd kind subject s).faults.entries)
          ∧ ((∀ e ∈ s.faults.entries, e.is kind subject = true → e.active = false) →
            (reportEnd kind subject s).faults.entries = s.faults.entries
              ∧ (reportEnd kind subject s).faults.changeNumber = s.faults.changeNumber)
          ∧ (∀ e ∈ s.faults.entries, e.is kind subject = true → e.active = true →
            { e with active := false } ∈ (reportEnd kind subject s).faults.entries
              ∧ (reportEnd kind subject s).faults.changeNumber = s.faults.changeNumber + 1
              ∧ alarmed (.fault kind subject false e.count e.action e.latched true) s (reportEnd kind subject s))
          ∧ (∀ e ∈ s.faults.entries, e.is kind subject = true → e.active = false → unalarmed s (reportEnd kind subject s))
          ∧ ((∀ e ∈ s.faults.entries, e.is kind subject = false) →
            ∃ count action latched, alarmed (.fault kind subject false count action latched false) s (reportEnd kind subject s))))
    ∧ ∀ (c : Instr) (s t : State), exec c s = .next t → isReset c = false → c ≠ .outgoingFrameSent →
      ∃ made : List OutFrame, t.link = made.foldl Link.accept { s.link with assembler := t.link.assembler }
        ∧ alarmTrail s.clock.now (s.faults.alarmNumber, s.control.mode, s.control.lastCause) made
          = some (t.faults.alarmNumber, t.control.mode, t.control.lastCause)

/-! ### The link interface -/

/-- A forwarded frame joins its branch's FIFO in every mode but LOADING, or is answered at once when a check fails, in the order mode, inner kind,
station, room. A station's answer, or the end of the wait for it, is returned to the controller and ends the wait. An answer that no wait takes leaves
the branch's assembler receiving, also where it waited for an idle gap (log 19). In the flash modes nothing else changes; in the permit modes the
conclusion of the event may move groups, and the statement says what becomes of the frame, of the FIFOs and of the link. -/
def Obligations.ForwardedFrames : Prop :=
  (∀ s : State, resting s = true →
    (∀ (tag station inner : Byte) (payload : List Byte) (br : BranchId), s.hears = true → s.control.mode ≠ .loading →
      reservedInner inner = false → s.tables.branchOf station.toNat = some br → (s.branch br).fifo.length < 4 →
      ∃ t, exec (.fwd tag station inner payload) s = .next t
        ∧ restFrame
          { s with
            branches :=
              changeEntry s.branches (placeOf br)
                (fun b =>
                  { b with
                    fifo := b.fifo ++ [{ tag := tag, station := station.toNat, kind := inner, payload := payload }] }) }
          t
        ∧ t.link = s.link)
      ∧ (∀ (tag station inner : Byte) (payload : List Byte), s.hears = true →
        (s.control.mode = .loading ∨ reservedInner inner = true ∨ s.tables.branchOf station.toNat = none
          ∨ ∃ br, s.tables.branchOf station.toNat = some br ∧ 4 ≤ (s.branch br).fifo.length) →
        ∃ t r, exec (.fwd tag station inner payload) s = .next t ∧ restFrame s t
          ∧ t.link = s.link.accept (.fwr tag station r [])
          ∧ (s.control.mode = .loading → r = .mode)
          ∧ (s.control.mode ≠ .loading → reservedInner inner = true → r = .range)
          ∧ (s.control.mode ≠ .loading → reservedInner inner = false → s.tables.branchOf station.toNat = none →
            r = .range)
          ∧ (s.control.mode ≠ .loading → reservedInner inner = false →
            (∃ br, s.tables.branchOf station.toNat = some br ∧ 4 ≤ (s.branch br).fifo.length) → r = .full))
      ∧ (∀ (br : BranchId) (station : Nat) (tag : Byte) (payload : List Byte), s.forwardTag br station = some tag →
        ∃ t, exec (.fwrReceived br station payload) s = .next t
          ∧ restFrame
            { s with
              branches := changeEntry s.branches (placeOf br) (fun b => { b with awaited := none }) } t
          ∧ (payload.length ≤ 196 → t.link = s.link.accept (.fwr tag (byteOf station) .ok (0x22 :: payload)))
          ∧ (196 < payload.length → t.link = s.link.accept (.fwr tag (byteOf station) .range [])))
      ∧ (∀ (br : BranchId) (station : Nat) (payload : List Byte), s.forwardTag br station = none →
        ∃ t, exec (.fwrReceived br station payload) s = .next t
          ∧ restFrame
            { s with
              branches := changeEntry s.branches (placeOf br) (fun b => { b with assembler := .receiving }) } t
          ∧ t.link = s.link)
      ∧ (∀ (br : BranchId) (station : Nat) (tag : Byte) (deadline : Time),
        (s.branch br).awaited = some { station := station, tag := some tag, deadline := deadline } →
        reached deadline s.clock.now = true →
        ∃ t, exec (.forwardAnswerTimeout br) s = .next t
          ∧ restFrame
            { s with branches := changeEntry s.branches (placeOf br) (fun b => { b with awaited := none }) } t
          ∧ t.link = s.link.accept (.fwr tag (byteOf station) .noAnswer [])))
    ∧ ∀ s : State, s.up = true → s.branches.length = 4 →
      (∀ (tag station inner : Byte) (payload : List Byte) (br : BranchId), s.hears = true → s.control.mode ≠ .loading →
        reservedInner inner = false → s.tables.branchOf station.toNat = some br → (s.branch br).fifo.length < 4 →
        ∃ t, exec (.fwd tag station inner payload) s = .next t ∧ reportedOnly s t
          ∧ fifoKept (s.branch br)
            ((s.branch br).fifo ++ [{ tag := tag, station := station.toNat, kind := inner, payload := payload }]) (t.branch br)
          ∧ (∀ other, other ≠ br → fifoKept (s.branch other) (s.branch other).fifo (t.branch other))
          ∧ (noLampOut s = true → s.control.mode.permit = true → s.control.mode ≠ .closing → calmFrame s t))
        ∧ (∀ (tag station inner : Byte) (payload : List Byte), s.hears = true → s.control.mode ≠ .loading →
          (reservedInner inner = true ∨ s.tables.branchOf station.toNat = none
            ∨ ∃ br, s.tables.branchOf station.toNat = some br ∧ 4 ≤ (s.branch br).fifo.length) →
          ∃ t r, exec (.fwd tag station inner payload) s = .next t ∧ replied s t (.fwr tag station r [])
            ∧ (∀ br, fifoKept (s.branch br) (s.branch br).fifo (t.branch br))
            ∧ (reservedInner inner = true ∨ s.tables.branchOf station.toNat = none → r = .range)
            ∧ (reservedInner inner = false →
              (∃ br, s.tables.branchOf station.toNat = some br ∧ 4 ≤ (s.branch br).fifo.length) → r = .full)
            ∧ (noLampOut s = true → s.control.mode.permit = true → s.control.mode ≠ .closing → calmFrame s t))
        ∧ (∀ (br : BranchId) (station : Nat) (tag : Byte) (payload : List Byte), s.forwardTag br station = some tag →
          ∃ t, exec (.fwrReceived br station payload) s = .next t ∧ (t.branch br).awaited = none
            ∧ (payload.length ≤ 196 → replied s t (.fwr tag (byteOf station) .ok (0x22 :: payload)))
            ∧ (196 < payload.length → replied s t (.fwr tag (byteOf station) .range [])))
        ∧ (∀ (br : BranchId) (station : Nat) (tag : Byte) (deadline : Time),
          (s.branch br).awaited = some { station := station, tag := some tag, deadline := deadline } →
          reached deadline s.clock.now = true →
          ∃ t, exec (.forwardAnswerTimeout br) s = .next t ∧ (t.branch br).awaited = none
            ∧ replied s t (.fwr tag (byteOf station) .noAnswer []))

/-- What happens on the lines alone: the end of an outgoing transmission starts the next, a discarded frame and an idle gap concern the
receive assembler, a frame that began while the assembler waited for an idle gap is not taken and only leaves it receiving (log 19), and the MAINT state
follows a level held for 100 ms, counted from the reset at the earliest, and no shorter one. -/
def Obligations.LineEvents : Prop :=
  ∀ s : State, s.up = true →
    (∀ f rest, s.link.queue = f :: rest →
        exec .outgoingFrameSent s = .next { s with link.queue := rest, link.sending := some f })
      ∧ (s.link.queue = [] → exec .outgoingFrameSent s = .next { s with link.sending := none })
      ∧ (∀ cause, ∃ a, exec (.damagedFrame cause) s = .next { s with link.assembler := a }
        ∧ (cause = .framingError ∨ cause = .lengthAbove200 ∨ cause = .extraCharacter → a = .waiting))
      ∧ (∀ br cause, ∃ a, exec (.branchFrameDiscarded br cause) s
          = .next { s with branches := changeEntry s.branches (placeOf br) (fun b => { b with assembler := a }) }
        ∧ (cause = .framingError ∨ cause = .lengthAbove200 ∨ cause = .extraCharacter → a = .waiting))
      ∧ exec (.idleGap .controller) s = .next { s with link.assembler := .receiving }
      ∧ (∀ br, exec (.idleGap (.branch br)) s
        = .next
          { s with branches := changeEntry s.branches (placeOf br) (fun b => { b with assembler := .receiving }) })
      ∧ (∀ c : Instr, isControllerFrame c = true → s.link.assembler = .waiting →
        exec c s = .next { s with link.assembler := .receiving })
      ∧ (∀ (br : BranchId) (station : Nat) (applied : Option Byte) (currents : List Half) (inputs : List DsmInput)
          (bytes : List Byte) (c : Instr),
        resting s = true → (s.branch br).assembler = .waiting →
        (c = .lstReceived br station applied currents ∨ c = .dsmReceived br station inputs ∨ c = .sstReceived br station bytes
          ∨ c = .fwrReceived br station bytes) →
        ∃ t, exec c s = .next t ∧ t.link = s.link
          ∧ restFrame
            { s with branches := changeEntry s.branches (placeOf br) (fun b => { b with assembler := .receiving }) } t)
      ∧ (∀ active held, 100 ≤ held → 100 ≤ s.clock.awake →
        exec (.maintStateChange active held) s = .next { s with control.maint := active })
      ∧ (∀ active held, held < 100 ∨ s.clock.awake < 100 → exec (.maintStateChange active held) s = .next s)

/-- The placement of a frame: appended while there is room; a detector report that finds the queue full replaces the last queued one of its
channel or is dropped; another frame takes the place of the oldest report or is dropped. Each loss sets the reports-lost flag. The other queued frames
keep their order. An idle transmitter starts the oldest frame at once. -/
def Obligations.QueuePlacement : Prop :=
  ∀ (l : Link) (f : OutFrame),
    (l.queue.length < 32 →
        (l.place f).queue = l.queue ++ [f] ∧ (l.place f).reportsLost = (l.reportsLost && !f.isEch))
      ∧ (l.queue.length = 32 → f.isDet = false → (∀ g ∈ l.queue, g.isDet = false) →
        (l.place f).queue = l.queue ∧ (l.place f).reportsLost = true)
      ∧ (l.queue.length = 32 → f.isDet = false →
        ∀ before d after, l.queue = before ++ .det d :: after → (∀ g ∈ before, g.isDet = false) →
          (l.place f).queue = before ++ after ++ [f] ∧ (l.place f).reportsLost = true)
      ∧ (l.queue.length = 32 → ∀ d, f = .det d →
        (∀ before e after, l.queue = before ++ .det e :: after → e.channel = d.channel →
          (∀ g ∈ after, g.isDetOf d.channel = false) →
          (l.place f).queue = before ++ f :: after ∧ (l.place f).reportsLost = l.reportsLost)
          ∧ ((∀ g ∈ l.queue, g.isDetOf d.channel = false) →
            (l.place f).queue = l.queue ∧ (l.place f).reportsLost = true))
      ∧ (l.place f).assembler = l.assembler ∧ (l.place f).sending = l.sending
      ∧ l.queue.filter (fun g => !g.isDet) <+: (l.place f).queue.filter (fun g => !g.isDet)
      ∧ (l.sending.isSome = true → l.accept f = l.place f)
      ∧ (l.sending = none → l.queue = [] →
        l.accept f = { l with sending := some f, reportsLost := l.reportsLost && !f.isEch })
      ∧ (∀ g rest, l.sending = none → l.queue = g :: rest → l.start = { l with sending := some g, queue := rest })

/-- Frames and commands agree: the frame by which the controller sends a command, read back from its characters, is that command, with every
operand at every value. That a request code which is not defined reads back as MOD_FLASH or CAL_CANCEL is the model's choice of a row (log 20). -/
def Obligations.ControllerFramesReadBack : Prop :=
  ∀ (c : Instr) (kind : Byte) (payload : List Byte), wellFormed c = true →
    controllerPayload c = some (kind, payload) → controllerFrame (frameBytes 0 kind payload) = c

/-! ### Modes and supervision -/

/-- The start-up stop timer elapses: RUNNING is entered if an image has been accepted, else the timer stands expired. The supervision timer
expires: WARNING on the frozen image from RUNNING, FLASH by NO_CONTROLLER from START. -/
def Obligations.StartUpAndSupervisionExpiries : Prop :=
  ∀ s : State, s.up = true → noLampOut s = true →
    (s.control.mode = .start → s.control.startTimer = some (.running 0) → s.control.firstImage = some true →
      ∃ t, exec .startUpStopTimerExpiry s = .next t
        ∧ t.control = { s.control with mode := .running, runPermit := true, lastCause := .startDone,
                                       startTimer := none, firstImage := none }
        ∧ t.exchange.accepted = s.exchange.accepted ∧ t.exchange.supervision = s.exchange.supervision
        ∧ t.store = s.store)
      ∧ (s.control.mode = .start → s.control.startTimer = some (.running 0) → s.control.firstImage ≠ some true →
        ∃ t, exec .startUpStopTimerExpiry s = .next t
          ∧ calmFrame { s with control.startTimer := some .expired } t)
      ∧ (s.control.mode = .running → s.exchange.supervision = some (.running 0) →
        ∃ t, exec .supervisionTimerExpiry s = .next t
          ∧ t.control = { s.control with mode := .warning, runPermit := true, lastCause := .supervision }
          ∧ t.exchange
            = { s.exchange with
                supervision := some .expired, warning := some (s.tables.cabinet.warning.toNat * 10) }
          ∧ t.store = s.store
          ∧ (faultLaw s = true → s.faults.entries.length < 32 → listed t .supervision none true .report))
      ∧ (s.control.mode = .start → s.exchange.supervision = some (.running 0) →
        ∃ t, exec .supervisionTimerExpiry s = .next t ∧ t.control.mode = .flash ∧ t.control.runPermit = false
          ∧ t.control.lastCause = .faultFlash ∧ t.exchange.expectedChain = none ∧ t.exchange.accepted = none
          ∧ t.exchange.supervision = none ∧ t.exchange.strikes = s.exchange.strikes
          ∧ (∀ g, inService s g = true → t.shown g = .flash)
          ∧ (faultLaw s = true → s.faults.entries.length < 32 → notActive s .noController none →
            listed t .noController none false .flash))

/-- The warning window expires: the strike count rises by one, up to 2, SUPERVISION ends, and a close begins toward LOCKOUT at two strikes and
toward FLASH otherwise; where every live group is shown STOP or DARK it ends at once. -/
def Obligations.WarningWindowClosesAndCounts : Prop :=
  ∀ s : State, s.up = true → noLampOut s = true → s.control.mode = .warning → s.exchange.warning = some 0 →
    ∃ t, exec .warningWindowExpiry s = .next t ∧ t.exchange.strikes = min 2 (s.exchange.strikes + 1)
      ∧ t.exchange.warning = none ∧ t.exchange.supervision = none ∧ t.store.active = s.store.active
      ∧ (faultLaw s = true → notActive t .supervision none)
      ∧ ((∃ g, inService s g = true ∧ s.shown g = .clear ∧ (s.group g).time < (s.tables.group g).clearUnits) →
        t.control.mode = .closing ∧ t.control.runPermit = true ∧ t.control.lastCause = .supervisionClose
          ∧ t.control.closeCause = some .supervisionClose
          ∧ t.control.closeTarget = some (if 1 ≤ s.exchange.strikes then .lockout else .flash)
          ∧ t.exchange.accepted = s.exchange.accepted ∧ t.preempt.stack = [])
      ∧ (s.closed = true →
        t.control.runPermit = false ∧ t.control.lastCause = .closeDone ∧ t.exchange.accepted = none
          ∧ (1 ≤ s.exchange.strikes →
            t.control.mode = .lockout ∧ t.control.recordOp = .writing .supervisionClose none)
          ∧ (s.exchange.strikes = 0 → t.control.mode = .flash))

/-! ### Groups -/

/-- The timed moves of a group in RUNNING: PREPARE ends in GO, CLEAR ends in STOP, and a GO held only by its minimum ends in CLEAR, or in STOP
where the clear time is 0. The time in aspect starts at 0, and the clearance clock only at CLEAR. -/
def Obligations.TimedMovesOfGroups : Prop :=
  ∀ (g : Nat) (s : State), runningCalm s = true → s.preempt.stack = [] → inService s g = true →
    0 < (s.tables.group g).minGoUnits → 0 < (s.tables.group g).minStopUnits →
    (s.shown g = .prepare → (s.tables.group g).prepareUnits ≤ (s.group g).time →
      ∃ t, exec (.endOfPrepare g) s = .next t ∧ calmFrame s t ∧ t.shown g = .go ∧ (t.group g).time = 0
        ∧ (t.group g).clearance = (s.group g).clearance)
      ∧ (s.shown g = .clear → (s.tables.group g).clearUnits ≤ (s.group g).time →
        ∃ t, exec (.endOfClear g) s = .next t ∧ calmFrame s t ∧ t.shown g = .stop ∧ (t.group g).time = 0
          ∧ (t.group g).clearance = (s.group g).clearance)
      ∧ (s.shown g = .go → (s.group g).note = .held → (s.tables.group g).minGoUnits ≤ (s.group g).time →
        (s.effective g).1 ≠ .go →
        ∃ t, exec (.minimumGoReached g) s = .next t ∧ calmFrame s t
          ∧ t.shown g = (if (s.tables.group g).clearUnits = 0 then .stop else .clear) ∧ (t.group g).time = 0
          ∧ (t.group g).clearance = 0)

/-- The admission of a group in STOP whose minimum STOP or whose deferral timer has run out, with target GO: beside conflicting groups at rest
in STOP it is admitted when no shortfall is above 0 and deferred by the greatest one otherwise; a conflicting GO that must last blocks it. -/
def Obligations.AdmissionAtExpiries : Prop :=
  ∀ (g : Nat) (s : State) (c : Instr), runningCalm s = true → s.preempt.stack = [] → inService s g = true →
    s.shown g = .stop → (s.tables.group g).minStopUnits ≤ (s.group g).time → (s.effective g).1 = .go →
    0 < (s.tables.group g).minGoUnits →
    (c = .minimumStopReached g ∧ (s.group g).note = .held
      ∨ c = .deferralTimerExpiry g ∧ (s.group g).deferral = some 0) →
    ∃ t, exec c s = .next t ∧ calmFrame s t
      ∧ ((∀ i ∈ s.tables.conflicting g, i ≤ s.engine.groups.length ∧ s.shown i = .stop ∧ (s.effective i).1 = .stop
            ∧ s.goLampFault i = false) →
        ((∀ i ∈ s.tables.conflicting g,
            s.tables.intergreen i g ≤ (s.tables.group g).prepareUnits + (s.group i).clearance) →
          (t.group g).time = 0 ∧ t.shown g = (if (s.tables.group g).prepareUnits = 0 then .go else .prepare))
        ∧ (∀ n, 0 < n →
          (∃ i ∈ s.tables.conflicting g,
            s.tables.intergreen i g = (s.tables.group g).prepareUnits + (s.group i).clearance + n) →
          (∀ i ∈ s.tables.conflicting g,
            s.tables.intergreen i g ≤ (s.tables.group g).prepareUnits + (s.group i).clearance + n) →
          t.shown g = .stop ∧ (t.group g).note = .deferred ∧ (t.group g).deferral = some n))
      ∧ (∀ i ∈ s.tables.conflicting g, i ≤ s.engine.groups.length → s.shown i = .go →
        (s.group i).time < (s.tables.group i).minGoUnits →
        t.shown g = .stop ∧ (t.group g).note = .blocked ∧ (t.group g).deferral = none)

/-- A shortfall of exactly 0 admits; a saturated clock never delays; an intergreen of 0 delays only while the other group blocks; and where a
long PREPARE admits beside a CLEAR just begun, GO still comes no sooner than the intergreen allows. -/
def Obligations.ShortfallOfZeroAdmits : Prop :=
  ∀ (s : State) (j : Nat),
    (∀ i, (s.group i).clearance = 65535 → s.shortfall i j < 0)
      ∧ (∀ i, s.tables.intergreen i j = 0 →
        s.shortfall i j = -((s.tables.group j).prepareUnits : Int) - ((s.group i).clearance : Int)
          ∧ s.shortfall i j ≤ 0)
      ∧ (∀ i, (s.group i).clearance = 0 → s.tables.intergreen i j ≤ (s.tables.group j).prepareUnits →
        s.shortfall i j ≤ 0)
      ∧ ((∃ i ∈ s.tables.conflicting j, s.blocks i = true) → s.admission j = .blocked)
      ∧ ((∀ i ∈ s.tables.conflicting j, s.blocks i = false) →
        ((∀ i ∈ s.tables.conflicting j, s.shortfall i j ≤ 0) → s.admission j = .admitted)
          ∧ (s.admission j = .admitted → ∀ i ∈ s.tables.conflicting j,
            s.tables.intergreen i j ≤ (s.group i).clearance + (s.tables.group j).prepareUnits)
          ∧ (∀ n : Nat, 0 < n → (∃ i ∈ s.tables.conflicting j, s.shortfall i j = (n : Int)) →
            (∀ i ∈ s.tables.conflicting j, s.shortfall i j ≤ (n : Int)) → s.admission j = .deferred n))

/-- V3 accepts a conflict matrix only if its flags are symmetric, no group is marked in conflict with itself, and a clear flag goes with an
intergreen of 0; among matrices whose flags are 0 or 1 it accepts every such one, whatever the intergreens of conflicting pairs. A commit whose
matrix fails is refused. -/
def Obligations.ConflictMatrixCheck : Prop :=
  (∀ t : TableSet, ((∀ i ∈ groupNumbers, conflictRowValid t i = true) → matrixSound t)
      ∧ ((∀ i ∈ groupNumbers, ∀ j ∈ groupNumbers, (t.entry i j).conflict = 0 ∨ (t.entry i j).conflict = 1) → matrixSound t →
        ∀ i ∈ groupNumbers, conflictRowValid t i = true))
    ∧ ∀ s : State, resting s = true → s.hears = true → s.control.mode.edits = true → s.store.op = .idle →
      ¬ matrixSound s.store.working →
      ∃ t content, exec .tcm s = .next t ∧ restFrame s t ∧ t.link = s.link.accept (.rpl 0x15 .invalid content)

/-! ### Preemption -/

/-- A change of a preemption line held for 30 ms, counted from the reset at the earliest. In START a rising edge makes every EDGE plan of the line
PENDING and every LEVEL plan not spent, a falling one ends the LEVEL requests and the spent marks; the other plans stay. A shorter change leaves the
unit as it is. In RUNNING and WARNING a rising edge that makes a request PENDING makes the unit consider taking: of the plans that may be taken the one
with the smallest number is pushed in DELAY with its counts, or, with an entry delay of 0, goes on to ENTRY and to DWELL as its forced-GO groups
allow, and the former top stays below with its counts; at a depth of 4 NESTING_LIMIT is reported and the plan stays PENDING. -/
def Obligations.PreemptionLineChanges : Prop :=
  ∀ (line held : Nat) (active : Bool) (s : State), s.up = true → noLampOut s = true →
    s.preempt.plans.length = 8 → s.preempt.lines.length = 6 → 1 ≤ line → line ≤ 6 →
    (s.control.mode = .start → s.preempt.stack = [] →
      ∃ t, exec (.peLineChange line active held) s = .next t ∧ calmFrame s t ∧ t.preempt.stack = []
        ∧ (held < 30 ∨ s.clock.awake < 30 → t.preempt = s.preempt)
        ∧ (30 ≤ held → 30 ≤ s.clock.awake → t.line line = active
          ∧ (s.line line ≠ active → ∀ p, 1 ≤ p → p ≤ 8 →
            ((s.tables.plan p).on = true → (s.tables.plan p).onLine line = true →
              (t.plan p).active = active
                ∧ ((s.tables.plan p).level = true →
                  (t.plan p).pending = (active && !(s.plan p).spent) ∧ (t.plan p).spent = (active && (s.plan p).spent))
                ∧ ((s.tables.plan p).level = false → (t.plan p).pending = (active || (s.plan p).pending)))
              ∧ (((s.tables.plan p).on && (s.tables.plan p).onLine line) = false → t.plan p = s.plan p))))
      ∧ (s.control.mode.admits = true → 30 ≤ held → 30 ≤ s.clock.awake → s.line line = false → active = true →
        ∀ p, (s.tables.plan p).onLine line = true → s.stacked p = false → (s.plan p).pending = false →
          ((s.tables.plan p).level = true → (s.plan p).spent = false) → mayTake s s.preempt.inhibit p = true →
          (∀ q, q < p → mayTake s s.preempt.inhibit q = true →
            (s.plan q).pending = false
              ∧ ((s.tables.plan q).onLine line = true → (s.tables.plan q).level = true ∧ (s.plan q).spent = true)) →
          ∃ t, exec (.peLineChange line active held) s = .next t ∧ calmFrame s t ∧ (t.plan p).active = true
            ∧ (s.preempt.stack.length < 4 → (t.plan p).pending = false ∧ (t.plan p).outcome = (s.plan p).outcome
              ∧ ((s.tables.plan p).entryDelay ≠ 0 → t.preempt.stack = pushed s p :: s.preempt.stack)
              ∧ ((s.tables.plan p).entryDelay = 0 →
                (∀ f, inService s f = true → member (s.tables.plan p).forcedGo f = true → s.shown f = .stop →
                  (s.group f).time < (s.tables.group f).minStopUnits →
                  t.preempt.stack = { pushed s p with phase := .entry, delay := none } :: s.preempt.stack)
                ∧ ((∀ f, s.tables.live f = true → member (s.tables.plan p).forcedGo f = false) →
                  (s.tables.plan p).minDwell ≠ 0 →
                  t.preempt.stack
                    = { pushed s p with
                        phase := .dwell, delay := none, dwell := some ((s.tables.plan p).minDwell.toNat * 100) }
                      :: s.preempt.stack)))
            ∧ (∀ x rest, s.preempt.stack = x :: rest → rest.length = 3 → x.phase ≠ .entry → (s.plan p).limitReported = false →
              t.preempt.stack = s.preempt.stack ∧ (t.plan p).pending = true ∧ (t.plan p).limitReported = true
                ∧ t.preempt.nestingLimit = true
                ∧ (faultLaw s = true → notActive s .nestingLimit (some p) → s.faults.entries.length < 24 →
                  listed t .nestingLimit (some p) false .report)))

/-- The expiries of plans in RUNNING: the delay ends in ENTRY and the overlay is laid, the dwell in HOLD for a LEVEL plan whose source is
active and in the plan's end otherwise, and the maximum duration removes a plan from wherever it stands, as TIMED_OUT. When the top plan ends, a
PENDING plan that may be taken over the new top is taken; otherwise the new top resumes in its phase with its counts, but for a LEVEL plan whose source
is inactive: it is abandoned in DELAY and ends in HOLD. -/
def Obligations.PlanExpiries : Prop :=
  ∀ s : State, runningCalm s = true → s.preempt.plans.length = 8 →
    (∀ x rest f, s.preempt.stack = x :: rest → x.phase = .delay → x.delay = some 0 →
      ((s.tables.plan x.plan).level = true → (s.plan x.plan).active = true) → inService s f = true →
      member (s.tables.plan x.plan).forcedGo f = true → s.shown f = .stop →
      (s.group f).time < (s.tables.group f).minStopUnits →
      ∃ t, exec .planDelayEnd s = .next t ∧ calmFrame s t
        ∧ t.preempt.stack = { x with phase := .entry, delay := none } :: rest
        ∧ ∀ g, inService s g = true →
          (member (s.tables.plan x.plan).forcedStop g = true → (t.group g).target = .stop)
            ∧ (member (s.tables.plan x.plan).forcedStop g = false → member (s.tables.plan x.plan).forcedGo g = true →
              (t.group g).target = .go))
      ∧ (∀ x rest, s.preempt.stack = x :: rest → x.phase = .dwell → x.dwell = some 0 →
        ((s.tables.plan x.plan).level = true → (s.plan x.plan).active = true →
          ∃ t, exec .planDwellEnd s = .next t ∧ calmFrame s t
            ∧ t.preempt.stack = { x with phase := .hold, dwell := none } :: rest)
          ∧ ((s.tables.plan x.plan).level = false ∨ (s.plan x.plan).active = false →
            1 ≤ x.plan → x.plan ≤ 8 → (s.plan x.plan).pending = false →
            ∃ t, exec .planDwellEnd s = .next t ∧ calmFrame s t ∧ t.stacked x.plan = false
              ∧ (t.plan x.plan).outcome = .ended))
      ∧ (∀ p, s.durationOver p = true → 1 ≤ p → p ≤ 8 → (s.plan p).pending = false →
        ∃ t, exec (.planDurationExpiry p) s = .next t ∧ calmFrame s t ∧ t.stacked p = false
          ∧ (t.plan p).outcome = .timedOut
          ∧ (faultLaw s = true → notActive s .planTimeout (some p) → s.faults.entries.length < 24 →
            listed t .planTimeout (some p) false .report)
          ∧ ((s.tables.plan p).level = true → (s.plan p).active = true → s.preempt.slot = none →
            (t.plan p).spent = true))
      ∧ (∀ x rest, s.preempt.stack = x :: rest → x.phase = .dwell → x.dwell = some 0 → (s.tables.plan x.plan).level = false →
        1 ≤ x.plan → x.plan ≤ 8 → (s.plan x.plan).pending = false → (∀ y ∈ rest, y.plan ≠ x.plan) →
        let below := { s with preempt.stack := rest }
        (∀ p, (s.plan p).pending = true → mayTake below s.preempt.inhibit p = true →
            (∀ q, q < p → (s.plan q).pending = true → mayTake below s.preempt.inhibit q = false) →
            (s.tables.plan p).entryDelay ≠ 0 → rest.length < 4 →
            ((s.tables.plan p).level = true → (s.plan p).active = true) →
            s.preempt.slot.all (fun slot => decide (slot.plan ≠ x.plan)) = true →
            ∃ t, exec .planDwellEnd s = .next t ∧ calmFrame s t ∧ t.preempt.stack = pushed s p :: rest
              ∧ (t.plan p).pending = false)
          ∧ (∀ y more, rest = y :: more → 1 ≤ y.plan → y.plan ≤ 8 → (s.plan y.plan).pending = false →
            s.preempt.slot = none → rest.length < 4 →
            (∀ q, (s.plan q).pending = true → mayTake below s.preempt.inhibit q = false) →
            (∀ n, y.phase = .delay → y.delay = some (n + 1) →
              ((s.tables.plan y.plan).level = true → (s.plan y.plan).active = true) →
              ∃ t, exec .planDwellEnd s = .next t ∧ calmFrame s t ∧ t.preempt.stack = rest)
            ∧ (y.phase = .delay → (s.tables.plan y.plan).level = true → (s.plan y.plan).active = false → more = [] →
              (∀ q, (s.plan q).pending = true → mayTake { s with preempt.stack := [] } s.preempt.inhibit q = false) →
              ∃ t, exec .planDwellEnd s = .next t ∧ calmFrame s t ∧ t.preempt.stack = [] ∧ (t.plan y.plan).outcome = .abandoned)
            ∧ (∀ f, y.phase = .entry → inService s f = true → member (s.tables.plan y.plan).forcedGo f = true →
              s.shown f = .stop → (s.group f).time < (s.tables.group f).minStopUnits →
              ∃ t, exec .planDwellEnd s = .next t ∧ calmFrame s t ∧ t.preempt.stack = rest
                ∧ ∀ g, inService s g = true → member (s.tables.plan y.plan).forcedStop g = true → (t.group g).target = .stop)
            ∧ (∀ n, y.phase = .dwell → y.dwell = some (n + 1) →
              ∃ t, exec .planDwellEnd s = .next t ∧ calmFrame s t ∧ t.preempt.stack = rest)
            ∧ (y.phase = .hold → (s.plan y.plan).active = true →
              ∃ t, exec .planDwellEnd s = .next t ∧ calmFrame s t ∧ t.preempt.stack = rest)
            ∧ (y.phase = .hold → (s.tables.plan y.plan).level = true → (s.plan y.plan).active = false → more = [] →
              (∀ q, (s.plan q).pending = true → mayTake { s with preempt.stack := [] } s.preempt.inhibit q = false) →
              ∃ t, exec .planDwellEnd s = .next t ∧ calmFrame s t ∧ t.preempt.stack = [] ∧ (t.plan y.plan).outcome = .ended)))

/-! ### The field branches -/

/-- The end of a branch transmission: a poll is awaited for 5 ms and a forwarded frame for 20 ms; an apply frame becomes the last apply sent,
and each proved channel whose station's drive frame it applies takes the state carried; then the freed branch arbitrates. A branch without stations
starts nothing. A free branch with stations starts, in this order: the drive frame of its first pending slot, a pending apply, its oldest forwarded frame when it is that turn, a poll, or its oldest forwarded
frame; it polls the first ABSENT station whose re-poll is due, else the next PRESENT one behind the pointer, wrapping. -/
def Obligations.BranchTransmissionEnds : Prop :=
  (∀ (br : BranchId) (s : State), resting s = true →
    (∀ station, (s.branch br).sending = some (.pol station) →
      ∃ t, exec (.branchTransmissionEnd br) s = .next t ∧ t.link = s.link
        ∧ restFrame
          { s with
            branches := changeEntry s.branches (placeOf br)
              (fun b => { b with sending := none,
                                 awaited := some { station := station, tag := none, deadline := s.clock.now + 5 } }) } t)
      ∧ (∀ e, (s.branch br).sending = some (.fwd e) →
        ∃ t, exec (.branchTransmissionEnd br) s = .next t ∧ t.link = s.link
          ∧ restFrame
            { s with
              branches := changeEntry s.branches (placeOf br)
                (fun b =>
                  { b with sending := none,
                           awaited := some { station := e.station, tag := some e.tag, deadline := s.clock.now + 20 } }) }
            t)
      ∧ (∀ station image states, (s.branch br).sending = some (.drv station image states) →
        ∃ t, exec (.branchTransmissionEnd br) s = .next t ∧ t.link = s.link
          ∧ restFrame
            { s with branches := changeEntry s.branches (placeOf br) (fun b => { b with sending := none }) } t)
      ∧ (∀ image carried, (s.branch br).sending = some (.apl image carried) →
        ∃ t, exec (.branchTransmissionEnd br) s = .next t ∧ t.link = s.link
          ∧ restFrame
            { s with
              branches := changeEntry s.branches (placeOf br)
                (fun b => { b with sending := none, lastApply := some (image, s.clock.now) })
              prover := t.prover } t
          ∧ (∀ c states, 1 ≤ c → c ≤ s.prover.channels.length → s.tables.proved c = true →
            c ≤ s.tables.outputs.length → (s.tables.roleOn br (s.tables.output c).station.toNat).isSome = true →
            carried.find? (fun x => decide (x.1 = (s.tables.output c).station.toNat))
              = some ((s.tables.output c).station.toNat, states) →
            (t.proving c).proved = entry? states (s.tables.output c).output.toNat)))
    ∧ ∀ b : Branch,
      (b.sending.isSome = true ∨ b.awaited.isSome = true ∨ b.liveness = [] → b.arbitrate = b)
        ∧ (b.sending = none → b.awaited = none → b.liveness ≠ [] →
          (∀ before slot after, b.slots = before ++ slot :: after → slot.pending = true →
            (∀ x ∈ before, x.pending = false) → (∀ x ∈ before ++ after, x.station ≠ slot.station) →
            b.arbitrate
              = { b with
                  sending := some (.drv slot.station slot.image slot.states)
                  slots := before ++ { slot with pending := false } :: after })
            ∧ ((∀ x ∈ b.slots, x.pending = false) →
              (∀ image, b.applyPending = some image →
                b.arbitrate
                  = { b with
                      sending := some (.apl image (b.slots.map (fun x => (x.station, x.states)))), applyPending := none })
              ∧ (b.applyPending = none →
                (∀ e rest, b.turn = .fwd → b.fifo = e :: rest →
                  b.arbitrate = { b with sending := some (.fwd e), turn := .pol, fifo := rest })
                ∧ (b.turn = .pol ∨ b.fifo = [] →
                  (∀ before l after, b.liveness = before ++ l :: after → l.present = false → l.repollDue = true →
                    (∀ x ∈ before, x.present = true ∨ x.repollDue = false) →
                    (∀ x ∈ before ++ after, x.station ≠ l.station) →
                    b.arbitrate
                      = { b with
                          sending := some (.pol l.station), turn := .fwd
                          liveness := before ++ { l with repollDue := false } :: after })
                  ∧ ((∀ x ∈ b.liveness, x.present = true ∨ x.repollDue = false) →
                    (∀ before l after, b.liveness = before ++ l :: after → l.present = true →
                      (∀ p, b.pointer = some p → p < l.station
                        ∧ ∀ x ∈ before, x.present = true → x.station ≤ p) →
                      (b.pointer = none → ∀ x ∈ before, x.present = false) →
                      b.arbitrate = { b with sending := some (.pol l.station), turn := .fwd, pointer := some l.station })
                    ∧ (∀ before l after p, b.liveness = before ++ l :: after → l.present = true →
                      b.pointer = some p → (∀ x ∈ b.liveness, x.present = true → x.station ≤ p) →
                      (∀ x ∈ before, x.present = false) →
                      b.arbitrate = { b with sending := some (.pol l.station), turn := .fwd, pointer := some l.station })
                    ∧ ((∀ x ∈ b.liveness, x.present = false) →
                      (∀ e rest, b.fifo = e :: rest →
                        b.arbitrate = { b with sending := some (.fwd e), turn := .pol, fifo := rest })
                      ∧ (b.fifo = [] → b.arbitrate = b)))))))

/-- The awaited answer of a station ends the wait and its poll timeouts and makes it PRESENT, with the end of STATION_ABSENT: a lamp report
leaves its applied image, a sign status its bytes, a detector sample sets a channel that needs resynchronization to its raw state. A lamp report received
a settle time after the last apply is counted for lag: one that names that apply ends it, and the third that does not reports STATION_LAG. -/
def Obligations.StationAnswers : Prop :=
  ∀ (br : BranchId) (station : Nat) (s : State), resting s = true → s.branches.length = 4 →
    ∀ l, (s.branch br).record station = some l →
      (∀ applied currents, s.answersPoll br station .output = true → s.settled br = false →
        ∃ t l', exec (.lstReceived br station applied currents) s = .next t ∧ (t.branch br).awaited = none
          ∧ (t.branch br).record station = some l' ∧ l'.timeouts = 0 ∧ l'.present = true ∧ l'.lastApplied = applied
          ∧ l'.lagCount = l.lagCount ∧ t.control = s.control ∧ t.exchange = s.exchange ∧ t.store = s.store
          ∧ t.prover = s.prover ∧ t.detectors = s.detectors
          ∧ (l.present = true → t.faults = s.faults ∧ t.link = s.link)
          ∧ (l.present = false → faultLaw s = true → notActive t .stationAbsent (some station)))
        ∧ (∀ applied currents image sent, s.answersPoll br station .output = true → s.settled br = true →
          (s.branch br).lastApply = some (image, sent) →
          ∃ t l', exec (.lstReceived br station applied currents) s = .next t ∧ (t.branch br).awaited = none
            ∧ (t.branch br).record station = some l' ∧ l'.timeouts = 0 ∧ l'.present = true ∧ l'.lastApplied = applied
            ∧ t.control = s.control ∧ t.exchange = s.exchange ∧ t.store = s.store ∧ t.prover = s.prover
            ∧ t.detectors = s.detectors ∧ reportedOnly s t
            ∧ (applied = some image → l'.lagCount = 0 ∧ l'.lagging = false
              ∧ (l.lagging = true → faultLaw s = true → notActive t .stationLag (some station)))
            ∧ (applied ≠ some image →
              l'.lagCount = min 3 (l.lagCount + 1) ∧ (l'.lagging = true ↔ l.lagging = true ∨ 2 ≤ l.lagCount)
                ∧ (2 ≤ l.lagCount → l.lagging = false → faultLaw s = true → s.faults.entries.length < 32 →
                  listed t .stationLag (some station) true .flash)))
        ∧ (∀ status, s.answersPoll br station .sign = true →
          ∃ t l', exec (.sstReceived br station status) s = .next t ∧ (t.branch br).awaited = none
            ∧ (t.branch br).record station = some l' ∧ l'.timeouts = 0 ∧ l'.present = true
            ∧ l'.lastSign = some status ∧ t.control = s.control ∧ t.exchange = s.exchange ∧ t.store = s.store
            ∧ t.prover = s.prover ∧ t.detectors = s.detectors
            ∧ (l.present = true → t.faults = s.faults ∧ t.link = s.link))
        ∧ (∀ inputs, s.answersPoll br station .detector = true →
          ∃ t l', exec (.dsmReceived br station inputs) s = .next t ∧ (t.branch br).awaited = none
            ∧ (t.branch br).record station = some l' ∧ l'.timeouts = 0 ∧ l'.present = true
            ∧ t.control = s.control ∧ t.exchange = s.exchange ∧ t.store = s.store ∧ t.prover = s.prover
            ∧ (∀ g, t.shown g = s.shown g)
            ∧ ∀ c d e, s.detector c = some d → (s.tables.detector c).station.toNat = station →
              entry? inputs (s.tables.detector c).input.toNat = some e → d.resync = true →
              ∃ d', t.detector c = some d' ∧ d'.raw = some e.occupied ∧ d'.occupied = e.occupied ∧ d'.pending = []
                ∧ d'.resync = false ∧ d'.health = e.health
                ∧ (d.occupied ≠ e.occupied → d'.since = s.clock.now))

/-- A poll without an answer counts, the third in a row makes the station ABSENT with a re-poll after 1 s, and an OUTPUT station's absence in
RUNNING takes the cabinet to FLASH at once; so does the third counted lamp report there that does not name the last apply. Proving stops with the
transfer. The absence of a station is otherwise reported with the action REPORT and moves no mode; a DETECTOR station's channels then lose what they held and
enter fault, each with its report in the state that its fault default gives, in ascending number (log 51), and each plan they call sees its source go
inactive; the STATION_ABSENT is reported first (log 52), and the alarms stand before the detector reports (log 18). A re-poll of an ABSENT station that is
not answered sets its timer again and reports nothing. The re-poll timer's end makes the re-poll due. -/
def Obligations.PollTimeouts : Prop :=
  ∀ (br : BranchId) (station : Nat) (deadline : Time) (s : State), s.branches.length = 4 →
    ∀ l, (s.branch br).record station = some l →
      (resting s = true → (s.branch br).awaited = some { station := station, tag := none, deadline := deadline } →
        reached deadline s.clock.now = true → l.present = true → l.timeouts < 2 →
        ∃ t l', exec (.pollAnswerTimeout br) s = .next t ∧ (t.branch br).awaited = none
          ∧ (t.branch br).record station = some l' ∧ l'.timeouts = l.timeouts + 1 ∧ l'.present = true
          ∧ t.control = s.control ∧ t.exchange = s.exchange ∧ t.store = s.store ∧ t.prover = s.prover
          ∧ t.detectors = s.detectors ∧ t.faults = s.faults ∧ t.link = s.link ∧ t.preempt = s.preempt)
        ∧ (s.up = true → s.control.mode = .running →
          (s.branch br).awaited = some { station := station, tag := none, deadline := deadline } →
          reached deadline s.clock.now = true → l.present = true → l.timeouts = 2 →
          s.tables.roleOn br station = some .output →
          ∃ t l', exec (.pollAnswerTimeout br) s = .next t ∧ transferred s t .flash .faultFlash ∧ provingStopped s t
            ∧ (t.branch br).record station = some l' ∧ l'.present = false
            ∧ l'.timeouts = 3 ∧ l'.repoll = some 100
            ∧ (faultLaw s = true → s.faults.entries.length < 32 → listed t .stationAbsent (some station) true .flash)
            ∧ (faultLaw s = true → ∀ c, 1 ≤ c → c ≤ s.prover.channels.length → (s.tables.output c).latch ≠ 1 →
              ((s.proving c).lampOut = true → notActive t .lampOut (some c))
                ∧ ((s.proving c).foreign = true → notActive t .foreignCurrent (some c))))
        ∧ (∀ image sent applied currents, s.up = true → s.control.mode = .running →
          s.answersPoll br station .output = true → l.present = true → l.lagCount = 2 → l.lagging = false →
          (s.branch br).lastApply = some (image, sent) → s.settled br = true → applied ≠ some image →
          ∃ t l', exec (.lstReceived br station applied currents) s = .next t
            ∧ transferred s t .flash .faultFlash ∧ provingStopped s t
            ∧ (t.branch br).record station = some l' ∧ l'.lagCount = 3 ∧ l'.lagging = true ∧ l'.lastApplied = applied
            ∧ (faultLaw s = true → s.faults.entries.length < 32 → listed t .stationLag (some station) true .flash))
        ∧ (resting s = true → l.repoll = some 0 → (s.branch br).sending.isSome = true →
          ∃ t l', exec (.repollTimerExpiry station) s = .next t ∧ t.link = s.link
            ∧ restFrame { s with branches := t.branches } { t with branches := t.branches.map Branch.arbitrate }
            ∧ (t.branch br).record station = some l' ∧ l' = { l with repoll := none, repollDue := true })
        ∧ (resting s = true ∨ runningCalm s = true ∧ s.tables.roleOn br station ≠ some .output →
          (s.branch br).awaited = some { station := station, tag := none, deadline := deadline } →
          reached deadline s.clock.now = true → l.present = true → l.timeouts = 2 →
          ∃ t l', ∃ alarms reports : List OutFrame, exec (.pollAnswerTimeout br) s = .next t
            ∧ t.control = s.control ∧ t.exchange = s.exchange ∧ t.store = s.store ∧ (t.branch br).awaited = none
            ∧ (t.branch br).record station = some l' ∧ l'.present = false ∧ l'.timeouts = 3 ∧ l'.repoll = some 100
            ∧ l'.lagCount = 0
            ∧ (faultLaw s = true → s.faults.entries.length < 32 → listed t .stationAbsent (some station) true .report)
            ∧ t.link = (alarms ++ reports).foldl Link.accept s.link ∧ alarms.all (fun f => isReport f && !f.isDet) = true
            ∧ reports.all OutFrame.isDet = true
            ∧ (s.tables.roleOn br station ≠ some .detector → s.control.mode.permit = false →
              t.detectors = s.detectors ∧ t.preempt = s.preempt ∧ reports = [])
            ∧ (s.tables.roleOn br station = some .detector →
              (∀ c d, s.detector c = some d → (s.tables.detector c).station.toNat = station →
                ∃ d', t.detector c = some d' ∧ d'.stationAbsent = true ∧ d'.inFault = true ∧ d'.raw = none ∧ d'.pending = []
                  ∧ d'.resync = true ∧ d'.okSince = none ∧ d'.occupied = d.occupied ∧ d'.since = d.since
                  ∧ (d.inFault = true → d'.reported = d.reported ∧ d'.lastDet = d.lastDet)
                  ∧ (d.inFault = false →
                    ((s.tables.detector c).faultDefault.toNat = 0 → d'.reported = true)
                      ∧ ((s.tables.detector c).faultDefault.toNat = 1 → d'.reported = false)
                      ∧ (1 < (s.tables.detector c).faultDefault.toNat → d'.reported = d.reported)
                      ∧ d'.lastDet = some (d'.reported, true, s.clock.now)
                      ∧ .det { channel := c, occupied := d'.reported, fault := true, time := s.clock.now, occupancy := none } ∈ reports
                      ∧ (s.preempt.plans.length = 8 → ∀ p, 1 ≤ p → p ≤ 8 → (s.tables.plan p).on = true →
                        (s.tables.plan p).source.toNat = c + 5 → c ≤ 48 →
                        (t.plan p).active = false
                          ∧ ((s.tables.plan p).level = true → s.stacked p = false → (t.plan p).pending = false))))
                ∧ (s.control.mode.permit = false →
                  (∀ c, (s.tables.detector c).station.toNat ≠ station → t.detector c = s.detector c)
                    ∧ reports
                      = ((numbers s.detectors.length).filter (fun c =>
                          decide ((s.tables.detector c).station.toNat = station) && (s.detector c).any (fun d => !d.inFault))).map
                        (fun c =>
                          .det
                            { channel := c, occupied := (t.detector c).any Detector.reported, fault := true
                              time := s.clock.now, occupancy := none }))))
        ∧ ((s.branch br).awaited = some { station := station, tag := none, deadline := deadline } →
          reached deadline s.clock.now = true → l.present = false →
          (resting s = true →
            ∃ t, exec (.pollAnswerTimeout br) s = .next t ∧ t.link = s.link
              ∧ restFrame
                { s with
                  branches :=
                    changeEntry s.branches (placeOf br)
                      (fun b =>
                        { b with
                          awaited := none
                          liveness := b.liveness.map (fun x => if x.station = station then { x with repoll := some 100 } else x) }) }
                t)
            ∧ (runningCalm s = true →
              ∃ t l', exec (.pollAnswerTimeout br) s = .next t ∧ calmFrame s t ∧ (t.branch br).record station = some l'
                ∧ l'.present = false ∧ l'.timeouts = l.timeouts ∧ l'.repoll = some 100
                ∧ ((∀ g, s.redFail g = false) → s.preempt.stack.length ≤ 4 → t.faults = s.faults)))

/-! ### Lamp proving -/

/-- The judging of a usable reading of a channel proved ON (R129) and of one proved OFF (R130): how a run starts, continues, qualifies and is
removed, and how an active fault is released. A lamp report in RUNNING judges each channel's reading so; what it finds is reported, and, here for a
station with that one channel, foreign current on a go lamp beside a released group takes the cabinet to LOCKOUT by FIELD_CONFLICT, and the last red lamp
of a group in STOP or PREPARE raises RED_FAIL with its group's action. Which readings make the check for a field conflict is the model's choice (log 36):
one of a channel proved ON, and one of a channel proved OFF that does not release the foreign current. RED_FAIL with the action REPORT leaves RUNNING
where the targets are the effective ones (effectiveLaw, which every step keeps), so that no group moves at the event. -/
def Obligations.LampReadingsAreJudged : Prop :=
  (∀ (r : ChannelRec) (current : Half) (now : Time) (x : Proving),
    ((judgeOn r current now x).1.last = some (current, now) ∧ (judgeOff r current now x).1.last = some (current, now))
      ∧ ((judgeOn r current now x).1.foreign = x.foreign ∧ (judgeOn r current now x).1.foreignRun = x.foreignRun
        ∧ (judgeOn r current now x).1.foreignReleased = x.foreignReleased
        ∧ (judgeOff r current now x).1.lampOut = x.lampOut ∧ (judgeOff r current now x).1.outRun = x.outRun
        ∧ (judgeOff r current now x).1.lampOutReleased = x.lampOutReleased)
      ∧ (x.lampOut = false → current.toNat < r.onThreshold.toNat →
        (x.outRun = none →
            (judgeOn r current now x).1.outRun = some now ∧ (judgeOn r current now x).1.lampOut = false
              ∧ (judgeOn r current now x).2 = .nothing)
          ∧ (∀ start, x.outRun = some start → (now - start).toNat < r.lampOutQualifier.toNat * 100 →
            (judgeOn r current now x).1.outRun = some start ∧ (judgeOn r current now x).1.lampOut = false
              ∧ (judgeOn r current now x).2 = .nothing)
          ∧ (∀ start, x.outRun = some start → r.lampOutQualifier.toNat * 100 ≤ (now - start).toNat →
            (judgeOn r current now x).1.outRun = none ∧ (judgeOn r current now x).1.lampOut = true
              ∧ (judgeOn r current now x).1.lampOutReleased = false ∧ (judgeOn r current now x).2 = .qualified))
      ∧ (x.lampOut = false → r.onThreshold.toNat ≤ current.toNat →
        (judgeOn r current now x).1.outRun = none ∧ (judgeOn r current now x).1.lampOut = false
          ∧ (judgeOn r current now x).2 = .nothing)
      ∧ (x.lampOut = true → r.onThreshold.toNat + r.hysteresis.toNat ≤ current.toNat →
        (r.latch ≠ 1 → (judgeOn r current now x).1.lampOut = false ∧ (judgeOn r current now x).2 = .ended)
          ∧ (r.latch = 1 → (judgeOn r current now x).1.lampOut = true
            ∧ (judgeOn r current now x).1.lampOutReleased = true ∧ (judgeOn r current now x).2 = .nothing))
      ∧ (x.lampOut = true → current.toNat < r.onThreshold.toNat + r.hysteresis.toNat →
        (judgeOn r current now x).1 = { x with last := some (current, now) }
          ∧ (judgeOn r current now x).2 = .nothing)
      ∧ (x.foreign = false → r.offThreshold.toNat ≤ current.toNat →
        (x.foreignRun = none →
            (judgeOff r current now x).1.foreignRun = some now ∧ (judgeOff r current now x).1.foreign = false
              ∧ (judgeOff r current now x).2 = .nothing)
          ∧ (∀ start, x.foreignRun = some start → (now - start).toNat < r.foreignQualifier.toNat * 10 →
            (judgeOff r current now x).1.foreignRun = some start ∧ (judgeOff r current now x).1.foreign = false
              ∧ (judgeOff r current now x).2 = .nothing)
          ∧ (∀ start, x.foreignRun = some start → r.foreignQualifier.toNat * 10 ≤ (now - start).toNat →
            (judgeOff r current now x).1.foreignRun = none ∧ (judgeOff r current now x).1.foreign = true
              ∧ (judgeOff r current now x).1.foreignReleased = false ∧ (judgeOff r current now x).2 = .qualified))
      ∧ (x.foreign = false → current.toNat < r.offThreshold.toNat →
        (judgeOff r current now x).1.foreignRun = none ∧ (judgeOff r current now x).1.foreign = false
          ∧ (judgeOff r current now x).2 = .nothing)
      ∧ (x.foreign = true → r.latch ≠ 1 →
        ((judgeOff r current now x).1.foreign = false
          ↔ current.toNat + r.hysteresis.toNat < r.offThreshold.toNat
            ∨ (r.offThreshold.toNat ≤ r.hysteresis.toNat ∧ current = 0))
          ∧ ((judgeOff r current now x).2 = .ended ↔ (judgeOff r current now x).1.foreign = false)
          ∧ (judgeOff r current now x).2 ≠ .qualified ∧ (judgeOff r current now x).1.foreignReleased = x.foreignReleased)
      ∧ (x.foreign = true → r.latch = 1 →
        (judgeOff r current now x).1.foreign = true ∧ (judgeOff r current now x).2 = .nothing
          ∧ ((judgeOff r current now x).1.foreignReleased = true
            ↔ x.foreignReleased = true ∨ current.toNat + r.hysteresis.toNat < r.offThreshold.toNat
              ∨ (r.offThreshold.toNat ≤ r.hysteresis.toNat ∧ current = 0)))
      ∧ (x.foreign = true → (judgeOff r current now x).1.foreignRun = x.foreignRun)
      ∧ (judgeReading r current now x
        = (if x.proved = some .on then judgeOn r current now x
          else if x.proved = some .off then judgeOff r current now x else (x, .nothing))))
    ∧ ∀ (br : BranchId) (station : Nat) (image : Byte) (currents : List Half) (s : State) (l : Liveness),
      s.up = true → s.control.mode = .running → s.answersPoll br station .output = true →
      s.usable br (some image) = true → (s.branch br).record station = some l → l.present = true → l.lagging = false →
      ∀ (c : Nat) (current : Half), 1 ≤ c → c ≤ s.prover.channels.length → c ≤ s.tables.outputs.length →
        s.tables.proved c = true → (s.tables.output c).station.toNat = station →
        entry? currents (s.tables.output c).output.toNat = some current →
        let r := s.tables.output c
        let g := r.group.toNat
        let judged := judgeReading r current s.clock.now (s.proving c)
        ∃ t, exec (.lstReceived br station (some image) currents) s = .next t
          ∧ (t.control.mode = .running →
            t.control = s.control ∧ t.exchange = s.exchange ∧ t.store = s.store
              ∧ (t.proving c).proved = (s.proving c).proved
              ∧ (t.proving c).last = judged.1.last ∧ (t.proving c).lampOut = judged.1.lampOut
              ∧ (t.proving c).lampOutReleased = judged.1.lampOutReleased ∧ (t.proving c).foreign = judged.1.foreign
              ∧ (t.proving c).foreignReleased = judged.1.foreignReleased
              ∧ (t.shownImage = s.shownImage →
                (t.proving c).outRun = judged.1.outRun ∧ (t.proving c).foreignRun = judged.1.foreignRun))
          ∧ ((∀ n, s.tables.proved n = true → (s.tables.output n).station.toNat = station → n = c) →
            (faultLaw s = true → s.faults.entries.length < 30 → t.control.mode = .running →
              judged.2 = .qualified →
              ∃ e ∈ t.faults.entries, e.kind = (if (s.proving c).proved = some .on then .lampOut else .foreignCurrent)
                ∧ e.subject = some c ∧ e.active = true ∧ e.action = .report ∧ (r.latch = 1 → e.latched = true))
            ∧ (faultLaw s = true → t.control.mode = .running → judged.2 = .ended →
              notActive t (if (s.proving c).proved = some .on then .lampOut else .foreignCurrent) (some c))
            ∧ (r.redProving ≠ 1 → r.goLamp = true → judged.1.foreign = true →
              ((s.proving c).proved = some .on
                ∨ (s.proving c).proved = some .off ∧ r.offThreshold.toNat ≤ current.toNat + r.hysteresis.toNat
                  ∧ current ≠ 0) →
              (∃ i, s.tables.conflict i g = true ∧ (s.shown i = .prepare ∨ s.shown i = .go)) →
              transferred s t .lockout .faultLockout ∧ t.control.recordOp = .writing .fieldConflict (some g)
                ∧ t.store.op = .record ∧ t.store.nv.record.isSome = true
                ∧ (faultLaw s = true → s.faults.entries.length < 30 → notActive s .fieldConflict (some g) →
                  listed t .fieldConflict (some g) false .lockout))
            ∧ (r.redProving = 1 → (s.proving c).foreign = false → (s.proving c).proved = some .on → judged.2 = .qualified →
              inService s g = true → (s.shown g = .stop ∨ s.shown g = .prepare) → s.redFail g = false →
              g ≤ s.prover.redFail.length →
              (∀ n, n ≠ c → (s.tables.output n).used = true → (s.tables.output n).group = r.group →
                (s.tables.output n).redProving ≠ 1) →
              ((s.tables.group g).redFail ≠ 1 →
                transferred s t .lockout .faultLockout ∧ t.control.recordOp = .writing .redFail (some g)
                  ∧ t.store.op = .record ∧ t.redFail g = false
                  ∧ (faultLaw s = true → s.faults.entries.length < 30 → listed t .redFail (some g) false .lockout))
              ∧ ((s.tables.group g).redFail = 1 → (effectiveLaw s → t.control.mode = .running)
                ∧ ((t.shown g = .stop ∨ t.shown g = .prepare) → t.redFail g = true)
                ∧ (faultLaw s = true → s.faults.entries.length < 30 → (t.shown g = .stop ∨ t.shown g = .prepare) →
                  listed t .redFail (some g) true .report))))

/-! ### Detectors -/

/-- The deadlines of a detector channel: the fault is raised, the deadline goes, and the channel is in fault, which a detector report tells
when it was not so before. -/
def Obligations.DetectorDeadlines : Prop :=
  ∀ (c : Nat) (d : Detector) (due : Time) (s : State), resting s = true → s.detector c = some d →
    reached due s.clock.now = true →
    (d.stuckAt = some due → d.stuckFault = false →
      ∃ t d', exec (.stuckDeadlineExpiry c) s = .next t ∧ t.detector c = some d' ∧ d'.stuckFault = true
        ∧ d'.stuckAt = none ∧ d'.inFault = true ∧ d'.occupied = d.occupied ∧ d'.idleFault = d.idleFault
        ∧ t.control = s.control ∧ t.exchange = s.exchange ∧ t.store = s.store ∧ t.prover = s.prover
        ∧ (∀ n, n ≠ c → t.detector n = s.detector n)
        ∧ (d.inFault = false → ∃ r, replied s t (.det r) ∧ r.channel = c ∧ r.fault = true
          ∧ r.time = s.clock.now)
        ∧ (faultLaw s = true → s.faults.entries.length < 32 → listed t .detectorStuck (some c) true .report))
      ∧ (d.idleAt = some due → d.idleFault = false →
        ∃ t d', exec (.idleDeadlineExpiry c) s = .next t ∧ t.detector c = some d' ∧ d'.idleFault = true
          ∧ d'.idleAt = none ∧ d'.inFault = true ∧ d'.occupied = d.occupied ∧ d'.stuckFault = d.stuckFault
          ∧ t.control = s.control ∧ t.exchange = s.exchange ∧ t.store = s.store ∧ t.prover = s.prover
          ∧ (∀ n, n ≠ c → t.detector n = s.detector n)
          ∧ (d.inFault = false → ∃ r, replied s t (.det r) ∧ r.channel = c ∧ r.fault = true
            ∧ r.time = s.clock.now)
          ∧ (faultLaw s = true → s.faults.entries.length < 32 → listed t .detectorIdle (some c) true .report))

/-- The decision about the head of a pending list: it cancels with the transition that follows it within its debounce, is confirmed once the
receipt is a debounce past it, and waits otherwise. A detector sample takes its entry so, here for a station with one channel in use whose pending list
is empty, in a flash mode: a transition younger than its debounce waits, two within it leave no trace, and one past it becomes the conditioned state,
dated at its time, with the detector report, the call of a DEMAND channel, whose served group is live under tables that pass their checks (V8 for
channels 1 to 48, tableLaw), and the source of a plan that follow from it. Then the health test, the chatter
test and the entry into or exit from fault, decided in that order (log 27). -/
def Obligations.DebounceDecides : Prop :=
  (∀ (r : DetectorRec) (now : Time) (x : Transition) (rest : List Transition),
    (∀ y more, rest = y :: more → (y.time - x.time).toNat ≤ r.debounceMs x.onset →
        decideHead r now (x :: rest) = some (more, none))
      ∧ ((∀ y more, rest = y :: more → r.debounceMs x.onset < (y.time - x.time).toNat) →
        (r.debounceMs x.onset ≤ (now - x.time).toNat → decideHead r now (x :: rest) = some (rest, some x))
          ∧ ((now - x.time).toNat < r.debounceMs x.onset → decideHead r now (x :: rest) = none)))
    ∧ ∀ (br : BranchId) (station c : Nat) (inputs : List DsmInput) (l : Liveness) (d : Detector) (e : DsmInput) (s : State),
      resting s = true → s.answersPoll br station .detector = true → (s.branch br).record station = some l →
      l.present = true → s.detector c = some d → (s.tables.detector c).station.toNat = station →
      (∀ n, (s.detector n).isSome = true → (s.tables.detector n).station.toNat = station → n = c) →
      entry? inputs (s.tables.detector c).input.toNat = some e →
      let r := s.tables.detector c
      ∃ t d', exec (.dsmReceived br station inputs) s = .next t ∧ t.detector c = some d' ∧ d'.health = e.health
        ∧ reportedOnly s t ∧ t.control = s.control ∧ t.exchange = s.exchange ∧ t.store = s.store
        ∧ (d'.inFault = true
          ↔ d'.stationAbsent = true ∨ d'.openFault = true ∨ d'.shortFault = true ∨ d'.stuckFault = true
            ∨ d'.idleFault = true ∨ d'.chatterFault = true)
        ∧ (e.health = .openCircuit → d'.openFault = true ∧ d'.okSince = none
          ∧ (d.openFault = false → faultLaw s = true → s.faults.entries.length < 28 →
            listed t .detectorOpen (some c) true .report))
        ∧ (e.health = .shortCircuit → d'.shortFault = true ∧ d'.okSince = none
          ∧ (d.shortFault = false → faultLaw s = true → s.faults.entries.length < 28 →
            listed t .detectorShort (some c) true .report))
        ∧ (e.health = .ok → d.openFault = true ∨ d.shortFault = true →
          (d.okSince = none →
            d'.okSince = some s.clock.now ∧ d'.openFault = d.openFault ∧ d'.shortFault = d.shortFault)
          ∧ (∀ since, d.okSince = some since →
            ((s.clock.now - since).toNat < 10000 →
              d'.okSince = some since ∧ d'.openFault = d.openFault ∧ d'.shortFault = d.shortFault)
            ∧ (10000 ≤ (s.clock.now - since).toNat →
              d'.okSince = none ∧ d'.openFault = false ∧ d'.shortFault = false
                ∧ (faultLaw s = true → d.openFault = true → notActive t .detectorOpen (some c)))))
        ∧ (r.chatterLimit ≠ 0 →
          (d'.chatterFault = true
            ↔ r.chatterLimit.toNat < (d'.onsets.filter (fun u => decide ((s.clock.now - u).toNat < 60000))).length)
          ∧ (d'.chatterFault = true → d.chatterFault = false → faultLaw s = true → s.faults.entries.length < 28 →
            listed t .detectorChatter (some c) true .report))
        ∧ (d.resync = false → d.pending = [] → e.overrun = false → d.raw = some d.occupied →
          (∀ age : Half, age ≠ 65535 → e.ages = [age] → e.occupied = !d.occupied →
            age.toNat ≤ (s.clock.now - d.since).toNat →
            let u := s.clock.now - BitVec.ofNat 32 age.toNat
            d'.raw = some e.occupied
              ∧ (age.toNat < r.debounceMs e.occupied →
                d'.pending = [{ onset := e.occupied, time := u }] ∧ d'.occupied = d.occupied ∧ d'.since = d.since
                  ∧ d'.onsets = d.onsets ∧ (d'.inFault = d.inFault → d'.call = d.call))
              ∧ (r.debounceMs e.occupied ≤ age.toNat →
                d'.pending = [] ∧ d'.occupied = e.occupied ∧ d'.since = u
                  ∧ (e.occupied = true → r.chatterLimit ≠ 0 → d.onsets.contains u = false →
                    d'.onsets
                      = (if r.chatterLimit.toNat + 1 < d.onsets.length + 1 then (d.onsets ++ [u]).drop 1
                        else d.onsets ++ [u]))
                  ∧ (e.occupied = true → r.maxPresence ≠ 0 → age.toNat < r.maxPresence.toNat * 60000 →
                    d'.stuckAt = some (u + BitVec.ofNat 32 (r.maxPresence.toNat * 60000)))
                  ∧ (e.occupied = true → r.maxIdle ≠ 0 →
                    d'.idleAt = some (u + BitVec.ofNat 32 (r.maxIdle.toNat * 60000)) ∧ d'.idleFault = false)
                  ∧ (e.occupied = false → d'.stuckAt = none ∧ d'.stuckFault = false)
                  ∧ (tableLaw s = true → c ≤ 48 → r.demand = true → e.occupied = true → d.inFault = false → d'.call = some u)
                  ∧ (r.demand = false → d.inFault = false → d.reported = d.occupied →
                    ∃ made : List OutFrame, ∃ det, made.all isReport = true ∧ t.link = made.foldl Link.accept s.link ∧ OutFrame.det det ∈ made
                      ∧ det.channel = c ∧ det.occupied = e.occupied ∧ det.fault = false ∧ det.time = u
                      ∧ (e.occupied = true → det.occupancy = none)
                      ∧ (∀ before, e.occupied = false → d.lastDet = some (true, false, before) →
                        det.occupancy = some (min 65535 (u - before).toNat)))
                  ∧ (tableLaw s = true → c ≤ 48 → r.demand = true → e.occupied = true → d.inFault = false → d.reported = false →
                    ∃ made : List OutFrame, ∃ det, made.all isReport = true ∧ t.link = made.foldl Link.accept s.link ∧ OutFrame.det det ∈ made
                      ∧ det.channel = c ∧ det.occupied = true ∧ det.fault = false ∧ det.time = u)
                  ∧ (d.inFault = false → d'.inFault = false → s.preempt.plans.length = 8 → ∀ p, 1 ≤ p → p ≤ 8 →
                    (s.tables.plan p).on = true → (s.tables.plan p).onDetector c = true →
                    (t.plan p).active = e.occupied)))
          ∧ (∀ first second : Half, first ≠ 65535 → second ≠ 65535 → e.ages = [first, second] → e.occupied = d.occupied →
            second.toNat ≤ first.toNat → first.toNat ≤ (s.clock.now - d.since).toNat →
            first.toNat - second.toNat ≤ r.debounceMs (!d.occupied) →
            d'.pending = [] ∧ d'.raw = some d.occupied ∧ d'.occupied = d.occupied ∧ d'.since = d.since
              ∧ d'.onsets = d.onsets ∧ (d'.inFault = d.inFault → d'.call = d.call)))
end

