-- ==== Sys2Proof/Laws/Link.lean ====
section
/-! SUPPORT. The link interface: what handing a frame to it does to its fields (R185). -/

namespace Sys2Proof.Machine

@[simp] theorem Link.place_assembler (l : Link) (f : OutFrame) : (l.place f).assembler = l.assembler := by
  unfold Link.place
  repeat' split
  all_goals rfl

@[simp] theorem Link.place_sending (l : Link) (f : OutFrame) : (l.place f).sending = l.sending := by
  unfold Link.place
  repeat' split
  all_goals rfl

@[simp] theorem Link.start_assembler (l : Link) : l.start.assembler = l.assembler := by
  unfold Link.start
  split <;> rfl

@[simp] theorem Link.start_reportsLost (l : Link) : l.start.reportsLost = l.reportsLost := by
  unfold Link.start
  split <;> rfl

@[simp] theorem Link.accept_assembler (l : Link) (f : OutFrame) : (l.accept f).assembler = l.assembler := by simp [Link.accept]

@[simp] theorem Link.accept_reportsLost (l : Link) (f : OutFrame) : (l.accept f).reportsLost = (l.place f).reportsLost := by
  simp [Link.accept]

/-- A transmission goes on while frames are handed to the link interface. -/
theorem Link.accept_sending_of_some {l : Link} {g : OutFrame} (h : l.sending = some g) (f : OutFrame) : (l.accept f).sending = some g := by
  simp [Link.accept, Link.start, h]

@[simp] theorem send_link (f : OutFrame) (s : State) : (send f s).link = s.link.accept f := rfl

/-- An alarm hands one frame to the link interface, an ALM. -/
theorem alarm_link (body : AlarmBody) (s : State) : ∃ a, (alarm body s).link = s.link.accept (.alm a) := ⟨_, rfl⟩

end Sys2Proof.Machine
end

