-- ==== Sys2Proof/Laws/State.lean ====
section
/-! SUPPORT. What each update of one block leaves alone, field by field: one lemma for each update, true by rfl. -/

namespace Sys2Proof.Machine

/-- What `send` leaves alone: everything but link. -/
@[simp] theorem send_frame (f : OutFrame) (s : State) :
    (send f s).pending = s.pending
      ∧ (send f s).clock = s.clock
      ∧ (send f s).event = s.event
      ∧ (send f s).exchange = s.exchange
      ∧ (send f s).preempt = s.preempt
      ∧ (send f s).engine = s.engine
      ∧ (send f s).control = s.control
      ∧ (send f s).branches = s.branches
      ∧ (send f s).prover = s.prover
      ∧ (send f s).detectors = s.detectors
      ∧ (send f s).faults = s.faults
      ∧ (send f s).store = s.store := ⟨rfl, rfl, rfl, rfl, rfl, rfl, rfl, rfl, rfl, rfl, rfl, rfl⟩

/-- What `reply` leaves alone: everything but link. -/
@[simp] theorem reply_frame (kind : Byte) (result : Result) (content : List Byte) (s : State) :
    (reply kind result content s).pending = s.pending
      ∧ (reply kind result content s).clock = s.clock
      ∧ (reply kind result content s).event = s.event
      ∧ (reply kind result content s).exchange = s.exchange
      ∧ (reply kind result content s).preempt = s.preempt
      ∧ (reply kind result content s).engine = s.engine
      ∧ (reply kind result content s).control = s.control
      ∧ (reply kind result content s).branches = s.branches
      ∧ (reply kind result content s).prover = s.prover
      ∧ (reply kind result content s).detectors = s.detectors
      ∧ (reply kind result content s).faults = s.faults
      ∧ (reply kind result content s).store = s.store := ⟨rfl, rfl, rfl, rfl, rfl, rfl, rfl, rfl, rfl, rfl, rfl, rfl⟩

/-- What `concern` leaves alone: everything but event. -/
@[simp] theorem concern_frame (groups : List Nat) (s : State) :
    (concern groups s).pending = s.pending
      ∧ (concern groups s).clock = s.clock
      ∧ (concern groups s).link = s.link
      ∧ (concern groups s).exchange = s.exchange
      ∧ (concern groups s).preempt = s.preempt
      ∧ (concern groups s).engine = s.engine
      ∧ (concern groups s).control = s.control
      ∧ (concern groups s).branches = s.branches
      ∧ (concern groups s).prover = s.prover
      ∧ (concern groups s).detectors = s.detectors
      ∧ (concern groups s).faults = s.faults
      ∧ (concern groups s).store = s.store := ⟨rfl, rfl, rfl, rfl, rfl, rfl, rfl, rfl, rfl, rfl, rfl, rfl⟩

/-- What `setGroup` leaves alone: everything but engine, and of these what is listed last. -/
@[simp] theorem setGroup_frame (g : Nat) (x : Group) (s : State) :
    (setGroup g x s).pending = s.pending
      ∧ (setGroup g x s).clock = s.clock
      ∧ (setGroup g x s).event = s.event
      ∧ (setGroup g x s).link = s.link
      ∧ (setGroup g x s).exchange = s.exchange
      ∧ (setGroup g x s).preempt = s.preempt
      ∧ (setGroup g x s).control = s.control
      ∧ (setGroup g x s).branches = s.branches
      ∧ (setGroup g x s).prover = s.prover
      ∧ (setGroup g x s).detectors = s.detectors
      ∧ (setGroup g x s).faults = s.faults
      ∧ (setGroup g x s).store = s.store
      ∧ (setGroup g x s).engine.imageNumber = s.engine.imageNumber := ⟨rfl, rfl, rfl, rfl, rfl, rfl, rfl, rfl, rfl, rfl, rfl, rfl, rfl⟩

/-- What `changePlan` leaves alone: everything but preempt, and of these what is listed last. -/
@[simp] theorem changePlan_frame (p : Nat) (f : PlanState → PlanState) (s : State) :
    (changePlan p f s).pending = s.pending
      ∧ (changePlan p f s).clock = s.clock
      ∧ (changePlan p f s).event = s.event
      ∧ (changePlan p f s).link = s.link
      ∧ (changePlan p f s).exchange = s.exchange
      ∧ (changePlan p f s).engine = s.engine
      ∧ (changePlan p f s).control = s.control
      ∧ (changePlan p f s).branches = s.branches
      ∧ (changePlan p f s).prover = s.prover
      ∧ (changePlan p f s).detectors = s.detectors
      ∧ (changePlan p f s).faults = s.faults
      ∧ (changePlan p f s).store = s.store
      ∧ (changePlan p f s).preempt.lines = s.preempt.lines := ⟨rfl, rfl, rfl, rfl, rfl, rfl, rfl, rfl, rfl, rfl, rfl, rfl, rfl⟩

/-- What `changeTop` leaves alone: everything but preempt, and of these what is listed last. -/
@[simp] theorem changeTop_frame (f : Stacked → Stacked) (s : State) :
    (changeTop f s).pending = s.pending
      ∧ (changeTop f s).clock = s.clock
      ∧ (changeTop f s).event = s.event
      ∧ (changeTop f s).link = s.link
      ∧ (changeTop f s).exchange = s.exchange
      ∧ (changeTop f s).engine = s.engine
      ∧ (changeTop f s).control = s.control
      ∧ (changeTop f s).branches = s.branches
      ∧ (changeTop f s).prover = s.prover
      ∧ (changeTop f s).detectors = s.detectors
      ∧ (changeTop f s).faults = s.faults
      ∧ (changeTop f s).store = s.store
      ∧ (changeTop f s).preempt.lines = s.preempt.lines := by
  unfold changeTop
  repeat' split
  all_goals simp

/-- What `changeBranch` leaves alone: everything but branches. -/
@[simp] theorem changeBranch_frame (br : BranchId) (f : Branch → Branch) (s : State) :
    (changeBranch br f s).pending = s.pending
      ∧ (changeBranch br f s).clock = s.clock
      ∧ (changeBranch br f s).event = s.event
      ∧ (changeBranch br f s).link = s.link
      ∧ (changeBranch br f s).exchange = s.exchange
      ∧ (changeBranch br f s).preempt = s.preempt
      ∧ (changeBranch br f s).engine = s.engine
      ∧ (changeBranch br f s).control = s.control
      ∧ (changeBranch br f s).prover = s.prover
      ∧ (changeBranch br f s).detectors = s.detectors
      ∧ (changeBranch br f s).faults = s.faults
      ∧ (changeBranch br f s).store = s.store := ⟨rfl, rfl, rfl, rfl, rfl, rfl, rfl, rfl, rfl, rfl, rfl, rfl⟩

/-- What `changeLiveness` leaves alone: everything but branches. -/
@[simp] theorem changeLiveness_frame (br : BranchId) (station : Nat) (f : Liveness → Liveness) (s : State) :
    (changeLiveness br station f s).pending = s.pending
      ∧ (changeLiveness br station f s).clock = s.clock
      ∧ (changeLiveness br station f s).event = s.event
      ∧ (changeLiveness br station f s).link = s.link
      ∧ (changeLiveness br station f s).exchange = s.exchange
      ∧ (changeLiveness br station f s).preempt = s.preempt
      ∧ (changeLiveness br station f s).engine = s.engine
      ∧ (changeLiveness br station f s).control = s.control
      ∧ (changeLiveness br station f s).prover = s.prover
      ∧ (changeLiveness br station f s).detectors = s.detectors
      ∧ (changeLiveness br station f s).faults = s.faults
      ∧ (changeLiveness br station f s).store = s.store := ⟨rfl, rfl, rfl, rfl, rfl, rfl, rfl, rfl, rfl, rfl, rfl, rfl⟩

/-- What `changeProving` leaves alone: everything but prover. -/
@[simp] theorem changeProving_frame (c : Nat) (f : Proving → Proving) (s : State) :
    (changeProving c f s).pending = s.pending
      ∧ (changeProving c f s).clock = s.clock
      ∧ (changeProving c f s).event = s.event
      ∧ (changeProving c f s).link = s.link
      ∧ (changeProving c f s).exchange = s.exchange
      ∧ (changeProving c f s).preempt = s.preempt
      ∧ (changeProving c f s).engine = s.engine
      ∧ (changeProving c f s).control = s.control
      ∧ (changeProving c f s).branches = s.branches
      ∧ (changeProving c f s).detectors = s.detectors
      ∧ (changeProving c f s).faults = s.faults
      ∧ (changeProving c f s).store = s.store := ⟨rfl, rfl, rfl, rfl, rfl, rfl, rfl, rfl, rfl, rfl, rfl, rfl⟩

/-- What `setRedFail` leaves alone: everything but prover. -/
@[simp] theorem setRedFail_frame (active : Bool) (g : Nat) (s : State) :
    (setRedFail active g s).pending = s.pending
      ∧ (setRedFail active g s).clock = s.clock
      ∧ (setRedFail active g s).event = s.event
      ∧ (setRedFail active g s).link = s.link
      ∧ (setRedFail active g s).exchange = s.exchange
      ∧ (setRedFail active g s).preempt = s.preempt
      ∧ (setRedFail active g s).engine = s.engine
      ∧ (setRedFail active g s).control = s.control
      ∧ (setRedFail active g s).branches = s.branches
      ∧ (setRedFail active g s).detectors = s.detectors
      ∧ (setRedFail active g s).faults = s.faults
      ∧ (setRedFail active g s).store = s.store := ⟨rfl, rfl, rfl, rfl, rfl, rfl, rfl, rfl, rfl, rfl, rfl, rfl⟩

/-- What `changeDetector` leaves alone: everything but detectors. -/
@[simp] theorem changeDetector_frame (c : Nat) (f : Detector → Detector) (s : State) :
    (changeDetector c f s).pending = s.pending
      ∧ (changeDetector c f s).clock = s.clock
      ∧ (changeDetector c f s).event = s.event
      ∧ (changeDetector c f s).link = s.link
      ∧ (changeDetector c f s).exchange = s.exchange
      ∧ (changeDetector c f s).preempt = s.preempt
      ∧ (changeDetector c f s).engine = s.engine
      ∧ (changeDetector c f s).control = s.control
      ∧ (changeDetector c f s).branches = s.branches
      ∧ (changeDetector c f s).prover = s.prover
      ∧ (changeDetector c f s).faults = s.faults
      ∧ (changeDetector c f s).store = s.store := ⟨rfl, rfl, rfl, rfl, rfl, rfl, rfl, rfl, rfl, rfl, rfl, rfl⟩

/-- What `setMode` leaves alone: everything but control, event, and of these what is listed last. -/
@[simp] theorem setMode_frame (new : Mode) (cause : Cause) (s : State) :
    (setMode new cause s).pending = s.pending
      ∧ (setMode new cause s).clock = s.clock
      ∧ (setMode new cause s).link = s.link
      ∧ (setMode new cause s).exchange = s.exchange
      ∧ (setMode new cause s).preempt = s.preempt
      ∧ (setMode new cause s).engine = s.engine
      ∧ (setMode new cause s).branches = s.branches
      ∧ (setMode new cause s).prover = s.prover
      ∧ (setMode new cause s).detectors = s.detectors
      ∧ (setMode new cause s).faults = s.faults
      ∧ (setMode new cause s).store = s.store
      ∧ (setMode new cause s).control.maint = s.control.maint := ⟨rfl, rfl, rfl, rfl, rfl, rfl, rfl, rfl, rfl, rfl, rfl, rfl⟩

/-- What `openEvent` leaves alone: everything but event. -/
@[simp] theorem openEvent_frame (s : State) :
    (openEvent s).pending = s.pending
      ∧ (openEvent s).clock = s.clock
      ∧ (openEvent s).link = s.link
      ∧ (openEvent s).exchange = s.exchange
      ∧ (openEvent s).preempt = s.preempt
      ∧ (openEvent s).engine = s.engine
      ∧ (openEvent s).control = s.control
      ∧ (openEvent s).branches = s.branches
      ∧ (openEvent s).prover = s.prover
      ∧ (openEvent s).detectors = s.detectors
      ∧ (openEvent s).faults = s.faults
      ∧ (openEvent s).store = s.store := ⟨rfl, rfl, rfl, rfl, rfl, rfl, rfl, rfl, rfl, rfl, rfl, rfl⟩

/-- What `closeEvent` leaves alone: everything but event. -/
@[simp] theorem closeEvent_frame (s : State) :
    (closeEvent s).pending = s.pending
      ∧ (closeEvent s).clock = s.clock
      ∧ (closeEvent s).link = s.link
      ∧ (closeEvent s).exchange = s.exchange
      ∧ (closeEvent s).preempt = s.preempt
      ∧ (closeEvent s).engine = s.engine
      ∧ (closeEvent s).control = s.control
      ∧ (closeEvent s).branches = s.branches
      ∧ (closeEvent s).prover = s.prover
      ∧ (closeEvent s).detectors = s.detectors
      ∧ (closeEvent s).faults = s.faults
      ∧ (closeEvent s).store = s.store := ⟨rfl, rfl, rfl, rfl, rfl, rfl, rfl, rfl, rfl, rfl, rfl, rfl⟩

/-- What `received` leaves alone: everything but link. -/
@[simp] theorem received_frame (s : State) :
    (received s).pending = s.pending
      ∧ (received s).clock = s.clock
      ∧ (received s).event = s.event
      ∧ (received s).exchange = s.exchange
      ∧ (received s).preempt = s.preempt
      ∧ (received s).engine = s.engine
      ∧ (received s).control = s.control
      ∧ (received s).branches = s.branches
      ∧ (received s).prover = s.prover
      ∧ (received s).detectors = s.detectors
      ∧ (received s).faults = s.faults
      ∧ (received s).store = s.store := ⟨rfl, rfl, rfl, rfl, rfl, rfl, rfl, rfl, rfl, rfl, rfl, rfl⟩

/-- What `showFlash` leaves alone: everything but engine, and of these what is listed last. -/
@[simp] theorem showFlash_frame (s : State) :
    (showFlash s).pending = s.pending
      ∧ (showFlash s).clock = s.clock
      ∧ (showFlash s).event = s.event
      ∧ (showFlash s).link = s.link
      ∧ (showFlash s).exchange = s.exchange
      ∧ (showFlash s).preempt = s.preempt
      ∧ (showFlash s).control = s.control
      ∧ (showFlash s).branches = s.branches
      ∧ (showFlash s).prover = s.prover
      ∧ (showFlash s).detectors = s.detectors
      ∧ (showFlash s).faults = s.faults
      ∧ (showFlash s).store = s.store
      ∧ (showFlash s).engine.imageNumber = s.engine.imageNumber := ⟨rfl, rfl, rfl, rfl, rfl, rfl, rfl, rfl, rfl, rfl, rfl, rfl, rfl⟩

/-- What `showStop` leaves alone: everything but engine, and of these what is listed last. -/
@[simp] theorem showStop_frame (s : State) :
    (showStop s).pending = s.pending
      ∧ (showStop s).clock = s.clock
      ∧ (showStop s).event = s.event
      ∧ (showStop s).link = s.link
      ∧ (showStop s).exchange = s.exchange
      ∧ (showStop s).preempt = s.preempt
      ∧ (showStop s).control = s.control
      ∧ (showStop s).branches = s.branches
      ∧ (showStop s).prover = s.prover
      ∧ (showStop s).detectors = s.detectors
      ∧ (showStop s).faults = s.faults
      ∧ (showStop s).store = s.store
      ∧ (showStop s).engine.imageNumber = s.engine.imageNumber := ⟨rfl, rfl, rfl, rfl, rfl, rfl, rfl, rfl, rfl, rfl, rfl, rfl, rfl⟩

/-- What `retableGroups` leaves alone: everything but engine, and of these what is listed last. -/
@[simp] theorem retableGroups_frame (s : State) :
    (retableGroups s).pending = s.pending
      ∧ (retableGroups s).clock = s.clock
      ∧ (retableGroups s).event = s.event
      ∧ (retableGroups s).link = s.link
      ∧ (retableGroups s).exchange = s.exchange
      ∧ (retableGroups s).preempt = s.preempt
      ∧ (retableGroups s).control = s.control
      ∧ (retableGroups s).branches = s.branches
      ∧ (retableGroups s).prover = s.prover
      ∧ (retableGroups s).detectors = s.detectors
      ∧ (retableGroups s).faults = s.faults
      ∧ (retableGroups s).store = s.store
      ∧ (retableGroups s).engine.imageNumber = s.engine.imageNumber := ⟨rfl, rfl, rfl, rfl, rfl, rfl, rfl, rfl, rfl, rfl, rfl, rfl, rfl⟩

/-- A change of mode sets the mode, the RUNPERMIT line with it and the last cause (R44, R65). -/
@[simp] theorem setMode_control (new : Mode) (cause : Cause) (s : State) :
    (setMode new cause s).control.mode = new ∧ (setMode new cause s).control.runPermit = new.permit
      ∧ (setMode new cause s).control.lastCause = cause ∧ (setMode new cause s).control.maint = s.control.maint
      ∧ (setMode new cause s).control.closeTarget = s.control.closeTarget
      ∧ (setMode new cause s).control.recordOp = s.control.recordOp
      ∧ (setMode new cause s).control.heldLockout = s.control.heldLockout := ⟨rfl, rfl, rfl, rfl, rfl, rfl, rfl⟩

end Sys2Proof.Machine
end

