-- ==== Sys2Proof/Laws/Reports.lean ====
section
/-! SUPPORT. What the outgoing queue, the alarms and the fault reports leave alone. -/

namespace Sys2Proof.Machine

/-- Steps that each leave a projection alone leave it alone together. -/
theorem eachOf_keeps {α β : Type} (part : State → β) (f : α → State → State) (h : ∀ x s, part (f x s) = part s)
    (l : List α) (s : State) : part (eachOf l f s) = part s := by
  unfold eachOf
  induction l generalizing s with
  | nil => rfl
  | cons x xs ih => simp [ih, h]

/-- Steps that each keep a property keep it together. -/
theorem eachOf_holds {α : Type} (good : State → Prop) (f : α → State → State) (h : ∀ x s, good s → good (f x s))
    (l : List α) (s : State) (hs : good s) : good (eachOf l f s) := by
  unfold eachOf
  induction l generalizing s with
  | nil => exact hs
  | cons x xs ih => exact ih _ (h x s hs)

/-- What `alarm` leaves alone: everything but link, faults. -/
@[simp] theorem alarm_frame (body : AlarmBody) (s : State) :
    (alarm body s).pending = s.pending
      ∧ (alarm body s).clock = s.clock
      ∧ (alarm body s).event = s.event
      ∧ (alarm body s).exchange = s.exchange
      ∧ (alarm body s).preempt = s.preempt
      ∧ (alarm body s).engine = s.engine
      ∧ (alarm body s).control = s.control
      ∧ (alarm body s).branches = s.branches
      ∧ (alarm body s).prover = s.prover
      ∧ (alarm body s).detectors = s.detectors
      ∧ (alarm body s).store = s.store := by simp [alarm]

/-- What `entryAlarm` leaves alone: everything but link, faults. -/
@[simp] theorem entryAlarm_frame (e : Entry) (s : State) :
    (entryAlarm e s).pending = s.pending
      ∧ (entryAlarm e s).clock = s.clock
      ∧ (entryAlarm e s).event = s.event
      ∧ (entryAlarm e s).exchange = s.exchange
      ∧ (entryAlarm e s).preempt = s.preempt
      ∧ (entryAlarm e s).engine = s.engine
      ∧ (entryAlarm e s).control = s.control
      ∧ (entryAlarm e s).branches = s.branches
      ∧ (entryAlarm e s).prover = s.prover
      ∧ (entryAlarm e s).detectors = s.detectors
      ∧ (entryAlarm e s).store = s.store := by simp [entryAlarm]

/-- What `recordRaise` leaves alone: everything but link, faults. -/
@[simp] theorem recordRaise_frame (r : Raise) (s : State) :
    (recordRaise r s).pending = s.pending
      ∧ (recordRaise r s).clock = s.clock
      ∧ (recordRaise r s).event = s.event
      ∧ (recordRaise r s).exchange = s.exchange
      ∧ (recordRaise r s).preempt = s.preempt
      ∧ (recordRaise r s).engine = s.engine
      ∧ (recordRaise r s).control = s.control
      ∧ (recordRaise r s).branches = s.branches
      ∧ (recordRaise r s).prover = s.prover
      ∧ (recordRaise r s).detectors = s.detectors
      ∧ (recordRaise r s).store = s.store := by
  unfold recordRaise
  dsimp only
  repeat' split
  all_goals simp

/-- What `note` leaves alone: everything but link, faults, event. -/
@[simp] theorem note_frame (r : Raise) (s : State) :
    (note r s).pending = s.pending
      ∧ (note r s).clock = s.clock
      ∧ (note r s).exchange = s.exchange
      ∧ (note r s).preempt = s.preempt
      ∧ (note r s).engine = s.engine
      ∧ (note r s).control = s.control
      ∧ (note r s).branches = s.branches
      ∧ (note r s).prover = s.prover
      ∧ (note r s).detectors = s.detectors
      ∧ (note r s).store = s.store := by simp [note]

/-- What `noteOccurrence` leaves alone: everything but link, faults, event. -/
@[simp] theorem noteOccurrence_frame (kind : FaultKind) (subject : Option Nat) (s : State) :
    (noteOccurrence kind subject s).pending = s.pending
      ∧ (noteOccurrence kind subject s).clock = s.clock
      ∧ (noteOccurrence kind subject s).exchange = s.exchange
      ∧ (noteOccurrence kind subject s).preempt = s.preempt
      ∧ (noteOccurrence kind subject s).engine = s.engine
      ∧ (noteOccurrence kind subject s).control = s.control
      ∧ (noteOccurrence kind subject s).branches = s.branches
      ∧ (noteOccurrence kind subject s).prover = s.prover
      ∧ (noteOccurrence kind subject s).detectors = s.detectors
      ∧ (noteOccurrence kind subject s).store = s.store := by simp [noteOccurrence]

/-- What `reportEnd` leaves alone: everything but link, faults. -/
@[simp] theorem reportEnd_frame (kind : FaultKind) (subject : Option Nat) (s : State) :
    (reportEnd kind subject s).pending = s.pending
      ∧ (reportEnd kind subject s).clock = s.clock
      ∧ (reportEnd kind subject s).event = s.event
      ∧ (reportEnd kind subject s).exchange = s.exchange
      ∧ (reportEnd kind subject s).preempt = s.preempt
      ∧ (reportEnd kind subject s).engine = s.engine
      ∧ (reportEnd kind subject s).control = s.control
      ∧ (reportEnd kind subject s).branches = s.branches
      ∧ (reportEnd kind subject s).prover = s.prover
      ∧ (reportEnd kind subject s).detectors = s.detectors
      ∧ (reportEnd kind subject s).store = s.store := by
  unfold reportEnd
  dsimp only
  repeat' split
  all_goals simp

end Sys2Proof.Machine
end

