-- ==== Sys2Proof/Laws/Alarms.lean ====
section
/-! SUPPORT. The alarms of an event: what each operation on the fault list adds to the trail of alarms (R65, R163). -/

namespace Sys2Proof.Safety

open Sys2Proof.Machine

/-- The alarms made between two states lead from a mode and a last cause to others, with consecutive numbers, and time stands. -/
def Told (before : Mode × Cause) (s : State) (after : Mode × Cause) (t : State) : Prop :=
  t.clock.now = s.clock.now
    ∧ ∃ made : List OutFrame, t.link = made.foldl Link.accept s.link
      ∧ alarmTrail s.clock.now (s.faults.alarmNumber, before) made = some (t.faults.alarmNumber, after)

/-- A trail goes on where another ends. -/
theorem alarmTrail_append (now : Time) (later : List OutFrame) (made : List OutFrame) (start : Half × Mode × Cause) :
    alarmTrail now start (made ++ later) = (alarmTrail now start made).bind (fun x => alarmTrail now x later) := by
  induction made generalizing start with
  | nil => rfl
  | cons f rest ih =>
    obtain ⟨number, mode, cause⟩ := start
    cases f with
    | alm a =>
      cases h : a.body <;> simp only [List.cons_append, alarmTrail, h] <;> split <;> try rfl
      · exact ih _
      · split
        · exact ih _
        · rfl
    | _ => exact ih _

/-- Nothing made, nothing changed. -/
theorem told_of_same {p : Mode × Cause} {s t : State} (clock : t.clock.now = s.clock.now) (link : t.link = s.link)
    (number : t.faults.alarmNumber = s.faults.alarmNumber) : Told p s p t :=
  ⟨clock, [], link, by simp [alarmTrail, number]⟩

theorem told_refl (p : Mode × Cause) (s : State) : Told p s p s := told_of_same rfl rfl rfl

theorem told_trans {p q r : Mode × Cause} {s t u : State} (first : Told p s q t) (second : Told q t r u) : Told p s r u := by
  obtain ⟨clock, made, link, trail⟩ := first
  obtain ⟨clock', made', link', trail'⟩ := second
  refine ⟨clock'.trans clock, made ++ made', ?_, ?_⟩
  · rw [link', link, List.foldl_append]
  · rw [alarmTrail_append, trail, ← clock]
    exact trail'

/-- A fault alarm adds its number alone. -/
theorem told_fault (kind : FaultKind) (subject : Option Nat) (active : Bool) (count : Nat) (action : Action) (latched listed : Bool)
    (p : Mode × Cause) (s : State) : Told p s p (alarm (.fault kind subject active count action latched listed) s) :=
  ⟨rfl, [_], rfl, by simp [alarmTrail, alarm]⟩

/-- The alarm of a change of mode leads to the new mode with its cause. -/
theorem told_announce (old : Mode) (cause : Cause) (s : State) (changed : s.control.mode ≠ old) :
    Told (old, cause) s (s.control.mode, s.control.lastCause) (announce old s) :=
  ⟨rfl, [_], rfl, by simp [alarmTrail, alarm, announce, changed]⟩

/-- A frame that is no alarm adds nothing. -/
theorem told_send (f : OutFrame) (quiet : ∀ a, f ≠ .alm a) (p : Mode × Cause) (s : State) : Told p s p (send f s) := by
  refine ⟨rfl, [f], rfl, ?_⟩
  cases f with
  | alm a => exact absurd rfl (quiet a)
  | _ => rfl

theorem told_eachOf {α : Type} (f : α → State → State) (p : Mode × Cause) (h : ∀ x s, Told p s p (f x s)) (l : List α) (s : State) :
    Told p s p (eachOf l f s) := by
  unfold eachOf
  induction l generalizing s with
  | nil => exact told_refl p s
  | cons x xs ih => exact told_trans (h x s) (ih (f x s))

theorem told_recordRaise (r : Raise) (p : Mode × Cause) (s : State) : Told p s p (recordRaise r s) := by
  have entry : ∀ (e : Entry) (f : FaultList), f.alarmNumber = s.faults.alarmNumber →
      Told p s p (entryAlarm e { s with faults := f }) :=
    fun e f h => told_trans (t := { s with faults := f }) (told_of_same rfl rfl h) (told_fault ..)
  unfold recordRaise
  dsimp only
  split
  · split
    · exact told_of_same rfl rfl rfl
    · exact entry _ _ rfl
  · split
    · exact entry _ _ rfl
    · exact told_fault ..

theorem told_reportEnd (kind : FaultKind) (subject : Option Nat) (p : Mode × Cause) (s : State) :
    Told p s p (reportEnd kind subject s) := by
  unfold reportEnd
  dsimp only
  split
  · split
    · exact told_trans (t := { s with faults := _ }) (told_of_same rfl rfl rfl) (told_fault ..)
    · exact told_refl p s
  · exact told_fault ..

theorem told_note (r : Raise) (p : Mode × Cause) (s : State) : Told p s p (note r s) :=
  told_trans (t := { s with event := _ }) (told_of_same rfl rfl rfl) (told_recordRaise r p _)

theorem told_noteOccurrence (kind : FaultKind) (subject : Option Nat) (p : Mode × Cause) (s : State) :
    Told p s p (noteOccurrence kind subject s) := told_note _ p s

end Sys2Proof.Safety
end

