-- ==== Sys2Proof/Laws/Plans.lean ====
section
/-! SUPPORT. What the aspect engine and the preemption unit leave alone. -/

namespace Sys2Proof.Machine

/-- What `rebuildGroup` leaves alone: everything but engine, event, and of these what is listed last. -/
@[simp] theorem rebuildGroup_frame (g : Nat) (s : State) :
    (rebuildGroup g s).pending = s.pending
      ∧ (rebuildGroup g s).clock = s.clock
      ∧ (rebuildGroup g s).link = s.link
      ∧ (rebuildGroup g s).exchange = s.exchange
      ∧ (rebuildGroup g s).preempt = s.preempt
      ∧ (rebuildGroup g s).control = s.control
      ∧ (rebuildGroup g s).branches = s.branches
      ∧ (rebuildGroup g s).prover = s.prover
      ∧ (rebuildGroup g s).detectors = s.detectors
      ∧ (rebuildGroup g s).faults = s.faults
      ∧ (rebuildGroup g s).store = s.store
      ∧ (rebuildGroup g s).engine.imageNumber = s.engine.imageNumber := by
  unfold rebuildGroup
  try dsimp only
  repeat' split
  all_goals simp

/-- What `rebuild` leaves alone: everything but engine, event, and of these what is listed last. -/
@[simp] theorem rebuild_frame (s : State) :
    (rebuild s).pending = s.pending
      ∧ (rebuild s).clock = s.clock
      ∧ (rebuild s).link = s.link
      ∧ (rebuild s).exchange = s.exchange
      ∧ (rebuild s).preempt = s.preempt
      ∧ (rebuild s).control = s.control
      ∧ (rebuild s).branches = s.branches
      ∧ (rebuild s).prover = s.prover
      ∧ (rebuild s).detectors = s.detectors
      ∧ (rebuild s).faults = s.faults
      ∧ (rebuild s).store = s.store
      ∧ (rebuild s).engine.imageNumber = s.engine.imageNumber := by
  unfold rebuild
  have h := eachOf_holds
    (fun t => t.pending = s.pending ∧ t.clock = s.clock ∧ t.link = s.link ∧ t.exchange = s.exchange ∧ t.preempt = s.preempt ∧ t.control = s.control ∧ t.branches = s.branches ∧ t.prover = s.prover ∧ t.detectors = s.detectors ∧ t.faults = s.faults ∧ t.store = s.store ∧ t.engine.imageNumber = s.engine.imageNumber) rebuildGroup
    (fun x t h => by simpa using h) s.tables.liveGroups s (by simp)
  dsimp only
  split <;> simpa using h

/-- What `evaluate` leaves alone: everything but engine, event, and of these what is listed last. -/
@[simp] theorem evaluate_frame (g : Nat) (s : State) :
    (evaluate g s).pending = s.pending
      ∧ (evaluate g s).clock = s.clock
      ∧ (evaluate g s).link = s.link
      ∧ (evaluate g s).exchange = s.exchange
      ∧ (evaluate g s).preempt = s.preempt
      ∧ (evaluate g s).control = s.control
      ∧ (evaluate g s).branches = s.branches
      ∧ (evaluate g s).prover = s.prover
      ∧ (evaluate g s).detectors = s.detectors
      ∧ (evaluate g s).faults = s.faults
      ∧ (evaluate g s).store = s.store
      ∧ (evaluate g s).engine.imageNumber = s.engine.imageNumber := by
  unfold evaluate
  try dsimp only
  repeat' split
  all_goals simp

/-- What `evaluateConcerned` leaves alone: everything but engine, event, and of these what is listed last. -/
@[simp] theorem evaluateConcerned_frame (passes : Nat) (s : State) :
    (evaluateConcerned passes s).pending = s.pending
      ∧ (evaluateConcerned passes s).clock = s.clock
      ∧ (evaluateConcerned passes s).link = s.link
      ∧ (evaluateConcerned passes s).exchange = s.exchange
      ∧ (evaluateConcerned passes s).preempt = s.preempt
      ∧ (evaluateConcerned passes s).control = s.control
      ∧ (evaluateConcerned passes s).branches = s.branches
      ∧ (evaluateConcerned passes s).prover = s.prover
      ∧ (evaluateConcerned passes s).detectors = s.detectors
      ∧ (evaluateConcerned passes s).faults = s.faults
      ∧ (evaluateConcerned passes s).store = s.store
      ∧ (evaluateConcerned passes s).engine.imageNumber = s.engine.imageNumber := by
  have h : ∀ l t, (eachOf l evaluate t).pending = t.pending ∧ (eachOf l evaluate t).clock = t.clock ∧ (eachOf l evaluate t).link = t.link ∧ (eachOf l evaluate t).exchange = t.exchange ∧ (eachOf l evaluate t).preempt = t.preempt ∧ (eachOf l evaluate t).control = t.control ∧ (eachOf l evaluate t).branches = t.branches ∧ (eachOf l evaluate t).prover = t.prover ∧ (eachOf l evaluate t).detectors = t.detectors ∧ (eachOf l evaluate t).faults = t.faults ∧ (eachOf l evaluate t).store = t.store ∧ (eachOf l evaluate t).engine.imageNumber = t.engine.imageNumber := fun l t =>
    eachOf_holds (fun u => u.pending = t.pending ∧ u.clock = t.clock ∧ u.link = t.link ∧ u.exchange = t.exchange ∧ u.preempt = t.preempt ∧ u.control = t.control ∧ u.branches = t.branches ∧ u.prover = t.prover ∧ u.detectors = t.detectors ∧ u.faults = t.faults ∧ u.store = t.store ∧ u.engine.imageNumber = t.engine.imageNumber) evaluate (fun x u h => by simpa using h) l t (by simp)
  induction passes generalizing s with
  | zero => simp [evaluateConcerned]
  | succ n ih =>
    unfold evaluateConcerned
    split
    · simp
    · simp only [ih]
      exact h _ _

/-- What `refreshRequest` leaves alone: everything but preempt, and of these what is listed last. -/
@[simp] theorem refreshRequest_frame (p : Nat) (s : State) :
    (refreshRequest p s).pending = s.pending
      ∧ (refreshRequest p s).clock = s.clock
      ∧ (refreshRequest p s).event = s.event
      ∧ (refreshRequest p s).link = s.link
      ∧ (refreshRequest p s).exchange = s.exchange
      ∧ (refreshRequest p s).engine = s.engine
      ∧ (refreshRequest p s).control = s.control
      ∧ (refreshRequest p s).branches = s.branches
      ∧ (refreshRequest p s).prover = s.prover
      ∧ (refreshRequest p s).detectors = s.detectors
      ∧ (refreshRequest p s).faults = s.faults
      ∧ (refreshRequest p s).store = s.store
      ∧ (refreshRequest p s).preempt.lines = s.preempt.lines := by
  unfold refreshRequest
  try dsimp only
  repeat' split
  all_goals simp

/-- What `setSource` leaves alone: everything but preempt, and of these what is listed last. -/
@[simp] theorem setSource_frame (active : Bool) (p : Nat) (s : State) :
    (setSource active p s).pending = s.pending
      ∧ (setSource active p s).clock = s.clock
      ∧ (setSource active p s).event = s.event
      ∧ (setSource active p s).link = s.link
      ∧ (setSource active p s).exchange = s.exchange
      ∧ (setSource active p s).engine = s.engine
      ∧ (setSource active p s).control = s.control
      ∧ (setSource active p s).branches = s.branches
      ∧ (setSource active p s).prover = s.prover
      ∧ (setSource active p s).detectors = s.detectors
      ∧ (setSource active p s).faults = s.faults
      ∧ (setSource active p s).store = s.store
      ∧ (setSource active p s).preempt.lines = s.preempt.lines := by simp [setSource]

/-- What `emptySlot` leaves alone: everything but preempt, and of these what is listed last. -/
@[simp] theorem emptySlot_frame (s : State) :
    (emptySlot s).pending = s.pending
      ∧ (emptySlot s).clock = s.clock
      ∧ (emptySlot s).event = s.event
      ∧ (emptySlot s).link = s.link
      ∧ (emptySlot s).exchange = s.exchange
      ∧ (emptySlot s).engine = s.engine
      ∧ (emptySlot s).control = s.control
      ∧ (emptySlot s).branches = s.branches
      ∧ (emptySlot s).prover = s.prover
      ∧ (emptySlot s).detectors = s.detectors
      ∧ (emptySlot s).faults = s.faults
      ∧ (emptySlot s).store = s.store
      ∧ (emptySlot s).preempt.lines = s.preempt.lines := by
  unfold emptySlot
  try dsimp only
  repeat' split
  all_goals simp

/-- What `unstack` leaves alone: everything but preempt, and of these what is listed last. -/
@[simp] theorem unstack_frame (p : Nat) (outcome : PlanOutcome) (s : State) :
    (unstack p outcome s).pending = s.pending
      ∧ (unstack p outcome s).clock = s.clock
      ∧ (unstack p outcome s).event = s.event
      ∧ (unstack p outcome s).link = s.link
      ∧ (unstack p outcome s).exchange = s.exchange
      ∧ (unstack p outcome s).engine = s.engine
      ∧ (unstack p outcome s).control = s.control
      ∧ (unstack p outcome s).branches = s.branches
      ∧ (unstack p outcome s).prover = s.prover
      ∧ (unstack p outcome s).detectors = s.detectors
      ∧ (unstack p outcome s).faults = s.faults
      ∧ (unstack p outcome s).store = s.store
      ∧ (unstack p outcome s).preempt.lines = s.preempt.lines := by
  unfold unstack
  try dsimp only
  repeat' split
  all_goals simp

/-- What `takePlan` leaves alone: everything but preempt, and of these what is listed last. -/
@[simp] theorem takePlan_frame (p : Nat) (s : State) :
    (takePlan p s).pending = s.pending
      ∧ (takePlan p s).clock = s.clock
      ∧ (takePlan p s).event = s.event
      ∧ (takePlan p s).link = s.link
      ∧ (takePlan p s).exchange = s.exchange
      ∧ (takePlan p s).engine = s.engine
      ∧ (takePlan p s).control = s.control
      ∧ (takePlan p s).branches = s.branches
      ∧ (takePlan p s).prover = s.prover
      ∧ (takePlan p s).detectors = s.detectors
      ∧ (takePlan p s).faults = s.faults
      ∧ (takePlan p s).store = s.store
      ∧ (takePlan p s).preempt.lines = s.preempt.lines := by simp [takePlan]

/-- What `reportLimit` leaves alone: everything but preempt, link, faults, event, and of these what is listed last. -/
@[simp] theorem reportLimit_frame (p : Nat) (s : State) :
    (reportLimit p s).pending = s.pending
      ∧ (reportLimit p s).clock = s.clock
      ∧ (reportLimit p s).exchange = s.exchange
      ∧ (reportLimit p s).engine = s.engine
      ∧ (reportLimit p s).control = s.control
      ∧ (reportLimit p s).branches = s.branches
      ∧ (reportLimit p s).prover = s.prover
      ∧ (reportLimit p s).detectors = s.detectors
      ∧ (reportLimit p s).store = s.store
      ∧ (reportLimit p s).preempt.lines = s.preempt.lines := by
  unfold reportLimit
  try dsimp only
  repeat' split
  all_goals simp

/-- What `consider` leaves alone: everything but preempt, link, faults, event, and of these what is listed last. -/
@[simp] theorem consider_frame (s : State) :
    (consider s).pending = s.pending
      ∧ (consider s).clock = s.clock
      ∧ (consider s).exchange = s.exchange
      ∧ (consider s).engine = s.engine
      ∧ (consider s).control = s.control
      ∧ (consider s).branches = s.branches
      ∧ (consider s).prover = s.prover
      ∧ (consider s).detectors = s.detectors
      ∧ (consider s).store = s.store
      ∧ (consider s).preempt.lines = s.preempt.lines := by
  have h : ∀ l, (eachOf l reportLimit s).pending = s.pending ∧ (eachOf l reportLimit s).clock = s.clock ∧ (eachOf l reportLimit s).exchange = s.exchange ∧ (eachOf l reportLimit s).engine = s.engine ∧ (eachOf l reportLimit s).control = s.control ∧ (eachOf l reportLimit s).branches = s.branches ∧ (eachOf l reportLimit s).prover = s.prover ∧ (eachOf l reportLimit s).detectors = s.detectors ∧ (eachOf l reportLimit s).store = s.store ∧ (eachOf l reportLimit s).preempt.lines = s.preempt.lines := fun l =>
    eachOf_holds (fun t => t.pending = s.pending ∧ t.clock = s.clock ∧ t.exchange = s.exchange ∧ t.engine = s.engine ∧ t.control = s.control ∧ t.branches = s.branches ∧ t.prover = s.prover ∧ t.detectors = s.detectors ∧ t.store = s.store ∧ t.preempt.lines = s.preempt.lines) reportLimit (fun x t h => by simpa using h) l s (by simp)
  unfold consider
  dsimp only
  repeat' split
  all_goals first | exact h _ | simp

/-- What a step of the top plan leaves alone. -/
theorem topStep_frame (s s' : State) (h : topStep s = some s') :
    s'.pending = s.pending
      ∧ s'.clock = s.clock
      ∧ s'.exchange = s.exchange
      ∧ s'.engine = s.engine
      ∧ s'.control = s.control
      ∧ s'.branches = s.branches
      ∧ s'.prover = s.prover
      ∧ s'.detectors = s.detectors
      ∧ s'.store = s.store
      ∧ s'.preempt.lines = s.preempt.lines := by
  unfold topStep at h
  dsimp only at h
  repeat' split at h
  all_goals first | (cases h; done) | (injection h with h; subst h; simp)

/-- What `advance` leaves alone: everything but preempt, link, faults, event, and of these what is listed last. -/
@[simp] theorem advance_frame (steps : Nat) (s : State) :
    (advance steps s).pending = s.pending
      ∧ (advance steps s).clock = s.clock
      ∧ (advance steps s).exchange = s.exchange
      ∧ (advance steps s).engine = s.engine
      ∧ (advance steps s).control = s.control
      ∧ (advance steps s).branches = s.branches
      ∧ (advance steps s).prover = s.prover
      ∧ (advance steps s).detectors = s.detectors
      ∧ (advance steps s).store = s.store
      ∧ (advance steps s).preempt.lines = s.preempt.lines := by
  induction steps generalizing s with
  | zero => simp [advance]
  | succ n ih =>
    unfold advance
    split
    · rename_i s' h
      have := topStep_frame s s' h
      simpa [ih] using this
    · simp

/-- What `considerTaking` leaves alone: everything but preempt, link, faults, event, and of these what is listed last. -/
@[simp] theorem considerTaking_frame (s : State) :
    (considerTaking s).pending = s.pending
      ∧ (considerTaking s).clock = s.clock
      ∧ (considerTaking s).exchange = s.exchange
      ∧ (considerTaking s).engine = s.engine
      ∧ (considerTaking s).control = s.control
      ∧ (considerTaking s).branches = s.branches
      ∧ (considerTaking s).prover = s.prover
      ∧ (considerTaking s).detectors = s.detectors
      ∧ (considerTaking s).store = s.store
      ∧ (considerTaking s).preempt.lines = s.preempt.lines := by
  unfold considerTaking
  try dsimp only
  repeat' split
  all_goals simp

/-- What `sourceActive` leaves alone: everything but preempt, and of this what is listed last. -/
@[simp] theorem sourceActive_frame (edge : Bool) (p : Nat) (s : State) :
    (sourceActive edge p s).pending = s.pending
      ∧ (sourceActive edge p s).clock = s.clock
      ∧ (sourceActive edge p s).exchange = s.exchange
      ∧ (sourceActive edge p s).engine = s.engine
      ∧ (sourceActive edge p s).control = s.control
      ∧ (sourceActive edge p s).branches = s.branches
      ∧ (sourceActive edge p s).prover = s.prover
      ∧ (sourceActive edge p s).detectors = s.detectors
      ∧ (sourceActive edge p s).store = s.store
      ∧ (sourceActive edge p s).preempt.lines = s.preempt.lines := by
  unfold sourceActive
  dsimp only
  split <;> simp

/-- What `sourcesActive` leaves alone: everything but preempt, link, faults, event, and of these what is listed last. -/
@[simp] theorem sourcesActive_frame (edge : Bool) (plans : List Nat) (s : State) :
    (sourcesActive edge plans s).pending = s.pending
      ∧ (sourcesActive edge plans s).clock = s.clock
      ∧ (sourcesActive edge plans s).exchange = s.exchange
      ∧ (sourcesActive edge plans s).engine = s.engine
      ∧ (sourcesActive edge plans s).control = s.control
      ∧ (sourcesActive edge plans s).branches = s.branches
      ∧ (sourcesActive edge plans s).prover = s.prover
      ∧ (sourcesActive edge plans s).detectors = s.detectors
      ∧ (sourcesActive edge plans s).store = s.store
      ∧ (sourcesActive edge plans s).preempt.lines = s.preempt.lines := by
  unfold sourcesActive
  have h := eachOf_holds
    (fun t => t.pending = s.pending ∧ t.clock = s.clock ∧ t.exchange = s.exchange ∧ t.engine = s.engine ∧ t.control = s.control ∧ t.branches = s.branches ∧ t.prover = s.prover ∧ t.detectors = s.detectors ∧ t.store = s.store ∧ t.preempt.lines = s.preempt.lines)
    (sourceActive edge) (fun x t h => by simpa using h) plans s (by simp)
  dsimp only
  split <;> simpa using h

/-- What `sourcesInactive` leaves alone: everything but preempt, link, faults, event, and of these what is listed last. -/
@[simp] theorem sourcesInactive_frame (plans : List Nat) (s : State) :
    (sourcesInactive plans s).pending = s.pending
      ∧ (sourcesInactive plans s).clock = s.clock
      ∧ (sourcesInactive plans s).exchange = s.exchange
      ∧ (sourcesInactive plans s).engine = s.engine
      ∧ (sourcesInactive plans s).control = s.control
      ∧ (sourcesInactive plans s).branches = s.branches
      ∧ (sourcesInactive plans s).prover = s.prover
      ∧ (sourcesInactive plans s).detectors = s.detectors
      ∧ (sourcesInactive plans s).store = s.store
      ∧ (sourcesInactive plans s).preempt.lines = s.preempt.lines := by
  unfold sourcesInactive
  have h := eachOf_holds
    (fun t => t.pending = s.pending ∧ t.clock = s.clock ∧ t.exchange = s.exchange ∧ t.engine = s.engine ∧ t.control = s.control ∧ t.branches = s.branches ∧ t.prover = s.prover ∧ t.detectors = s.detectors ∧ t.store = s.store ∧ t.preempt.lines = s.preempt.lines) (setSource false)
    (fun x t h => by simpa using h) plans s (by simp)
  dsimp only
  split <;> simpa using h

/-- What `clearStack` leaves alone: everything but preempt, and of these what is listed last. -/
@[simp] theorem clearStack_frame (s : State) :
    (clearStack s).pending = s.pending
      ∧ (clearStack s).clock = s.clock
      ∧ (clearStack s).event = s.event
      ∧ (clearStack s).link = s.link
      ∧ (clearStack s).exchange = s.exchange
      ∧ (clearStack s).engine = s.engine
      ∧ (clearStack s).control = s.control
      ∧ (clearStack s).branches = s.branches
      ∧ (clearStack s).prover = s.prover
      ∧ (clearStack s).detectors = s.detectors
      ∧ (clearStack s).faults = s.faults
      ∧ (clearStack s).store = s.store
      ∧ (clearStack s).preempt.lines = s.preempt.lines := by
  unfold clearStack
  exact eachOf_holds (fun t => t.pending = s.pending ∧ t.clock = s.clock ∧ t.event = s.event ∧ t.link = s.link ∧ t.exchange = s.exchange ∧ t.engine = s.engine ∧ t.control = s.control ∧ t.branches = s.branches ∧ t.prover = s.prover ∧ t.detectors = s.detectors ∧ t.faults = s.faults ∧ t.store = s.store ∧ t.preempt.lines = s.preempt.lines) _
    (fun x t h => by simpa using h) _ _ (by simp)

/-- What `plansClosing` leaves alone: everything but preempt, and of these what is listed last. -/
@[simp] theorem plansClosing_frame (s : State) :
    (plansClosing s).pending = s.pending
      ∧ (plansClosing s).clock = s.clock
      ∧ (plansClosing s).event = s.event
      ∧ (plansClosing s).link = s.link
      ∧ (plansClosing s).exchange = s.exchange
      ∧ (plansClosing s).engine = s.engine
      ∧ (plansClosing s).control = s.control
      ∧ (plansClosing s).branches = s.branches
      ∧ (plansClosing s).prover = s.prover
      ∧ (plansClosing s).detectors = s.detectors
      ∧ (plansClosing s).faults = s.faults
      ∧ (plansClosing s).store = s.store
      ∧ (plansClosing s).preempt.lines = s.preempt.lines := by simp [plansClosing]

/-- What `plansFlash` leaves alone: everything but preempt, and of these what is listed last. -/
@[simp] theorem plansFlash_frame (s : State) :
    (plansFlash s).pending = s.pending
      ∧ (plansFlash s).clock = s.clock
      ∧ (plansFlash s).event = s.event
      ∧ (plansFlash s).link = s.link
      ∧ (plansFlash s).exchange = s.exchange
      ∧ (plansFlash s).engine = s.engine
      ∧ (plansFlash s).control = s.control
      ∧ (plansFlash s).branches = s.branches
      ∧ (plansFlash s).prover = s.prover
      ∧ (plansFlash s).detectors = s.detectors
      ∧ (plansFlash s).faults = s.faults
      ∧ (plansFlash s).store = s.store
      ∧ (plansFlash s).preempt.lines = s.preempt.lines := by
  unfold plansFlash
  exact eachOf_holds (fun t => t.pending = s.pending ∧ t.clock = s.clock ∧ t.event = s.event ∧ t.link = s.link ∧ t.exchange = s.exchange ∧ t.engine = s.engine ∧ t.control = s.control ∧ t.branches = s.branches ∧ t.prover = s.prover ∧ t.detectors = s.detectors ∧ t.faults = s.faults ∧ t.store = s.store ∧ t.preempt.lines = s.preempt.lines) _
    (fun x t h => by simpa using h) _ _ (by simp)

/-- What `retablePlans` leaves alone: everything but preempt, and of these what is listed last. -/
@[simp] theorem retablePlans_frame (s : State) :
    (retablePlans s).pending = s.pending
      ∧ (retablePlans s).clock = s.clock
      ∧ (retablePlans s).event = s.event
      ∧ (retablePlans s).link = s.link
      ∧ (retablePlans s).exchange = s.exchange
      ∧ (retablePlans s).engine = s.engine
      ∧ (retablePlans s).control = s.control
      ∧ (retablePlans s).branches = s.branches
      ∧ (retablePlans s).prover = s.prover
      ∧ (retablePlans s).detectors = s.detectors
      ∧ (retablePlans s).faults = s.faults
      ∧ (retablePlans s).store = s.store
      ∧ (retablePlans s).preempt.lines = s.preempt.lines := by
  unfold retablePlans
  exact eachOf_holds (fun t => t.pending = s.pending ∧ t.clock = s.clock ∧ t.event = s.event ∧ t.link = s.link ∧ t.exchange = s.exchange ∧ t.engine = s.engine ∧ t.control = s.control ∧ t.branches = s.branches ∧ t.prover = s.prover ∧ t.detectors = s.detectors ∧ t.faults = s.faults ∧ t.store = s.store ∧ t.preempt.lines = s.preempt.lines) _
    (fun x t h => by simpa using h) _ _ (by simp)

end Sys2Proof.Machine
end

