-- ==== Sys2Proof/Laws/Branches.lean ====
section
/-! SUPPORT. What the branch controllers and the lamp prover's record keeping leave alone. -/

namespace Sys2Proof.Machine

/-- What `markBranch` leaves alone: everything but branches. -/
@[simp] theorem markBranch_frame (br : BranchId) (s : State) :
    (markBranch br s).pending = s.pending
      ∧ (markBranch br s).clock = s.clock
      ∧ (markBranch br s).event = s.event
      ∧ (markBranch br s).link = s.link
      ∧ (markBranch br s).exchange = s.exchange
      ∧ (markBranch br s).preempt = s.preempt
      ∧ (markBranch br s).engine = s.engine
      ∧ (markBranch br s).control = s.control
      ∧ (markBranch br s).prover = s.prover
      ∧ (markBranch br s).detectors = s.detectors
      ∧ (markBranch br s).faults = s.faults
      ∧ (markBranch br s).store = s.store := by simp [markBranch]

/-- What `markAll` leaves alone: everything but branches. -/
@[simp] theorem markAll_frame (s : State) :
    (markAll s).pending = s.pending
      ∧ (markAll s).clock = s.clock
      ∧ (markAll s).event = s.event
      ∧ (markAll s).link = s.link
      ∧ (markAll s).exchange = s.exchange
      ∧ (markAll s).preempt = s.preempt
      ∧ (markAll s).engine = s.engine
      ∧ (markAll s).control = s.control
      ∧ (markAll s).prover = s.prover
      ∧ (markAll s).detectors = s.detectors
      ∧ (markAll s).faults = s.faults
      ∧ (markAll s).store = s.store := by
  unfold markAll
  exact eachOf_holds (fun t => t.pending = s.pending ∧ t.clock = s.clock ∧ t.event = s.event ∧ t.link = s.link ∧ t.exchange = s.exchange ∧ t.preempt = s.preempt ∧ t.engine = s.engine ∧ t.control = s.control ∧ t.prover = s.prover ∧ t.detectors = s.detectors ∧ t.faults = s.faults ∧ t.store = s.store) _
    (fun x t h => by simpa using h) _ _ (by simp)

/-- What `arbitrateAll` leaves alone: everything but branches. -/
@[simp] theorem arbitrateAll_frame (s : State) :
    (arbitrateAll s).pending = s.pending
      ∧ (arbitrateAll s).clock = s.clock
      ∧ (arbitrateAll s).event = s.event
      ∧ (arbitrateAll s).link = s.link
      ∧ (arbitrateAll s).exchange = s.exchange
      ∧ (arbitrateAll s).preempt = s.preempt
      ∧ (arbitrateAll s).engine = s.engine
      ∧ (arbitrateAll s).control = s.control
      ∧ (arbitrateAll s).prover = s.prover
      ∧ (arbitrateAll s).detectors = s.detectors
      ∧ (arbitrateAll s).faults = s.faults
      ∧ (arbitrateAll s).store = s.store := by simp [arbitrateAll]

/-- What `freshBranch` leaves alone: everything but branches. -/
@[simp] theorem freshBranch_frame (br : BranchId) (s : State) :
    (freshBranch br s).pending = s.pending
      ∧ (freshBranch br s).clock = s.clock
      ∧ (freshBranch br s).event = s.event
      ∧ (freshBranch br s).link = s.link
      ∧ (freshBranch br s).exchange = s.exchange
      ∧ (freshBranch br s).preempt = s.preempt
      ∧ (freshBranch br s).engine = s.engine
      ∧ (freshBranch br s).control = s.control
      ∧ (freshBranch br s).prover = s.prover
      ∧ (freshBranch br s).detectors = s.detectors
      ∧ (freshBranch br s).faults = s.faults
      ∧ (freshBranch br s).store = s.store := by simp [freshBranch]

/-- What `loadBranches` leaves alone: everything but branches. -/
@[simp] theorem loadBranches_frame (s : State) :
    (loadBranches s).pending = s.pending
      ∧ (loadBranches s).clock = s.clock
      ∧ (loadBranches s).event = s.event
      ∧ (loadBranches s).link = s.link
      ∧ (loadBranches s).exchange = s.exchange
      ∧ (loadBranches s).preempt = s.preempt
      ∧ (loadBranches s).engine = s.engine
      ∧ (loadBranches s).control = s.control
      ∧ (loadBranches s).prover = s.prover
      ∧ (loadBranches s).detectors = s.detectors
      ∧ (loadBranches s).faults = s.faults
      ∧ (loadBranches s).store = s.store := by
  unfold loadBranches
  exact eachOf_holds (fun t => t.pending = s.pending ∧ t.clock = s.clock ∧ t.event = s.event ∧ t.link = s.link ∧ t.exchange = s.exchange ∧ t.preempt = s.preempt ∧ t.engine = s.engine ∧ t.control = s.control ∧ t.prover = s.prover ∧ t.detectors = s.detectors ∧ t.faults = s.faults ∧ t.store = s.store) _
    (fun x t h => by simpa using h) _ _ (by simp)

/-- What `endStationFaults` leaves alone: everything but link, faults. -/
@[simp] theorem endStationFaults_frame (br : BranchId) (s : State) :
    (endStationFaults br s).pending = s.pending
      ∧ (endStationFaults br s).clock = s.clock
      ∧ (endStationFaults br s).event = s.event
      ∧ (endStationFaults br s).exchange = s.exchange
      ∧ (endStationFaults br s).preempt = s.preempt
      ∧ (endStationFaults br s).engine = s.engine
      ∧ (endStationFaults br s).control = s.control
      ∧ (endStationFaults br s).branches = s.branches
      ∧ (endStationFaults br s).prover = s.prover
      ∧ (endStationFaults br s).detectors = s.detectors
      ∧ (endStationFaults br s).store = s.store := by
  unfold endStationFaults
  exact eachOf_holds (fun t => t.pending = s.pending ∧ t.clock = s.clock ∧ t.event = s.event ∧ t.exchange = s.exchange ∧ t.preempt = s.preempt ∧ t.engine = s.engine ∧ t.control = s.control ∧ t.branches = s.branches ∧ t.prover = s.prover ∧ t.detectors = s.detectors ∧ t.store = s.store) _
    (fun x t h => by (try dsimp only); (repeat' split) <;> simpa using h) _ _ (by simp)

/-- What `purgeForwards` leaves alone: everything but branches, link. -/
@[simp] theorem purgeForwards_frame (br : BranchId) (s : State) :
    (purgeForwards br s).pending = s.pending
      ∧ (purgeForwards br s).clock = s.clock
      ∧ (purgeForwards br s).event = s.event
      ∧ (purgeForwards br s).exchange = s.exchange
      ∧ (purgeForwards br s).preempt = s.preempt
      ∧ (purgeForwards br s).engine = s.engine
      ∧ (purgeForwards br s).control = s.control
      ∧ (purgeForwards br s).prover = s.prover
      ∧ (purgeForwards br s).detectors = s.detectors
      ∧ (purgeForwards br s).faults = s.faults
      ∧ (purgeForwards br s).store = s.store := by
  unfold purgeForwards
  exact eachOf_holds (fun t => t.pending = s.pending ∧ t.clock = s.clock ∧ t.event = s.event ∧ t.exchange = s.exchange ∧ t.preempt = s.preempt ∧ t.engine = s.engine ∧ t.control = s.control ∧ t.prover = s.prover ∧ t.detectors = s.detectors ∧ t.faults = s.faults ∧ t.store = s.store) _
    (fun x t h => by simpa using h) _ _ (by simp)

/-- What `retableBranch` leaves alone: everything but branches, link, faults. -/
@[simp] theorem retableBranch_frame (br : BranchId) (s : State) :
    (retableBranch br s).pending = s.pending
      ∧ (retableBranch br s).clock = s.clock
      ∧ (retableBranch br s).event = s.event
      ∧ (retableBranch br s).exchange = s.exchange
      ∧ (retableBranch br s).preempt = s.preempt
      ∧ (retableBranch br s).engine = s.engine
      ∧ (retableBranch br s).control = s.control
      ∧ (retableBranch br s).prover = s.prover
      ∧ (retableBranch br s).detectors = s.detectors
      ∧ (retableBranch br s).store = s.store := by simp [retableBranch]

/-- What `retableBranches` leaves alone: everything but branches, link, faults. -/
@[simp] theorem retableBranches_frame (s : State) :
    (retableBranches s).pending = s.pending
      ∧ (retableBranches s).clock = s.clock
      ∧ (retableBranches s).event = s.event
      ∧ (retableBranches s).exchange = s.exchange
      ∧ (retableBranches s).preempt = s.preempt
      ∧ (retableBranches s).engine = s.engine
      ∧ (retableBranches s).control = s.control
      ∧ (retableBranches s).prover = s.prover
      ∧ (retableBranches s).detectors = s.detectors
      ∧ (retableBranches s).store = s.store := by
  unfold retableBranches
  exact eachOf_holds (fun t => t.pending = s.pending ∧ t.clock = s.clock ∧ t.event = s.event ∧ t.exchange = s.exchange ∧ t.preempt = s.preempt ∧ t.engine = s.engine ∧ t.control = s.control ∧ t.prover = s.prover ∧ t.detectors = s.detectors ∧ t.store = s.store) _
    (fun x t h => by simpa using h) _ _ (by simp)

/-- What `discardChanged` leaves alone: everything but prover. -/
@[simp] theorem discardChanged_frame (before : List Aspect) (after : List Aspect) (s : State) :
    (discardChanged before after s).pending = s.pending
      ∧ (discardChanged before after s).clock = s.clock
      ∧ (discardChanged before after s).event = s.event
      ∧ (discardChanged before after s).link = s.link
      ∧ (discardChanged before after s).exchange = s.exchange
      ∧ (discardChanged before after s).preempt = s.preempt
      ∧ (discardChanged before after s).engine = s.engine
      ∧ (discardChanged before after s).control = s.control
      ∧ (discardChanged before after s).branches = s.branches
      ∧ (discardChanged before after s).detectors = s.detectors
      ∧ (discardChanged before after s).faults = s.faults
      ∧ (discardChanged before after s).store = s.store := by
  unfold discardChanged
  exact eachOf_holds (fun t => t.pending = s.pending ∧ t.clock = s.clock ∧ t.event = s.event ∧ t.link = s.link ∧ t.exchange = s.exchange ∧ t.preempt = s.preempt ∧ t.engine = s.engine ∧ t.control = s.control ∧ t.branches = s.branches ∧ t.detectors = s.detectors ∧ t.faults = s.faults ∧ t.store = s.store) _
    (fun x t h => by (try dsimp only); split <;> simpa using h) _ _ (by simp)

/-- What `takeApply` leaves alone: everything but prover. -/
@[simp] theorem takeApply_frame (br : BranchId) (carried : List (Nat × List Lamp)) (s : State) :
    (takeApply br carried s).pending = s.pending
      ∧ (takeApply br carried s).clock = s.clock
      ∧ (takeApply br carried s).event = s.event
      ∧ (takeApply br carried s).link = s.link
      ∧ (takeApply br carried s).exchange = s.exchange
      ∧ (takeApply br carried s).preempt = s.preempt
      ∧ (takeApply br carried s).engine = s.engine
      ∧ (takeApply br carried s).control = s.control
      ∧ (takeApply br carried s).branches = s.branches
      ∧ (takeApply br carried s).detectors = s.detectors
      ∧ (takeApply br carried s).faults = s.faults
      ∧ (takeApply br carried s).store = s.store := by
  unfold takeApply
  exact eachOf_holds (fun t => t.pending = s.pending ∧ t.clock = s.clock ∧ t.event = s.event ∧ t.link = s.link ∧ t.exchange = s.exchange ∧ t.preempt = s.preempt ∧ t.engine = s.engine ∧ t.control = s.control ∧ t.branches = s.branches ∧ t.detectors = s.detectors ∧ t.faults = s.faults ∧ t.store = s.store) _
    (fun x t h => by (try dsimp only); (repeat' split) <;> simpa using h) _ _ (by simp)

/-- What `endRedFail` leaves alone: everything but prover, link, faults. -/
@[simp] theorem endRedFail_frame (g : Nat) (s : State) :
    (endRedFail g s).pending = s.pending
      ∧ (endRedFail g s).clock = s.clock
      ∧ (endRedFail g s).event = s.event
      ∧ (endRedFail g s).exchange = s.exchange
      ∧ (endRedFail g s).preempt = s.preempt
      ∧ (endRedFail g s).engine = s.engine
      ∧ (endRedFail g s).control = s.control
      ∧ (endRedFail g s).branches = s.branches
      ∧ (endRedFail g s).detectors = s.detectors
      ∧ (endRedFail g s).store = s.store := by
  unfold endRedFail
  try dsimp only
  repeat' split
  all_goals simp

/-- What `stopChannel` leaves alone: everything but prover, link, faults. -/
@[simp] theorem stopChannel_frame (c : Nat) (s : State) :
    (stopChannel c s).pending = s.pending
      ∧ (stopChannel c s).clock = s.clock
      ∧ (stopChannel c s).event = s.event
      ∧ (stopChannel c s).exchange = s.exchange
      ∧ (stopChannel c s).preempt = s.preempt
      ∧ (stopChannel c s).engine = s.engine
      ∧ (stopChannel c s).control = s.control
      ∧ (stopChannel c s).branches = s.branches
      ∧ (stopChannel c s).detectors = s.detectors
      ∧ (stopChannel c s).store = s.store := by
  unfold stopChannel
  try dsimp only
  repeat' split
  all_goals simp

/-- What `clearChannel` leaves alone: everything but prover, link, faults. -/
@[simp] theorem clearChannel_frame (c : Nat) (s : State) :
    (clearChannel c s).pending = s.pending
      ∧ (clearChannel c s).clock = s.clock
      ∧ (clearChannel c s).event = s.event
      ∧ (clearChannel c s).exchange = s.exchange
      ∧ (clearChannel c s).preempt = s.preempt
      ∧ (clearChannel c s).engine = s.engine
      ∧ (clearChannel c s).control = s.control
      ∧ (clearChannel c s).branches = s.branches
      ∧ (clearChannel c s).detectors = s.detectors
      ∧ (clearChannel c s).store = s.store := by
  unfold clearChannel
  try dsimp only
  repeat' split
  all_goals simp

/-- What `endChannelFaults` leaves alone: everything but link, faults. -/
@[simp] theorem endChannelFaults_frame (c : Nat) (s : State) :
    (endChannelFaults c s).pending = s.pending
      ∧ (endChannelFaults c s).clock = s.clock
      ∧ (endChannelFaults c s).event = s.event
      ∧ (endChannelFaults c s).exchange = s.exchange
      ∧ (endChannelFaults c s).preempt = s.preempt
      ∧ (endChannelFaults c s).engine = s.engine
      ∧ (endChannelFaults c s).control = s.control
      ∧ (endChannelFaults c s).branches = s.branches
      ∧ (endChannelFaults c s).prover = s.prover
      ∧ (endChannelFaults c s).detectors = s.detectors
      ∧ (endChannelFaults c s).store = s.store := by
  unfold endChannelFaults
  try dsimp only
  repeat' split
  all_goals simp

/-- What `stopProving` leaves alone: everything but prover, link, faults. -/
@[simp] theorem stopProving_frame (s : State) :
    (stopProving s).pending = s.pending
      ∧ (stopProving s).clock = s.clock
      ∧ (stopProving s).event = s.event
      ∧ (stopProving s).exchange = s.exchange
      ∧ (stopProving s).preempt = s.preempt
      ∧ (stopProving s).engine = s.engine
      ∧ (stopProving s).control = s.control
      ∧ (stopProving s).branches = s.branches
      ∧ (stopProving s).detectors = s.detectors
      ∧ (stopProving s).store = s.store := by
  unfold stopProving
  have h := eachOf_holds
    (fun t => t.pending = s.pending ∧ t.clock = s.clock ∧ t.event = s.event ∧ t.exchange = s.exchange ∧ t.preempt = s.preempt ∧ t.engine = s.engine ∧ t.control = s.control ∧ t.branches = s.branches ∧ t.detectors = s.detectors ∧ t.store = s.store) endRedFail (fun x t h => by simpa using h) groupNumbers
    (eachOf s.channelNumbers stopChannel s)
    (eachOf_holds (fun t => t.pending = s.pending ∧ t.clock = s.clock ∧ t.event = s.event ∧ t.exchange = s.exchange ∧ t.preempt = s.preempt ∧ t.engine = s.engine ∧ t.control = s.control ∧ t.branches = s.branches ∧ t.detectors = s.detectors ∧ t.store = s.store) stopChannel (fun x t h => by simpa using h) s.channelNumbers s (by simp))
  simpa using h

/-- What `retableProver` leaves alone: everything but prover, link, faults. -/
@[simp] theorem retableProver_frame (s : State) :
    (retableProver s).pending = s.pending
      ∧ (retableProver s).clock = s.clock
      ∧ (retableProver s).event = s.event
      ∧ (retableProver s).exchange = s.exchange
      ∧ (retableProver s).preempt = s.preempt
      ∧ (retableProver s).engine = s.engine
      ∧ (retableProver s).control = s.control
      ∧ (retableProver s).branches = s.branches
      ∧ (retableProver s).detectors = s.detectors
      ∧ (retableProver s).store = s.store := by
  unfold retableProver
  have h := eachOf_holds
    (fun t => t.pending = s.pending ∧ t.clock = s.clock ∧ t.event = s.event ∧ t.exchange = s.exchange ∧ t.preempt = s.preempt ∧ t.engine = s.engine ∧ t.control = s.control ∧ t.branches = s.branches ∧ t.detectors = s.detectors ∧ t.store = s.store) endRedFail (fun x t h => by simpa using h) groupNumbers
    (eachOf s.channelNumbers endChannelFaults s)
    (eachOf_holds (fun t => t.pending = s.pending ∧ t.clock = s.clock ∧ t.event = s.event ∧ t.exchange = s.exchange ∧ t.preempt = s.preempt ∧ t.engine = s.engine ∧ t.control = s.control ∧ t.branches = s.branches ∧ t.detectors = s.detectors ∧ t.store = s.store) endChannelFaults (fun x t h => by simpa using h) s.channelNumbers s (by simp))
  simpa using h

end Sys2Proof.Machine
end

