-- ==== Sys2Proof/Laws/Detectors.lean ====
section
/-! SUPPORT. What the detector conditioner leaves alone. -/

namespace Sys2Proof.Machine

/-- What `report` leaves alone: everything but detectors, event. -/
@[simp] theorem report_frame (c : Nat) (occupied : Bool) (fault : Bool) (time : Time) (s : State) :
    (report c occupied fault time s).pending = s.pending
      ∧ (report c occupied fault time s).clock = s.clock
      ∧ (report c occupied fault time s).link = s.link
      ∧ (report c occupied fault time s).exchange = s.exchange
      ∧ (report c occupied fault time s).preempt = s.preempt
      ∧ (report c occupied fault time s).engine = s.engine
      ∧ (report c occupied fault time s).control = s.control
      ∧ (report c occupied fault time s).branches = s.branches
      ∧ (report c occupied fault time s).prover = s.prover
      ∧ (report c occupied fault time s).faults = s.faults
      ∧ (report c occupied fault time s).store = s.store := by
  unfold report
  try dsimp only
  repeat' split
  all_goals simp

/-- What `setReported` leaves alone: everything but detectors. -/
@[simp] theorem setReported_frame (c : Nat) (state : Bool) (time : Time) (s : State) :
    (setReported c state time s).pending = s.pending
      ∧ (setReported c state time s).clock = s.clock
      ∧ (setReported c state time s).event = s.event
      ∧ (setReported c state time s).link = s.link
      ∧ (setReported c state time s).exchange = s.exchange
      ∧ (setReported c state time s).preempt = s.preempt
      ∧ (setReported c state time s).engine = s.engine
      ∧ (setReported c state time s).control = s.control
      ∧ (setReported c state time s).branches = s.branches
      ∧ (setReported c state time s).prover = s.prover
      ∧ (setReported c state time s).faults = s.faults
      ∧ (setReported c state time s).store = s.store := by simp [setReported]

/-- What `reportChange` leaves alone: everything but detectors, event. -/
@[simp] theorem reportChange_frame (c : Nat) (time : Time) (s : State) :
    (reportChange c time s).pending = s.pending
      ∧ (reportChange c time s).clock = s.clock
      ∧ (reportChange c time s).link = s.link
      ∧ (reportChange c time s).exchange = s.exchange
      ∧ (reportChange c time s).preempt = s.preempt
      ∧ (reportChange c time s).engine = s.engine
      ∧ (reportChange c time s).control = s.control
      ∧ (reportChange c time s).branches = s.branches
      ∧ (reportChange c time s).prover = s.prover
      ∧ (reportChange c time s).faults = s.faults
      ∧ (reportChange c time s).store = s.store := by
  unfold reportChange
  try dsimp only
  repeat' split
  all_goals simp

/-- What `raiseDetector` leaves alone: everything but detectors, event, link, faults. -/
@[simp] theorem raiseDetector_frame (f : DetectorFault) (c : Nat) (s : State) :
    (raiseDetector f c s).pending = s.pending
      ∧ (raiseDetector f c s).clock = s.clock
      ∧ (raiseDetector f c s).exchange = s.exchange
      ∧ (raiseDetector f c s).preempt = s.preempt
      ∧ (raiseDetector f c s).engine = s.engine
      ∧ (raiseDetector f c s).control = s.control
      ∧ (raiseDetector f c s).branches = s.branches
      ∧ (raiseDetector f c s).prover = s.prover
      ∧ (raiseDetector f c s).store = s.store := by
  unfold raiseDetector
  try dsimp only
  repeat' split
  all_goals simp

/-- What `endDetector` leaves alone: everything but detectors, link, faults. -/
@[simp] theorem endDetector_frame (f : DetectorFault) (c : Nat) (s : State) :
    (endDetector f c s).pending = s.pending
      ∧ (endDetector f c s).clock = s.clock
      ∧ (endDetector f c s).event = s.event
      ∧ (endDetector f c s).exchange = s.exchange
      ∧ (endDetector f c s).preempt = s.preempt
      ∧ (endDetector f c s).engine = s.engine
      ∧ (endDetector f c s).control = s.control
      ∧ (endDetector f c s).branches = s.branches
      ∧ (endDetector f c s).prover = s.prover
      ∧ (endDetector f c s).store = s.store := by
  unfold endDetector
  try dsimp only
  repeat' split
  all_goals simp

/-- What `setCall` leaves alone: everything but detectors. -/
@[simp] theorem setCall_frame (c : Nat) (t : Time) (s : State) :
    (setCall c t s).pending = s.pending
      ∧ (setCall c t s).clock = s.clock
      ∧ (setCall c t s).event = s.event
      ∧ (setCall c t s).link = s.link
      ∧ (setCall c t s).exchange = s.exchange
      ∧ (setCall c t s).preempt = s.preempt
      ∧ (setCall c t s).engine = s.engine
      ∧ (setCall c t s).control = s.control
      ∧ (setCall c t s).branches = s.branches
      ∧ (setCall c t s).prover = s.prover
      ∧ (setCall c t s).faults = s.faults
      ∧ (setCall c t s).store = s.store := by
  unfold setCall
  try dsimp only
  repeat' split
  all_goals simp

/-- What `takeOnset` leaves alone: everything but detectors, event, link, faults, preempt, and of these what is listed last. -/
@[simp] theorem takeOnset_frame (c : Nat) (t : Time) (s : State) :
    (takeOnset c t s).pending = s.pending
      ∧ (takeOnset c t s).clock = s.clock
      ∧ (takeOnset c t s).exchange = s.exchange
      ∧ (takeOnset c t s).engine = s.engine
      ∧ (takeOnset c t s).control = s.control
      ∧ (takeOnset c t s).branches = s.branches
      ∧ (takeOnset c t s).prover = s.prover
      ∧ (takeOnset c t s).store = s.store
      ∧ (takeOnset c t s).preempt.lines = s.preempt.lines := by
  unfold takeOnset
  try dsimp only
  repeat' split
  all_goals simp

/-- What `takeOffset` leaves alone: everything but detectors, event, link, faults, preempt, and of these what is listed last. -/
@[simp] theorem takeOffset_frame (c : Nat) (t : Time) (s : State) :
    (takeOffset c t s).pending = s.pending
      ∧ (takeOffset c t s).clock = s.clock
      ∧ (takeOffset c t s).exchange = s.exchange
      ∧ (takeOffset c t s).engine = s.engine
      ∧ (takeOffset c t s).control = s.control
      ∧ (takeOffset c t s).branches = s.branches
      ∧ (takeOffset c t s).prover = s.prover
      ∧ (takeOffset c t s).store = s.store
      ∧ (takeOffset c t s).preempt.lines = s.preempt.lines := by simp [takeOffset]

/-- What `takeTransition` leaves alone: everything but detectors, event, link, faults, preempt, and of these what is listed last. -/
@[simp] theorem takeTransition_frame (c : Nat) (x : Transition) (s : State) :
    (takeTransition c x s).pending = s.pending
      ∧ (takeTransition c x s).clock = s.clock
      ∧ (takeTransition c x s).exchange = s.exchange
      ∧ (takeTransition c x s).engine = s.engine
      ∧ (takeTransition c x s).control = s.control
      ∧ (takeTransition c x s).branches = s.branches
      ∧ (takeTransition c x s).prover = s.prover
      ∧ (takeTransition c x s).store = s.store
      ∧ (takeTransition c x s).preempt.lines = s.preempt.lines := by
  unfold takeTransition
  try dsimp only
  repeat' split
  all_goals simp

/-- What `debounce` leaves alone: everything but detectors, event, link, faults, preempt, and of these what is listed last. -/
@[simp] theorem debounce_frame (c : Nat) (steps : Nat) (s : State) :
    (debounce c steps s).pending = s.pending
      ∧ (debounce c steps s).clock = s.clock
      ∧ (debounce c steps s).exchange = s.exchange
      ∧ (debounce c steps s).engine = s.engine
      ∧ (debounce c steps s).control = s.control
      ∧ (debounce c steps s).branches = s.branches
      ∧ (debounce c steps s).prover = s.prover
      ∧ (debounce c steps s).store = s.store
      ∧ (debounce c steps s).preempt.lines = s.preempt.lines := by
  induction steps generalizing s with
  | zero => simp [debounce]
  | succ n ih =>
    unfold debounce
    dsimp only
    repeat' split
    all_goals simp [ih]

/-- What `resynchronize` leaves alone: everything but detectors, event, link, faults, preempt, and of these what is listed last. -/
@[simp] theorem resynchronize_frame (c : Nat) (e : DsmInput) (s : State) :
    (resynchronize c e s).pending = s.pending
      ∧ (resynchronize c e s).clock = s.clock
      ∧ (resynchronize c e s).exchange = s.exchange
      ∧ (resynchronize c e s).engine = s.engine
      ∧ (resynchronize c e s).control = s.control
      ∧ (resynchronize c e s).branches = s.branches
      ∧ (resynchronize c e s).prover = s.prover
      ∧ (resynchronize c e s).store = s.store
      ∧ (resynchronize c e s).preempt.lines = s.preempt.lines := by
  unfold resynchronize
  try dsimp only
  repeat' split
  all_goals simp

/-- What `takeEntry` leaves alone: everything but detectors, event, link, faults, preempt, and of these what is listed last. -/
@[simp] theorem takeEntry_frame (c : Nat) (e : DsmInput) (s : State) :
    (takeEntry c e s).pending = s.pending
      ∧ (takeEntry c e s).clock = s.clock
      ∧ (takeEntry c e s).exchange = s.exchange
      ∧ (takeEntry c e s).engine = s.engine
      ∧ (takeEntry c e s).control = s.control
      ∧ (takeEntry c e s).branches = s.branches
      ∧ (takeEntry c e s).prover = s.prover
      ∧ (takeEntry c e s).store = s.store
      ∧ (takeEntry c e s).preempt.lines = s.preempt.lines := by
  unfold takeEntry
  try dsimp only
  repeat' split
  all_goals simp

/-- What `testHealth` leaves alone: everything but detectors, event, link, faults. -/
@[simp] theorem testHealth_frame (c : Nat) (health : Health) (s : State) :
    (testHealth c health s).pending = s.pending
      ∧ (testHealth c health s).clock = s.clock
      ∧ (testHealth c health s).exchange = s.exchange
      ∧ (testHealth c health s).preempt = s.preempt
      ∧ (testHealth c health s).engine = s.engine
      ∧ (testHealth c health s).control = s.control
      ∧ (testHealth c health s).branches = s.branches
      ∧ (testHealth c health s).prover = s.prover
      ∧ (testHealth c health s).store = s.store := by
  unfold testHealth
  try dsimp only
  repeat' split
  all_goals simp

/-- What `testChatter` leaves alone: everything but detectors, event, link, faults. -/
@[simp] theorem testChatter_frame (c : Nat) (s : State) :
    (testChatter c s).pending = s.pending
      ∧ (testChatter c s).clock = s.clock
      ∧ (testChatter c s).exchange = s.exchange
      ∧ (testChatter c s).preempt = s.preempt
      ∧ (testChatter c s).engine = s.engine
      ∧ (testChatter c s).control = s.control
      ∧ (testChatter c s).branches = s.branches
      ∧ (testChatter c s).prover = s.prover
      ∧ (testChatter c s).store = s.store := by
  unfold testChatter
  try dsimp only
  repeat' split
  all_goals simp

/-- What `takeInput` leaves alone: everything but detectors, event, link, faults, preempt, and of these what is listed last. -/
@[simp] theorem takeInput_frame (inputs : List DsmInput) (c : Nat) (s : State) :
    (takeInput inputs c s).pending = s.pending
      ∧ (takeInput inputs c s).clock = s.clock
      ∧ (takeInput inputs c s).exchange = s.exchange
      ∧ (takeInput inputs c s).engine = s.engine
      ∧ (takeInput inputs c s).control = s.control
      ∧ (takeInput inputs c s).branches = s.branches
      ∧ (takeInput inputs c s).prover = s.prover
      ∧ (takeInput inputs c s).store = s.store
      ∧ (takeInput inputs c s).preempt.lines = s.preempt.lines := by
  unfold takeInput
  try dsimp only
  repeat' split
  all_goals simp

/-- What `enterFault` leaves alone: everything but detectors, event, link, faults, preempt, and of these what is listed last. -/
@[simp] theorem enterFault_frame (c : Nat) (d : Detector) (s : State) :
    (enterFault c d s).pending = s.pending
      ∧ (enterFault c d s).clock = s.clock
      ∧ (enterFault c d s).exchange = s.exchange
      ∧ (enterFault c d s).engine = s.engine
      ∧ (enterFault c d s).control = s.control
      ∧ (enterFault c d s).branches = s.branches
      ∧ (enterFault c d s).prover = s.prover
      ∧ (enterFault c d s).store = s.store
      ∧ (enterFault c d s).preempt.lines = s.preempt.lines := by simp [enterFault]

/-- What `leaveFault` leaves alone: everything but detectors, event, link, faults, preempt, and of these what is listed last. -/
@[simp] theorem leaveFault_frame (c : Nat) (d : Detector) (s : State) :
    (leaveFault c d s).pending = s.pending
      ∧ (leaveFault c d s).clock = s.clock
      ∧ (leaveFault c d s).exchange = s.exchange
      ∧ (leaveFault c d s).engine = s.engine
      ∧ (leaveFault c d s).control = s.control
      ∧ (leaveFault c d s).branches = s.branches
      ∧ (leaveFault c d s).prover = s.prover
      ∧ (leaveFault c d s).store = s.store
      ∧ (leaveFault c d s).preempt.lines = s.preempt.lines := by
  unfold leaveFault
  try dsimp only
  repeat' split
  all_goals simp

/-- What `decideFault` leaves alone: everything but detectors, event, link, faults, preempt, and of these what is listed last. -/
@[simp] theorem decideFault_frame (c : Nat) (s : State) :
    (decideFault c s).pending = s.pending
      ∧ (decideFault c s).clock = s.clock
      ∧ (decideFault c s).exchange = s.exchange
      ∧ (decideFault c s).engine = s.engine
      ∧ (decideFault c s).control = s.control
      ∧ (decideFault c s).branches = s.branches
      ∧ (decideFault c s).prover = s.prover
      ∧ (decideFault c s).store = s.store
      ∧ (decideFault c s).preempt.lines = s.preempt.lines := by
  unfold decideFault
  try dsimp only
  repeat' split
  all_goals simp

/-- What `takeSample` leaves alone: everything but detectors, event, link, faults, preempt, and of these what is listed last. -/
@[simp] theorem takeSample_frame (station : Nat) (inputs : List DsmInput) (s : State) :
    (takeSample station inputs s).pending = s.pending
      ∧ (takeSample station inputs s).clock = s.clock
      ∧ (takeSample station inputs s).exchange = s.exchange
      ∧ (takeSample station inputs s).engine = s.engine
      ∧ (takeSample station inputs s).control = s.control
      ∧ (takeSample station inputs s).branches = s.branches
      ∧ (takeSample station inputs s).prover = s.prover
      ∧ (takeSample station inputs s).store = s.store
      ∧ (takeSample station inputs s).preempt.lines = s.preempt.lines := by
  unfold takeSample
  have h := eachOf_holds
    (fun t => t.pending = s.pending ∧ t.clock = s.clock ∧ t.exchange = s.exchange ∧ t.engine = s.engine ∧ t.control = s.control ∧ t.branches = s.branches ∧ t.prover = s.prover ∧ t.store = s.store ∧ t.preempt.lines = s.preempt.lines) decideFault (fun x t h => by simpa using h) (s.channelsOf station)
    (eachOf (s.channelsOf station) (takeInput inputs) s)
    (eachOf_holds (fun t => t.pending = s.pending ∧ t.clock = s.clock ∧ t.exchange = s.exchange ∧ t.engine = s.engine ∧ t.control = s.control ∧ t.branches = s.branches ∧ t.prover = s.prover ∧ t.store = s.store ∧ t.preempt.lines = s.preempt.lines) (takeInput inputs) (fun x t h => by simpa using h) (s.channelsOf station) s (by simp))
  simpa using h

/-- What `stationBack` leaves alone: everything but detectors. -/
@[simp] theorem stationBack_frame (station : Nat) (s : State) :
    (stationBack station s).pending = s.pending
      ∧ (stationBack station s).clock = s.clock
      ∧ (stationBack station s).event = s.event
      ∧ (stationBack station s).link = s.link
      ∧ (stationBack station s).exchange = s.exchange
      ∧ (stationBack station s).preempt = s.preempt
      ∧ (stationBack station s).engine = s.engine
      ∧ (stationBack station s).control = s.control
      ∧ (stationBack station s).branches = s.branches
      ∧ (stationBack station s).prover = s.prover
      ∧ (stationBack station s).faults = s.faults
      ∧ (stationBack station s).store = s.store := by
  unfold stationBack
  exact eachOf_holds (fun t => t.pending = s.pending ∧ t.clock = s.clock ∧ t.event = s.event ∧ t.link = s.link ∧ t.exchange = s.exchange ∧ t.preempt = s.preempt ∧ t.engine = s.engine ∧ t.control = s.control ∧ t.branches = s.branches ∧ t.prover = s.prover ∧ t.faults = s.faults ∧ t.store = s.store) _
    (fun x t h => by simpa using h) _ _ (by simp)

/-- What `stationLost` leaves alone: everything but detectors, event, link, faults, preempt, and of these what is listed last. -/
@[simp] theorem stationLost_frame (station : Nat) (s : State) :
    (stationLost station s).pending = s.pending
      ∧ (stationLost station s).clock = s.clock
      ∧ (stationLost station s).exchange = s.exchange
      ∧ (stationLost station s).engine = s.engine
      ∧ (stationLost station s).control = s.control
      ∧ (stationLost station s).branches = s.branches
      ∧ (stationLost station s).prover = s.prover
      ∧ (stationLost station s).store = s.store
      ∧ (stationLost station s).preempt.lines = s.preempt.lines := by
  unfold stationLost
  have h := eachOf_holds
    (fun t => t.pending = s.pending ∧ t.clock = s.clock ∧ t.exchange = s.exchange ∧ t.engine = s.engine ∧ t.control = s.control ∧ t.branches = s.branches ∧ t.prover = s.prover ∧ t.store = s.store ∧ t.preempt.lines = s.preempt.lines) decideFault (fun x t h => by simpa using h) (s.channelsOf station)
    (eachOf (s.channelsOf station) (fun c => changeDetector c (fun d => { d with stationAbsent := true, pending := [], raw := none, resync := true, okSince := none })) s)
    (eachOf_holds (fun t => t.pending = s.pending ∧ t.clock = s.clock ∧ t.exchange = s.exchange ∧ t.engine = s.engine ∧ t.control = s.control ∧ t.branches = s.branches ∧ t.prover = s.prover ∧ t.store = s.store ∧ t.preempt.lines = s.preempt.lines) (fun c => changeDetector c (fun d => { d with stationAbsent := true, pending := [], raw := none, resync := true, okSince := none })) (fun x t h => by simpa using h) (s.channelsOf station) s (by simp))
  simpa using h

/-- What `serveCalls` leaves alone: everything but detectors, event. -/
@[simp] theorem serveCalls_frame (g : Nat) (s : State) :
    (serveCalls g s).pending = s.pending
      ∧ (serveCalls g s).clock = s.clock
      ∧ (serveCalls g s).link = s.link
      ∧ (serveCalls g s).exchange = s.exchange
      ∧ (serveCalls g s).preempt = s.preempt
      ∧ (serveCalls g s).engine = s.engine
      ∧ (serveCalls g s).control = s.control
      ∧ (serveCalls g s).branches = s.branches
      ∧ (serveCalls g s).prover = s.prover
      ∧ (serveCalls g s).faults = s.faults
      ∧ (serveCalls g s).store = s.store := by
  unfold serveCalls
  exact eachOf_holds (fun t => t.pending = s.pending ∧ t.clock = s.clock ∧ t.link = s.link ∧ t.exchange = s.exchange ∧ t.preempt = s.preempt ∧ t.engine = s.engine ∧ t.control = s.control ∧ t.branches = s.branches ∧ t.prover = s.prover ∧ t.faults = s.faults ∧ t.store = s.store) _
    (fun x t h => by simpa using h) _ _ (by simp)

/-- What `loadDetectors` leaves alone: everything but detectors. -/
@[simp] theorem loadDetectors_frame (s : State) :
    (loadDetectors s).pending = s.pending
      ∧ (loadDetectors s).clock = s.clock
      ∧ (loadDetectors s).event = s.event
      ∧ (loadDetectors s).link = s.link
      ∧ (loadDetectors s).exchange = s.exchange
      ∧ (loadDetectors s).preempt = s.preempt
      ∧ (loadDetectors s).engine = s.engine
      ∧ (loadDetectors s).control = s.control
      ∧ (loadDetectors s).branches = s.branches
      ∧ (loadDetectors s).prover = s.prover
      ∧ (loadDetectors s).faults = s.faults
      ∧ (loadDetectors s).store = s.store := by simp [loadDetectors]

/-- What `retableDetectors` leaves alone: everything but detectors, link, faults. -/
@[simp] theorem retableDetectors_frame (s : State) :
    (retableDetectors s).pending = s.pending
      ∧ (retableDetectors s).clock = s.clock
      ∧ (retableDetectors s).event = s.event
      ∧ (retableDetectors s).exchange = s.exchange
      ∧ (retableDetectors s).preempt = s.preempt
      ∧ (retableDetectors s).engine = s.engine
      ∧ (retableDetectors s).control = s.control
      ∧ (retableDetectors s).branches = s.branches
      ∧ (retableDetectors s).prover = s.prover
      ∧ (retableDetectors s).store = s.store := by
  unfold retableDetectors
  have h := eachOf_holds
    (fun t => t.pending = s.pending ∧ t.clock = s.clock ∧ t.event = s.event ∧ t.exchange = s.exchange ∧ t.preempt = s.preempt ∧ t.engine = s.engine ∧ t.control = s.control ∧ t.branches = s.branches ∧ t.prover = s.prover ∧ t.store = s.store)
    (fun c => eachOf detectorFaults (fun f => endDetector f c))
    (fun c t h => eachOf_holds (fun t => t.pending = s.pending ∧ t.clock = s.clock ∧ t.event = s.event ∧ t.exchange = s.exchange ∧ t.preempt = s.preempt ∧ t.engine = s.engine ∧ t.control = s.control ∧ t.branches = s.branches ∧ t.prover = s.prover ∧ t.store = s.store) (fun f => endDetector f c) (fun x t h => by simpa using h) _ t h)
    s.detectorChannels s (by simp)
  simpa using h

end Sys2Proof.Machine
end

