-- ==== Sys2Proof/Laws/Modes.lean ====
section
/-! SUPPORT. What the mode controller's operations leave alone. The active tables and the words of the store are left alone by every one. -/

namespace Sys2Proof.Machine

/-- What `announce` leaves alone: everything but link, faults. -/
@[simp] theorem announce_frame (old : Mode) (s : State) :
    (announce old s).pending = s.pending
      ∧ (announce old s).clock = s.clock
      ∧ (announce old s).event = s.event
      ∧ (announce old s).exchange = s.exchange
      ∧ (announce old s).preempt = s.preempt
      ∧ (announce old s).engine = s.engine
      ∧ (announce old s).control = s.control
      ∧ (announce old s).branches = s.branches
      ∧ (announce old s).prover = s.prover
      ∧ (announce old s).detectors = s.detectors
      ∧ (announce old s).store = s.store := by simp [announce]

/-- What `resetWorking` leaves alone: everything but store, and of these what is listed last. -/
@[simp] theorem resetWorking_frame (s : State) :
    (resetWorking s).pending = s.pending
      ∧ (resetWorking s).clock = s.clock
      ∧ (resetWorking s).event = s.event
      ∧ (resetWorking s).link = s.link
      ∧ (resetWorking s).exchange = s.exchange
      ∧ (resetWorking s).preempt = s.preempt
      ∧ (resetWorking s).engine = s.engine
      ∧ (resetWorking s).control = s.control
      ∧ (resetWorking s).branches = s.branches
      ∧ (resetWorking s).prover = s.prover
      ∧ (resetWorking s).detectors = s.detectors
      ∧ (resetWorking s).faults = s.faults
      ∧ (resetWorking s).store.active = s.store.active
      ∧ (resetWorking s).store.generation = s.store.generation
      ∧ (resetWorking s).store.corrected = s.store.corrected
      ∧ (resetWorking s).store.tablesCorrected = s.store.tablesCorrected
      ∧ (resetWorking s).store.valid = s.store.valid
      ∧ (resetWorking s).store.progress = s.store.progress
      ∧ (resetWorking s).store.lastCommit = s.store.lastCommit
      ∧ (resetWorking s).store.nv.words = s.store.nv.words
      ∧ (resetWorking s).store.nv.generation = s.store.nv.generation
      ∧ (resetWorking s).store.nv.check = s.store.nv.check
      ∧ (resetWorking s).store.nv.complete = s.store.nv.complete := by simp [resetWorking]

/-- What `startRecordWrite` leaves alone: everything but control, store, and of these what is listed last. -/
@[simp] theorem startRecordWrite_frame (kind : FaultKind) (subject : Option Nat) (s : State) :
    (startRecordWrite kind subject s).pending = s.pending
      ∧ (startRecordWrite kind subject s).clock = s.clock
      ∧ (startRecordWrite kind subject s).event = s.event
      ∧ (startRecordWrite kind subject s).link = s.link
      ∧ (startRecordWrite kind subject s).exchange = s.exchange
      ∧ (startRecordWrite kind subject s).preempt = s.preempt
      ∧ (startRecordWrite kind subject s).engine = s.engine
      ∧ (startRecordWrite kind subject s).branches = s.branches
      ∧ (startRecordWrite kind subject s).prover = s.prover
      ∧ (startRecordWrite kind subject s).detectors = s.detectors
      ∧ (startRecordWrite kind subject s).faults = s.faults
      ∧ (startRecordWrite kind subject s).control.maint = s.control.maint
      ∧ (startRecordWrite kind subject s).store.active = s.store.active
      ∧ (startRecordWrite kind subject s).store.generation = s.store.generation
      ∧ (startRecordWrite kind subject s).store.corrected = s.store.corrected
      ∧ (startRecordWrite kind subject s).store.tablesCorrected = s.store.tablesCorrected
      ∧ (startRecordWrite kind subject s).store.valid = s.store.valid
      ∧ (startRecordWrite kind subject s).store.progress = s.store.progress
      ∧ (startRecordWrite kind subject s).store.lastCommit = s.store.lastCommit
      ∧ (startRecordWrite kind subject s).store.nv.words = s.store.nv.words
      ∧ (startRecordWrite kind subject s).store.nv.generation = s.store.nv.generation
      ∧ (startRecordWrite kind subject s).store.nv.check = s.store.nv.check
      ∧ (startRecordWrite kind subject s).store.nv.complete = s.store.nv.complete := by simp [startRecordWrite]

/-- What `startRecordErase` leaves alone: everything but control, store, and of these what is listed last. -/
@[simp] theorem startRecordErase_frame (s : State) :
    (startRecordErase s).pending = s.pending
      ∧ (startRecordErase s).clock = s.clock
      ∧ (startRecordErase s).event = s.event
      ∧ (startRecordErase s).link = s.link
      ∧ (startRecordErase s).exchange = s.exchange
      ∧ (startRecordErase s).preempt = s.preempt
      ∧ (startRecordErase s).engine = s.engine
      ∧ (startRecordErase s).branches = s.branches
      ∧ (startRecordErase s).prover = s.prover
      ∧ (startRecordErase s).detectors = s.detectors
      ∧ (startRecordErase s).faults = s.faults
      ∧ (startRecordErase s).control.maint = s.control.maint
      ∧ (startRecordErase s).store.active = s.store.active
      ∧ (startRecordErase s).store.generation = s.store.generation
      ∧ (startRecordErase s).store.corrected = s.store.corrected
      ∧ (startRecordErase s).store.tablesCorrected = s.store.tablesCorrected
      ∧ (startRecordErase s).store.valid = s.store.valid
      ∧ (startRecordErase s).store.progress = s.store.progress
      ∧ (startRecordErase s).store.lastCommit = s.store.lastCommit
      ∧ (startRecordErase s).store.nv.words = s.store.nv.words
      ∧ (startRecordErase s).store.nv.generation = s.store.nv.generation
      ∧ (startRecordErase s).store.nv.check = s.store.nv.check
      ∧ (startRecordErase s).store.nv.complete = s.store.nv.complete := by simp [startRecordErase]

/-- What `writeRecordOf` leaves alone: everything but control, store, and of these what is listed last. -/
@[simp] theorem writeRecordOf_frame (record : Option (FaultKind × Option Nat)) (s : State) :
    (writeRecordOf record s).pending = s.pending
      ∧ (writeRecordOf record s).clock = s.clock
      ∧ (writeRecordOf record s).event = s.event
      ∧ (writeRecordOf record s).link = s.link
      ∧ (writeRecordOf record s).exchange = s.exchange
      ∧ (writeRecordOf record s).preempt = s.preempt
      ∧ (writeRecordOf record s).engine = s.engine
      ∧ (writeRecordOf record s).branches = s.branches
      ∧ (writeRecordOf record s).prover = s.prover
      ∧ (writeRecordOf record s).detectors = s.detectors
      ∧ (writeRecordOf record s).faults = s.faults
      ∧ (writeRecordOf record s).control.maint = s.control.maint
      ∧ (writeRecordOf record s).store.active = s.store.active
      ∧ (writeRecordOf record s).store.generation = s.store.generation
      ∧ (writeRecordOf record s).store.corrected = s.store.corrected
      ∧ (writeRecordOf record s).store.tablesCorrected = s.store.tablesCorrected
      ∧ (writeRecordOf record s).store.valid = s.store.valid
      ∧ (writeRecordOf record s).store.progress = s.store.progress
      ∧ (writeRecordOf record s).store.lastCommit = s.store.lastCommit
      ∧ (writeRecordOf record s).store.nv.words = s.store.nv.words
      ∧ (writeRecordOf record s).store.nv.generation = s.store.nv.generation
      ∧ (writeRecordOf record s).store.nv.check = s.store.nv.check
      ∧ (writeRecordOf record s).store.nv.complete = s.store.nv.complete := by
  unfold writeRecordOf
  try dsimp only
  repeat' split
  all_goals simp

/-- What `endLapse` leaves alone: everything but exchange, link, faults, and of these what is listed last. -/
@[simp] theorem endLapse_frame (s : State) :
    (endLapse s).pending = s.pending
      ∧ (endLapse s).clock = s.clock
      ∧ (endLapse s).event = s.event
      ∧ (endLapse s).preempt = s.preempt
      ∧ (endLapse s).engine = s.engine
      ∧ (endLapse s).control = s.control
      ∧ (endLapse s).branches = s.branches
      ∧ (endLapse s).prover = s.prover
      ∧ (endLapse s).detectors = s.detectors
      ∧ (endLapse s).store = s.store
      ∧ (endLapse s).exchange.strikes = s.exchange.strikes
      ∧ (endLapse s).exchange.imagesAccepted = s.exchange.imagesAccepted
      ∧ (endLapse s).exchange.imagesRefused = s.exchange.imagesRefused := by
  unfold endLapse
  try dsimp only
  repeat' split
  all_goals simp

/-- What `exchangeFlash` leaves alone: everything but exchange, link, faults, and of these what is listed last. -/
@[simp] theorem exchangeFlash_frame (s : State) :
    (exchangeFlash s).pending = s.pending
      ∧ (exchangeFlash s).clock = s.clock
      ∧ (exchangeFlash s).event = s.event
      ∧ (exchangeFlash s).preempt = s.preempt
      ∧ (exchangeFlash s).engine = s.engine
      ∧ (exchangeFlash s).control = s.control
      ∧ (exchangeFlash s).branches = s.branches
      ∧ (exchangeFlash s).prover = s.prover
      ∧ (exchangeFlash s).detectors = s.detectors
      ∧ (exchangeFlash s).store = s.store
      ∧ (exchangeFlash s).exchange.strikes = s.exchange.strikes
      ∧ (exchangeFlash s).exchange.imagesAccepted = s.exchange.imagesAccepted
      ∧ (exchangeFlash s).exchange.imagesRefused = s.exchange.imagesRefused := by simp [exchangeFlash]

/-- What `leavePermit` leaves alone: everything but engine, control, event, link, faults, store, exchange, preempt, prover, and of these what is listed last. -/
@[simp] theorem leavePermit_frame (new : Mode) (cause : Cause) (record : Option (FaultKind × Option Nat)) (s : State) :
    (leavePermit new cause record s).pending = s.pending
      ∧ (leavePermit new cause record s).clock = s.clock
      ∧ (leavePermit new cause record s).branches = s.branches
      ∧ (leavePermit new cause record s).detectors = s.detectors
      ∧ (leavePermit new cause record s).engine.imageNumber = s.engine.imageNumber
      ∧ (leavePermit new cause record s).control.maint = s.control.maint
      ∧ (leavePermit new cause record s).store.active = s.store.active
      ∧ (leavePermit new cause record s).store.generation = s.store.generation
      ∧ (leavePermit new cause record s).store.corrected = s.store.corrected
      ∧ (leavePermit new cause record s).store.tablesCorrected = s.store.tablesCorrected
      ∧ (leavePermit new cause record s).store.valid = s.store.valid
      ∧ (leavePermit new cause record s).store.progress = s.store.progress
      ∧ (leavePermit new cause record s).store.lastCommit = s.store.lastCommit
      ∧ (leavePermit new cause record s).store.nv.words = s.store.nv.words
      ∧ (leavePermit new cause record s).store.nv.generation = s.store.nv.generation
      ∧ (leavePermit new cause record s).store.nv.check = s.store.nv.check
      ∧ (leavePermit new cause record s).store.nv.complete = s.store.nv.complete
      ∧ (leavePermit new cause record s).exchange.strikes = s.exchange.strikes
      ∧ (leavePermit new cause record s).exchange.imagesAccepted = s.exchange.imagesAccepted
      ∧ (leavePermit new cause record s).exchange.imagesRefused = s.exchange.imagesRefused
      ∧ (leavePermit new cause record s).preempt.lines = s.preempt.lines := by simp [leavePermit]

/-- What `changeFlashMode` leaves alone: everything but control, event, link, faults, store, and of these what is listed last. -/
@[simp] theorem changeFlashMode_frame (new : Mode) (cause : Cause) (record : Option (FaultKind × Option Nat)) (s : State) :
    (changeFlashMode new cause record s).pending = s.pending
      ∧ (changeFlashMode new cause record s).clock = s.clock
      ∧ (changeFlashMode new cause record s).exchange = s.exchange
      ∧ (changeFlashMode new cause record s).preempt = s.preempt
      ∧ (changeFlashMode new cause record s).engine = s.engine
      ∧ (changeFlashMode new cause record s).branches = s.branches
      ∧ (changeFlashMode new cause record s).prover = s.prover
      ∧ (changeFlashMode new cause record s).detectors = s.detectors
      ∧ (changeFlashMode new cause record s).control.maint = s.control.maint
      ∧ (changeFlashMode new cause record s).store.active = s.store.active
      ∧ (changeFlashMode new cause record s).store.generation = s.store.generation
      ∧ (changeFlashMode new cause record s).store.corrected = s.store.corrected
      ∧ (changeFlashMode new cause record s).store.tablesCorrected = s.store.tablesCorrected
      ∧ (changeFlashMode new cause record s).store.valid = s.store.valid
      ∧ (changeFlashMode new cause record s).store.progress = s.store.progress
      ∧ (changeFlashMode new cause record s).store.lastCommit = s.store.lastCommit
      ∧ (changeFlashMode new cause record s).store.nv.words = s.store.nv.words
      ∧ (changeFlashMode new cause record s).store.nv.generation = s.store.nv.generation
      ∧ (changeFlashMode new cause record s).store.nv.check = s.store.nv.check
      ∧ (changeFlashMode new cause record s).store.nv.complete = s.store.nv.complete := by simp [changeFlashMode]

/-- What `enterRunning` leaves alone: everything but control, event, link, faults, exchange, preempt, and of these what is listed last. -/
@[simp] theorem enterRunning_frame (cause : Cause) (s : State) :
    (enterRunning cause s).pending = s.pending
      ∧ (enterRunning cause s).clock = s.clock
      ∧ (enterRunning cause s).engine = s.engine
      ∧ (enterRunning cause s).branches = s.branches
      ∧ (enterRunning cause s).prover = s.prover
      ∧ (enterRunning cause s).detectors = s.detectors
      ∧ (enterRunning cause s).store = s.store
      ∧ (enterRunning cause s).control.maint = s.control.maint
      ∧ (enterRunning cause s).exchange.strikes = s.exchange.strikes
      ∧ (enterRunning cause s).exchange.imagesAccepted = s.exchange.imagesAccepted
      ∧ (enterRunning cause s).exchange.imagesRefused = s.exchange.imagesRefused
      ∧ (enterRunning cause s).preempt.lines = s.preempt.lines := by simp [enterRunning]

/-- What `enterWarning` leaves alone: everything but control, event, link, faults, exchange, preempt, and of these what is listed last. -/
@[simp] theorem enterWarning_frame (s : State) :
    (enterWarning s).pending = s.pending
      ∧ (enterWarning s).clock = s.clock
      ∧ (enterWarning s).engine = s.engine
      ∧ (enterWarning s).branches = s.branches
      ∧ (enterWarning s).prover = s.prover
      ∧ (enterWarning s).detectors = s.detectors
      ∧ (enterWarning s).store = s.store
      ∧ (enterWarning s).control.maint = s.control.maint
      ∧ (enterWarning s).exchange.strikes = s.exchange.strikes
      ∧ (enterWarning s).exchange.imagesAccepted = s.exchange.imagesAccepted
      ∧ (enterWarning s).exchange.imagesRefused = s.exchange.imagesRefused
      ∧ (enterWarning s).preempt.lines = s.preempt.lines := by simp [enterWarning]

/-- What `enterClosing` leaves alone: everything but control, event, link, faults, exchange, preempt, and of these what is listed last. -/
@[simp] theorem enterClosing_frame (target : CloseTarget) (cause : CloseCause) (s : State) :
    (enterClosing target cause s).pending = s.pending
      ∧ (enterClosing target cause s).clock = s.clock
      ∧ (enterClosing target cause s).engine = s.engine
      ∧ (enterClosing target cause s).branches = s.branches
      ∧ (enterClosing target cause s).prover = s.prover
      ∧ (enterClosing target cause s).detectors = s.detectors
      ∧ (enterClosing target cause s).store = s.store
      ∧ (enterClosing target cause s).control.maint = s.control.maint
      ∧ (enterClosing target cause s).exchange.strikes = s.exchange.strikes
      ∧ (enterClosing target cause s).exchange.imagesAccepted = s.exchange.imagesAccepted
      ∧ (enterClosing target cause s).exchange.imagesRefused = s.exchange.imagesRefused
      ∧ (enterClosing target cause s).preempt.lines = s.preempt.lines := by simp [enterClosing]

/-- What `completeClose` leaves alone: everything but engine, control, event, link, faults, store, exchange, preempt, prover, and of these what is listed last. -/
@[simp] theorem completeClose_frame (s : State) :
    (completeClose s).pending = s.pending
      ∧ (completeClose s).clock = s.clock
      ∧ (completeClose s).branches = s.branches
      ∧ (completeClose s).detectors = s.detectors
      ∧ (completeClose s).engine.imageNumber = s.engine.imageNumber
      ∧ (completeClose s).control.maint = s.control.maint
      ∧ (completeClose s).store.active = s.store.active
      ∧ (completeClose s).store.generation = s.store.generation
      ∧ (completeClose s).store.corrected = s.store.corrected
      ∧ (completeClose s).store.tablesCorrected = s.store.tablesCorrected
      ∧ (completeClose s).store.valid = s.store.valid
      ∧ (completeClose s).store.progress = s.store.progress
      ∧ (completeClose s).store.lastCommit = s.store.lastCommit
      ∧ (completeClose s).store.nv.words = s.store.nv.words
      ∧ (completeClose s).store.nv.generation = s.store.nv.generation
      ∧ (completeClose s).store.nv.check = s.store.nv.check
      ∧ (completeClose s).store.nv.complete = s.store.nv.complete
      ∧ (completeClose s).exchange.strikes = s.exchange.strikes
      ∧ (completeClose s).exchange.imagesAccepted = s.exchange.imagesAccepted
      ∧ (completeClose s).exchange.imagesRefused = s.exchange.imagesRefused
      ∧ (completeClose s).preempt.lines = s.preempt.lines := by simp [completeClose]

/-- What `takeAction` leaves alone: everything but engine, control, event, link, faults, store, exchange, preempt, prover, and of these what is listed last. -/
@[simp] theorem takeAction_frame (r : Raise) (close : CloseTarget) (s : State) :
    (takeAction r close s).pending = s.pending
      ∧ (takeAction r close s).clock = s.clock
      ∧ (takeAction r close s).branches = s.branches
      ∧ (takeAction r close s).detectors = s.detectors
      ∧ (takeAction r close s).engine.imageNumber = s.engine.imageNumber
      ∧ (takeAction r close s).control.maint = s.control.maint
      ∧ (takeAction r close s).store.active = s.store.active
      ∧ (takeAction r close s).store.generation = s.store.generation
      ∧ (takeAction r close s).store.corrected = s.store.corrected
      ∧ (takeAction r close s).store.tablesCorrected = s.store.tablesCorrected
      ∧ (takeAction r close s).store.valid = s.store.valid
      ∧ (takeAction r close s).store.progress = s.store.progress
      ∧ (takeAction r close s).store.lastCommit = s.store.lastCommit
      ∧ (takeAction r close s).store.nv.words = s.store.nv.words
      ∧ (takeAction r close s).store.nv.generation = s.store.nv.generation
      ∧ (takeAction r close s).store.nv.check = s.store.nv.check
      ∧ (takeAction r close s).store.nv.complete = s.store.nv.complete
      ∧ (takeAction r close s).exchange.strikes = s.exchange.strikes
      ∧ (takeAction r close s).exchange.imagesAccepted = s.exchange.imagesAccepted
      ∧ (takeAction r close s).exchange.imagesRefused = s.exchange.imagesRefused
      ∧ (takeAction r close s).preempt.lines = s.preempt.lines := by
  unfold takeAction
  try dsimp only
  repeat' split
  all_goals simp

/-- What `raise` leaves alone: everything but engine, control, event, link, faults, store, exchange, preempt, prover, and of these what is listed last. -/
@[simp] theorem raise_frame (r : Raise) (s : State) :
    (raise r s).pending = s.pending
      ∧ (raise r s).clock = s.clock
      ∧ (raise r s).branches = s.branches
      ∧ (raise r s).detectors = s.detectors
      ∧ (raise r s).engine.imageNumber = s.engine.imageNumber
      ∧ (raise r s).control.maint = s.control.maint
      ∧ (raise r s).store.active = s.store.active
      ∧ (raise r s).store.generation = s.store.generation
      ∧ (raise r s).store.corrected = s.store.corrected
      ∧ (raise r s).store.tablesCorrected = s.store.tablesCorrected
      ∧ (raise r s).store.valid = s.store.valid
      ∧ (raise r s).store.progress = s.store.progress
      ∧ (raise r s).store.lastCommit = s.store.lastCommit
      ∧ (raise r s).store.nv.words = s.store.nv.words
      ∧ (raise r s).store.nv.generation = s.store.nv.generation
      ∧ (raise r s).store.nv.check = s.store.nv.check
      ∧ (raise r s).store.nv.complete = s.store.nv.complete
      ∧ (raise r s).exchange.strikes = s.exchange.strikes
      ∧ (raise r s).exchange.imagesAccepted = s.exchange.imagesAccepted
      ∧ (raise r s).exchange.imagesRefused = s.exchange.imagesRefused
      ∧ (raise r s).preempt.lines = s.preempt.lines := by simp [raise]

/-- What `handRed` leaves alone: everything but engine, control, event, link, faults, store, exchange, preempt, prover, and of these what is listed last. -/
@[simp] theorem handRed_frame (change : Nat × Bool) (s : State) :
    (handRed change s).pending = s.pending
      ∧ (handRed change s).clock = s.clock
      ∧ (handRed change s).branches = s.branches
      ∧ (handRed change s).detectors = s.detectors
      ∧ (handRed change s).engine.imageNumber = s.engine.imageNumber
      ∧ (handRed change s).control.maint = s.control.maint
      ∧ (handRed change s).store.active = s.store.active
      ∧ (handRed change s).store.generation = s.store.generation
      ∧ (handRed change s).store.corrected = s.store.corrected
      ∧ (handRed change s).store.tablesCorrected = s.store.tablesCorrected
      ∧ (handRed change s).store.valid = s.store.valid
      ∧ (handRed change s).store.progress = s.store.progress
      ∧ (handRed change s).store.lastCommit = s.store.lastCommit
      ∧ (handRed change s).store.nv.words = s.store.nv.words
      ∧ (handRed change s).store.nv.generation = s.store.nv.generation
      ∧ (handRed change s).store.nv.check = s.store.nv.check
      ∧ (handRed change s).store.nv.complete = s.store.nv.complete
      ∧ (handRed change s).exchange.strikes = s.exchange.strikes
      ∧ (handRed change s).exchange.imagesAccepted = s.exchange.imagesAccepted
      ∧ (handRed change s).exchange.imagesRefused = s.exchange.imagesRefused
      ∧ (handRed change s).preempt.lines = s.preempt.lines := by
  unfold handRed
  try dsimp only
  repeat' split
  all_goals simp

/-- What `evaluateReds` leaves alone: everything but engine, control, event, link, faults, store, exchange, preempt, prover, and of these what is listed last. -/
@[simp] theorem evaluateReds_frame (s : State) :
    (evaluateReds s).pending = s.pending
      ∧ (evaluateReds s).clock = s.clock
      ∧ (evaluateReds s).branches = s.branches
      ∧ (evaluateReds s).detectors = s.detectors
      ∧ (evaluateReds s).engine.imageNumber = s.engine.imageNumber
      ∧ (evaluateReds s).control.maint = s.control.maint
      ∧ (evaluateReds s).store.active = s.store.active
      ∧ (evaluateReds s).store.generation = s.store.generation
      ∧ (evaluateReds s).store.corrected = s.store.corrected
      ∧ (evaluateReds s).store.tablesCorrected = s.store.tablesCorrected
      ∧ (evaluateReds s).store.valid = s.store.valid
      ∧ (evaluateReds s).store.progress = s.store.progress
      ∧ (evaluateReds s).store.lastCommit = s.store.lastCommit
      ∧ (evaluateReds s).store.nv.words = s.store.nv.words
      ∧ (evaluateReds s).store.nv.generation = s.store.nv.generation
      ∧ (evaluateReds s).store.nv.check = s.store.nv.check
      ∧ (evaluateReds s).store.nv.complete = s.store.nv.complete
      ∧ (evaluateReds s).exchange.strikes = s.exchange.strikes
      ∧ (evaluateReds s).exchange.imagesAccepted = s.exchange.imagesAccepted
      ∧ (evaluateReds s).exchange.imagesRefused = s.exchange.imagesRefused
      ∧ (evaluateReds s).preempt.lines = s.preempt.lines := by
  unfold evaluateReds
  exact eachOf_holds (fun t => t.pending = s.pending ∧ t.clock = s.clock ∧ t.branches = s.branches ∧ t.detectors = s.detectors ∧ t.engine.imageNumber = s.engine.imageNumber ∧ t.control.maint = s.control.maint ∧ t.store.active = s.store.active ∧ t.store.generation = s.store.generation ∧ t.store.corrected = s.store.corrected ∧ t.store.tablesCorrected = s.store.tablesCorrected ∧ t.store.valid = s.store.valid ∧ t.store.progress = s.store.progress ∧ t.store.lastCommit = s.store.lastCommit ∧ t.store.nv.words = s.store.nv.words ∧ t.store.nv.generation = s.store.nv.generation ∧ t.store.nv.check = s.store.nv.check ∧ t.store.nv.complete = s.store.nv.complete ∧ t.exchange.strikes = s.exchange.strikes ∧ t.exchange.imagesAccepted = s.exchange.imagesAccepted ∧ t.exchange.imagesRefused = s.exchange.imagesRefused ∧ t.preempt.lines = s.preempt.lines) _
    (fun x t h => by simpa using h) _ _ (by simp)

/-- What `recurStations` leaves alone: everything but engine, control, event, link, faults, store, exchange, preempt, prover, and of these what is listed last. -/
@[simp] theorem recurStations_frame (br : BranchId) (s : State) :
    (recurStations br s).pending = s.pending
      ∧ (recurStations br s).clock = s.clock
      ∧ (recurStations br s).branches = s.branches
      ∧ (recurStations br s).detectors = s.detectors
      ∧ (recurStations br s).engine.imageNumber = s.engine.imageNumber
      ∧ (recurStations br s).control.maint = s.control.maint
      ∧ (recurStations br s).store.active = s.store.active
      ∧ (recurStations br s).store.generation = s.store.generation
      ∧ (recurStations br s).store.corrected = s.store.corrected
      ∧ (recurStations br s).store.tablesCorrected = s.store.tablesCorrected
      ∧ (recurStations br s).store.valid = s.store.valid
      ∧ (recurStations br s).store.progress = s.store.progress
      ∧ (recurStations br s).store.lastCommit = s.store.lastCommit
      ∧ (recurStations br s).store.nv.words = s.store.nv.words
      ∧ (recurStations br s).store.nv.generation = s.store.nv.generation
      ∧ (recurStations br s).store.nv.check = s.store.nv.check
      ∧ (recurStations br s).store.nv.complete = s.store.nv.complete
      ∧ (recurStations br s).exchange.strikes = s.exchange.strikes
      ∧ (recurStations br s).exchange.imagesAccepted = s.exchange.imagesAccepted
      ∧ (recurStations br s).exchange.imagesRefused = s.exchange.imagesRefused
      ∧ (recurStations br s).preempt.lines = s.preempt.lines := by
  unfold recurStations
  have h : ∀ (kind : FaultKind) (l : List Liveness) (t : State), (eachOf l (fun x => raise ⟨kind, some x.station, .flash, true, false⟩) t).pending = t.pending ∧ (eachOf l (fun x => raise ⟨kind, some x.station, .flash, true, false⟩) t).clock = t.clock ∧ (eachOf l (fun x => raise ⟨kind, some x.station, .flash, true, false⟩) t).branches = t.branches ∧ (eachOf l (fun x => raise ⟨kind, some x.station, .flash, true, false⟩) t).detectors = t.detectors ∧ (eachOf l (fun x => raise ⟨kind, some x.station, .flash, true, false⟩) t).engine.imageNumber = t.engine.imageNumber ∧ (eachOf l (fun x => raise ⟨kind, some x.station, .flash, true, false⟩) t).control.maint = t.control.maint ∧ (eachOf l (fun x => raise ⟨kind, some x.station, .flash, true, false⟩) t).store.active = t.store.active ∧ (eachOf l (fun x => raise ⟨kind, some x.station, .flash, true, false⟩) t).store.generation = t.store.generation ∧ (eachOf l (fun x => raise ⟨kind, some x.station, .flash, true, false⟩) t).store.corrected = t.store.corrected ∧ (eachOf l (fun x => raise ⟨kind, some x.station, .flash, true, false⟩) t).store.tablesCorrected = t.store.tablesCorrected ∧ (eachOf l (fun x => raise ⟨kind, some x.station, .flash, true, false⟩) t).store.valid = t.store.valid ∧ (eachOf l (fun x => raise ⟨kind, some x.station, .flash, true, false⟩) t).store.progress = t.store.progress ∧ (eachOf l (fun x => raise ⟨kind, some x.station, .flash, true, false⟩) t).store.lastCommit = t.store.lastCommit ∧ (eachOf l (fun x => raise ⟨kind, some x.station, .flash, true, false⟩) t).store.nv.words = t.store.nv.words ∧ (eachOf l (fun x => raise ⟨kind, some x.station, .flash, true, false⟩) t).store.nv.generation = t.store.nv.generation ∧ (eachOf l (fun x => raise ⟨kind, some x.station, .flash, true, false⟩) t).store.nv.check = t.store.nv.check ∧ (eachOf l (fun x => raise ⟨kind, some x.station, .flash, true, false⟩) t).store.nv.complete = t.store.nv.complete ∧ (eachOf l (fun x => raise ⟨kind, some x.station, .flash, true, false⟩) t).exchange.strikes = t.exchange.strikes ∧ (eachOf l (fun x => raise ⟨kind, some x.station, .flash, true, false⟩) t).exchange.imagesAccepted = t.exchange.imagesAccepted ∧ (eachOf l (fun x => raise ⟨kind, some x.station, .flash, true, false⟩) t).exchange.imagesRefused = t.exchange.imagesRefused ∧ (eachOf l (fun x => raise ⟨kind, some x.station, .flash, true, false⟩) t).preempt.lines = t.preempt.lines := fun kind l t =>
    eachOf_holds (fun u => u.pending = t.pending ∧ u.clock = t.clock ∧ u.branches = t.branches ∧ u.detectors = t.detectors ∧ u.engine.imageNumber = t.engine.imageNumber ∧ u.control.maint = t.control.maint ∧ u.store.active = t.store.active ∧ u.store.generation = t.store.generation ∧ u.store.corrected = t.store.corrected ∧ u.store.tablesCorrected = t.store.tablesCorrected ∧ u.store.valid = t.store.valid ∧ u.store.progress = t.store.progress ∧ u.store.lastCommit = t.store.lastCommit ∧ u.store.nv.words = t.store.nv.words ∧ u.store.nv.generation = t.store.nv.generation ∧ u.store.nv.check = t.store.nv.check ∧ u.store.nv.complete = t.store.nv.complete ∧ u.exchange.strikes = t.exchange.strikes ∧ u.exchange.imagesAccepted = t.exchange.imagesAccepted ∧ u.exchange.imagesRefused = t.exchange.imagesRefused ∧ u.preempt.lines = t.preempt.lines) _ (fun x u h => by simpa using h) l t (by simp)
  dsimp only
  simp only [h, and_self]

/-- What `enterStart` leaves alone: everything but engine, control, event, link, faults, store, exchange, preempt, prover, and of these what is listed last. -/
@[simp] theorem enterStart_frame (startChain : Half) (s : State) :
    (enterStart startChain s).pending = s.pending
      ∧ (enterStart startChain s).clock = s.clock
      ∧ (enterStart startChain s).branches = s.branches
      ∧ (enterStart startChain s).detectors = s.detectors
      ∧ (enterStart startChain s).engine.imageNumber = s.engine.imageNumber
      ∧ (enterStart startChain s).control.maint = s.control.maint
      ∧ (enterStart startChain s).store.active = s.store.active
      ∧ (enterStart startChain s).store.generation = s.store.generation
      ∧ (enterStart startChain s).store.corrected = s.store.corrected
      ∧ (enterStart startChain s).store.tablesCorrected = s.store.tablesCorrected
      ∧ (enterStart startChain s).store.valid = s.store.valid
      ∧ (enterStart startChain s).store.progress = s.store.progress
      ∧ (enterStart startChain s).store.lastCommit = s.store.lastCommit
      ∧ (enterStart startChain s).store.nv.words = s.store.nv.words
      ∧ (enterStart startChain s).store.nv.generation = s.store.nv.generation
      ∧ (enterStart startChain s).store.nv.check = s.store.nv.check
      ∧ (enterStart startChain s).store.nv.complete = s.store.nv.complete
      ∧ (enterStart startChain s).exchange.strikes = s.exchange.strikes
      ∧ (enterStart startChain s).exchange.imagesAccepted = s.exchange.imagesAccepted
      ∧ (enterStart startChain s).exchange.imagesRefused = s.exchange.imagesRefused
      ∧ (enterStart startChain s).preempt.lines = s.preempt.lines := by
  unfold enterStart
  have h : ∀ (l : List BranchId) (t : State), (eachOf l recurStations t).pending = t.pending ∧ (eachOf l recurStations t).clock = t.clock ∧ (eachOf l recurStations t).branches = t.branches ∧ (eachOf l recurStations t).detectors = t.detectors ∧ (eachOf l recurStations t).engine.imageNumber = t.engine.imageNumber ∧ (eachOf l recurStations t).control.maint = t.control.maint ∧ (eachOf l recurStations t).store.active = t.store.active ∧ (eachOf l recurStations t).store.generation = t.store.generation ∧ (eachOf l recurStations t).store.corrected = t.store.corrected ∧ (eachOf l recurStations t).store.tablesCorrected = t.store.tablesCorrected ∧ (eachOf l recurStations t).store.valid = t.store.valid ∧ (eachOf l recurStations t).store.progress = t.store.progress ∧ (eachOf l recurStations t).store.lastCommit = t.store.lastCommit ∧ (eachOf l recurStations t).store.nv.words = t.store.nv.words ∧ (eachOf l recurStations t).store.nv.generation = t.store.nv.generation ∧ (eachOf l recurStations t).store.nv.check = t.store.nv.check ∧ (eachOf l recurStations t).store.nv.complete = t.store.nv.complete ∧ (eachOf l recurStations t).exchange.strikes = t.exchange.strikes ∧ (eachOf l recurStations t).exchange.imagesAccepted = t.exchange.imagesAccepted ∧ (eachOf l recurStations t).exchange.imagesRefused = t.exchange.imagesRefused ∧ (eachOf l recurStations t).preempt.lines = t.preempt.lines := fun l t =>
    eachOf_holds (fun u => u.pending = t.pending ∧ u.clock = t.clock ∧ u.branches = t.branches ∧ u.detectors = t.detectors ∧ u.engine.imageNumber = t.engine.imageNumber ∧ u.control.maint = t.control.maint ∧ u.store.active = t.store.active ∧ u.store.generation = t.store.generation ∧ u.store.corrected = t.store.corrected ∧ u.store.tablesCorrected = t.store.tablesCorrected ∧ u.store.valid = t.store.valid ∧ u.store.progress = t.store.progress ∧ u.store.lastCommit = t.store.lastCommit ∧ u.store.nv.words = t.store.nv.words ∧ u.store.nv.generation = t.store.nv.generation ∧ u.store.nv.check = t.store.nv.check ∧ u.store.nv.complete = t.store.nv.complete ∧ u.exchange.strikes = t.exchange.strikes ∧ u.exchange.imagesAccepted = t.exchange.imagesAccepted ∧ u.exchange.imagesRefused = t.exchange.imagesRefused ∧ u.preempt.lines = t.preempt.lines) _ (fun x u h => by simpa using h) l t (by simp)
  dsimp only
  simp only [h]
  simp

end Sys2Proof.Machine
end

