-- ==== Sys2Proof/Laws/Conclude.lean ====
section
/-! SUPPORT. What the conclusion of an event leaves alone. -/

namespace Sys2Proof.Machine

/-- What `settle` leaves alone: everything but engine, event, preempt, link, faults, and of these what is listed last. -/
@[simp] theorem settle_frame (rounds : Nat) (s : State) :
    (settle rounds s).pending = s.pending
      ∧ (settle rounds s).clock = s.clock
      ∧ (settle rounds s).exchange = s.exchange
      ∧ (settle rounds s).control = s.control
      ∧ (settle rounds s).branches = s.branches
      ∧ (settle rounds s).prover = s.prover
      ∧ (settle rounds s).detectors = s.detectors
      ∧ (settle rounds s).store = s.store
      ∧ (settle rounds s).engine.imageNumber = s.engine.imageNumber
      ∧ (settle rounds s).preempt.lines = s.preempt.lines := by
  induction rounds generalizing s with
  | zero => simp [settle]
  | succ n ih =>
    unfold settle
    dsimp only
    split
    all_goals simp [ih]

/-- What `closeIfDone` leaves alone: everything but engine, control, event, link, faults, store, exchange, preempt, prover, and of these what is listed last. -/
@[simp] theorem closeIfDone_frame (s : State) :
    (closeIfDone s).pending = s.pending
      ∧ (closeIfDone s).clock = s.clock
      ∧ (closeIfDone s).branches = s.branches
      ∧ (closeIfDone s).detectors = s.detectors
      ∧ (closeIfDone s).engine.imageNumber = s.engine.imageNumber
      ∧ (closeIfDone s).control.maint = s.control.maint
      ∧ (closeIfDone s).store.active = s.store.active
      ∧ (closeIfDone s).store.generation = s.store.generation
      ∧ (closeIfDone s).store.corrected = s.store.corrected
      ∧ (closeIfDone s).store.tablesCorrected = s.store.tablesCorrected
      ∧ (closeIfDone s).store.valid = s.store.valid
      ∧ (closeIfDone s).store.progress = s.store.progress
      ∧ (closeIfDone s).store.lastCommit = s.store.lastCommit
      ∧ (closeIfDone s).store.nv.words = s.store.nv.words
      ∧ (closeIfDone s).store.nv.generation = s.store.nv.generation
      ∧ (closeIfDone s).store.nv.check = s.store.nv.check
      ∧ (closeIfDone s).store.nv.complete = s.store.nv.complete
      ∧ (closeIfDone s).exchange.strikes = s.exchange.strikes
      ∧ (closeIfDone s).exchange.imagesAccepted = s.exchange.imagesAccepted
      ∧ (closeIfDone s).exchange.imagesRefused = s.exchange.imagesRefused
      ∧ (closeIfDone s).preempt.lines = s.preempt.lines := by
  unfold closeIfDone
  try dsimp only
  repeat' split
  all_goals simp

/-- What `noticeGo` leaves alone: everything but detectors, event. -/
@[simp] theorem noticeGo_frame (s : State) :
    (noticeGo s).pending = s.pending
      ∧ (noticeGo s).clock = s.clock
      ∧ (noticeGo s).link = s.link
      ∧ (noticeGo s).exchange = s.exchange
      ∧ (noticeGo s).preempt = s.preempt
      ∧ (noticeGo s).engine = s.engine
      ∧ (noticeGo s).control = s.control
      ∧ (noticeGo s).branches = s.branches
      ∧ (noticeGo s).prover = s.prover
      ∧ (noticeGo s).faults = s.faults
      ∧ (noticeGo s).store = s.store := by
  unfold noticeGo
  exact eachOf_holds (fun t => t.pending = s.pending ∧ t.clock = s.clock ∧ t.link = s.link ∧ t.exchange = s.exchange ∧ t.preempt = s.preempt ∧ t.engine = s.engine ∧ t.control = s.control ∧ t.branches = s.branches ∧ t.prover = s.prover ∧ t.faults = s.faults ∧ t.store = s.store) serveCalls
    (fun x t h => by simpa using h) _ _ (by simp)

/-- What `evaluateShown` leaves alone: everything but engine, control, event, link, faults, store, exchange, preempt, prover, and of these what is listed last. -/
@[simp] theorem evaluateShown_frame (s : State) :
    (evaluateShown s).pending = s.pending
      ∧ (evaluateShown s).clock = s.clock
      ∧ (evaluateShown s).branches = s.branches
      ∧ (evaluateShown s).detectors = s.detectors
      ∧ (evaluateShown s).engine.imageNumber = s.engine.imageNumber
      ∧ (evaluateShown s).control.maint = s.control.maint
      ∧ (evaluateShown s).store.active = s.store.active
      ∧ (evaluateShown s).store.generation = s.store.generation
      ∧ (evaluateShown s).store.corrected = s.store.corrected
      ∧ (evaluateShown s).store.tablesCorrected = s.store.tablesCorrected
      ∧ (evaluateShown s).store.valid = s.store.valid
      ∧ (evaluateShown s).store.progress = s.store.progress
      ∧ (evaluateShown s).store.lastCommit = s.store.lastCommit
      ∧ (evaluateShown s).store.nv.words = s.store.nv.words
      ∧ (evaluateShown s).store.nv.generation = s.store.nv.generation
      ∧ (evaluateShown s).store.nv.check = s.store.nv.check
      ∧ (evaluateShown s).store.nv.complete = s.store.nv.complete
      ∧ (evaluateShown s).exchange.strikes = s.exchange.strikes
      ∧ (evaluateShown s).exchange.imagesAccepted = s.exchange.imagesAccepted
      ∧ (evaluateShown s).exchange.imagesRefused = s.exchange.imagesRefused
      ∧ (evaluateShown s).preempt.lines = s.preempt.lines := by
  unfold evaluateShown
  try dsimp only
  repeat' split
  all_goals simp

/-- What `numberImage` leaves alone: everything but engine, event, prover, and of these what is listed last. -/
@[simp] theorem numberImage_frame (s : State) :
    (numberImage s).pending = s.pending
      ∧ (numberImage s).clock = s.clock
      ∧ (numberImage s).link = s.link
      ∧ (numberImage s).exchange = s.exchange
      ∧ (numberImage s).preempt = s.preempt
      ∧ (numberImage s).control = s.control
      ∧ (numberImage s).branches = s.branches
      ∧ (numberImage s).detectors = s.detectors
      ∧ (numberImage s).faults = s.faults
      ∧ (numberImage s).store = s.store := by
  unfold numberImage
  try dsimp only
  repeat' split
  all_goals simp

/-- What `markIfDue` leaves alone: everything but branches. -/
@[simp] theorem markIfDue_frame (s : State) :
    (markIfDue s).pending = s.pending
      ∧ (markIfDue s).clock = s.clock
      ∧ (markIfDue s).event = s.event
      ∧ (markIfDue s).link = s.link
      ∧ (markIfDue s).exchange = s.exchange
      ∧ (markIfDue s).preempt = s.preempt
      ∧ (markIfDue s).engine = s.engine
      ∧ (markIfDue s).control = s.control
      ∧ (markIfDue s).prover = s.prover
      ∧ (markIfDue s).detectors = s.detectors
      ∧ (markIfDue s).faults = s.faults
      ∧ (markIfDue s).store = s.store := by
  unfold markIfDue
  try dsimp only
  repeat' split
  all_goals simp

/-- What `handReports` leaves alone: everything but link. -/
@[simp] theorem handReports_frame (s : State) :
    (handReports s).pending = s.pending
      ∧ (handReports s).clock = s.clock
      ∧ (handReports s).event = s.event
      ∧ (handReports s).exchange = s.exchange
      ∧ (handReports s).preempt = s.preempt
      ∧ (handReports s).engine = s.engine
      ∧ (handReports s).control = s.control
      ∧ (handReports s).branches = s.branches
      ∧ (handReports s).prover = s.prover
      ∧ (handReports s).detectors = s.detectors
      ∧ (handReports s).faults = s.faults
      ∧ (handReports s).store = s.store := by
  unfold handReports
  exact eachOf_holds (fun t => t.pending = s.pending ∧ t.clock = s.clock ∧ t.event = s.event ∧ t.exchange = s.exchange ∧ t.preempt = s.preempt ∧ t.engine = s.engine ∧ t.control = s.control ∧ t.branches = s.branches ∧ t.prover = s.prover ∧ t.detectors = s.detectors ∧ t.faults = s.faults ∧ t.store = s.store) (fun d => send (.det d))
    (fun x t h => by simpa using h) _ _ (by simp)

/-- What `conclude` leaves alone: everything but engine, control, event, link, faults, store, exchange, preempt, prover, branches, detectors, and of these what is listed last. -/
@[simp] theorem conclude_frame (s : State) :
    (conclude s).pending = s.pending
      ∧ (conclude s).clock = s.clock
      ∧ (conclude s).control.maint = s.control.maint
      ∧ (conclude s).store.active = s.store.active
      ∧ (conclude s).store.generation = s.store.generation
      ∧ (conclude s).store.corrected = s.store.corrected
      ∧ (conclude s).store.tablesCorrected = s.store.tablesCorrected
      ∧ (conclude s).store.valid = s.store.valid
      ∧ (conclude s).store.progress = s.store.progress
      ∧ (conclude s).store.lastCommit = s.store.lastCommit
      ∧ (conclude s).store.nv.words = s.store.nv.words
      ∧ (conclude s).store.nv.generation = s.store.nv.generation
      ∧ (conclude s).store.nv.check = s.store.nv.check
      ∧ (conclude s).store.nv.complete = s.store.nv.complete
      ∧ (conclude s).exchange.strikes = s.exchange.strikes
      ∧ (conclude s).exchange.imagesAccepted = s.exchange.imagesAccepted
      ∧ (conclude s).exchange.imagesRefused = s.exchange.imagesRefused
      ∧ (conclude s).preempt.lines = s.preempt.lines := by simp [conclude]

end Sys2Proof.Machine
end

