-- ==== Sys2Proof/Laws/Fields.lean ====
section
/-! SUPPORT. What the events of the field branches leave alone before their conclusion. -/

namespace Sys2Proof.Machine

/-- What `handFindings` leaves alone: everything but link, faults, event. -/
@[simp] theorem handFindings_frame (found : List Judged) (s : State) :
    (handFindings found s).pending = s.pending
      ∧ (handFindings found s).clock = s.clock
      ∧ (handFindings found s).exchange = s.exchange
      ∧ (handFindings found s).preempt = s.preempt
      ∧ (handFindings found s).engine = s.engine
      ∧ (handFindings found s).control = s.control
      ∧ (handFindings found s).branches = s.branches
      ∧ (handFindings found s).prover = s.prover
      ∧ (handFindings found s).detectors = s.detectors
      ∧ (handFindings found s).store = s.store := by
  unfold handFindings
  have h : ∀ (l : List Judged) (t : State), (eachOf l (fun j => reportEnd j.kind (some j.channel)) t).pending = t.pending ∧ (eachOf l (fun j => reportEnd j.kind (some j.channel)) t).clock = t.clock ∧ (eachOf l (fun j => reportEnd j.kind (some j.channel)) t).exchange = t.exchange ∧ (eachOf l (fun j => reportEnd j.kind (some j.channel)) t).preempt = t.preempt ∧ (eachOf l (fun j => reportEnd j.kind (some j.channel)) t).engine = t.engine ∧ (eachOf l (fun j => reportEnd j.kind (some j.channel)) t).control = t.control ∧ (eachOf l (fun j => reportEnd j.kind (some j.channel)) t).branches = t.branches ∧ (eachOf l (fun j => reportEnd j.kind (some j.channel)) t).prover = t.prover ∧ (eachOf l (fun j => reportEnd j.kind (some j.channel)) t).detectors = t.detectors ∧ (eachOf l (fun j => reportEnd j.kind (some j.channel)) t).store = t.store := fun l t =>
    eachOf_holds (fun u => u.pending = t.pending ∧ u.clock = t.clock ∧ u.exchange = t.exchange ∧ u.preempt = t.preempt ∧ u.engine = t.engine ∧ u.control = t.control ∧ u.branches = t.branches ∧ u.prover = t.prover ∧ u.detectors = t.detectors ∧ u.store = t.store) _ (fun x u h => by simpa using h) l t (by simp)
  have k : ∀ (l : List Judged) (t : State), (eachOf l (fun j s => note { kind := j.kind, subject := some j.channel, action := .report, condition := true, latched := (s.tables.output j.channel).latched } s) t).pending = t.pending ∧ (eachOf l (fun j s => note { kind := j.kind, subject := some j.channel, action := .report, condition := true, latched := (s.tables.output j.channel).latched } s) t).clock = t.clock ∧ (eachOf l (fun j s => note { kind := j.kind, subject := some j.channel, action := .report, condition := true, latched := (s.tables.output j.channel).latched } s) t).exchange = t.exchange ∧ (eachOf l (fun j s => note { kind := j.kind, subject := some j.channel, action := .report, condition := true, latched := (s.tables.output j.channel).latched } s) t).preempt = t.preempt ∧ (eachOf l (fun j s => note { kind := j.kind, subject := some j.channel, action := .report, condition := true, latched := (s.tables.output j.channel).latched } s) t).engine = t.engine ∧ (eachOf l (fun j s => note { kind := j.kind, subject := some j.channel, action := .report, condition := true, latched := (s.tables.output j.channel).latched } s) t).control = t.control ∧ (eachOf l (fun j s => note { kind := j.kind, subject := some j.channel, action := .report, condition := true, latched := (s.tables.output j.channel).latched } s) t).branches = t.branches ∧ (eachOf l (fun j s => note { kind := j.kind, subject := some j.channel, action := .report, condition := true, latched := (s.tables.output j.channel).latched } s) t).prover = t.prover ∧ (eachOf l (fun j s => note { kind := j.kind, subject := some j.channel, action := .report, condition := true, latched := (s.tables.output j.channel).latched } s) t).detectors = t.detectors ∧ (eachOf l (fun j s => note { kind := j.kind, subject := some j.channel, action := .report, condition := true, latched := (s.tables.output j.channel).latched } s) t).store = t.store := fun l t =>
    eachOf_holds (fun u => u.pending = t.pending ∧ u.clock = t.clock ∧ u.exchange = t.exchange ∧ u.preempt = t.preempt ∧ u.engine = t.engine ∧ u.control = t.control ∧ u.branches = t.branches ∧ u.prover = t.prover ∧ u.detectors = t.detectors ∧ u.store = t.store) _ (fun x u h => by simpa using h) l t (by simp)
  dsimp only
  simp only [h, k, and_self]

/-- What judging one reading leaves alone: everything but the proving records. -/
@[simp] theorem judgeChannel_frame (currents : List Half) (c : Nat) (x : State × List Judged) :
    (judgeChannel currents c x).1.pending = x.1.pending
      ∧ (judgeChannel currents c x).1.clock = x.1.clock
      ∧ (judgeChannel currents c x).1.event = x.1.event
      ∧ (judgeChannel currents c x).1.link = x.1.link
      ∧ (judgeChannel currents c x).1.exchange = x.1.exchange
      ∧ (judgeChannel currents c x).1.preempt = x.1.preempt
      ∧ (judgeChannel currents c x).1.engine = x.1.engine
      ∧ (judgeChannel currents c x).1.control = x.1.control
      ∧ (judgeChannel currents c x).1.branches = x.1.branches
      ∧ (judgeChannel currents c x).1.detectors = x.1.detectors
      ∧ (judgeChannel currents c x).1.faults = x.1.faults
      ∧ (judgeChannel currents c x).1.store = x.1.store := by
  unfold judgeChannel
  dsimp only
  split <;> simp

/-- What judging a whole report leaves alone: everything but the proving records. -/
@[simp] theorem judgeReport_frame (station : Nat) (currents : List Half) (s : State) :
    (judgeReport station currents s).1.pending = s.pending
      ∧ (judgeReport station currents s).1.clock = s.clock
      ∧ (judgeReport station currents s).1.event = s.event
      ∧ (judgeReport station currents s).1.link = s.link
      ∧ (judgeReport station currents s).1.exchange = s.exchange
      ∧ (judgeReport station currents s).1.preempt = s.preempt
      ∧ (judgeReport station currents s).1.engine = s.engine
      ∧ (judgeReport station currents s).1.control = s.control
      ∧ (judgeReport station currents s).1.branches = s.branches
      ∧ (judgeReport station currents s).1.detectors = s.detectors
      ∧ (judgeReport station currents s).1.faults = s.faults
      ∧ (judgeReport station currents s).1.store = s.store := by
  unfold judgeReport
  generalize s.channelsOfStation station = l
  suffices h : ∀ (x : State × List Judged), (l.foldl (fun x c => judgeChannel currents c x) x).1.pending = x.1.pending ∧ (l.foldl (fun x c => judgeChannel currents c x) x).1.clock = x.1.clock ∧ (l.foldl (fun x c => judgeChannel currents c x) x).1.event = x.1.event ∧ (l.foldl (fun x c => judgeChannel currents c x) x).1.link = x.1.link ∧ (l.foldl (fun x c => judgeChannel currents c x) x).1.exchange = x.1.exchange ∧ (l.foldl (fun x c => judgeChannel currents c x) x).1.preempt = x.1.preempt ∧ (l.foldl (fun x c => judgeChannel currents c x) x).1.engine = x.1.engine ∧ (l.foldl (fun x c => judgeChannel currents c x) x).1.control = x.1.control ∧ (l.foldl (fun x c => judgeChannel currents c x) x).1.branches = x.1.branches ∧ (l.foldl (fun x c => judgeChannel currents c x) x).1.detectors = x.1.detectors ∧ (l.foldl (fun x c => judgeChannel currents c x) x).1.faults = x.1.faults ∧ (l.foldl (fun x c => judgeChannel currents c x) x).1.store = x.1.store from h (s, [])
  induction l with
  | nil => simp
  | cons c l ih =>
    intro x
    simp only [List.foldl_cons, ih]
    simp

/-- What `takeReadings` leaves alone: everything but engine, control, event, link, faults, store, exchange, preempt, prover, and of these what is listed last. -/
@[simp] theorem takeReadings_frame (station : Nat) (currents : List Half) (s : State) :
    (takeReadings station currents s).pending = s.pending
      ∧ (takeReadings station currents s).clock = s.clock
      ∧ (takeReadings station currents s).branches = s.branches
      ∧ (takeReadings station currents s).detectors = s.detectors
      ∧ (takeReadings station currents s).engine.imageNumber = s.engine.imageNumber
      ∧ (takeReadings station currents s).control.maint = s.control.maint
      ∧ (takeReadings station currents s).store.active = s.store.active
      ∧ (takeReadings station currents s).store.generation = s.store.generation
      ∧ (takeReadings station currents s).store.corrected = s.store.corrected
      ∧ (takeReadings station currents s).store.tablesCorrected = s.store.tablesCorrected
      ∧ (takeReadings station currents s).store.valid = s.store.valid
      ∧ (takeReadings station currents s).store.progress = s.store.progress
      ∧ (takeReadings station currents s).store.lastCommit = s.store.lastCommit
      ∧ (takeReadings station currents s).store.nv.words = s.store.nv.words
      ∧ (takeReadings station currents s).store.nv.generation = s.store.nv.generation
      ∧ (takeReadings station currents s).store.nv.check = s.store.nv.check
      ∧ (takeReadings station currents s).store.nv.complete = s.store.nv.complete
      ∧ (takeReadings station currents s).exchange.strikes = s.exchange.strikes
      ∧ (takeReadings station currents s).exchange.imagesAccepted = s.exchange.imagesAccepted
      ∧ (takeReadings station currents s).exchange.imagesRefused = s.exchange.imagesRefused
      ∧ (takeReadings station currents s).preempt.lines = s.preempt.lines := by
  unfold takeReadings
  have h : ∀ (l : List (Nat × Bool)) (t : State), (eachOf l handRed t).pending = t.pending ∧ (eachOf l handRed t).clock = t.clock ∧ (eachOf l handRed t).branches = t.branches ∧ (eachOf l handRed t).detectors = t.detectors ∧ (eachOf l handRed t).engine.imageNumber = t.engine.imageNumber ∧ (eachOf l handRed t).control.maint = t.control.maint ∧ (eachOf l handRed t).store.active = t.store.active ∧ (eachOf l handRed t).store.generation = t.store.generation ∧ (eachOf l handRed t).store.corrected = t.store.corrected ∧ (eachOf l handRed t).store.tablesCorrected = t.store.tablesCorrected ∧ (eachOf l handRed t).store.valid = t.store.valid ∧ (eachOf l handRed t).store.progress = t.store.progress ∧ (eachOf l handRed t).store.lastCommit = t.store.lastCommit ∧ (eachOf l handRed t).store.nv.words = t.store.nv.words ∧ (eachOf l handRed t).store.nv.generation = t.store.nv.generation ∧ (eachOf l handRed t).store.nv.check = t.store.nv.check ∧ (eachOf l handRed t).store.nv.complete = t.store.nv.complete ∧ (eachOf l handRed t).exchange.strikes = t.exchange.strikes ∧ (eachOf l handRed t).exchange.imagesAccepted = t.exchange.imagesAccepted ∧ (eachOf l handRed t).exchange.imagesRefused = t.exchange.imagesRefused ∧ (eachOf l handRed t).preempt.lines = t.preempt.lines := fun l t =>
    eachOf_holds (fun u => u.pending = t.pending ∧ u.clock = t.clock ∧ u.branches = t.branches ∧ u.detectors = t.detectors ∧ u.engine.imageNumber = t.engine.imageNumber ∧ u.control.maint = t.control.maint ∧ u.store.active = t.store.active ∧ u.store.generation = t.store.generation ∧ u.store.corrected = t.store.corrected ∧ u.store.tablesCorrected = t.store.tablesCorrected ∧ u.store.valid = t.store.valid ∧ u.store.progress = t.store.progress ∧ u.store.lastCommit = t.store.lastCommit ∧ u.store.nv.words = t.store.nv.words ∧ u.store.nv.generation = t.store.nv.generation ∧ u.store.nv.check = t.store.nv.check ∧ u.store.nv.complete = t.store.nv.complete ∧ u.exchange.strikes = t.exchange.strikes ∧ u.exchange.imagesAccepted = t.exchange.imagesAccepted ∧ u.exchange.imagesRefused = t.exchange.imagesRefused ∧ u.preempt.lines = t.preempt.lines) _ (fun x u h => by simpa using h) l t (by simp)
  have k : ∀ (l : List Nat) (t : State), (eachOf l (fun g => raise (fieldConflictRaise g)) t).pending = t.pending ∧ (eachOf l (fun g => raise (fieldConflictRaise g)) t).clock = t.clock ∧ (eachOf l (fun g => raise (fieldConflictRaise g)) t).branches = t.branches ∧ (eachOf l (fun g => raise (fieldConflictRaise g)) t).detectors = t.detectors ∧ (eachOf l (fun g => raise (fieldConflictRaise g)) t).engine.imageNumber = t.engine.imageNumber ∧ (eachOf l (fun g => raise (fieldConflictRaise g)) t).control.maint = t.control.maint ∧ (eachOf l (fun g => raise (fieldConflictRaise g)) t).store.active = t.store.active ∧ (eachOf l (fun g => raise (fieldConflictRaise g)) t).store.generation = t.store.generation ∧ (eachOf l (fun g => raise (fieldConflictRaise g)) t).store.corrected = t.store.corrected ∧ (eachOf l (fun g => raise (fieldConflictRaise g)) t).store.tablesCorrected = t.store.tablesCorrected ∧ (eachOf l (fun g => raise (fieldConflictRaise g)) t).store.valid = t.store.valid ∧ (eachOf l (fun g => raise (fieldConflictRaise g)) t).store.progress = t.store.progress ∧ (eachOf l (fun g => raise (fieldConflictRaise g)) t).store.lastCommit = t.store.lastCommit ∧ (eachOf l (fun g => raise (fieldConflictRaise g)) t).store.nv.words = t.store.nv.words ∧ (eachOf l (fun g => raise (fieldConflictRaise g)) t).store.nv.generation = t.store.nv.generation ∧ (eachOf l (fun g => raise (fieldConflictRaise g)) t).store.nv.check = t.store.nv.check ∧ (eachOf l (fun g => raise (fieldConflictRaise g)) t).store.nv.complete = t.store.nv.complete ∧ (eachOf l (fun g => raise (fieldConflictRaise g)) t).exchange.strikes = t.exchange.strikes ∧ (eachOf l (fun g => raise (fieldConflictRaise g)) t).exchange.imagesAccepted = t.exchange.imagesAccepted ∧ (eachOf l (fun g => raise (fieldConflictRaise g)) t).exchange.imagesRefused = t.exchange.imagesRefused ∧ (eachOf l (fun g => raise (fieldConflictRaise g)) t).preempt.lines = t.preempt.lines := fun l t =>
    eachOf_holds (fun u => u.pending = t.pending ∧ u.clock = t.clock ∧ u.branches = t.branches ∧ u.detectors = t.detectors ∧ u.engine.imageNumber = t.engine.imageNumber ∧ u.control.maint = t.control.maint ∧ u.store.active = t.store.active ∧ u.store.generation = t.store.generation ∧ u.store.corrected = t.store.corrected ∧ u.store.tablesCorrected = t.store.tablesCorrected ∧ u.store.valid = t.store.valid ∧ u.store.progress = t.store.progress ∧ u.store.lastCommit = t.store.lastCommit ∧ u.store.nv.words = t.store.nv.words ∧ u.store.nv.generation = t.store.nv.generation ∧ u.store.nv.check = t.store.nv.check ∧ u.store.nv.complete = t.store.nv.complete ∧ u.exchange.strikes = t.exchange.strikes ∧ u.exchange.imagesAccepted = t.exchange.imagesAccepted ∧ u.exchange.imagesRefused = t.exchange.imagesRefused ∧ u.preempt.lines = t.preempt.lines) _ (fun x u h => by simpa using h) l t (by simp)
  dsimp only
  simp [h, k]

/-- What `proveReport` leaves alone: everything but engine, control, event, link, faults, store, exchange, preempt, prover, and of these what is listed last. -/
@[simp] theorem proveReport_frame (br : BranchId) (station : Nat) (applied : Option Byte) (currents : List Half) (s : State) :
    (proveReport br station applied currents s).pending = s.pending
      ∧ (proveReport br station applied currents s).clock = s.clock
      ∧ (proveReport br station applied currents s).branches = s.branches
      ∧ (proveReport br station applied currents s).detectors = s.detectors
      ∧ (proveReport br station applied currents s).engine.imageNumber = s.engine.imageNumber
      ∧ (proveReport br station applied currents s).control.maint = s.control.maint
      ∧ (proveReport br station applied currents s).store.active = s.store.active
      ∧ (proveReport br station applied currents s).store.generation = s.store.generation
      ∧ (proveReport br station applied currents s).store.corrected = s.store.corrected
      ∧ (proveReport br station applied currents s).store.tablesCorrected = s.store.tablesCorrected
      ∧ (proveReport br station applied currents s).store.valid = s.store.valid
      ∧ (proveReport br station applied currents s).store.progress = s.store.progress
      ∧ (proveReport br station applied currents s).store.lastCommit = s.store.lastCommit
      ∧ (proveReport br station applied currents s).store.nv.words = s.store.nv.words
      ∧ (proveReport br station applied currents s).store.nv.generation = s.store.nv.generation
      ∧ (proveReport br station applied currents s).store.nv.check = s.store.nv.check
      ∧ (proveReport br station applied currents s).store.nv.complete = s.store.nv.complete
      ∧ (proveReport br station applied currents s).exchange.strikes = s.exchange.strikes
      ∧ (proveReport br station applied currents s).exchange.imagesAccepted = s.exchange.imagesAccepted
      ∧ (proveReport br station applied currents s).exchange.imagesRefused = s.exchange.imagesRefused
      ∧ (proveReport br station applied currents s).preempt.lines = s.preempt.lines := by
  unfold proveReport
  try dsimp only
  repeat' split
  all_goals simp

/-- What `lagMatched` leaves alone: everything but branches, link, faults. -/
@[simp] theorem lagMatched_frame (br : BranchId) (l : Liveness) (s : State) :
    (lagMatched br l s).pending = s.pending
      ∧ (lagMatched br l s).clock = s.clock
      ∧ (lagMatched br l s).event = s.event
      ∧ (lagMatched br l s).exchange = s.exchange
      ∧ (lagMatched br l s).preempt = s.preempt
      ∧ (lagMatched br l s).engine = s.engine
      ∧ (lagMatched br l s).control = s.control
      ∧ (lagMatched br l s).prover = s.prover
      ∧ (lagMatched br l s).detectors = s.detectors
      ∧ (lagMatched br l s).store = s.store := by
  unfold lagMatched
  try dsimp only
  repeat' split
  all_goals simp

/-- What `lagMissed` leaves alone: everything but engine, control, event, link, faults, store, exchange, preempt, prover, branches, and of these what is listed last. -/
@[simp] theorem lagMissed_frame (br : BranchId) (l : Liveness) (s : State) :
    (lagMissed br l s).pending = s.pending
      ∧ (lagMissed br l s).clock = s.clock
      ∧ (lagMissed br l s).detectors = s.detectors
      ∧ (lagMissed br l s).engine.imageNumber = s.engine.imageNumber
      ∧ (lagMissed br l s).control.maint = s.control.maint
      ∧ (lagMissed br l s).store.active = s.store.active
      ∧ (lagMissed br l s).store.generation = s.store.generation
      ∧ (lagMissed br l s).store.corrected = s.store.corrected
      ∧ (lagMissed br l s).store.tablesCorrected = s.store.tablesCorrected
      ∧ (lagMissed br l s).store.valid = s.store.valid
      ∧ (lagMissed br l s).store.progress = s.store.progress
      ∧ (lagMissed br l s).store.lastCommit = s.store.lastCommit
      ∧ (lagMissed br l s).store.nv.words = s.store.nv.words
      ∧ (lagMissed br l s).store.nv.generation = s.store.nv.generation
      ∧ (lagMissed br l s).store.nv.check = s.store.nv.check
      ∧ (lagMissed br l s).store.nv.complete = s.store.nv.complete
      ∧ (lagMissed br l s).exchange.strikes = s.exchange.strikes
      ∧ (lagMissed br l s).exchange.imagesAccepted = s.exchange.imagesAccepted
      ∧ (lagMissed br l s).exchange.imagesRefused = s.exchange.imagesRefused
      ∧ (lagMissed br l s).preempt.lines = s.preempt.lines := by
  unfold lagMissed
  try dsimp only
  repeat' split
  all_goals simp

/-- What `countLag` leaves alone: everything but engine, control, event, link, faults, store, exchange, preempt, prover, branches, and of these what is listed last. -/
@[simp] theorem countLag_frame (br : BranchId) (station : Nat) (applied : Option Byte) (s : State) :
    (countLag br station applied s).pending = s.pending
      ∧ (countLag br station applied s).clock = s.clock
      ∧ (countLag br station applied s).detectors = s.detectors
      ∧ (countLag br station applied s).engine.imageNumber = s.engine.imageNumber
      ∧ (countLag br station applied s).control.maint = s.control.maint
      ∧ (countLag br station applied s).store.active = s.store.active
      ∧ (countLag br station applied s).store.generation = s.store.generation
      ∧ (countLag br station applied s).store.corrected = s.store.corrected
      ∧ (countLag br station applied s).store.tablesCorrected = s.store.tablesCorrected
      ∧ (countLag br station applied s).store.valid = s.store.valid
      ∧ (countLag br station applied s).store.progress = s.store.progress
      ∧ (countLag br station applied s).store.lastCommit = s.store.lastCommit
      ∧ (countLag br station applied s).store.nv.words = s.store.nv.words
      ∧ (countLag br station applied s).store.nv.generation = s.store.nv.generation
      ∧ (countLag br station applied s).store.nv.check = s.store.nv.check
      ∧ (countLag br station applied s).store.nv.complete = s.store.nv.complete
      ∧ (countLag br station applied s).exchange.strikes = s.exchange.strikes
      ∧ (countLag br station applied s).exchange.imagesAccepted = s.exchange.imagesAccepted
      ∧ (countLag br station applied s).exchange.imagesRefused = s.exchange.imagesRefused
      ∧ (countLag br station applied s).preempt.lines = s.preempt.lines := by
  unfold countLag
  try dsimp only
  repeat' split
  all_goals simp

/-- What `await` leaves alone: everything but branches. -/
@[simp] theorem await_frame (br : BranchId) (station : Nat) (tag : Option Byte) (ms : Nat) (s : State) :
    (await br station tag ms s).pending = s.pending
      ∧ (await br station tag ms s).clock = s.clock
      ∧ (await br station tag ms s).event = s.event
      ∧ (await br station tag ms s).link = s.link
      ∧ (await br station tag ms s).exchange = s.exchange
      ∧ (await br station tag ms s).preempt = s.preempt
      ∧ (await br station tag ms s).engine = s.engine
      ∧ (await br station tag ms s).control = s.control
      ∧ (await br station tag ms s).prover = s.prover
      ∧ (await br station tag ms s).detectors = s.detectors
      ∧ (await br station tag ms s).faults = s.faults
      ∧ (await br station tag ms s).store = s.store := by simp [await]

/-- What `endTransmission` leaves alone: everything but branches, prover. -/
@[simp] theorem endTransmission_frame (br : BranchId) (f : BranchFrame) (s : State) :
    (endTransmission br f s).pending = s.pending
      ∧ (endTransmission br f s).clock = s.clock
      ∧ (endTransmission br f s).event = s.event
      ∧ (endTransmission br f s).link = s.link
      ∧ (endTransmission br f s).exchange = s.exchange
      ∧ (endTransmission br f s).preempt = s.preempt
      ∧ (endTransmission br f s).engine = s.engine
      ∧ (endTransmission br f s).control = s.control
      ∧ (endTransmission br f s).detectors = s.detectors
      ∧ (endTransmission br f s).faults = s.faults
      ∧ (endTransmission br f s).store = s.store := by
  unfold endTransmission
  try dsimp only
  repeat' split
  all_goals simp

/-- What `receivedOn` leaves alone: everything but branches. -/
@[simp] theorem receivedOn_frame (br : BranchId) (s : State) :
    (receivedOn br s).pending = s.pending
      ∧ (receivedOn br s).clock = s.clock
      ∧ (receivedOn br s).event = s.event
      ∧ (receivedOn br s).link = s.link
      ∧ (receivedOn br s).exchange = s.exchange
      ∧ (receivedOn br s).preempt = s.preempt
      ∧ (receivedOn br s).engine = s.engine
      ∧ (receivedOn br s).control = s.control
      ∧ (receivedOn br s).prover = s.prover
      ∧ (receivedOn br s).detectors = s.detectors
      ∧ (receivedOn br s).faults = s.faults
      ∧ (receivedOn br s).store = s.store := by simp [receivedOn]

/-- What `endWait` leaves alone: everything but branches. -/
@[simp] theorem endWait_frame (br : BranchId) (s : State) :
    (endWait br s).pending = s.pending
      ∧ (endWait br s).clock = s.clock
      ∧ (endWait br s).event = s.event
      ∧ (endWait br s).link = s.link
      ∧ (endWait br s).exchange = s.exchange
      ∧ (endWait br s).preempt = s.preempt
      ∧ (endWait br s).engine = s.engine
      ∧ (endWait br s).control = s.control
      ∧ (endWait br s).prover = s.prover
      ∧ (endWait br s).detectors = s.detectors
      ∧ (endWait br s).faults = s.faults
      ∧ (endWait br s).store = s.store := by simp [endWait]

/-- What `pollAnswered` leaves alone: everything but branches, link, faults. -/
@[simp] theorem pollAnswered_frame (br : BranchId) (station : Nat) (s : State) :
    (pollAnswered br station s).pending = s.pending
      ∧ (pollAnswered br station s).clock = s.clock
      ∧ (pollAnswered br station s).event = s.event
      ∧ (pollAnswered br station s).exchange = s.exchange
      ∧ (pollAnswered br station s).preempt = s.preempt
      ∧ (pollAnswered br station s).engine = s.engine
      ∧ (pollAnswered br station s).control = s.control
      ∧ (pollAnswered br station s).prover = s.prover
      ∧ (pollAnswered br station s).detectors = s.detectors
      ∧ (pollAnswered br station s).store = s.store := by
  unfold pollAnswered
  try dsimp only
  repeat' split
  all_goals simp

/-- What `becomeAbsent` leaves alone: everything but engine, control, event, link, faults, store, exchange, preempt, prover, branches, detectors, and of these what is listed last. -/
@[simp] theorem becomeAbsent_frame (br : BranchId) (station : Nat) (s : State) :
    (becomeAbsent br station s).pending = s.pending
      ∧ (becomeAbsent br station s).clock = s.clock
      ∧ (becomeAbsent br station s).engine.imageNumber = s.engine.imageNumber
      ∧ (becomeAbsent br station s).control.maint = s.control.maint
      ∧ (becomeAbsent br station s).store.active = s.store.active
      ∧ (becomeAbsent br station s).store.generation = s.store.generation
      ∧ (becomeAbsent br station s).store.corrected = s.store.corrected
      ∧ (becomeAbsent br station s).store.tablesCorrected = s.store.tablesCorrected
      ∧ (becomeAbsent br station s).store.valid = s.store.valid
      ∧ (becomeAbsent br station s).store.progress = s.store.progress
      ∧ (becomeAbsent br station s).store.lastCommit = s.store.lastCommit
      ∧ (becomeAbsent br station s).store.nv.words = s.store.nv.words
      ∧ (becomeAbsent br station s).store.nv.generation = s.store.nv.generation
      ∧ (becomeAbsent br station s).store.nv.check = s.store.nv.check
      ∧ (becomeAbsent br station s).store.nv.complete = s.store.nv.complete
      ∧ (becomeAbsent br station s).exchange.strikes = s.exchange.strikes
      ∧ (becomeAbsent br station s).exchange.imagesAccepted = s.exchange.imagesAccepted
      ∧ (becomeAbsent br station s).exchange.imagesRefused = s.exchange.imagesRefused
      ∧ (becomeAbsent br station s).preempt.lines = s.preempt.lines := by
  unfold becomeAbsent
  try dsimp only
  repeat' split
  all_goals simp

/-- What `pollMissed` leaves alone: everything but engine, control, event, link, faults, store, exchange, preempt, prover, branches, detectors, and of these what is listed last. -/
@[simp] theorem pollMissed_frame (br : BranchId) (station : Nat) (s : State) :
    (pollMissed br station s).pending = s.pending
      ∧ (pollMissed br station s).clock = s.clock
      ∧ (pollMissed br station s).engine.imageNumber = s.engine.imageNumber
      ∧ (pollMissed br station s).control.maint = s.control.maint
      ∧ (pollMissed br station s).store.active = s.store.active
      ∧ (pollMissed br station s).store.generation = s.store.generation
      ∧ (pollMissed br station s).store.corrected = s.store.corrected
      ∧ (pollMissed br station s).store.tablesCorrected = s.store.tablesCorrected
      ∧ (pollMissed br station s).store.valid = s.store.valid
      ∧ (pollMissed br station s).store.progress = s.store.progress
      ∧ (pollMissed br station s).store.lastCommit = s.store.lastCommit
      ∧ (pollMissed br station s).store.nv.words = s.store.nv.words
      ∧ (pollMissed br station s).store.nv.generation = s.store.nv.generation
      ∧ (pollMissed br station s).store.nv.check = s.store.nv.check
      ∧ (pollMissed br station s).store.nv.complete = s.store.nv.complete
      ∧ (pollMissed br station s).exchange.strikes = s.exchange.strikes
      ∧ (pollMissed br station s).exchange.imagesAccepted = s.exchange.imagesAccepted
      ∧ (pollMissed br station s).exchange.imagesRefused = s.exchange.imagesRefused
      ∧ (pollMissed br station s).preempt.lines = s.preempt.lines := by
  unfold pollMissed
  try dsimp only
  repeat' split
  all_goals simp

end Sys2Proof.Machine
end

