-- ==== Sys2Proof/Laws/Events.lean ====
section
/-! SUPPORT. What the own effects of the other commands leave alone before their conclusion. -/

namespace Sys2Proof.Machine

/-- What `superviseClose` leaves alone: everything but engine, control, event, link, faults, store, exchange, preempt, prover, and of these what is listed last. -/
@[simp] theorem superviseClose_frame (s : State) :
    (superviseClose s).pending = s.pending
      ∧ (superviseClose s).clock = s.clock
      ∧ (superviseClose s).branches = s.branches
      ∧ (superviseClose s).detectors = s.detectors
      ∧ (superviseClose s).engine.imageNumber = s.engine.imageNumber
      ∧ (superviseClose s).control.maint = s.control.maint
      ∧ (superviseClose s).store.active = s.store.active
      ∧ (superviseClose s).store.generation = s.store.generation
      ∧ (superviseClose s).store.corrected = s.store.corrected
      ∧ (superviseClose s).store.tablesCorrected = s.store.tablesCorrected
      ∧ (superviseClose s).store.valid = s.store.valid
      ∧ (superviseClose s).store.progress = s.store.progress
      ∧ (superviseClose s).store.lastCommit = s.store.lastCommit
      ∧ (superviseClose s).store.nv.words = s.store.nv.words
      ∧ (superviseClose s).store.nv.generation = s.store.nv.generation
      ∧ (superviseClose s).store.nv.check = s.store.nv.check
      ∧ (superviseClose s).store.nv.complete = s.store.nv.complete
      ∧ (superviseClose s).exchange.imagesAccepted = s.exchange.imagesAccepted
      ∧ (superviseClose s).exchange.imagesRefused = s.exchange.imagesRefused
      ∧ (superviseClose s).preempt.lines = s.preempt.lines := by simp [superviseClose]

/-- What `keepImage` leaves alone: everything but exchange, preempt, and of these what is listed last. -/
@[simp] theorem keepImage_frame (chain : Half) (next : Half) (inhibit : Byte) (targets : BitVec 48) (s : State) :
    (keepImage chain next inhibit targets s).pending = s.pending
      ∧ (keepImage chain next inhibit targets s).clock = s.clock
      ∧ (keepImage chain next inhibit targets s).event = s.event
      ∧ (keepImage chain next inhibit targets s).link = s.link
      ∧ (keepImage chain next inhibit targets s).engine = s.engine
      ∧ (keepImage chain next inhibit targets s).control = s.control
      ∧ (keepImage chain next inhibit targets s).branches = s.branches
      ∧ (keepImage chain next inhibit targets s).prover = s.prover
      ∧ (keepImage chain next inhibit targets s).detectors = s.detectors
      ∧ (keepImage chain next inhibit targets s).faults = s.faults
      ∧ (keepImage chain next inhibit targets s).store = s.store
      ∧ (keepImage chain next inhibit targets s).exchange.strikes = s.exchange.strikes
      ∧ (keepImage chain next inhibit targets s).exchange.imagesRefused = s.exchange.imagesRefused
      ∧ (keepImage chain next inhibit targets s).preempt.lines = s.preempt.lines := by simp [keepImage]

/-- What `acceptImage` leaves alone: everything but control, event, link, faults, exchange, preempt, and of these what is listed last. -/
@[simp] theorem acceptImage_frame (chain : Half) (next : Half) (inhibit : Byte) (targets : BitVec 48) (s : State) :
    (acceptImage chain next inhibit targets s).pending = s.pending
      ∧ (acceptImage chain next inhibit targets s).clock = s.clock
      ∧ (acceptImage chain next inhibit targets s).engine = s.engine
      ∧ (acceptImage chain next inhibit targets s).branches = s.branches
      ∧ (acceptImage chain next inhibit targets s).prover = s.prover
      ∧ (acceptImage chain next inhibit targets s).detectors = s.detectors
      ∧ (acceptImage chain next inhibit targets s).store = s.store
      ∧ (acceptImage chain next inhibit targets s).control.maint = s.control.maint
      ∧ (acceptImage chain next inhibit targets s).exchange.strikes = s.exchange.strikes
      ∧ (acceptImage chain next inhibit targets s).exchange.imagesRefused = s.exchange.imagesRefused
      ∧ (acceptImage chain next inhibit targets s).preempt.lines = s.preempt.lines := by
  unfold acceptImage
  try dsimp only
  repeat' split
  all_goals simp

/-- What `refuseImage` leaves alone: everything but event, link, faults, exchange, and of these what is listed last. -/
@[simp] theorem refuseImage_frame (result : Result) (s : State) :
    (refuseImage result s).pending = s.pending
      ∧ (refuseImage result s).clock = s.clock
      ∧ (refuseImage result s).preempt = s.preempt
      ∧ (refuseImage result s).engine = s.engine
      ∧ (refuseImage result s).control = s.control
      ∧ (refuseImage result s).branches = s.branches
      ∧ (refuseImage result s).prover = s.prover
      ∧ (refuseImage result s).detectors = s.detectors
      ∧ (refuseImage result s).store = s.store
      ∧ (refuseImage result s).exchange.strikes = s.exchange.strikes
      ∧ (refuseImage result s).exchange.imagesAccepted = s.exchange.imagesAccepted := by
  unfold refuseImage
  try dsimp only
  repeat' split
  all_goals simp

/-- What `fillSlot` leaves alone: everything but preempt, link, faults, event, and of these what is listed last. -/
@[simp] theorem fillSlot_frame (p : Nat) (s : State) :
    (fillSlot p s).pending = s.pending
      ∧ (fillSlot p s).clock = s.clock
      ∧ (fillSlot p s).exchange = s.exchange
      ∧ (fillSlot p s).engine = s.engine
      ∧ (fillSlot p s).control = s.control
      ∧ (fillSlot p s).branches = s.branches
      ∧ (fillSlot p s).prover = s.prover
      ∧ (fillSlot p s).detectors = s.detectors
      ∧ (fillSlot p s).store = s.store
      ∧ (fillSlot p s).preempt.lines = s.preempt.lines := by simp [fillSlot]

/-- What `cancelPlan` leaves alone: everything but preempt, link, faults, event, and of these what is listed last. -/
@[simp] theorem cancelPlan_frame (p : Nat) (s : State) :
    (cancelPlan p s).pending = s.pending
      ∧ (cancelPlan p s).clock = s.clock
      ∧ (cancelPlan p s).exchange = s.exchange
      ∧ (cancelPlan p s).engine = s.engine
      ∧ (cancelPlan p s).control = s.control
      ∧ (cancelPlan p s).branches = s.branches
      ∧ (cancelPlan p s).prover = s.prover
      ∧ (cancelPlan p s).detectors = s.detectors
      ∧ (cancelPlan p s).store = s.store
      ∧ (cancelPlan p s).preempt.lines = s.preempt.lines := by
  unfold cancelPlan
  try dsimp only
  repeat' split
  all_goals simp

/-- What `timeOut` leaves alone: everything but preempt, link, faults, event, and of these what is listed last. -/
@[simp] theorem timeOut_frame (p : Nat) (s : State) :
    (timeOut p s).pending = s.pending
      ∧ (timeOut p s).clock = s.clock
      ∧ (timeOut p s).exchange = s.exchange
      ∧ (timeOut p s).engine = s.engine
      ∧ (timeOut p s).control = s.control
      ∧ (timeOut p s).branches = s.branches
      ∧ (timeOut p s).prover = s.prover
      ∧ (timeOut p s).detectors = s.detectors
      ∧ (timeOut p s).store = s.store
      ∧ (timeOut p s).preempt.lines = s.preempt.lines := by simp [timeOut]

/-- What `afterTimeOut` leaves alone: everything but preempt, link, faults, event, and of these what is listed last. -/
@[simp] theorem afterTimeOut_frame (wasTop : Bool) (s : State) :
    (afterTimeOut wasTop s).pending = s.pending
      ∧ (afterTimeOut wasTop s).clock = s.clock
      ∧ (afterTimeOut wasTop s).exchange = s.exchange
      ∧ (afterTimeOut wasTop s).engine = s.engine
      ∧ (afterTimeOut wasTop s).control = s.control
      ∧ (afterTimeOut wasTop s).branches = s.branches
      ∧ (afterTimeOut wasTop s).prover = s.prover
      ∧ (afterTimeOut wasTop s).detectors = s.detectors
      ∧ (afterTimeOut wasTop s).store = s.store
      ∧ (afterTimeOut wasTop s).preempt.lines = s.preempt.lines := by
  unfold afterTimeOut
  try dsimp only
  repeat' split
  all_goals simp

/-- What `endInvalid` leaves alone: everything but link, faults. -/
@[simp] theorem endInvalid_frame (s : State) :
    (endInvalid s).pending = s.pending
      ∧ (endInvalid s).clock = s.clock
      ∧ (endInvalid s).event = s.event
      ∧ (endInvalid s).exchange = s.exchange
      ∧ (endInvalid s).preempt = s.preempt
      ∧ (endInvalid s).engine = s.engine
      ∧ (endInvalid s).control = s.control
      ∧ (endInvalid s).branches = s.branches
      ∧ (endInvalid s).prover = s.prover
      ∧ (endInvalid s).detectors = s.detectors
      ∧ (endInvalid s).store = s.store := by
  unfold endInvalid
  try dsimp only
  repeat' split
  all_goals simp

/-- What `takeLoaded` leaves alone: everything but engine, branches, detectors, preempt, and of these what is listed last. -/
@[simp] theorem takeLoaded_frame (s : State) :
    (takeLoaded s).pending = s.pending
      ∧ (takeLoaded s).clock = s.clock
      ∧ (takeLoaded s).event = s.event
      ∧ (takeLoaded s).link = s.link
      ∧ (takeLoaded s).exchange = s.exchange
      ∧ (takeLoaded s).control = s.control
      ∧ (takeLoaded s).prover = s.prover
      ∧ (takeLoaded s).faults = s.faults
      ∧ (takeLoaded s).store = s.store
      ∧ (takeLoaded s).engine.imageNumber = s.engine.imageNumber
      ∧ (takeLoaded s).preempt.lines = s.preempt.lines := by simp [takeLoaded]

/-- What `takeCommitted` leaves alone: everything but engine, branches, detectors, preempt, prover, link, faults, event, and of these what is listed last. -/
@[simp] theorem takeCommitted_frame (s : State) :
    (takeCommitted s).pending = s.pending
      ∧ (takeCommitted s).clock = s.clock
      ∧ (takeCommitted s).exchange = s.exchange
      ∧ (takeCommitted s).control = s.control
      ∧ (takeCommitted s).store = s.store
      ∧ (takeCommitted s).engine.imageNumber = s.engine.imageNumber
      ∧ (takeCommitted s).preempt.lines = s.preempt.lines := by simp [takeCommitted]

/-- What `reportLoad` leaves alone: everything but engine, control, event, link, faults, store, exchange, preempt, prover, and of these what is listed last. -/
@[simp] theorem reportLoad_frame (s : State) :
    (reportLoad s).pending = s.pending
      ∧ (reportLoad s).clock = s.clock
      ∧ (reportLoad s).branches = s.branches
      ∧ (reportLoad s).detectors = s.detectors
      ∧ (reportLoad s).engine.imageNumber = s.engine.imageNumber
      ∧ (reportLoad s).control.maint = s.control.maint
      ∧ (reportLoad s).store.active = s.store.active
      ∧ (reportLoad s).store.generation = s.store.generation
      ∧ (reportLoad s).store.corrected = s.store.corrected
      ∧ (reportLoad s).store.tablesCorrected = s.store.tablesCorrected
      ∧ (reportLoad s).store.valid = s.store.valid
      ∧ (reportLoad s).store.progress = s.store.progress
      ∧ (reportLoad s).store.lastCommit = s.store.lastCommit
      ∧ (reportLoad s).store.nv.words = s.store.nv.words
      ∧ (reportLoad s).store.nv.generation = s.store.nv.generation
      ∧ (reportLoad s).store.nv.check = s.store.nv.check
      ∧ (reportLoad s).store.nv.complete = s.store.nv.complete
      ∧ (reportLoad s).exchange.strikes = s.exchange.strikes
      ∧ (reportLoad s).exchange.imagesAccepted = s.exchange.imagesAccepted
      ∧ (reportLoad s).exchange.imagesRefused = s.exchange.imagesRefused
      ∧ (reportLoad s).preempt.lines = s.preempt.lines := by
  unfold reportLoad
  try dsimp only
  repeat' split
  all_goals simp

/-- What `leaveLoading` leaves alone: everything but control, event, link, faults, store, and of these what is listed last. -/
@[simp] theorem leaveLoading_frame (s : State) :
    (leaveLoading s).pending = s.pending
      ∧ (leaveLoading s).clock = s.clock
      ∧ (leaveLoading s).exchange = s.exchange
      ∧ (leaveLoading s).preempt = s.preempt
      ∧ (leaveLoading s).engine = s.engine
      ∧ (leaveLoading s).branches = s.branches
      ∧ (leaveLoading s).prover = s.prover
      ∧ (leaveLoading s).detectors = s.detectors
      ∧ (leaveLoading s).control.maint = s.control.maint
      ∧ (leaveLoading s).store.active = s.store.active
      ∧ (leaveLoading s).store.generation = s.store.generation
      ∧ (leaveLoading s).store.corrected = s.store.corrected
      ∧ (leaveLoading s).store.tablesCorrected = s.store.tablesCorrected
      ∧ (leaveLoading s).store.valid = s.store.valid
      ∧ (leaveLoading s).store.progress = s.store.progress
      ∧ (leaveLoading s).store.lastCommit = s.store.lastCommit
      ∧ (leaveLoading s).store.nv.words = s.store.nv.words
      ∧ (leaveLoading s).store.nv.generation = s.store.nv.generation
      ∧ (leaveLoading s).store.nv.check = s.store.nv.check
      ∧ (leaveLoading s).store.nv.complete = s.store.nv.complete := by
  unfold leaveLoading
  try dsimp only
  repeat' split
  all_goals simp

/-- What `clearLatched` leaves alone: everything but engine, control, event, link, faults, store, exchange, preempt, prover, and of these what is listed last. -/
@[simp] theorem clearLatched_frame (s : State) :
    (clearLatched s).pending = s.pending
      ∧ (clearLatched s).clock = s.clock
      ∧ (clearLatched s).branches = s.branches
      ∧ (clearLatched s).detectors = s.detectors
      ∧ (clearLatched s).engine.imageNumber = s.engine.imageNumber
      ∧ (clearLatched s).control.maint = s.control.maint
      ∧ (clearLatched s).store.active = s.store.active
      ∧ (clearLatched s).store.generation = s.store.generation
      ∧ (clearLatched s).store.corrected = s.store.corrected
      ∧ (clearLatched s).store.tablesCorrected = s.store.tablesCorrected
      ∧ (clearLatched s).store.valid = s.store.valid
      ∧ (clearLatched s).store.progress = s.store.progress
      ∧ (clearLatched s).store.lastCommit = s.store.lastCommit
      ∧ (clearLatched s).store.nv.words = s.store.nv.words
      ∧ (clearLatched s).store.nv.generation = s.store.nv.generation
      ∧ (clearLatched s).store.nv.check = s.store.nv.check
      ∧ (clearLatched s).store.nv.complete = s.store.nv.complete
      ∧ (clearLatched s).exchange.strikes = s.exchange.strikes
      ∧ (clearLatched s).exchange.imagesAccepted = s.exchange.imagesAccepted
      ∧ (clearLatched s).exchange.imagesRefused = s.exchange.imagesRefused
      ∧ (clearLatched s).preempt.lines = s.preempt.lines := by
  have h : ∀ (l : List Nat) (t : State), (eachOf l clearChannel t).pending = t.pending ∧ (eachOf l clearChannel t).clock = t.clock ∧ (eachOf l clearChannel t).event = t.event ∧ (eachOf l clearChannel t).exchange = t.exchange ∧ (eachOf l clearChannel t).preempt = t.preempt ∧ (eachOf l clearChannel t).engine = t.engine ∧ (eachOf l clearChannel t).control = t.control ∧ (eachOf l clearChannel t).branches = t.branches ∧ (eachOf l clearChannel t).detectors = t.detectors ∧ (eachOf l clearChannel t).store = t.store := fun l t =>
    eachOf_holds (fun u => u.pending = t.pending ∧ u.clock = t.clock ∧ u.event = t.event ∧ u.exchange = t.exchange ∧ u.preempt = t.preempt ∧ u.engine = t.engine ∧ u.control = t.control ∧ u.branches = t.branches ∧ u.detectors = t.detectors ∧ u.store = t.store) clearChannel (fun x u h => by simpa using h) l t (by simp)
  unfold clearLatched
  dsimp only
  split <;> simp [h]

/-- What `groupExpiry` leaves alone: everything but event. -/
@[simp] theorem groupExpiry_frame (due : State → Nat → Bool) (g : Nat) (s : State) :
    (groupExpiry due g s).pending = s.pending
      ∧ (groupExpiry due g s).clock = s.clock
      ∧ (groupExpiry due g s).link = s.link
      ∧ (groupExpiry due g s).exchange = s.exchange
      ∧ (groupExpiry due g s).preempt = s.preempt
      ∧ (groupExpiry due g s).engine = s.engine
      ∧ (groupExpiry due g s).control = s.control
      ∧ (groupExpiry due g s).branches = s.branches
      ∧ (groupExpiry due g s).prover = s.prover
      ∧ (groupExpiry due g s).detectors = s.detectors
      ∧ (groupExpiry due g s).faults = s.faults
      ∧ (groupExpiry due g s).store = s.store := by
  unfold groupExpiry
  try dsimp only
  repeat' split
  all_goals simp

end Sys2Proof.Machine
end

