-- ==== Sys2Proof/Laws/Calm.lean ====
section
/-! SUPPORT. Calm: while no LAMP_OUT is active, and outside CLOSING, the conclusion of an event changes no mode, no store and nothing of the
image exchange. -/

namespace Sys2Proof.Machine

open Sys2Proof.Safety

/-- The tables in force do not change where the active copy does not. -/
theorem tables_congr {s t : State} (h : t.store.active = s.store.active) : t.tables = s.tables := by
  unfold State.tables; rw [h]

/-- Without LAMP_OUT no channel's record has it. -/
theorem proving_lampOut_of_noLampOut {s : State} (h : noLampOut s = true) (c : Nat) : (s.proving c).lampOut = false := by
  unfold State.proving entryD entry?
  split
  · rfl
  · cases hc : s.prover.channels[c - 1]? with
    | none => rfl
    | some x =>
      have := List.all_eq_true.mp h x (List.mem_of_getElem? hc)
      simpa using this

/-- Without LAMP_OUT no group's red-failure condition holds (R134). -/
theorem redOut_of_noLampOut {s : State} (h : noLampOut s = true) (g : Nat) : s.redOut g = false := by
  unfold State.redOut
  dsimp only
  generalize (numberedEntries s.tables.outputs).filter _ = reds
  cases reds with
  | nil => simp
  | cons x xs => simp [proving_lampOut_of_noLampOut h]

/-- The end of RED_FAIL touches no proving record. -/
@[simp] theorem endRedFail_channels (g : Nat) (s : State) : (endRedFail g s).prover.channels = s.prover.channels := by
  unfold endRedFail
  split <;> simp [setRedFail]

/-- Without LAMP_OUT the evaluation of red failure can only end it: nothing but the prover's group states, the queue and the fault list
changes. -/
theorem evaluateReds_calm {s : State} (h : noLampOut s = true) :
    (evaluateReds s).control = s.control ∧ (evaluateReds s).store = s.store
      ∧ (evaluateReds s).exchange = s.exchange ∧ (evaluateReds s).preempt = s.preempt
      ∧ (evaluateReds s).engine = s.engine ∧ (evaluateReds s).event = s.event
      ∧ (evaluateReds s).prover.channels = s.prover.channels := by
  have hdue : ∀ change ∈ s.redDue, change.2 = false := by
    unfold State.redDue
    simp only [List.mem_map]
    rintro - ⟨g, -, rfl⟩
    exact redOut_of_noLampOut h g
  unfold evaluateReds
  generalize s.redDue = due at hdue
  unfold eachOf
  suffices H : ∀ (l : List (Nat × Bool)) (t : State), (∀ change ∈ l, change.2 = false) →
      t.control = s.control ∧ t.store = s.store ∧ t.exchange = s.exchange ∧ t.preempt = s.preempt
        ∧ t.engine = s.engine ∧ t.event = s.event ∧ t.prover.channels = s.prover.channels →
      (fun t : State => t.control = s.control ∧ t.store = s.store ∧ t.exchange = s.exchange ∧ t.preempt = s.preempt
        ∧ t.engine = s.engine ∧ t.event = s.event ∧ t.prover.channels = s.prover.channels)
        (l.foldl (fun acc x => handRed x acc) t) from
    H due s hdue (by simp)
  intro l
  induction l with
  | nil => intro t _ ht; exact ht
  | cons x xs ih =>
    intro t hl ht
    refine ih (handRed x t) (fun c hc => hl c (List.mem_cons_of_mem _ hc)) ?_
    unfold handRed
    rw [hl x List.mem_cons_self]
    simpa using ht

/-- The numbering of an image starts or ends no LAMP_OUT. -/
theorem noLampOut_of_channels {s t : State} (h : t.prover.channels = s.prover.channels) : noLampOut t = noLampOut s := by
  unfold noLampOut; rw [h]

/-- The conclusion of an event in calm: no LAMP_OUT is active and the mode is not CLOSING. -/
theorem conclude_calm {s : State} (h : noLampOut s = true) (hm : s.control.mode ≠ .closing) :
    (conclude s).control = s.control ∧ (conclude s).store = s.store ∧ (conclude s).exchange = s.exchange := by
  have hset : noLampOut (settle roundLimit s) = true := by
    rw [noLampOut_of_channels (s := s) (by simp)]; exact h
  have hclose : closeIfDone (settle roundLimit s) = settle roundLimit s := by
    unfold closeIfDone
    rw [if_neg]
    simpa using fun hh => absurd hh hm
  have hgo : noLampOut (noticeGo (settle roundLimit s)) = true := by
    rw [noLampOut_of_channels (s := settle roundLimit s) (by simp)]; exact hset
  unfold conclude
  rw [hclose]
  have hred := evaluateReds_calm hgo
  simp only [handReports_frame, arbitrateAll_frame, markIfDue_frame, numberImage_frame]
  unfold evaluateShown
  split
  · simp
  · simp [hred]

/-! ### Rest -/

/-- What a group's record shows, whatever its target and note. -/
def face (x : Group) : Aspect × Nat × Nat := (x.shown, x.time, x.clearance)

/-- The faces of the 24 groups. -/
def State.faces (s : State) : List (Aspect × Nat × Nat) := s.engine.groups.map face

/-- A record replaced by one of the same face leaves every face as it is. -/
theorem setGroup_faces {g : Nat} {x : Group} {s : State} (h : face x = face (s.group g)) :
    (setGroup g x s).faces = s.faces := by
  unfold setGroup State.faces
  dsimp only
  unfold changeEntry
  split
  · rfl
  · rename_i hg
    apply List.ext_getElem?
    intro i
    simp only [List.getElem?_map, List.getElem?_modify]
    by_cases hi : g - 1 = i
    · subst hi
      cases hx : s.engine.groups[g - 1]? with
      | none => simp
      | some y =>
        have : s.group g = y := by simp [State.group, entryD, entry?, hg, hx]
        simp [h, this]
    · simp [hi]

/-- The faces give the shown image. -/
theorem shownImage_of_faces {s t : State} (h : t.faces = s.faces) : t.shownImage = s.shownImage := by
  have := congrArg (List.map Prod.fst) h
  simpa [State.faces, State.shownImage, face, Function.comp_def] using this

/-- The faces give each group's shown aspect. -/
theorem shown_of_faces {s t : State} (h : t.faces = s.faces) (g : Nat) : face (t.group g) = face (s.group g) := by
  unfold State.group entryD entry?
  split
  · rfl
  · have := congrArg (fun l => l[g - 1]?) h
    simp only [State.faces, List.getElem?_map] at this
    cases ht : t.engine.groups[g - 1]? <;> cases hs : s.engine.groups[g - 1]? <;> simp_all

/-- In a flash mode that keeps the fourth law every live group is shown FLASH. -/
theorem shown_flash {s : State} (hm : s.control.mode.permit = false) (ha : aspectLaw s = true) {g : Nat}
    (hg : s.tables.live g = true) : s.shown g = .flash := by
  unfold aspectLaw at ha
  simp only [Bool.and_eq_true, decide_eq_true_eq] at ha
  by_cases h24 : g ≤ 24
  · have h1 : 1 ≤ g := by
      simp only [TableSet.live, Bool.and_eq_true, decide_eq_true_eq] at hg; exact hg.1
    have := List.all_eq_true.mp ha.2 g (by simp only [groupNumbers, numbers, Config.groups, List.mem_map, List.mem_range]; exact ⟨g - 1, by omega, by omega⟩)
    simpa [hg, hm] using this
  · unfold State.shown State.group entryD entry?
    rw [if_neg (by omega), List.getElem?_eq_none (by rw [ha.1]; show 24 ≤ g - 1; omega)]
    rfl

/-- What re-evaluation may change at rest: targets, notes, deferral timers and the list of groups concerned. -/
def restful (s t : State) : Prop :=
  t.faces = s.faces ∧ t.engine.imageNumber = s.engine.imageNumber ∧ t.event.enteredGo = s.event.enteredGo
    ∧ t.event.reports = s.event.reports ∧ t.event.before = s.event.before ∧ t.event.remark = s.event.remark
    ∧ t.event.worst = s.event.worst ∧ t.control = s.control ∧ t.store = s.store

theorem rebuildGroup_rest {s t : State} (g : Nat) (h : restful s t) : restful s (rebuildGroup g t) := by
  unfold rebuildGroup
  dsimp only
  split
  · exact h
  · obtain ⟨h1, h2, h3, h4, h5, h6, h7, h8, h9⟩ := h
    refine ⟨Eq.trans ?_ h1, h2, h3, h4, h5, h6, h7, h8, h9⟩
    exact setGroup_faces (g := g) (s := t) (by rfl)

theorem rebuild_rest {s : State} : restful s (rebuild s) := by
  have h := eachOf_holds (restful s) rebuildGroup (fun g t ht => rebuildGroup_rest g ht) s.tables.liveGroups s
    (by simp [restful])
  unfold rebuild
  dsimp only
  split
  · exact h
  · exact h

theorem evaluate_rest {s t : State} (hm : s.control.mode.permit = false) (ha : aspectLaw s = true) (g : Nat)
    (h : restful s t) : restful s (evaluate g t) := by
  obtain ⟨h1, h2, h3, h4, h5, h6, h7, h8, h9⟩ := h
  unfold evaluate
  split
  · rename_i hl
    have hlive : s.tables.live g = true := by rw [← tables_congr (s := s) (t := t) (by rw [h9])]; exact hl
    have hf : (t.group g).shown = .flash := by
      have := congrArg Prod.fst (shown_of_faces h1 g)
      exact this.trans (shown_flash hm ha hlive)
    have hj : t.judge g = (t.group g).noted (t.group g).source.note := by
      unfold State.judge; simp only [hf]
    dsimp only
    rw [hj, if_pos (by rfl)]
    refine ⟨Eq.trans ?_ h1, h2, h3, h4, h5, h6, h7, h8, h9⟩
    exact setGroup_faces (g := g) (s := t) (by rfl)
  · exact ⟨h1, h2, h3, h4, h5, h6, h7, h8, h9⟩

theorem evaluateConcerned_rest {s : State} (hm : s.control.mode.permit = false) (ha : aspectLaw s = true) (n : Nat)
    (t : State) (h : restful s t) : restful s (evaluateConcerned n t) := by
  induction n generalizing t with
  | zero => exact h
  | succ n ih =>
    unfold evaluateConcerned
    split
    · exact h
    · exact ih _ (eachOf_holds (restful s) evaluate (fun g u hu => evaluate_rest hm ha g hu) _ _ h)

/-- The settling of an event at rest, where no group has entered GO. -/
theorem settle_rest {s : State} (hm : s.control.mode.permit = false) (ha : aspectLaw s = true)
    (hg : s.event.enteredGo = []) (n : Nat) : restful s (settle n s) ∧ (settle n s).preempt = s.preempt
      ∧ (settle n s).link = s.link ∧ (settle n s).faults = s.faults := by
  have h := evaluateConcerned_rest hm ha passLimit _ (rebuild_rest (s := s))
  cases n with
  | zero => exact ⟨h, by simp [settle], by simp [settle], by simp [settle]⟩
  | succ n =>
    unfold settle
    dsimp only
    rw [if_neg]
    · exact ⟨h, by simp, by simp, by simp⟩
    · have : (evaluateConcerned passLimit (rebuild s)).event.enteredGo = [] := h.2.2.1.trans hg
      unfold State.entryMet
      rw [this]
      split <;> simp

/-- The conclusion of an event at rest that numbers no image: the mode is a flash mode, the fourth law holds, and the shown image is the one
before the event. -/
theorem conclude_rest {s : State} (hm : s.control.mode.permit = false) (ha : aspectLaw s = true)
    (hg : s.event.enteredGo = []) (hb : s.event.before = s.shownImage) :
    (conclude s).control = s.control ∧ (conclude s).store = s.store ∧ (conclude s).exchange = s.exchange
      ∧ (conclude s).preempt = s.preempt ∧ (conclude s).prover = s.prover ∧ (conclude s).detectors = s.detectors
      ∧ (conclude s).faults = s.faults ∧ (s.event.reports = [] → (conclude s).link = s.link) ∧ (conclude s).faces = s.faces
      ∧ (conclude s).engine.imageNumber = s.engine.imageNumber ∧ (conclude s).event.worst = s.event.worst
      ∧ (s.event.remark = false → (conclude s).branches = s.branches.map Branch.arbitrate) := by
  obtain ⟨⟨h1, h2, h3, h4, h5, h6, h7, h8, h9⟩, hp, hlk, hf⟩ := settle_rest hm ha hg roundLimit
  generalize hu : settle roundLimit s = u at *
  have hclose : closeIfDone u = u := by
    unfold closeIfDone
    rw [if_neg]
    rw [h8]
    intro hh
    rw [hh.1] at hm
    exact absurd hm (by decide)
  have hgo : noticeGo u = u := by
    unfold noticeGo
    rw [h3, hg]
    have : groupNumbers.filter (fun g => ([] : List Nat).contains g) = [] := by simp
    rw [this]; rfl
  have himg : u.shownImage = u.event.before := by rw [shownImage_of_faces h1, h5, hb]
  have hsh : evaluateShown u = u := by unfold evaluateShown; rw [if_pos himg]
  have hnum : numberImage u = u := by unfold numberImage; rw [if_pos himg]
  unfold conclude
  rw [hu, hclose, hgo, hsh, hnum]
  have hrep : ∀ t : State, t.event.reports = [] → handReports t = t := by
    intro t ht; unfold handReports; rw [ht]; rfl
  have hux : u.exchange = s.exchange ∧ u.prover = s.prover ∧ u.detectors = s.detectors ∧ u.branches = s.branches := by
    subst hu; simp
  refine ⟨by simpa using h8, by simpa using h9, by simp [hux], by simpa using hp, by simp [hux], by simp [hux],
    by simpa using hf, fun hr => by rw [hrep _ (by simp [h4, hr])]; simpa using hlk, ?_, by simpa using h2,
    by simpa using h7, ?_⟩
  · simpa [State.faces] using h1
  · intro hrm
    unfold markIfDue arbitrateAll
    rw [h6, hrm]
    simp [hux]

/-- The faces give each group's shown aspect, time in aspect and clearance clock. -/
theorem group_of_faces {s t : State} (h : t.faces = s.faces) (g : Nat) :
    (t.group g).shown = (s.group g).shown ∧ (t.group g).time = (s.group g).time
      ∧ (t.group g).clearance = (s.group g).clearance := by
  have := shown_of_faces h g
  simp only [face, Prod.mk.injEq] at this
  exact this

/-- An answer that only hands frames to the link interface. -/
def onlyLink (answer : State → State) : Prop := ∀ v : State, { answer v with link := v.link } = v

theorem send_onlyLink (f : OutFrame) : onlyLink (send f) := fun _ => rfl

theorem reply_onlyLink (kind : Byte) (result : Result) (content : List Byte) : onlyLink (reply kind result content) :=
  fun _ => rfl

theorem id_onlyLink : onlyLink id := fun _ => rfl

/-- An event at rest whose own effect `u` stays in a flash mode, moves no group, marks no slot and makes no detector report: it leaves `u` as
`restFrame` says, and its frames toward the controller are those of the effect and then the answer. -/
theorem asEvent_rest {effect answer : State → State} {s : State} (hans : onlyLink answer)
    (hm : (effect (openEvent s)).control.mode.permit = false) (ha : aspectLaw (effect (openEvent s)) = true)
    (hg : (effect (openEvent s)).event.enteredGo = []) (hr : (effect (openEvent s)).event.reports = [])
    (hb : (effect (openEvent s)).event.before = (effect (openEvent s)).shownImage)
    (hk : (effect (openEvent s)).event.remark = false) :
    restFrame (effect (openEvent s)) (asEvent effect answer s)
      ∧ (asEvent effect answer s).link = (answer (conclude (effect (openEvent s)))).link
      ∧ (conclude (effect (openEvent s))).link = (effect (openEvent s)).link := by
  unfold asEvent
  generalize effect (openEvent s) = u at *
  obtain ⟨h1, h2, h3, h4, h5, h6, h7, h8, h9, h10, -, h12⟩ := conclude_rest hm ha hg hb
  have hpd : (conclude u).pending = u.pending ∧ (conclude u).clock = u.clock := by simp
  generalize conclude u = w at *
  have hv := hans w
  generalize answer w = v at *
  refine ⟨⟨?_, ?_, rfl, ?_, ?_, ?_, ?_, ?_, ?_, ?_, ?_, ?_, ?_⟩, rfl, h8 hr⟩
  · exact (congrArg State.pending hv).trans hpd.1
  · exact (congrArg State.clock hv).trans hpd.2
  · exact (congrArg State.exchange hv).trans h3
  · exact (congrArg State.preempt hv).trans h4
  · exact (congrArg State.control hv).trans h1
  · exact (congrArg State.prover hv).trans h5
  · exact (congrArg State.detectors hv).trans h6
  · exact (congrArg State.faults hv).trans h7
  · exact (congrArg State.store hv).trans h2
  · exact (congrArg State.branches hv).trans (h12 hk)
  · exact (congrArg (fun x => x.engine.imageNumber) hv).trans h10
  · intro g
    have hw := congrArg (fun x => State.group x g) hv
    have he : State.group (closeEvent v) g = w.group g := hw
    rw [he]
    exact group_of_faces h9 g

end Sys2Proof.Machine
end

