-- ==== Sys2Proof/Tests/Slice0.lean ====
section
/-! SUPPORT. Tests of the model against the guide's own figures, the smoke tests of WellFormed, and for every statement with hypotheses a state
and operands that meet them. -/

namespace Sys2Proof.Tests

open Sys2Proof Sys2Proof.Machine Sys2Proof.Safety

set_option Elab.async false

/-! ### Small states -/

/-- A list with some of its entries, counted from 1, replaced. -/
def put {α : Type} (l : List α) (changes : List (Nat × α)) : List α :=
  changes.foldl (fun l (n, x) => changeEntry l n (fun _ => x)) l

/-- A row of the conflict matrix with some flags set, each with its intergreen. -/
def row (changes : List (Nat × Byte)) : List ConflictEntry :=
  put (List.replicate 24 { }) (changes.map (fun (j, ig) => (j, { conflict := 1, intergreen := ig })))

/-- Four groups: 1 and 2 in conflict (intergreens 4 s and 5 s), 3 without a clear time, 4 without a prepare time; an OUTPUT station 1 on branch A, a
DETECTOR station 2 on B, a SIGN station 3 on C; five plans. -/
def sample : TableSet where
  cabinet := { number := 4117, groupsInUse := 4 }
  groups :=
    put (List.replicate 24 { redFail := 1 })
      [(3, { kind := 2, prepare := 0, clear := 0, minGo := 40, minStop := 20, redFail := 1 }),
        (4, { kind := 4, prepare := 0, clear := 50, minGo := 30, minStop := 10, dark := 1, redFail := 1 })]
  conflicts := put defaultSet.conflicts [(1, row [(2, 40)]), (2, row [(1, 50), (4, 20)]), (4, row [(2, 20)])]
  outputs :=
    put defaultSet.outputs
      [(1, { station := 1, output := 1, group := 1, lit := 4 }), (2, { station := 1, output := 2, group := 2, lit := 4, latch := 1 })]
  detectors := put defaultSet.detectors [(1, { station := 2, input := 1, maxPresence := 1, maxIdle := 1 })]
  plans :=
    put defaultSet.plans
      [(1, { enabled := 1, source := 0, sensitivity := 0, forcedGo := 1, forcedStop := 10, minDwell := 2, maxDuration := 30 }),
        (2, { enabled := 1, source := 0, sensitivity := 1, forcedGo := 2, forcedStop := 9, minDwell := 2 }),
        (3, { enabled := 1, source := 54, sensitivity := 0, minDwell := 1 }),
        (4, { enabled := 1, source := 5, sensitivity := 1, entryDelay := 5, forcedGo := 4, minDwell := 1 }),
        (5, { enabled := 1, source := 4, sensitivity := 0, minDwell := 1 })]
  stations :=
    put defaultSet.stations
      [(1, { address := 1, branch := 0, role := 0 }), (2, { address := 2, branch := 1, role := 1 }),
        (3, { address := 3, branch := 2, role := 2 })]

/-- The 24 group records with every live group of the sample shown an aspect. -/
def shownAll (a : Aspect) : List Group :=
  (numbers 24).map (fun g => if g ≤ 4 then { Group.reset with shown := a } else Group.notLive)

/-- A branch with one station. -/
def branchOf (station : Nat) : Branch :=
  { Branch.reset with assembler := .receiving, liveness := [Liveness.fresh station] }

/-- A detector channel in use, VACANT. -/
def vacant : Detector where
  raw := none
  pending := []
  resync := true
  occupied := false
  since := 0
  health := .ok
  okSince := none
  stuckAt := none
  idleAt := none
  onsets := []
  openFault := false
  shortFault := false
  stuckFault := false
  idleFault := false
  chatterFault := false
  stationAbsent := false
  call := none
  reported := false
  reportedSince := 0
  inFault := false
  lastDet := none

/-- The supervisor in a mode with the sample tables active and every live group shown an aspect. -/
def inMode (m : Mode) (a : Aspect) : State :=
  let s := resetState [] 0 0 0 Nonvolatile.blank
  { s with
    control.mode := m, control.runPermit := m.permit, clock.now := 100000, clock.awake := 100
    store.active := some sample, store.working := sample, store.generation := 23, store.valid := true
    engine.groups := shownAll a
    branches := [branchOf 1, branchOf 2, branchOf 3, { Branch.reset with assembler := .receiving }]
    detectors := put (List.replicate 48 none) [(1, some vacant)]
    link := { assembler := .receiving, queue := [], reportsLost := false, sending := none } }

def flash : State := inMode .flash .flash
def lockout : State := { inMode .lockout .flash with control.maint := true }
def start : State := { inMode .start .stop with control.startTimer := some .expired, exchange.expectedChain := some 7 }
def running : State := { inMode .running .stop with exchange.expectedChain := some 7 }
def warning : State := { inMode .warning .stop with exchange.expectedChain := some 7, exchange.warning := some 0 }

/-- A group's record in a state. -/
def withGroup (g : Nat) (x : Group) (s : State) : State := { s with engine.groups := put s.engine.groups [(g, x)] }

/-- A branch in a state. -/
def withBranch (br : BranchId) (b : Branch) (s : State) : State := { s with branches := put s.branches [(placeOf br, b)] }

/-- The accepted image that asks some targets of groups 1 to 4. -/
def asking (targets : List Target) (s : State) : State :=
  { s with
    exchange.accepted :=
      some { chain := 6, next := 7, inhibit := 0, targets := targets ++ List.replicate 20 .stop, time := 0 } }

/-- RUNNING with plan `p` on the stack in a phase. -/
def planned (p : Nat) (phase : Phase) (delay dwell duration : Option Nat) (active : Bool) : State :=
  { running with
    preempt.stack := [{ plan := p, phase := phase, delay := delay, dwell := dwell, duration := duration }]
    preempt.plans := put running.preempt.plans [(p, { PlanState.reset with active := active })] }

/-- The outcome is a next state with a property. -/
def nextIs (o : Host.Outcome State Fault Refusal) (p : State → Bool) : Bool :=
  match o with
  | .next t => p t
  | _ => false

/-! ### WellFormed: one ill-formed term for each check -/

theorem test_wellFormed_refuses :
    (wellFormed (.tableLoadEnd [{ index := 956, bits := 1 }] true) || wellFormed (.tableLoadEnd [{ index := 0, bits := 0 }] true)
      || wellFormed (.calCancel 1 0) || wellFormed (.modFlash 0) || wellFormed (.twr 1 1 (List.replicate 199 0))
      || wellFormed (.fwd 1 1 1 (List.replicate 198 0)) || wellFormed (.unknownKindFrame 0x19)
      || wellFormed (.damagedFrame .wrongKind) || wellFormed (.damagedFrame .undefinedValue)
      || wellFormed (.peLineChange 7 true 30) || wellFormed (.endOfPrepare 0) || wellFormed (.endOfClear 25)
      || wellFormed (.minimumGoReached 25) || wellFormed (.minimumStopReached 0) || wellFormed (.deferralTimerExpiry 25)
      || wellFormed (.planDurationExpiry 9) || wellFormed (.lstReceived .a 33 none (List.replicate 16 0))
      || wellFormed (.lstReceived .a 1 none (List.replicate 15 0)) || wellFormed (.dsmReceived .a 1 [])
      || wellFormed (.sstReceived .a 0 []) || wellFormed (.fwrReceived .a 1 (List.replicate 201 0))
      || wellFormed (.repollTimerExpiry 0) || wellFormed (.stuckDeadlineExpiry 49) || wellFormed (.idleDeadlineExpiry 0))
      = false := by decide +kernel

theorem test_wellFormed_accepts :
    (wellFormed (.tableLoadEnd [{ index := 955, bits := 1 }] true) && wellFormed (.twr 1 1 (List.replicate 198 0))
      && wellFormed (.fwd 1 1 1 (List.replicate 197 0)) && wellFormed (.unknownKindFrame 0x1a) && wellFormed (.peLineChange 6 true 30)
      && wellFormed (.planDurationExpiry 8) && wellFormed (.lstReceived .d 32 (some 3) (List.replicate 16 0))) = true := by
  decide +kernel

/-! ### Figures of the guide -/

/-- The check values that 11 (R178) and 10 (section 10.2) give for "123456789". -/
theorem test_crc_figures :
    crc16 [0x31, 0x32, 0x33, 0x34, 0x35, 0x36, 0x37, 0x38, 0x39] = 0x29b1#16
      ∧ crc32 [0x31, 0x32, 0x33, 0x34, 0x35, 0x36, 0x37, 0x38, 0x39] = 0xcbf43926#32 := by decide +kernel

/-- The characters of a tick-free frame: TCM with its CRC computed over "address, kind, length" reads back as TCM; one wrong bit makes it a damaged
frame, and so does a wrong length byte (R178, R179). -/
theorem test_frames_of_the_link :
    controllerFrame (frameBytes 0 0x15 []) = .tcm
      ∧ controllerFrame (frameBytes 0 0x12 [0, 0x10, 0x15, 0, 23, 0x12, 0x34]) = .modRun 4117 23 0x1234
      ∧ controllerFrame (frameBytes 0 0x11 [3, 0]) = .calCall 3 ∧ controllerFrame (frameBytes 0 0x11 [3, 2]) = .calCancel 3 2
      ∧ controllerFrame (frameBytes 0 0x1a [1]) = .unknownKindFrame 0x1a
      ∧ controllerFrame (frameBytes 0 0x15 [1]) = .damagedFrame .wrongLength
      ∧ controllerFrame (frameBytes 5 0x15 []) = .damagedFrame .wrongAddress
      ∧ controllerFrame [0, 0x15, 0, 0, 0] = .damagedFrame .badCrc
      ∧ controllerFrame [0, 0x15, 201] = .damagedFrame .lengthAbove200
      ∧ controllerFrame [0, 0x15, 0, 1] = .damagedFrame .brokenByGap
      ∧ controllerFrame (frameBytes 0 0x15 [] ++ [0]) = .damagedFrame .extraCharacter := by decide +kernel

/-- The targets of an image frame, group 1 in the highest two bits (R182): GO for group 1, DARK for group 24. -/
theorem test_image_frame :
    controllerFrame (frameBytes 0 0x10 [0, 7, 0, 8, 3, 0x40, 0, 0, 0, 0, 2])
        = .img 7 8 3 0x400000000002#48
      ∧ targetCode 0x400000000002#48 1 = 1 ∧ targetCode 0x400000000002#48 24 = 2 ∧ targetCode 0x400000000002#48 2 = 0 := by
  decide +kernel

/-- Frames on a branch (R182): a lamp report, a poll, a drive frame with output 1 in the highest bits, and a health code that is not defined. -/
theorem test_frames_of_a_branch :
    branchFrame .a (frameBytes 1 0x33 ([1, 9] ++ List.replicate 32 0))
        = .lstReceived .a 1 (some 9) (List.replicate 16 0)
      ∧ branchFrame .a (frameBytes 1 0x33 ([2, 9] ++ List.replicate 32 0)) = .branchFrameDiscarded .a .undefinedValue
      ∧ branchFrame .b (frameBytes 2 0x34 ([0x21, 1, 44] ++ List.replicate 15 0))
        = .dsmReceived .b 2
          ({ health := .ok, occupied := true, overrun := false, ages := [300] }
            :: List.replicate 15 { health := .ok, occupied := false, overrun := false, ages := [] })
      ∧ branchFrame .b (frameBytes 2 0x34 (0xc0 :: List.replicate 15 0)) = .branchFrameDiscarded .b .undefinedValue
      ∧ branchFrame .c (frameBytes 3 0x22 [7]) = .fwrReceived .c 3 [7]
      ∧ (BranchFrame.drv 1 9 ([.on, .flash] ++ List.replicate 14 .off)).bytes.take 5 = [1, 0x30, 5, 9, 0x60] := by
  decide +kernel

/-- The example of R9: DARK asked of a group that may not be dark is clamped, and the group leaves GO past its minimum for CLEAR. -/
theorem test_dark_is_clamped :
    nextIs (exec (.minimumGoReached 1)
        (asking [.dark] (withGroup 1 { Group.reset with shown := .go, time := 500, target := .go, note := .held } running)))
      (fun t => decide (t.shown 1 = .clear) && decide ((t.group 1).note = .clamped) && decide ((t.group 1).target = .stop)) = true := by
  decide +kernel

/-- The example of R158: the oldest ENDED entry that is not latched makes room in a full list. -/
theorem test_full_list_makes_room :
    let old := fun (kind : FaultKind) (subject : Option Nat) (active latched : Bool) =>
      ({ kind, subject, first := 0, last := 0, count := 1, active, latched, action := .report } : Entry)
    let full :=
      [old .chain none false false, old .lampOut (some 10) false true]
        ++ (numbers 30).map (fun c => old .detectorStuck (some c) true false)
    let t :=
      recordRaise { kind := .detectorIdle, subject := some 30, action := .report, condition := true }
        { flash with faults.entries := full }
    t.faults.entries.map (fun e => (e.kind, e.subject, e.active))
      = [(.lampOut, some 10, false)] ++ (numbers 30).map (fun c => (.detectorStuck, some c, true)) ++ [(.detectorIdle, some 30, true)] := by
  decide +kernel

/-- The example of R185: a detector report replaces the last queued one of its channel; a reply then takes the place of the oldest. -/
theorem test_full_queue :
    let det := fun (c : Nat) (time : Time) =>
      OutFrame.det { channel := c, occupied := true, fault := false, time := time, occupancy := none }
    let other := OutFrame.rpl 0x15 .ok []
    let l : Link :=
      { assembler := .receiving, sending := none, reportsLost := false
        queue := [other, det 4 0, det 9 0, det 4 0] ++ List.replicate 28 other }
    (l.place (det 4 5)).queue.take 5 = [other, det 4 0, det 9 0, det 4 5, other]
      ∧ (l.place (det 4 5)).reportsLost = false
      ∧ ((l.place (det 4 5)).place other).queue.take 3 = [other, det 9 0, det 4 5]
      ∧ ((l.place (det 4 5)).place other).reportsLost = true := by decide +kernel

/-- The example of R108: lit set GO and flash set CLEAR. -/
theorem test_commanded_states :
    let r : ChannelRec := { station := 6, output := 4, group := 12, lit := 4, flash := 8 }
    [Aspect.go, .clear, .stop, .dark, .flash].map r.lamp = [.on, .flash, .off, .off, .off] := by decide +kernel

/-- The first frame after a reset is the alarm of the change to LOADING (R163), as the bytes of R184; the idle transmitter has begun it (R185). -/
theorem test_reset_alarm :
    (State.reset.link.sending.map OutFrame.bytes).map (fun b => b.take 6) = some [0, 0x24, 19, 0, 0, 1]
      ∧ State.reset.link.queue = [] := by decide +kernel

/-- A word written whole reads back clean (R174). -/
theorem read_fresh (v : Word) : (StoredWord.fresh v).read = (v, .clean) := by
  have h : bitCount (0#39) = 0 := by decide
  simp [StoredWord.read, StoredWord.fresh, h]

/-- A set written whole passes every test of a load when it reads back as a valid set (R168). -/
theorem passes_write (nv : Nonvolatile) (t : TableSet) (g : Half) (back : setFromWords (setWords t) = t) (valid : t.valid = true) :
    (nv.write t g).passes = true := by
  have words : (nv.write t g).words.map (fun w => w.read.1) = setWords t := by
    simp [Nonvolatile.write, Function.comp_def, read_fresh]
  have clean : (nv.write t g).all.all (fun w => decide (w.read.2 ≠ .uncorrectable)) = true := by
    simp only [Nonvolatile.all, Nonvolatile.write, List.all_eq_true, List.mem_append, List.mem_map, List.mem_cons]
    rintro w (⟨v, -, rfl⟩ | rfl | rfl | h)
    · simp [read_fresh]
    · simp [read_fresh]
    · simp [read_fresh]
    · cases h
  unfold Nonvolatile.passes Nonvolatile.set
  rw [clean, words, back, valid]
  simp [Nonvolatile.write, read_fresh]

/-- A set is valid when every record passes its checks: one check at a time, which the kernel evaluates quickly. -/
theorem valid_of_checks (t : TableSet)
    (h : ∀ check ∈ numbers 10, (numbers (recordCount (checkTable check))).all (checkRecord t check) = true) :
    t.valid = true := by
  unfold TableSet.valid firstFailure
  rw [Option.isNone_iff_eq_none, List.findSome?_eq_none_iff]
  intro check hc
  rw [Option.map_eq_none_iff, List.find?_eq_none]
  intro i hi
  simpa using List.all_eq_true.mp (h check hc) i hi

theorem test_sample_valid : sample.valid = true := by
  apply valid_of_checks
  rw [show numbers 10 = [1, 2, 3, 4, 5, 6, 7, 8, 9, 10] from by decide]
  simp only [List.forall_mem_cons]
  refine ⟨?_, ?_, ?_, ?_, ?_, ?_, ?_, ?_, ?_, ?_, by simp⟩ <;> decide +kernel

theorem test_sample_back : setFromWords (setWords sample) = sample := by
  have parts : ∀ a b : TableSet, a.cabinet = b.cabinet → a.groups = b.groups → a.conflicts = b.conflicts → a.outputs = b.outputs →
      a.detectors = b.detectors → a.plans = b.plans → a.stations = b.stations → a = b := by
    rintro ⟨⟩ ⟨⟩; simp_all
  apply parts <;> decide +kernel

/-- One wrong bit is corrected, two are found (10, section 10.2). -/
theorem test_word_errors :
    ({ value := 5, wrong := 4 } : StoredWord).read = (5, .corrected) ∧ ({ value := 5, wrong := 5 } : StoredWord).read = (0, .uncorrectable)
      ∧ ({ value := 5, wrong := 0x4000000000 } : StoredWord).read = (5, .corrected) := by decide +kernel

/-- A store that is not complete leaves no tables (R168): the cabinet rests in FLASH with TABLE_INVALID, its action NO_RUN. -/
theorem test_load_invalid :
    nextIs (exec (.tableLoadEnd [{ index := 3, bits := 5 }] true) State.reset)
      (fun t => decide (t.control.mode = .flash) && decide (t.store.active = none)
        && t.faults.entries.any (fun e => decide (e.kind = .tableInvalid) && e.active && decide (e.action = .noRun))) = true := by
  decide +kernel

/-! ### States that meet the hypotheses of the statements, by the statements' order -/

theorem witness_StepRunsFrontCommand : ({ flash with pending := [.tcm] } : State).pending = .tcm :: [] := rfl

/-- RUNNING at the last millisecond of a 10 ms count, with a group in each aspect one unit short of its time, three waits and two deadlines one
millisecond short, and plans one unit short. -/
def about : State :=
  let w := fun (tag : Option Byte) => some ({ station := 1, tag := tag, deadline := 100001 } : Awaited)
  { withGroup 1 { Group.reset with shown := .prepare, time := 99 }
      (withGroup 2 { Group.reset with shown := .clear, time := 299, deferral := some 1 }
        (withGroup 3 { Group.reset with shown := .go, time := 399, note := .held }
          (withGroup 4 { Group.reset with shown := .stop, time := 99, clearance := 65535, note := .held } running))) with
    clock.phase := 9, exchange.supervision := some (.running 1)
    preempt.stack :=
      [{ plan := 1, phase := .delay, delay := some 1, dwell := none, duration := some 2 },
        { plan := 2, phase := .dwell, delay := none, dwell := some 4, duration := some 1 }]
    branches :=
      [{ branchOf 1 with awaited := w none }, { branchOf 2 with awaited := w (some 9) },
        { branchOf 3 with liveness := [{ Liveness.fresh 3 with present := false, repoll := some 1 }] }, Branch.reset]
    detectors := put running.detectors [(1, some { vacant with occupied := true, stuckAt := some 100001, idleAt := some 100001 })] }

/-- At the tenth millisecond every count moves by one, the delay and the dwell only on top, a clearance clock at its end stays, and the expiries then
due join the queue. -/
theorem test_idle_step :
    nextIs (step about)
      (fun t =>
        decide
            (t.pending
              = [.supervisionTimerExpiry, .endOfPrepare 1, .endOfClear 2, .minimumGoReached 3, .minimumStopReached 4,
                .deferralTimerExpiry 2, .planDelayEnd, .planDurationExpiry 2, .pollAnswerTimeout .a, .forwardAnswerTimeout .b,
                .repollTimerExpiry 3, .stuckDeadlineExpiry 1, .idleDeadlineExpiry 1])
          && decide (t.clock.now = 100001) && decide ((t.group 1).time = 100) && decide ((t.group 4).clearance = 65535)
          && decide
            (t.preempt.stack
              = [{ plan := 1, phase := .delay, delay := some 0, dwell := none, duration := some 1 },
                { plan := 2, phase := .dwell, delay := none, dwell := some 4, duration := some 0 }])) = true := by
  decide +kernel

theorem witness_IdleStepPassesOneMillisecond :
    let w : State := { warning with exchange.warning := some 1, clock.phase := 9 }
    let b : State := { start with control.startTimer := some (.running 1), clock.phase := 9 }
    let e : State := { start with exchange.supervision := some .expired, clock.phase := 9 }
    let d := planned 2 .dwell none (some 1) none true
    about.pending = [] ∧ about.up = true ∧ (about.clock.phase + 1) % 10 = 0 ∧ (flash.clock.phase + 1) % 10 ≠ 0 ∧ 24 ≤ about.engine.groups.length
      ∧ b.pending = [] ∧ b.up = true ∧ e.control.startTimer = some .expired ∧ e.exchange.supervision = some .expired
      ∧ nextIs (step w) (fun t => decide (t.control.mode = .warning) && decide (t.exchange.warning = some 0) && decide (t.pending = [.warningWindowExpiry]))
        = true
      ∧ nextIs (step b) (fun t => decide (t.control.startTimer = some (.running 0)) && decide (t.pending = [.startUpStopTimerExpiry])) = true
      ∧ nextIs (step ({ d with clock.phase := 9 } : State)) (fun t => decide (t.pending = [.planDwellEnd])) = true := by
  decide +kernel

/-- A low level of 1.001 ms leaves one more millisecond of reset; then the alarm of the change to LOADING is sent (R163, R186). -/
theorem test_nreset_held :
    nextIs (exec (.nreset 1001 false) flash) (fun t => decide (t.clock.lowFor = 1) && decide (t.link.sending = none) && !t.up) = true
      ∧ nextIs (exec (.nreset 1000 false) flash) (fun t => decide (t.clock.lowFor = 0) && decide (t.link.sending = some resetAlarm) && t.up)
        = true := by decide +kernel

theorem witness_ResetsSetEveryBlock :
    let s : State := { flash with store.op := .commit, control.recordOp := .erasing }
    let low : State := { flash with clock.lowFor := 1 }
    999 < 1000 ∧ 1000 ≤ 1000 ∧ flash.clock.powered = true ∧ flash.store.op ≠ .commit ∧ flash.control.recordOp ≠ .erasing
      ∧ s.store.op = .commit ∧ s.control.recordOp = .erasing ∧ low.clock.powered = true ∧ low.clock.lowFor ≠ 0 ∧ low.pending = []
      ∧ isReset .tcm = false ∧ Instr.tcm ≠ .supplyLoss ∧ 1 < ({ flash with clock.lowFor := 2 } : State).clock.lowFor := by decide +kernel

theorem witness_SupplyLossReleasesRunpermit :
    flash.clock.powered = true ∧ flash.store.op ≠ .commit ∧ flash.control.recordOp ≠ .erasing
      ∧ ({ flash with store.op := .commit } : State).store.op = .commit ∧ ({ flash with clock.powered := false } : State).clock.powered = false
      ∧ Instr.tcm ≠ .powerOnReset ∧ ∀ low, Instr.tcm ≠ .nreset low true :=
  ⟨rfl, by decide, by decide, rfl, rfl, by decide, fun _ => by simp⟩

/-- RUNNING, group 2 at the end of its PREPARE with target GO, beside group 1 in STOP whose clearance clock stands at ten times its intergreen. -/
def releasing : State :=
  { withGroup 1 { Group.reset with shown := .stop, time := 400, clearance := 400 }
      (withGroup 4 { Group.reset with shown := .stop, clearance := 65535 } <| withGroup 2 { Group.reset with shown := .prepare, time := 100, clearance := 900, target := .go } (asking [.stop, .go] running)) with
    pending := [.endOfPrepare 2] }

theorem releasing_tableLaw : tableLaw releasing = true := by
  have h : releasing.store.active = some sample := rfl
  have o : decide (releasing.store.op = .commit) = false := rfl
  simp [tableLaw, h, o, test_sample_valid]

/-- One state meets the premises of every law at once, and its step takes group 2 to GO: StepKeepsExclusion, StepKeepsIntergreens,
GoOnlyAfterIntergreens at its boundary, and the laws after them. -/
theorem witness_laws :
    exclusionLaw releasing = true ∧ intergreenLaw releasing = true ∧ permitLaw releasing = true ∧ aspectLaw releasing = true ∧ darkLaw releasing = true
      ∧ deferralLaw releasing = true ∧ stackLaw releasing = true ∧ targetLaw releasing = true ∧ strikeLaw releasing = true
      ∧ branchLaw releasing = true ∧ faultLaw releasing = true ∧ queueLaw releasing = true ∧ detectorLaw releasing = true
      ∧ provingLaw releasing = true ∧ recordLaw releasing = true ∧ releasing.shown 2 ≠ .go
      ∧ nextIs (step releasing)
        (fun t => decide (t.shown 2 = .go) && t.tables.conflict 1 2 && decide ((t.tables.entry 1 2).intergreen.toNat * 10 = (t.group 1).clearance))
        = true := by decide +kernel

/-- The effective requested image of `releasing`: STOP for group 1 and GO for group 2, as its accepted image asks. -/
theorem releasing_effectiveLaw : effectiveLaw releasing := by
  have live : ∀ g, releasing.tables.live g = true → g ≤ 4 := by
    intro g h
    have h' : (decide (1 ≤ g) && decide (g ≤ 4)) = true := h
    simp only [Bool.and_eq_true, decide_eq_true_eq] at h'
    exact h'.2
  have asks : ∀ i, imageAsks releasing i .go = true → i = 2 := by
    intro i h
    have hi : i ≤ 4 := live i (by simp only [imageAsks, Bool.and_eq_true] at h; exact h.1.1.1)
    interval_cases i <;> first | rfl | (exfalso; revert h; decide +kernel)
  intro g hg
  have hl : releasing.tables.live g = true := by simp only [inService, Bool.and_eq_true] at hg; exact hg.2
  have h4 := live g hl
  refine ⟨fun h => absurd h (by decide +kernel), ?_, ?_, fun _ => ⟨?_, ?_, ?_⟩⟩
  · intro h; simp [stopForced, show releasing.preempt.stack = [] from rfl] at h
  · intro h; simp [goForced, show releasing.preempt.stack = [] from rfl] at h
  · clear hg hl live asks; interval_cases g <;> decide +kernel
  · clear hg hl live asks; interval_cases g <;> decide +kernel
  · intro h
    obtain rfl := asks g h
    refine ⟨?_, fun _ => by decide +kernel⟩
    rintro ⟨i, hc, hi⟩
    obtain rfl := asks i hi
    clear hg hl live asks h h4 hi; revert hc; decide +kernel

theorem witness_TablesChangeOnlyWhereGiven :
    nextIs (exec .fcl flash) (fun _ => true) = true ∧ isReset .fcl = false ∧ isLoadEnd .fcl = false ∧ Instr.fcl ≠ .commitCompletion
      ∧ Instr.fcl ≠ .commitWriteFailure ∧ Instr.fcl ≠ .supplyLoss ∧ Instr.fcl ≠ .tcm := by decide +kernel

theorem witness_CommandsPassNoTime :
    nextIs (exec .fcl flash) (fun _ => true) = true ∧ isReset .fcl = false ∧ Instr.fcl ≠ .supplyLoss := by decide +kernel

theorem witness_InputsChangeOnlyWhereGiven :
    nextIs (exec .tds flash) (fun _ => true) = true ∧ isReset .tds = false ∧ Instr.tds ≠ .warningWindowExpiry ∧ Instr.tds ≠ .fcl
      ∧ isImage .tds = false ∧ isRun .tds = false ∧ isCall .tds = false ∧ Instr.tds ≠ .outgoingFrameSent ∧ isSensing .tds = false
      ∧ isLoadEnd .tds = false ∧ (∀ active held, Instr.tds ≠ .maintStateChange active held)
      ∧ ∀ line active held, Instr.tds ≠ .peLineChange line active held :=
  ⟨by decide +kernel, rfl, by decide, by decide, rfl, rfl, rfl, by decide, rfl, rfl, fun _ _ => by simp, fun _ _ _ => by simp⟩

theorem witness_RunsAdvanceOnlyAtUsableReports :
    let c : Instr := .lstReceived .a 1 none (List.replicate 16 0)
    nextIs (exec c running) (fun _ => true) = true ∧ isUsableReport running c = false
      ∧ nextIs (exec .tds flash) (fun _ => true) = true ∧ isUsableReport flash .tds = false := by decide +kernel

theorem witness_FramesAreAnswered :
    listening flash = true ∧ listening running = true ∧ noLampOut running = true ∧ running.exchange.expectedChain = some 7
      ∧ (6#16 ≠ 7) ∧ (∃ g ∈ groupNumbers, targetCode 0x000000000003#48 g = 3) ∧ (∀ g ∈ groupNumbers, targetCode 0x500000000000#48 g ≠ 3)
      ∧ flash.control.mode.permit = false ∧ running.control.mode.permit = true ∧ 1 < (2#8).toNat
      ∧ running.control.mode ≠ .flash ∧ flash.control.mode = .flash ∧ flash.storeBusy = false ∧ flash.store.active.isSome = true
      ∧ ({ flash with store.op := .record } : State).storeBusy = true ∧ ({ flash with store.active := none } : State).store.active = none
      ∧ (1#16 ≠ flash.tables.cabinet.number ∨ 23#16 ≠ flash.store.generation) ∧ (2#8 ≠ 1) ∧ (inMode .loading .flash).control.mode = .loading
      ∧ recordExists 8 1 = false ∧ recordExists 7 33 = false ∧ recordExists 7 0 = false ∧ 2 < (3#8).toNat := by decide +kernel

/-- RUNNING with plan 4 PENDING and kept back by the inhibit mask. -/
def kept : State :=
  { running with
    preempt.inhibit := 8, preempt.plans := put running.preempt.plans [(4, { PlanState.reset with pending := true, active := true })] }

theorem witness_ImageAcceptedInRunning :
    runningCalm kept = true ∧ kept.hears = true ∧ kept.exchange.expectedChain = some 7 ∧ (8#16 ≠ 7)
      ∧ (∀ g ∈ groupNumbers, targetCode 0x400000000002#48 g ≠ 3) ∧ kept.requestedConflict (targetsOf 0x400000000002#48) = false
      ∧ (0#8 ≠ kept.preempt.inhibit) ∧ kept.preempt.stack.length < 4 ∧ kept.preempt.plans.length = 8 ∧ (kept.plan 4).pending = true
      ∧ mayTake kept 0 4 = true ∧ (∀ q < 4, (kept.plan q).pending = true → mayTake kept 0 q = false)
      ∧ (kept.tables.plan 4).entryDelay ≠ 0 ∧ (kept.plan 4).active = true := by
  decide +kernel

theorem witness_ImageRefused :
    listening running = true ∧ noLampOut running = true ∧ running.control.mode ≠ .closing ∧ listening flash = true ∧ flash.control.mode.permit = false
      ∧ running.exchange.expectedChain ≠ some 6 ∧ running.exchange.expectedChain = some 7 ∧ running.control.mode.permit = true
      ∧ (∃ g ∈ groupNumbers, targetCode 0x000000000003#48 g = 3) ∧ (∀ g ∈ groupNumbers, targetCode 0x500000000000#48 g ≠ 3)
      ∧ running.requestedConflict (targetsOf 0x500000000000#48) = true := by decide +kernel

/-- What a refused image reports (R71, R26; log 52): its own fault, and in WARNING the recurrence of SUPERVISION behind it. -/
theorem witness_ImageRefused_reports :
    let kinds := fun (o : Host.Outcome State Fault Refusal) (l : List (FaultKind × Bool)) =>
      nextIs o (fun t => decide (t.faults.entries.map (fun e => (e.kind, e.active)) = l))
    listening warning = true ∧ noLampOut warning = true ∧ warning.control.mode = .warning ∧ warning.exchange.expectedChain ≠ some 6
      ∧ warning.preempt.stack.length ≤ 4 ∧ faultLaw warning = true ∧ warning.faults.entries.length < 31 ∧ notActive warning .chain none
      ∧ notActive running .requestedConflict none ∧ (∀ g ∈ groupNumbers, warning.redFail g = false) ∧ (∀ g ∈ groupNumbers, flash.redFail g = false)
      ∧ kinds (exec (.img 6 8 0 0) warning) [(.chain, false), (.supervision, true)] = true
      ∧ kinds (exec (.img 7 8 0 0x000000000003#48) warning) [(.supervision, true)] = true
      ∧ kinds (exec (.img 7 8 0 0x500000000000#48) running) [(.requestedConflict, false)] = true
      ∧ kinds (exec (.img 7 7 0 0) running) [] = true ∧ kinds (exec (.img 7 8 0 0) flash) [] = true := by
  unfold notActive
  decide +kernel

theorem witness_ImageEndsWarningAndStart :
    listening warning = true ∧ noLampOut warning = true ∧ warning.exchange.expectedChain = some 7 ∧ warning.control.mode = .warning
      ∧ (∀ g ∈ groupNumbers, targetCode 0#48 g ≠ 3) ∧ warning.requestedConflict (targetsOf 0) = false
      ∧ start.requestedConflict (targetsOf 0) = false ∧ listening start = true ∧ noLampOut start = true
      ∧ start.exchange.expectedChain = some 7 ∧ start.control.mode = .start ∧ start.control.startTimer = some .expired
      ∧ ({ start with control.startTimer := some (.running 0) } : State).control.startTimer ≠ some .expired := by decide +kernel

/-- RUNNING with the remote plan 3 called and in its dwell. -/
def calling : State :=
  { running with
    preempt.slot := some { plan := 3, called := true }
    preempt.stack := [{ plan := 3, phase := .dwell, delay := none, dwell := some 1, duration := none }] }

theorem witness_RemoteCallAndCancel :
    listening start = true ∧ start.preempt.plans.length = 8 ∧ 1 ≤ (3#8).toNat ∧ (3#8).toNat ≤ 8 ∧ (start.tables.plan 3).on = true
      ∧ (start.tables.plan 3).remote = true ∧ (start.tables.plan 3).level = true ∧ noLampOut start = true ∧ start.control.mode = .start
      ∧ start.preempt.stack = [] ∧ start.preempt.slot = none
      ∧ ({ calling with preempt.stack := [] } : State).stacked 3 = false ∧ calling.control.mode.permit = true
      ∧ calling.preempt.slot = some { plan := (3#8).toNat, called := true } ∧ listening calling = true
      ∧ calling.preempt.plans.length = 8 ∧ runningCalm calling = true
      ∧ calling.preempt.stack = [{ plan := 3, phase := .dwell, delay := none, dwell := some (0 + 1), duration := none }] := by decide +kernel

/-- RUNNING with the remote plan 3 given an entry delay, above plan 5 in its dwell. -/
def callable : State :=
  { running with
    store.active := some { sample with plans := put sample.plans [(3, { enabled := 1, source := 54, sensitivity := 0, entryDelay := 2, minDwell := 1 })] }
    preempt.stack := [{ plan := 5, phase := .dwell, delay := none, dwell := some 1, duration := none }] }

/-- RUNNING with the remote plan 3 called and in HOLD above plan 5. -/
def held : State :=
  { running with
    preempt.slot := some { plan := 3, called := true }
    preempt.stack :=
      [{ plan := 3, phase := .hold, delay := none, dwell := none, duration := none },
        { plan := 5, phase := .hold, delay := none, dwell := none, duration := some 9 }]
    preempt.plans := put running.preempt.plans [(3, { PlanState.reset with active := true }), (5, { PlanState.reset with active := true })] }

theorem witness_RemoteCallAndCancel_running :
    runningCalm callable = true ∧ listening callable = true ∧ callable.preempt.plans.length = 8 ∧ (callable.tables.plan 3).on = true
      ∧ (callable.tables.plan 3).remote = true ∧ callable.preempt.slot = none ∧ callable.preempt.stack.length < 4 ∧ callable.stacked 3 = false
      ∧ (callable.tables.plan 3).level = true ∧ (callable.plan 3).spent = false ∧ (callable.plan 3).pending = false
      ∧ mayTake callable callable.preempt.inhibit 3 = true
      ∧ (∀ q < 3, (callable.plan q).pending = true → mayTake callable callable.preempt.inhibit q = false)
      ∧ (callable.tables.plan 3).entryDelay ≠ 0
      ∧ nextIs (exec (.calCall 3) callable) (fun t => decide (t.preempt.stack.map Stacked.plan = [3, 5])) = true
      ∧ noLampOut calling = true ∧ calling.control.mode.admits = true ∧ calling.preempt.slot = some { plan := 3, called := true }
      ∧ calling.stacked 3 = true
      ∧ nextIs (exec (.calCall 3) calling) (fun t => decide (t.preempt = calling.preempt)) = true
      ∧ runningCalm held = true ∧ listening held = true ∧ held.preempt.plans.length = 8
      ∧ held.preempt.slot = some { plan := 3, called := true }
      ∧ held.preempt.stack.head? = some { plan := 3, phase := .hold, delay := none, dwell := none, duration := none }
      ∧ (held.tables.plan 3).level = true ∧ (∀ q < 9, (held.plan q).pending = false) ∧ (held.tables.plan 5).level = true
      ∧ (held.plan 5).active = true
      ∧ nextIs (exec (.calCancel 3 1) held)
        (fun t => decide (t.preempt.stack = held.preempt.stack.tail) && decide (t.preempt.slot = none) && decide ((t.plan 3).outcome = .ended))
        = true := by decide +kernel

/-- The BUSY call finds the effective targets. -/
theorem witness_RemoteCallAndCancel_busy : effectiveLaw calling := by
  intro g hg
  have h4 : g ≤ 4 := by
    simp only [inService, Bool.and_eq_true] at hg
    have h' : (decide (1 ≤ g) && decide (g ≤ 4)) = true := hg.2
    simp only [Bool.and_eq_true, decide_eq_true_eq] at h'
    exact h'.2
  refine ⟨fun h => absurd h (by decide +kernel), ?_, ?_, fun _ => ⟨?_, ?_, fun h => absurd h ?_⟩⟩
  all_goals clear hg; interval_cases g <;> decide +kernel

/-- A fault entry. -/
def entry (kind : FaultKind) (subject : Option Nat) (active : Bool) : Entry where
  kind := kind
  subject := subject
  first := 0
  last := 0
  count := 255
  active := active
  latched := false
  action := .report

theorem witness_RunRequestEntersStart :
    let gone : Liveness := { Liveness.fresh 1 with present := false, timeouts := 3 }
    let late : Liveness := { Liveness.fresh 1 with lagging := true, lagCount := 3 }
    let a : State := { withBranch .a { branchOf 1 with liveness := [gone] } flash with faults.entries := [entry .stationAbsent (some 1) true] }
    let l : State := { withBranch .a { branchOf 1 with liveness := [late] } flash with faults.entries := [entry .stationLag (some 1) true] }
    listening flash = true ∧ noLampOut flash = true ∧ stationsWell flash = true ∧ flash.control.mode = .flash ∧ flash.storeBusy = false
      ∧ flash.store.active.isSome = true ∧ aspectLaw flash = true ∧ flash.tables.live 1 = true ∧ inService flash 4 = true
      ∧ (∀ g ∈ groupNumbers, flash.redFail g = false)
      ∧ listening a = true ∧ noLampOut a = true ∧ a.storeBusy = false ∧ gone ∈ (a.branch .a).liveness ∧ a.tables.roleOn .a 1 = some .output
      ∧ gone.present = false ∧ faultLaw a = true ∧ (∃ e ∈ a.faults.entries, e.kind = .stationAbsent ∧ e.subject = some 1 ∧ e.active = true)
      ∧ late ∈ (l.branch .a).liveness ∧ late.lagging = true ∧ faultLaw l = true
      ∧ nextIs (exec (.modRun 4117 23 7) a) (fun t => decide (t.control.mode = .flash) && decide (t.control.lastCause = .faultFlash)) = true
      ∧ nextIs (exec (.modRun 4117 23 7) l) (fun t => decide (t.control.mode = .flash) && decide (t.control.lastCause = .faultFlash)) = true := by
  decide +kernel

/-- RUNNING with group 1 in CLEAR, one unit short of its clear time. -/
def clearing : State := withGroup 1 { Group.reset with shown := .clear, time := 299 } running

theorem witness_FlashRequestByMode :
    listening running = true ∧ noLampOut running = true ∧ running.control.mode = .running ∧ running.closed = true
      ∧ listening clearing = true ∧ noLampOut clearing = true ∧ clearing.control.mode = .running ∧ inService clearing 1 = true
      ∧ clearing.shown 1 = .clear ∧ (clearing.group 1).time < (clearing.tables.group 1).clearUnits ∧ flash.control.mode = .flash
      ∧ lockout.control.mode = .lockout ∧ (inMode .closing .stop).control.mode = .closing
      ∧ (let c : State := { clearing with control.mode := .closing }
        listening c = true ∧ noLampOut c = true ∧ c.control.mode = .closing ∧ inService c 1 = true ∧ c.shown 1 = .clear
          ∧ (c.group 1).time < (c.tables.group 1).clearUnits
          ∧ nextIs (exec (.modFlash 1) c) (fun t => decide (t.control = c.control)) = true) := by decide +kernel

theorem witness_TableWriteEditsWorkingCopy :
    resting flash = true ∧ flash.hears = true ∧ flash.control.mode.edits = true ∧ flash.store.op = .idle ∧ recordExists 3 24 = true ∧ recordExists 1 1 = true
      ∧ (List.replicate 48 (0 : Byte)).length = recordLength 3 ∧ recordExists 3 25 = false ∧ recordExists 3 0 = false
      ∧ (List.replicate 47 (0 : Byte)).length ≠ recordLength 3 ∧ resting (inMode .loading .flash) = true
      ∧ (inMode .loading .flash).control.mode.edits = false ∧ resting { flash with store.op := .commit } = true
      ∧ ({ flash with store.op := .commit } : State).store.op ≠ .idle := by decide +kernel

theorem witness_RecordWriteThenRead :
    fullSet sample = true ∧ 1 ≤ 24 ∧ 24 ≤ recordCount 3 ∧ (List.replicate 48 (7 : Byte)).length = recordLength 3 ∧ 1 ≤ recordCount 1
      ∧ ((1 : Nat) ≠ 3 ∨ (1 : Nat) ≠ 24) ∧ 23 ≤ recordCount 3 ∧ ((3 : Nat) ≠ 3 ∨ (23 : Nat) ≠ 24) := by decide +kernel

theorem witness_StoredWordsSpellTheSet :
    fullSet sample = true ∧ (∀ row ∈ sample.conflicts, row.length = 24) ∧ 1 ≤ 48 ∧ 48 ≤ recordCount 5 ∧ 32 ≤ recordCount 7 := by
  decide +kernel

theorem witness_ReadsChangeNothing :
    resting flash = true ∧ flash.hears = true ∧ flash.control.mode ≠ .loading ∧ recordExists 7 32 = true ∧ recordExists 4 96 = true
      ∧ flash.store.active = some sample ∧ flash.store.op = .idle ∧ resting { flash with store.active := none, store.op := .record } = true
      ∧ ({ flash with store.op := .record } : State).store.op ≠ .idle := by decide +kernel

/-- Of the 24 group items of 10 bytes, 19 fit in 191 bytes and 5 are left (R164, R184). -/
theorem test_status_carries_what_fits :
    (statusAnswer 2 0 flash).1 = .ok ∧ (statusAnswer 2 0 flash).2.take 5 = [2, 0, 0, 19, 5] ∧ (statusAnswer 2 0 flash).2.length = 197
      ∧ (statusAnswer 2 19 flash).2.take 5 = [2, 0, 19, 5, 0] := by decide +kernel

/-- A spent mark is a presence byte and its value; a call is 0 when set and 1 when clear, by place in its list (R183; 05, section 5.2; 08, section 8.2). -/
theorem test_status_codes_by_place :
    (planItem { flash with preempt.plans := put flash.preempt.plans [(1, { PlanState.reset with spent := true })] } 1).take 4 = [0, 1, 0, 0]
      ∧ (planItem flash 1).take 4 = [0, 0, 0, 0] ∧ callField (some 258) = [0, 0, 0, 1, 2] ∧ callField none = [1, 0, 0, 0, 0] := by
  decide +kernel

theorem witness_StatusReplyFits :
    6 < (7#8).toNat ∧ (∀ part ∈ List.range 7, (statusItems flash part).isSome = true)
      ∧ (statusItems flash 2).map List.length = some 24 ∧ (24#16).toNat ≤ 24 ∧ 24 < (25#16).toNat := by decide +kernel

/-- The sample with more groups in use than there are: V1 fails. -/
def unfit : State := { flash with store.working := { sample with cabinet.groupsInUse := 25 } }

theorem witness_CommitStartsOrIsRefused :
    resting flash = true ∧ flash.hears = true ∧ flash.control.mode.edits = true ∧ flash.store.op = .idle ∧ flash.store.working = sample ∧ sample.valid = true
      ∧ resting unfit = true ∧ unfit.control.mode.edits = true ∧ unfit.store.op = .idle
      ∧ firstFailure unfit.store.working = some (1, 1, 1)
      ∧ resting { flash with store.op := .commit } = true ∧ ({ flash with store.op := .commit } : State).store.op ≠ .idle := by
  refine ⟨by decide +kernel, rfl, rfl, rfl, rfl, test_sample_valid, ?_⟩
  decide +kernel

theorem witness_CommitCompletes :
    let s : State := { flash with store.op := .commit, store.progress := some (5, 24) }
    s.up = true ∧ s.control.mode.permit = false ∧ s.store.op = .commit ∧ s.store.progress = some (5, 24) ∧ faultLaw s = true
      ∧ s.branches.length = 4 ∧ s.preempt.stack = [] ∧ s.preempt.plans.length = 8 := by
  decide +kernel

/-- At a commit the FIFO entry of a station that is gone is answered RANGE and the other stays, the slot is marked with the current image, and an ABSENT
station's fault ends (R122). -/
theorem witness_CommitCompletes_branches :
    let e := fun (tag : Byte) (station : Nat) => ({ tag := tag, station := station, kind := 0x50, payload := [] } : Forward)
    let s : State :=
      { withBranch .a
          { branchOf 1 with
            liveness := [{ Liveness.fresh 1 with present := false }], fifo := [e 1 9, e 2 1], sending := some (.pol 1) }
          flash with
        store.op := .commit, store.progress := some (5, 24), faults.entries := [entry .stationAbsent (some 1) true] }
    nextIs (exec .commitCompletion s)
      (fun t =>
        decide ((t.branch .a).fifo = [e 2 1]) && (t.link.queue.contains (.fwr 1 9 .range []) || decide (t.link.sending = some (.fwr 1 9 .range [])))
          && decide ((t.branch .a).slots.map (fun x => (x.station, x.image, x.pending)) = [(1, t.engine.imageNumber, true)])
          && decide ((t.branch .a).liveness = [Liveness.fresh 1]) && t.faults.entries.all (fun x => !x.active)) = true := by decide +kernel

theorem witness_CommitWriteFailureKeepsActive :
    let s : State := { lockout with store.op := .commit }
    resting s = true ∧ s.store.op = .commit ∧ faultLaw s = true ∧ s.faults.entries.length < 32 := by decide +kernel

theorem witness_DiscardRestoresWorkingCopy :
    listening flash = true ∧ noLampOut flash = true ∧ flash.control.mode ≠ .loading ∧ flash.control.mode ≠ .closing
      ∧ flash.store.op = .idle ∧ listening (inMode .loading .flash) = true ∧ noLampOut (inMode .loading .flash) = true
      ∧ (inMode .loading .flash).control.mode = .loading ∧ ({ flash with store.op := .record } : State).store.op ≠ .idle
      ∧ noLampOut { flash with store.op := .record } = true := by decide +kernel

/-- LOADING with the sample in the store. -/
def stored : State := resetState [] 0 0 0 (Nonvolatile.blank.write sample 23)

theorem witness_LoadEndsInFlashOrLockout :
    stored.up = true ∧ stored.control.mode = .loading ∧ (stored.store.nv.found [] true).passes = true
      ∧ (stored.store.nv.found [] true).record = none ∧ stored.exchange.strikes ≠ 2 ∧ stored.control.heldLockout = none
      ∧ (stored.store.nv.found [] false).record.isSome = true ∧ (State.reset.store.nv.found [] true).passes = false
      ∧ ({ stored with exchange.strikes := 2 } : State).exchange.strikes = 2
      ∧ ({ stored with control.heldLockout := some (.redFail, some 1) } : State).control.heldLockout.isSome = true :=
  ⟨rfl, rfl, passes_write _ _ _ test_sample_back test_sample_valid, rfl, by decide, rfl, rfl, by decide +kernel, rfl, rfl⟩

/-- The end of a load reports TABLE_CORRECTED for a bit corrected, TABLE_INVALID for a set that does not pass, and the fault of the record (R45, R169). -/
theorem witness_LoadEndsInFlashOrLockout_reports :
    let blank : State := { State.reset with store.nv.record := some (.redFail, some 2) }
    faultLaw stored = true ∧ stored.faults.entries.length < 30 ∧ stored.branches.length = 4 ∧ stored.preempt.stack = []
      ∧ stored.preempt.plans.length = 8 ∧ notActive stored .tableCorrected none ∧ 0 < (blank.store.nv.found [{ index := 3, bits := 1 }] true).corrected
      ∧ (blank.store.nv.found [{ index := 3, bits := 1 }] true).passes = false
      ∧ (blank.store.nv.found [{ index := 3, bits := 1 }] true).record = some (.redFail, some 2) ∧ notActive blank .redFail (some 2)
      ∧ faultLaw blank = true ∧ blank.faults.entries.length < 30
      ∧ nextIs (exec (.tableLoadEnd [{ index := 3, bits := 1 }] true) blank)
        (fun t => decide (t.faults.entries.map (fun e => (e.kind, e.active, e.latched))
          = [(.tableCorrected, false, false), (.tableInvalid, true, false), (.redFail, false, true)])) = true := by
  unfold notActive
  decide +kernel

theorem witness_RecordOperationsEnd :
    let s : State :=
      { lockout with control.recordOp := .writing .fieldConflict (some 1), store.op := .record, store.nv.record := some (.unknown, none) }
    let e : State := { flash with control.recordOp := .erasing, store.op := .record, store.nv.record := some (.redFail, some 2) }
    resting s = true ∧ recordLaw s = true ∧ s.control.recordOp = .writing .fieldConflict (some 1) ∧ faultLaw s = true
      ∧ s.faults.entries.length < 32 ∧ resting e = true ∧ recordLaw e = true ∧ e.control.recordOp = .erasing ∧ faultLaw e = true
      ∧ e.faults.entries.length < 32
      ∧ nextIs (exec .recordWriteFailure s) (fun t => t.store.nv.record.isSome && decide (t.faults.entries.map Entry.kind = [.storeWrite]))
        = true
      ∧ nextIs (exec .recordEraseFailure e) (fun t => decide (t.faults.entries.map Entry.kind = [.storeWrite])) = true := by decide +kernel

theorem witness_FaultClearChecks :
    listening flash = true ∧ (inMode .loading .flash).control.mode = .loading
      ∧ ({ flash with store.op := .record } : State).store.op ≠ .idle ∧ flash.control.mode ≠ .loading
      ∧ ({ flash with control.recordOp := .erasing } : State).control.recordOp ≠ .none
      ∧ (inMode .lockout .flash).control.mode = .lockout ∧ (inMode .lockout .flash).control.maint = false
      ∧ flash.store.op = .idle ∧ flash.control.recordOp = .none ∧ flash.control.mode ≠ .lockout ∧ lockout.control.maint = true
      ∧ resting (inMode .loading .flash) = true
      ∧ nextIs (exec .fcl (inMode .loading .flash)) (fun t => decide (t.link.sending = some (.rpl 0x18 .mode []))) = true := by decide +kernel

theorem witness_FaultClearPrunesAndLeavesLockout :
    let lit := { Proving.reset with proved := some .on, lampOut := true, lampOutReleased := true }
    let stray := { Proving.reset with proved := some .off, foreign := true }
    let s : State :=
      { running with
        faults.entries := [entry .lampOut (some 2) true, entry .chain none false], prover.channels := put running.prover.channels [(2, lit)] }
    let f : State := { running with prover.channels := put running.prover.channels [(1, stray), (2, stray)] }
    resting lockout = true ∧ lockout.hears = true ∧ lockout.control.mode ≠ .loading ∧ lockout.storeBusy = false ∧ lockout.control.maint = true
      ∧ lockout.control.mode = .lockout ∧ resting flash = true ∧ flash.hears = true ∧ flash.storeBusy = false ∧ flash.control.maint = false
      ∧ flash.control.mode = .flash ∧ ({ flash with control.maint := true } : State).control.maint = true
      ∧ s.up = true ∧ s.hears = true ∧ s.control.mode = .running ∧ s.storeBusy = false ∧ s.preempt.stack = []
      ∧ (∀ c ∈ numbers 96, (s.proving c).lampOut = true → (s.tables.output c).redProving ≠ 1) ∧ (∀ g ∈ groupNumbers, s.redFail g = false)
      ∧ 2 ≤ s.prover.channels.length ∧ (s.tables.output 2).latch = 1 ∧ (s.proving 2).lampOutReleased = true ∧ faultLaw s = true
      ∧ (f.proving 2).foreignReleased = false ∧ (f.tables.output 1).latch ≠ 1 ∧ f.control.mode = .running ∧ f.storeBusy = false
      ∧ nextIs (exec .fcl s) (fun t => decide (t.faults.entries = []) && !(t.proving 2).lampOut && decide (t.control.mode = .running)) = true
      ∧ nextIs (exec .fcl f) (fun t => (t.proving 2).foreign && (t.proving 1).foreign) = true := by decide +kernel

/-- At rest a clear ends the latched lamp fault and keeps what stays ACTIVE, with MAINT active and inactive alike (R131, R161). -/
theorem witness_FaultClearPrunesAndLeavesLockout_rest :
    let lit := { Proving.reset with proved := some .on, lampOut := true }
    let stays := entry .detectorOpen (some 1) true
    let s := fun (maint : Bool) =>
      { flash with
        faults.entries := [entry .lampOut (some 2) true, { stays with latched := true }, entry .chain none false, entry .stationAbsent (some 3) true]
        prover.channels := put flash.prover.channels [(2, lit)], control.maint := maint, preempt.nestingLimit := true }
    let pruned := fun (maint : Bool) =>
      nextIs (exec .fcl (s maint))
        (fun t => decide (t.faults.entries = [stays, entry .stationAbsent (some 3) true]) && !t.preempt.nestingLimit && !(t.proving 2).lampOut)
    resting (s true) = true ∧ resting (s false) = true ∧ (s true).hears = true ∧ (s false).storeBusy = false ∧ faultLaw (s true) = true
      ∧ faultLaw (s false) = true ∧ endsAtClear (s true) (entry .lampOut (some 2) true) = true ∧ endsAtClear (s true) stays = false
      ∧ pruned true = true ∧ pruned false = true := by decide +kernel

theorem witness_FaultReportsAreRecorded :
    let e := entry .chain none false
    let some1 : State := { flash with faults.entries := [e] }
    let full : State := { flash with faults.entries := (numbers 32).map (fun c => entry .detectorStuck (some c) true) }
    let before := (numbers 3).map (fun c => entry .detectorStuck (some c) true)
    let after := (numbers 28).map (fun c => entry .detectorIdle (some c) false)
    let ended : State := { flash with faults.entries := before ++ entry .lampOut (some 9) false :: after }
    faultLaw flash = true ∧ flash.faults.entries.length < 32 ∧ (∀ x ∈ flash.faults.entries, x.is .chain none = false)
      ∧ faultLaw some1 = true ∧ e ∈ some1.faults.entries ∧ e.is .chain none = true
      ∧ faultLaw full = true ∧ full.faults.entries.length = 32 ∧ (∀ x ∈ full.faults.entries, x.is .chain none = false)
      ∧ (∀ x ∈ full.faults.entries, x.active = true ∨ x.latched = true)
      ∧ (∀ x ∈ some1.faults.entries, x.is .chain none = true → x.active = false)
      ∧ entry .detectorStuck (some 32) true ∈ full.faults.entries ∧ (entry .detectorStuck (some 32) true).active = true
      ∧ (entry .detectorStuck (some 32) true).is .detectorStuck (some 32) = true
      ∧ faultLaw ended = true ∧ ended.faults.entries.length = 32 ∧ (∀ x ∈ ended.faults.entries, x.is .chain none = false)
      ∧ (entry .lampOut (some 9) false).active = false ∧ (entry .lampOut (some 9) false).latched = false
      ∧ (∀ x ∈ before, x.active = true ∨ x.latched = true) := by decide +kernel

/-- The alarm clauses: an ACTIVE and an ENDED entry met by a condition and by an occurrence, an end that finds no entry, and a command that changes the
mode twice, RUNNING to CLOSING to FLASH, with an alarm for each change (R65, R163). -/
theorem witness_FaultReportsAreRecorded_alarms :
    let e := entry .supervision none true
    let one : State := { warning with faults.entries := [e] }
    faultLaw one = true ∧ e ∈ one.faults.entries ∧ e.is .supervision none = true ∧ e.active = true
      ∧ ((∀ x ∈ one.faults.entries, x.is .chain none = false))
      ∧ isReset (.modFlash 1) = false ∧ Instr.modFlash 1 ≠ .outgoingFrameSent
      ∧ nextIs (exec (.modFlash 1) running)
        (fun t =>
          decide ((t.link.sending.toList ++ t.link.queue).map OutFrame.isDet = [false, false, false])
            && decide (alarmTrail running.clock.now (running.faults.alarmNumber, .running, running.control.lastCause)
              (t.link.sending.toList ++ t.link.queue) = some (running.faults.alarmNumber + 2, .flash, .closeDone))) = true := by decide +kernel

/-- FLASH with four frames waiting on branch A. -/
def stuffed : State :=
  withBranch .a { branchOf 1 with fifo := List.replicate 4 { tag := 1, station := 1, kind := 0x50, payload := [] } } flash

/-- FLASH with the answer to a forwarded frame awaited on branch A, its deadline come. -/
def forwarding : State := withBranch .a { branchOf 1 with awaited := some { station := 1, tag := some 9, deadline := 100000 } } flash

theorem witness_ForwardedFrames :
    resting flash = true ∧ flash.hears = true ∧ flash.control.mode ≠ .loading ∧ reservedInner 0x36 = false ∧ reservedInner 0x35 = true ∧ reservedInner 0x22 = true
      ∧ flash.tables.branchOf 1 = some .a
      ∧ ((withBranch .a { branchOf 1 with fifo := List.replicate 3 { tag := 1, station := 1, kind := 0x50, payload := [] } } flash).branch .a).fifo.length < 4
      ∧ resting stuffed = true ∧ stuffed.hears = true ∧ flash.forwardTag .a 1 = none ∧ 4 ≤ (stuffed.branch .a).fifo.length ∧ stuffed.tables.branchOf 1 = some .a
      ∧ flash.tables.branchOf 9 = none ∧ resting (inMode .loading .flash) = true ∧ (inMode .loading .flash).control.mode = .loading
      ∧ resting forwarding = true ∧ forwarding.forwardTag .a 1 = some 9 ∧ (List.replicate 196 (0 : Byte)).length ≤ 196
      ∧ 196 < (List.replicate 197 (0 : Byte)).length ∧ reached 100000 forwarding.clock.now = true
      ∧ (forwarding.branch .a).awaited = some { station := 1, tag := some 9, deadline := 100000 } := by decide +kernel

/-- The hypotheses for the permit modes, met in RUNNING: there too a forwarded frame is begun by a free branch whose turn it is, or waits. -/
theorem witness_ForwardedFrames_running :
    let s := withBranch .a { branchOf 1 with turn := .fwd } running
    let e : Forward := { tag := 7, station := 1, kind := 0x50, payload := [] }
    let full := withBranch .a { branchOf 1 with fifo := List.replicate 4 e } running
    let due := withBranch .a { branchOf 1 with awaited := some { station := 1, tag := some 9, deadline := 100000 } } running
    s.up = true ∧ s.branches.length = 4 ∧ s.hears = true ∧ s.control.mode = .running ∧ noLampOut s = true ∧ reservedInner 0x50 = false
      ∧ s.tables.branchOf 1 = some .a ∧ (s.branch .a).fifo.length < 4 ∧ s.tables.branchOf 9 = none ∧ 4 ≤ (full.branch .a).fifo.length
      ∧ due.forwardTag .a 1 = some 9 ∧ reached 100000 due.clock.now = true
      ∧ nextIs (exec (.fwd 7 1 0x50 []) s) (fun t => decide ((t.branch .a).sending = some (.fwd e)) && decide ((t.branch .a).fifo = [])) = true
      ∧ nextIs (exec (.fwd 7 1 0x50 []) due) (fun t => decide ((t.branch .a).fifo = [e])) = true
      ∧ nextIs (exec (.fwd 7 1 0x50 []) full) (fun t => decide (t.link.sending = some (.fwr 7 1 .full []))) = true := by decide +kernel

theorem witness_LineEvents :
    let queued : State := { flash with link.queue := [resetAlarm], link.sending := some resetAlarm }
    let deaf : State := { withBranch .a { branchOf 1 with assembler := .waiting } flash with link.assembler := .waiting }
    queued.up = true ∧ queued.link.queue = resetAlarm :: [] ∧ flash.up = true ∧ flash.link.queue = [] ∧ 100 ≤ flash.clock.awake
      ∧ 99 < 100 ∧ ({ flash with clock.awake := 99 } : State).clock.awake < 100 ∧ State.reset.clock.awake < 100
      ∧ deaf.up = true ∧ deaf.link.assembler = .waiting ∧ isControllerFrame .fcl = true ∧ resting deaf = true
      ∧ (deaf.branch .a).assembler = .waiting
      ∧ nextIs (exec (.maintStateChange true 1000) { flash with clock.awake := 99 }) (fun t => !t.control.maint) = true := by decide +kernel

theorem witness_QueuePlacement :
    let det := fun c => OutFrame.det { channel := c, occupied := true, fault := false, time := 0, occupancy := none }
    let other := OutFrame.rpl 0x15 .ok []
    let l := fun q : List OutFrame => ({ assembler := .receiving, queue := q, reportsLost := false, sending := none } : Link)
    (l (List.replicate 31 other)).queue.length < 32 ∧ (l (List.replicate 32 other)).queue.length = 32 ∧ other.isDet = false
      ∧ (∀ g ∈ (l (List.replicate 32 other)).queue, g.isDet = false)
      ∧ (l ([other] ++ det 4 :: List.replicate 30 other)).queue.length = 32
      ∧ (l ([other] ++ det 4 :: List.replicate 30 other)).queue = [other] ++ det 4 :: List.replicate 30 other
      ∧ (∀ g ∈ [other], g.isDet = false) ∧ (∀ g ∈ List.replicate 30 other, g.isDetOf 4 = false)
      ∧ (∀ g ∈ (l (det 5 :: List.replicate 31 other)).queue, g.isDetOf 4 = false)
      ∧ (l (det 5 :: List.replicate 31 other)).queue.length = 32
      ∧ ({ l [] with sending := some other } : Link).sending.isSome = true ∧ (l []).queue = [] ∧ (l []).sending = none
      ∧ (l [other, det 4]).queue = other :: [det 4] := by decide +kernel

theorem witness_ControllerFramesReadBack :
    wellFormed (.twr 3 1 (List.replicate 198 255)) = true ∧ (controllerPayload (.twr 3 1 (List.replicate 198 255))).isSome = true
      ∧ wellFormed (.img 1 2 3 0xffffffffffff) = true ∧ (controllerPayload (.img 1 2 3 0xffffffffffff)).isSome = true
      ∧ wellFormed (.calCancel 1 255) = true ∧ (controllerPayload (.fwd 1 2 3 (List.replicate 197 0))).isSome = true := by decide +kernel

theorem witness_StartUpAndSupervisionExpiries :
    let s : State := { start with control.startTimer := some (.running 0), control.firstImage := some true }
    let n : State := { start with control.startTimer := some (.running 0), control.firstImage := some false }
    let r : State := { running with exchange.supervision := some (.running 0) }
    let q : State := { start with exchange.supervision := some (.running 0) }
    s.up = true ∧ noLampOut s = true ∧ s.control.mode = .start ∧ s.control.startTimer = some (.running 0)
      ∧ s.control.firstImage = some true ∧ noLampOut n = true ∧ n.control.firstImage ≠ some true
      ∧ r.up = true ∧ noLampOut r = true ∧ r.control.mode = .running ∧ r.exchange.supervision = some (.running 0)
      ∧ faultLaw r = true ∧ r.faults.entries.length < 32 ∧ noLampOut q = true ∧ q.control.mode = .start
      ∧ q.exchange.supervision = some (.running 0) ∧ inService q 4 = true ∧ faultLaw q = true ∧ q.faults.entries.length < 32
      ∧ notActive q .noController none := by
  unfold notActive
  decide +kernel

theorem witness_WarningWindowClosesAndCounts :
    let c := withGroup 1 { Group.reset with shown := .clear, time := 299 } warning
    let two : State := { warning with exchange.strikes := 1 }
    warning.up = true ∧ noLampOut warning = true ∧ warning.control.mode = .warning ∧ warning.exchange.warning = some 0
      ∧ faultLaw warning = true ∧ warning.closed = true ∧ warning.exchange.strikes = 0 ∧ 1 ≤ two.exchange.strikes ∧ two.closed = true
      ∧ c.control.mode = .warning ∧ noLampOut c = true ∧ c.exchange.warning = some 0 ∧ inService c 1 = true ∧ c.shown 1 = .clear
      ∧ (c.group 1).time < (c.tables.group 1).clearUnits := by decide +kernel

theorem witness_TimedMovesOfGroups :
    let go := fun g t => withGroup g { Group.reset with shown := .go, time := t, note := .held } running
    let c := withGroup 1 { Group.reset with shown := .clear, time := 300 } running
    runningCalm releasing = true ∧ releasing.preempt.stack = [] ∧ inService releasing 2 = true ∧ 0 < (releasing.tables.group 2).minGoUnits
      ∧ 0 < (releasing.tables.group 2).minStopUnits ∧ releasing.shown 2 = .prepare
      ∧ (releasing.tables.group 2).prepareUnits ≤ (releasing.group 2).time
      ∧ runningCalm c = true ∧ c.shown 1 = .clear ∧ (c.tables.group 1).clearUnits ≤ (c.group 1).time
      ∧ runningCalm (go 1 500) = true ∧ (go 1 500).shown 1 = .go ∧ ((go 1 500).group 1).note = .held
      ∧ ((go 1 500).tables.group 1).minGoUnits ≤ ((go 1 500).group 1).time ∧ ((go 1 500).effective 1).1 ≠ .go
      ∧ ((go 3 400).tables.group 3).clearUnits = 0 ∧ ((go 3 400).tables.group 3).minGoUnits ≤ ((go 3 400).group 3).time
      ∧ inService (go 3 400) 3 = true ∧ 0 < ((go 3 400).tables.group 3).minStopUnits ∧ ((go 3 400).effective 3).1 ≠ .go := by decide +kernel

/-- RUNNING with target GO asked of group 2, held by its minimum STOP, which has just been reached; group 1 is in STOP with a clearance clock. -/
def asksIn (clearance : Nat) : State :=
  withGroup 4 { Group.reset with shown := .stop, clearance := 65535 }
    (withGroup 1 { Group.reset with shown := .stop, clearance := clearance }
      (withGroup 2 { Group.reset with shown := .stop, time := 100, note := .held, target := .go } (asking [.stop, .go] running)))

theorem witness_AdmissionAtExpiries :
    let s := asksIn 300
    let late := asksIn 299
    let waits := withGroup 2 { Group.reset with shown := .stop, time := 100, note := .deferred, deferral := some 0, target := .go } s
    let barred := withGroup 1 { Group.reset with shown := .go, time := 499 } s
    runningCalm s = true ∧ s.preempt.stack = [] ∧ inService s 2 = true ∧ s.shown 2 = .stop
      ∧ (s.tables.group 2).minStopUnits ≤ (s.group 2).time ∧ (s.effective 2).1 = .go ∧ 0 < (s.tables.group 2).minGoUnits
      ∧ (s.group 2).note = .held ∧ (waits.group 2).deferral = some 0
      ∧ (∀ i ∈ s.tables.conflicting 2, i ≤ s.engine.groups.length ∧ s.shown i = .stop ∧ (s.effective i).1 = .stop ∧ s.goLampFault i = false)
      ∧ (∀ i ∈ s.tables.conflicting 2, s.tables.intergreen i 2 ≤ (s.tables.group 2).prepareUnits + (s.group i).clearance)
      ∧ (∃ i ∈ late.tables.conflicting 2, late.tables.intergreen i 2 = (late.tables.group 2).prepareUnits + (late.group i).clearance + 1)
      ∧ (∀ i ∈ late.tables.conflicting 2, late.tables.intergreen i 2 ≤ (late.tables.group 2).prepareUnits + (late.group i).clearance + 1)
      ∧ 1 ∈ barred.tables.conflicting 2 ∧ 1 ≤ barred.engine.groups.length ∧ barred.shown 1 = .go
      ∧ (barred.group 1).time < (barred.tables.group 1).minGoUnits ∧ (barred.effective 2).1 = .go
      ∧ nextIs (exec (.minimumStopReached 2) s) (fun t => decide (t.shown 2 = .prepare)) = true
      ∧ nextIs (exec (.minimumStopReached 2) late) (fun t => decide ((t.group 2).deferral = some 1)) = true
      ∧ nextIs (exec (.minimumStopReached 2) barred) (fun t => decide ((t.group 2).note = .blocked)) = true := by decide +kernel

theorem witness_ShortfallOfZeroAdmits :
    ((asksIn 65535).group 1).clearance = 65535 ∧ (asksIn 0).tables.intergreen 3 2 = 0 ∧ ((asksIn 0).group 1).clearance = 0
      ∧ (asksIn 0).tables.intergreen 3 1 ≤ ((asksIn 0).tables.group 1).prepareUnits
      ∧ (∀ i ∈ (asksIn 300).tables.conflicting 2, (asksIn 300).blocks i = false)
      ∧ (∀ i ∈ (asksIn 300).tables.conflicting 2, (asksIn 300).shortfall i 2 ≤ 0)
      ∧ (∃ i ∈ (asksIn 299).tables.conflicting 2, (asksIn 299).shortfall i 2 = ((1 : Nat) : Int))
      ∧ (∀ i ∈ (asksIn 299).tables.conflicting 2, (asksIn 299).shortfall i 2 ≤ ((1 : Nat) : Int))
      ∧ (asksIn 300).admission 2 = .admitted
      ∧ (∃ i ∈ (withGroup 1 { Group.reset with shown := .prepare } running).tables.conflicting 2,
        (withGroup 1 { Group.reset with shown := .prepare } running).blocks i = true) := by decide +kernel

theorem witness_ConflictMatrixCheck :
    let skewed : State := { flash with store.working := { sample with conflicts := put defaultSet.conflicts [(1, row [(24, 0)])] } }
    (∀ i ∈ groupNumbers, conflictRowValid sample i = true)
      ∧ (∀ i ∈ groupNumbers, ∀ j ∈ groupNumbers, (sample.entry i j).conflict = 0 ∨ (sample.entry i j).conflict = 1)
      ∧ (∀ i ∈ groupNumbers, ∀ j ∈ groupNumbers,
        (sample.entry i j).conflict = (sample.entry j i).conflict ∧ (sample.entry i i).conflict = 0
          ∧ ((sample.entry i j).conflict = 0 → (sample.entry i j).intergreen = 0))
      ∧ resting skewed = true ∧ skewed.control.mode.edits = true ∧ skewed.store.op = .idle
      ∧ (skewed.store.working.entry 1 24).conflict ≠ (skewed.store.working.entry 24 1).conflict := by decide +kernel

/-- RUNNING with four plans stacked, the top in HOLD. -/
def deep : State :=
  { running with
    preempt.stack :=
      { plan := 5, phase := .hold, delay := none, dwell := none, duration := none }
        :: [6, 7, 8].map (fun p => { plan := p, phase := .dwell, delay := none, dwell := some 9, duration := none }) }

theorem witness_PreemptionLineChanges :
    let spent : State := { running with preempt.plans := put running.preempt.plans [(1, { PlanState.reset with spent := true })] }
    start.up = true ∧ noLampOut start = true ∧ start.control.mode = .start ∧ start.preempt.stack = []
      ∧ start.preempt.plans.length = 8 ∧ start.preempt.lines.length = 6 ∧ 29 < 30 ∧ 30 ≤ start.clock.awake ∧ start.line 1 ≠ true
      ∧ ({ start with clock.awake := 29 } : State).clock.awake < 30
      ∧ (start.tables.plan 1).on = true ∧ (start.tables.plan 1).onLine 1 = true ∧ (start.tables.plan 1).level = true
      ∧ (start.tables.plan 2).onLine 1 = true ∧ (start.tables.plan 2).level = false
      ∧ ((start.tables.plan 3).on && (start.tables.plan 3).onLine 6) = false
      ∧ running.control.mode.admits = true ∧ warning.control.mode.admits = true ∧ running.line 6 = false ∧ (running.tables.plan 4).onLine 6 = true
      ∧ running.stacked 4 = false ∧ (running.plan 4).pending = false ∧ mayTake running running.preempt.inhibit 4 = true
      ∧ (∀ q < 4, (running.plan q).pending = false ∧ (running.tables.plan q).onLine 6 = false) ∧ (running.tables.plan 4).entryDelay ≠ 0
      ∧ (spent.tables.plan 2).entryDelay = 0 ∧ mayTake spent 0 2 = true ∧ (spent.plan 1).spent = true ∧ (spent.tables.plan 1).level = true
      ∧ inService spent 2 = true ∧ member (spent.tables.plan 2).forcedGo 2 = true ∧ spent.shown 2 = .stop
      ∧ (spent.group 2).time < (spent.tables.group 2).minStopUnits
      ∧ (running.tables.plan 5).onLine 5 = true ∧ mayTake running 0 5 = true ∧ (running.tables.plan 5).entryDelay = 0
      ∧ (running.plan 5).spent = false ∧ (running.tables.plan 5).minDwell ≠ 0
      ∧ (∀ f ∈ List.range 5, running.tables.live f = true → member (running.tables.plan 5).forcedGo f = false)
      ∧ mayTake deep 0 4 = true ∧ deep.preempt.stack.length = 4 ∧ (deep.plan 4).limitReported = false ∧ notActive deep .nestingLimit (some 4)
      ∧ faultLaw deep = true ∧ deep.faults.entries.length < 24
      ∧ nextIs (exec (.peLineChange 6 true 30) running) (fun t => decide (t.preempt.stack = [pushed running 4])) = true
      ∧ nextIs (exec (.peLineChange 1 true 30) spent) (fun t => decide (t.preempt.stack.map (fun x => (x.plan, x.phase)) = [(2, .entry)])) = true
      ∧ nextIs (exec (.peLineChange 5 true 30) running) (fun t => decide (t.preempt.stack.map (fun x => (x.plan, x.phase)) = [(5, .dwell)])) = true
      ∧ nextIs (exec (.peLineChange 6 true 30) deep) (fun t => t.preempt.nestingLimit && decide (t.preempt.stack = deep.preempt.stack)) = true := by
  unfold notActive
  decide +kernel

theorem witness_PlanExpiries :
    let d := planned 1 .delay (some 0) none (some 3000) true
    let w := planned 1 .dwell none (some 0) (some 5) true
    let e := planned 2 .dwell none (some 0) none false
    let o := planned 1 .entry none none (some 0) true
    runningCalm d = true ∧ d.preempt.plans.length = 8 ∧ (d.tables.plan 1).level = true ∧ (d.plan 1).active = true
      ∧ d.preempt.stack = [{ plan := 1, phase := .delay, delay := some 0, dwell := none, duration := some 3000 }]
      ∧ inService d 1 = true ∧ member (d.tables.plan 1).forcedGo 1 = true ∧ d.shown 1 = .stop
      ∧ (d.group 1).time < (d.tables.group 1).minStopUnits ∧ inService d 2 = true ∧ member (d.tables.plan 1).forcedStop 2 = true
      ∧ member (d.tables.plan 1).forcedStop 1 = false
      ∧ runningCalm w = true ∧ (w.tables.plan 1).level = true ∧ (w.plan 1).active = true
      ∧ w.preempt.stack = [{ plan := 1, phase := .dwell, delay := none, dwell := some 0, duration := some 5 }]
      ∧ runningCalm e = true ∧ (e.tables.plan 2).level = false ∧ (e.plan 2).pending = false ∧ e.preempt.plans.length = 8
      ∧ e.preempt.stack = [{ plan := 2, phase := .dwell, delay := none, dwell := some 0, duration := none }]
      ∧ runningCalm o = true ∧ o.durationOver 1 = true ∧ (o.plan 1).pending = false ∧ faultLaw o = true
      ∧ (∀ x ∈ o.faults.entries, x.kind = .planTimeout → x.subject = some 1 → x.active = false) ∧ o.faults.entries.length < 24
      ∧ (o.tables.plan 1).level = true ∧ (o.plan 1).active = true ∧ o.preempt.slot = none := by decide +kernel

/-- RUNNING at the end of the dwell of plan 2, with another plan below it, active or not. -/
def above (y : Stacked) (active : Bool) : State :=
  { running with
    preempt.stack := [{ plan := 2, phase := .dwell, delay := none, dwell := some 0, duration := none }, y]
    preempt.plans := put running.preempt.plans [(y.plan, { PlanState.reset with active := active })] }

/-- The taking and the resuming at the end of the top plan. -/
theorem witness_PlanExpiries_at_an_end :
    let below := fun (p : Nat) (phase : Phase) (delay dwell : Option Nat) =>
      ({ plan := p, phase := phase, delay := delay, dwell := dwell, duration := none } : Stacked)
    let s : State := { kept with preempt.inhibit := 0, preempt.stack := [below 2 .dwell none (some 0)] }
    let stackIs := fun (s : State) (stack : List Stacked) =>
      nextIs (exec .planDwellEnd s) (fun t => decide (t.preempt.stack = stack))
    runningCalm s = true ∧ s.preempt.plans.length = 8 ∧ (s.tables.plan 2).level = false ∧ (s.plan 2).pending = false ∧ (s.plan 4).pending = true
      ∧ mayTake { s with preempt.stack := [] } 0 4 = true ∧ (∀ q < 4, (s.plan q).pending = false) ∧ (s.tables.plan 4).entryDelay ≠ 0
      ∧ (s.plan 4).active = true ∧ s.preempt.slot = none ∧ stackIs s [pushed s 4] = true
      ∧ runningCalm (above (below 4 .delay (some 1) none) true) = true ∧ ∀ q ∈ List.range 9, (running.plan q).pending = false
      ∧ (running.tables.plan 5).level = true ∧ (running.tables.plan 4).level = false
      ∧ stackIs (above (below 4 .delay (some 1) none) false) [below 4 .delay (some 1) none] = true
      ∧ stackIs (above (below 5 .delay (some 1) none) false) [] = true
      ∧ inService running 3 = true ∧ member (running.tables.plan 4).forcedGo 3 = true ∧ running.shown 3 = .stop
      ∧ (running.group 3).time < (running.tables.group 3).minStopUnits
      ∧ stackIs (above (below 4 .entry none none) true) [below 4 .entry none none] = true
      ∧ stackIs (above (below 4 .dwell none (some 1)) true) [below 4 .dwell none (some 1)] = true
      ∧ stackIs (above (below 5 .hold none none) true) [below 5 .hold none none] = true
      ∧ stackIs (above (below 5 .hold none none) false) [] = true := by decide +kernel

/-- FLASH with branch A sending a frame. -/
def sends (f : BranchFrame) : State := withBranch .a { branchOf 1 with sending := some f } flash

/-- A branch without slots sets no apply pending; one that it still has takes the new number (R110). -/
theorem test_mark_without_slots :
    let s : State := { flash with engine.imageNumber := 9 }
    let marked := fun (b : Branch) => ((markBranch .d (withBranch .d b s)).branch .d).applyPending
    marked { Branch.reset with applyPending := some 8 } = some 9 ∧ marked Branch.reset = none
      ∧ marked { Branch.reset with slots := [DriveSlot.fresh 1], applyPending := some 8 } = some 9 := by decide +kernel

/-- The hypotheses of the order of arbitration, each beside what a free branch then starts. -/
theorem witness_BranchTransmissionEnds_order :
    let slot := fun (n : Nat) (pending : Bool) => ({ station := n, image := 9, states := [], pending := pending } : DriveSlot)
    let e : Forward := { tag := 1, station := 1, kind := 0x50, payload := [] }
    let gone : Liveness := { Liveness.fresh 4 with present := false, repollDue := true }
    let three := [Liveness.fresh 1, Liveness.fresh 3, gone]
    let b : Branch := { Branch.reset with slots := [slot 1 false, slot 2 true, slot 3 true], applyPending := some 9, fifo := [e], liveness := three }
    let quiet : Branch := { b with slots := [slot 1 false], applyPending := none }
    let well : Branch := { quiet with liveness := [Liveness.fresh 1, Liveness.fresh 3] }
    let alone : Branch := { quiet with liveness := [{ gone with repollDue := false }] }
    b.sending = none ∧ b.awaited = none ∧ (∀ x ∈ [slot 1 false], x.pending = false) ∧ (∀ x ∈ [slot 1 false, slot 3 true], x.station ≠ 2)
      ∧ b.arbitrate.sending = some (.drv 2 9 []) ∧ { b with awaited := some { station := 1, tag := none, deadline := 0 } }.arbitrate.sending = none
      ∧ { b with slots := [slot 1 false] }.arbitrate.sending = some (.apl 9 [(1, [])])
      ∧ { quiet with turn := .fwd }.arbitrate.sending = some (.fwd e) ∧ quiet.turn = .pol ∧ quiet.arbitrate.sending = some (.pol 4)
      ∧ well.pointer = none ∧ well.arbitrate.sending = some (.pol 1)
      ∧ { well with pointer := some 1 }.arbitrate.sending = some (.pol 3) ∧ { well with pointer := some 3 }.arbitrate.sending = some (.pol 1)
      ∧ alone.arbitrate.sending = some (.fwd e) ∧ { alone with fifo := [] }.arbitrate = { alone with fifo := [] }
      ∧ b.liveness ≠ [] ∧ { quiet with liveness := [], slots := [], applyPending := some 9, fifo := [] }.arbitrate.sending = none := by decide +kernel

theorem witness_BranchTransmissionEnds :
    let carried : List (Nat × List Lamp) := [(1, .on :: List.replicate 15 .off)]
    let s := sends (.apl 9 carried)
    resting (sends (.pol 1)) = true ∧ ((sends (.pol 1)).branch .a).sending = some (.pol 1)
      ∧ ((sends (.fwd { tag := 1, station := 1, kind := 0x50, payload := [] })).branch .a).sending
        = some (.fwd { tag := 1, station := 1, kind := 0x50, payload := [] })
      ∧ ((sends (.drv 1 9 [])).branch .a).sending = some (.drv 1 9 []) ∧ resting s = true ∧ (s.branch .a).sending = some (.apl 9 carried)
      ∧ s.tables.proved 1 = true ∧ 1 ≤ s.prover.channels.length ∧ 1 ≤ s.tables.outputs.length
      ∧ (s.tables.roleOn .a (s.tables.output 1).station.toNat).isSome = true
      ∧ carried.find? (fun x => decide (x.1 = (s.tables.output 1).station.toNat))
        = some ((s.tables.output 1).station.toNat, .on :: List.replicate 15 .off) := by decide +kernel

/-- A supervisor that awaits a poll's answer on a branch, from a station with a liveness record. -/
def awaits (br : BranchId) (l : Liveness) (s : State) : State :=
  withBranch br
    { Branch.reset with assembler := .receiving, liveness := [l], awaited := some { station := l.station, tag := none, deadline := 100000 } } s

theorem witness_StationAnswers :
    let a := awaits .a (Liveness.fresh 1) flash
    let gone := awaits .a { Liveness.fresh 1 with present := false, timeouts := 3 } flash
    let c := awaits .c (Liveness.fresh 3) flash
    let b := awaits .b (Liveness.fresh 2) flash
    let e : DsmInput := { health := .ok, occupied := true, overrun := false, ages := [] }
    let late := fun (count : Nat) (lagging : Bool) =>
      withBranch .a
        { (awaits .a { Liveness.fresh 1 with lagCount := count, lagging := lagging } flash).branch .a with lastApply := some (7, 99700) } flash
    let lag := fun (o : Host.Outcome State Fault Refusal) =>
      nextIs o (fun t => ((t.branch .a).record 1).any Liveness.lagging && decide (t.faults.entries.map Entry.kind = [.stationLag]))
    resting a = true ∧ a.branches.length = 4 ∧ (late 2 false).answersPoll .a 1 .output = true ∧ (late 2 false).settled .a = true
      ∧ resting (late 2 false) = true ∧ ((late 2 false).branch .a).lastApply = some (7, 99700) ∧ faultLaw (late 3 true) = true
      ∧ lag (exec (.lstReceived .a 1 (some 6) []) (late 2 false)) = true ∧ lag (exec (.lstReceived .a 1 none []) (late 1 false)) = false
      ∧ nextIs (exec (.lstReceived .a 1 (some 7) []) (late 3 true)) (fun t => ((t.branch .a).record 1).any (fun l => !l.lagging)) = true
      ∧ (a.branch .a).record 1 = some (Liveness.fresh 1) ∧ (Liveness.fresh 1).present = true
      ∧ a.answersPoll .a 1 .output = true ∧ a.settled .a = false
      ∧ gone.answersPoll .a 1 .output = true ∧ ((gone.branch .a).record 1).any (fun l => !l.present) = true ∧ faultLaw gone = true
      ∧ resting c = true ∧ c.answersPoll .c 3 .sign = true ∧ (c.branch .c).record 3 = some (Liveness.fresh 3)
      ∧ resting b = true ∧ b.answersPoll .b 2 .detector = true ∧ b.detector 1 = some vacant ∧ (b.tables.detector 1).station.toNat = 2
      ∧ entry? (List.replicate 16 e) (b.tables.detector 1).input.toNat = some e ∧ vacant.resync = true ∧ vacant.occupied ≠ e.occupied := by
  decide +kernel

theorem witness_PollTimeouts :
    let once := awaits .a { Liveness.fresh 1 with timeouts := 1 } flash
    let last := awaits .a { Liveness.fresh 1 with timeouts := 2 } running
    let again : Liveness := { Liveness.fresh 1 with present := false, timeouts := 3, repoll := some 0 }
    let due := withBranch .a { Branch.reset with liveness := [again], sending := some (.drv 1 9 []) } flash
    let late :=
      withBranch .a
        { (awaits .a { Liveness.fresh 1 with lagCount := 2 } running).branch .a with lastApply := some (7, 99700) } running
    late.up = true ∧ late.branches.length = 4 ∧ late.control.mode = .running ∧ late.answersPoll .a 1 .output = true
      ∧ (late.branch .a).record 1 = some { Liveness.fresh 1 with lagCount := 2 } ∧ late.settled .a = true
      ∧ nextIs (exec (.lstReceived .a 1 none []) late) (fun t => decide (t.control.mode = .flash) && decide (t.control.lastCause = .faultFlash))
        = true
      ∧ resting once = true ∧ once.branches.length = 4 ∧ (once.branch .a).record 1 = some { Liveness.fresh 1 with timeouts := 1 }
      ∧ (once.branch .a).awaited = some { station := 1, tag := none, deadline := 100000 } ∧ reached 100000 once.clock.now = true
      ∧ last.up = true ∧ last.control.mode = .running ∧ (last.branch .a).record 1 = some { Liveness.fresh 1 with timeouts := 2 }
      ∧ last.tables.roleOn .a 1 = some .output ∧ faultLaw last = true ∧ last.faults.entries.length < 32 ∧ inService last 1 = true
      ∧ nextIs (exec (.pollAnswerTimeout .a) last) (fun t => decide (t.control.mode = .flash) && decide (t.control.lastCause = .faultFlash))
        = true
      ∧ resting due = true ∧ (due.branch .a).record 1 = some again ∧ again.repoll = some 0 ∧ (due.branch .a).sending.isSome = true := by
  decide +kernel

/-- Where the channel of a lost DETECTOR station was OCCUPIED, the fault default gives what it reports, and the plan that it called is IDLE (R149, R153). -/
theorem witness_PollTimeouts_plan :
    let s := fun (faultDefault : Byte) (reported : Bool) =>
      { awaits .b { Liveness.fresh 2 with timeouts := 2 } flash with
        store.active :=
          some
            { sample with
              detectors := put sample.detectors [(1, { station := 2, input := 1, faultDefault := faultDefault })]
              plans := put sample.plans [(6, { enabled := 1, source := 6, sensitivity := 0, minDwell := 1 })] }
        preempt.plans := put flash.preempt.plans [(6, { PlanState.reset with pending := true, active := true })]
        detectors := put flash.detectors [(1, some { vacant with occupied := true, raw := some true, reported := reported })] }
    let shows := fun (faultDefault : Byte) (reported shown : Bool) =>
      nextIs (exec (.pollAnswerTimeout .b) (s faultDefault reported))
        (fun t => (t.detector 1).any (fun d => d.inFault && decide (d.reported = shown)) && !(t.plan 6).active && !(t.plan 6).pending)
    resting (s 0 true) = true ∧ ((s 0 true).tables.plan 6).on = true ∧ ((s 0 true).tables.plan 6).source.toNat = 1 + 5
      ∧ ((s 0 true).tables.plan 6).level = true ∧ (s 0 true).stacked 6 = false ∧ (s 0 true).preempt.plans.length = 8
      ∧ shows 0 false true = true ∧ shows 1 true false = true ∧ shows 2 true true = true ∧ shows 2 false false = true := by decide +kernel

/-- The third missed poll of the DETECTOR station puts its channel in fault, in FLASH and in RUNNING; a re-poll that is missed sets its timer again (R117,
R149). -/
theorem witness_PollTimeouts_detector :
    let last := fun (s : State) => awaits .b { Liveness.fresh 2 with timeouts := 2 } s
    let gone : Liveness := { Liveness.fresh 2 with present := false, timeouts := 3 }
    let lost := fun (o : Host.Outcome State Fault Refusal) (m : Mode) =>
      nextIs o
        (fun t =>
          (t.detector 1).any (fun d => d.inFault && d.stationAbsent && d.reported && decide (d.lastDet = some (true, true, 100000)))
            && decide (t.faults.entries.map (fun e => (e.kind, e.subject, e.active)) = [(.stationAbsent, some 2, true)])
            && decide ((t.link.sending.toList ++ t.link.queue).map OutFrame.isDet = [false, true]) && decide (t.control.mode = m))
    resting (last flash) = true ∧ runningCalm (last running) = true ∧ (last flash).branches.length = 4
      ∧ ((last flash).branch .b).record 2 = some { Liveness.fresh 2 with timeouts := 2 } ∧ (last flash).tables.roleOn .b 2 = some .detector
      ∧ ((last running).branch .b).awaited = some { station := 2, tag := none, deadline := 100000 } ∧ reached 100000 (last running).clock.now = true
      ∧ faultLaw (last flash) = true ∧ (last flash).faults.entries.length < 32 ∧ (last flash).detector 1 = some vacant
      ∧ ((last flash).tables.detector 1).station.toNat = 2 ∧ vacant.inFault = false ∧ (last flash).preempt.plans.length = 8
      ∧ lost (exec (.pollAnswerTimeout .b) (last flash)) .flash = true ∧ lost (exec (.pollAnswerTimeout .b) (last running)) .running = true
      ∧ ((awaits .b gone flash).branch .b).record 2 = some gone ∧ resting (awaits .b gone flash) = true
      ∧ runningCalm (awaits .b gone running) = true
      ∧ nextIs (exec (.pollAnswerTimeout .b) (awaits .b gone running))
        (fun t => ((t.branch .b).record 2).any (fun l => decide (l.repoll = some 100) && !l.present) && decide (t.faults = running.faults))
        = true := by decide +kernel

/-- Hypotheses of the clauses of LampReadingsAreJudged at the boundaries of a channel with on threshold 60, off threshold 25, hysteresis 10,
qualifiers of 2 s and 0.3 s; and of a channel whose hysteresis reaches its off threshold. -/
theorem witness_LampReadingsAreJudged :
    let r : ChannelRec := { station := 1, lit := 4 }
    let low : ChannelRec := { r with offThreshold := 10 }
    Proving.reset.lampOut = false ∧ Proving.reset.outRun = none ∧ (59#16).toNat < r.onThreshold.toNat
      ∧ ((1999#32) - 0).toNat < r.lampOutQualifier.toNat * 100 ∧ r.lampOutQualifier.toNat * 100 ≤ ((2000#32) - 0).toNat
      ∧ r.onThreshold.toNat ≤ (60#16).toNat ∧ r.onThreshold.toNat + r.hysteresis.toNat ≤ (70#16).toNat
      ∧ (69#16).toNat < r.onThreshold.toNat + r.hysteresis.toNat ∧ r.latch ≠ 1 ∧ ({ r with latch := 1 } : ChannelRec).latch = 1
      ∧ r.offThreshold.toNat ≤ (25#16).toNat ∧ r.foreignQualifier.toNat * 10 ≤ ((300#32) - 0).toNat ∧ (24#16).toNat < r.offThreshold.toNat
      ∧ (14#16).toNat + r.hysteresis.toNat < r.offThreshold.toNat ∧ low.offThreshold.toNat ≤ low.hysteresis.toNat
      ∧ (judgeOff low 0 0 { Proving.reset with foreign := true }).1.foreign = false := by decide +kernel

/-- RUNNING with one output channel in use, on station 1 whose answer is awaited a settle time after the last apply. -/
def lone (c : ChannelRec) (x : Proving) (s : State) : State :=
  let tables := { sample with outputs := put defaultSet.outputs [(1, c)] }
  { withBranch .a { (awaits .a (Liveness.fresh 1) s).branch .a with lastApply := some (7, 99700) } s with
    store.active := some tables, prover.channels := put s.prover.channels [(1, x)] }

/-- What a lamp report of the one channel raises: LAMP_OUT at the end of its qualifier and its end, FIELD_CONFLICT on a go lamp beside a group shown
PREPARE, and RED_FAIL with the group's action (R129 to R134). -/
theorem witness_LampReadingsAreJudged_report :
    let go : ChannelRec := { station := 1, lit := 4 }
    let red : ChannelRec := { station := 1, lit := 1, redProving := 1 }
    let dark : Proving := { Proving.reset with proved := some .on, outRun := some 98000 }
    let stray : Proving := { Proving.reset with proved := some .off, foreign := true }
    let rival := withGroup 2 { Group.reset with shown := .prepare, target := .go } (asking [.stop, .go] running)
    let strict := fun (s : State) => { s with store.active := s.store.active.map (fun t => { t with groups := put t.groups [(1, { })] }) }
    let gets := fun (current : Half) => current :: List.replicate 15 (0#16)
    let report := fun (s : State) (current : Half) => exec (.lstReceived .a 1 (some 7) (gets current)) s
    let s := lone go dark running
    let f := lone go stray rival
    let d := lone red dark running
    let kinds := fun (t : State) =>
      t.faults.entries.map (fun (e : Entry) => ((e.kind, e.subject, e.active) : FaultKind × Option Nat × Bool))
    s.up = true ∧ s.control.mode = .running ∧ s.answersPoll .a 1 .output = true ∧ s.usable .a (some 7) = true
      ∧ (s.branch .a).record 1 = some (Liveness.fresh 1) ∧ s.tables.proved 1 = true ∧ (s.tables.output 1).station.toNat = 1
      ∧ entry? (gets 0) (s.tables.output 1).output.toNat = some 0 ∧ 1 ≤ s.prover.channels.length ∧ 1 ≤ s.tables.outputs.length
      ∧ (∀ n ∈ numbers 96, s.tables.proved n = true → (s.tables.output n).station.toNat = 1 → n = 1)
      ∧ faultLaw s = true ∧ s.faults.entries.length < 30
      ∧ (judgeReading (s.tables.output 1) 0 s.clock.now (s.proving 1)).2 = .qualified
      ∧ nextIs (report s 59) (fun t => decide (kinds t = [(.lampOut, some 1, true)]) && decide (t.control.mode = .running)) = true
      ∧ nextIs (report (lone go { dark with outRun := some 98001 } running) 59) (fun t => decide (t.faults.entries = [])) = true
      ∧ (judgeReading go 70 100000 { dark with lampOut := true, outRun := none }).2 = .ended
      ∧ (f.tables.output 1).redProving ≠ 1 ∧ (f.tables.output 1).goLamp = true ∧ (f.proving 1).proved = some .off
      ∧ (judgeReading (f.tables.output 1) 25 f.clock.now (f.proving 1)).1.foreign = true ∧ f.tables.conflict 2 1 = true ∧ f.shown 2 = .prepare
      ∧ faultLaw f = true ∧ f.faults.entries.length < 30 ∧ notActive f .fieldConflict (some 1)
      ∧ nextIs (report f 15) (fun t => decide (t.control.mode = .lockout) && decide (t.control.recordOp = .writing .fieldConflict (some 1)))
        = true
      ∧ nextIs (report f 14) (fun t => decide (t.control.mode = .running)) = true
      ∧ (d.tables.output 1).redProving = 1 ∧ (d.proving 1).foreign = false ∧ inService d 1 = true ∧ d.shown 1 = .stop ∧ d.redFail 1 = false
      ∧ 1 ≤ d.prover.redFail.length
      ∧ (∀ n ∈ numbers 96, n ≠ 1 → (d.tables.output n).used = true → (d.tables.output n).group = red.group → (d.tables.output n).redProving ≠ 1)
      ∧ (d.tables.group 1).redFail = 1 ∧ ((strict d).tables.group 1).redFail ≠ 1
      ∧ nextIs (report d 0) (fun t => t.redFail 1 && decide (t.control.mode = .running)) = true
      ∧ nextIs (report (strict d) 0) (fun t => !t.redFail 1 && decide (t.control.recordOp = .writing .redFail (some 1))) = true := by
  unfold notActive
  decide +kernel

/-- Without a stacked plan and an accepted image the effective requested image is STOP for every live group (R7). -/
theorem effectiveLaw_of_quiet (s : State) (stack : s.preempt.stack = []) (image : s.exchange.accepted = none)
    (stop : ∀ g, inService s g = true → (s.group g).target = .stop ∧ (s.group g).source = .image) : effectiveLaw s := by
  intro g hg
  simp [stopForced, goForced, imageAsks, stack, image, stop g hg]

/-- The targets of the RUNNING state with one red lamp are the effective ones, so that its RED_FAIL leaves RUNNING. -/
theorem witness_LampReadingsAreJudged_effective :
    effectiveLaw (lone { station := 1, lit := 1, redProving := 1 } { Proving.reset with proved := some .on, outRun := some 98000 } running) := by
  refine effectiveLaw_of_quiet _ rfl rfl (fun g hg => ?_)
  have h4 : g ≤ 4 := by
    simp only [inService, Bool.and_eq_true] at hg
    have h' : (decide (1 ≤ g) && decide (g ≤ 4)) = true := hg.2
    simp only [Bool.and_eq_true, decide_eq_true_eq] at h'
    exact h'.2
  clear hg
  interval_cases g <;> decide +kernel

theorem witness_DetectorDeadlines :
    let o : Detector := { vacant with occupied := true, stuckAt := some 100000 }
    let i : Detector := { vacant with idleAt := some 99999 }
    let s : State := { flash with detectors := put flash.detectors [(1, some o)] }
    let t : State := { flash with detectors := put flash.detectors [(1, some i)] }
    resting s = true ∧ s.detector 1 = some o ∧ reached 100000 s.clock.now = true ∧ o.stuckAt = some 100000 ∧ o.stuckFault = false
      ∧ o.inFault = false ∧ faultLaw s = true ∧ s.faults.entries.length < 32 ∧ resting t = true ∧ t.detector 1 = some i
      ∧ reached 99999 t.clock.now = true ∧ i.idleAt = some 99999 ∧ i.idleFault = false := by decide +kernel

/-- FLASH with the answer of the DETECTOR station awaited, its one channel as given under a detector record. -/
def sensing (r : DetectorRec) (d : Detector) : State :=
  { awaits .b (Liveness.fresh 2) flash with
    store.active := some { sample with detectors := put defaultSet.detectors [(1, r)] }, detectors := put flash.detectors [(1, some d)] }

/-- The same with a DEMAND channel for group 1. -/
def demanding : State :=
  sensing { station := 2, kind := 1, maxPresence := 1, maxIdle := 1, chatterLimit := 1 } { vacant with resync := false, raw := some false }

/-- What a sample does to the one channel of its station, VACANT until now: at its debounce of 50 ms an onset is confirmed and told by a DET, one
millisecond sooner it waits, and with its end 50 ms behind it leaves no trace (R142 to R152). -/
theorem witness_DebounceDecides_sample :
    let r : DetectorRec := { station := 2, maxPresence := 1, maxIdle := 1, chatterLimit := 1 }
    let d : Detector := { vacant with resync := false, raw := some false }
    let s := sensing r d
    let q := demanding
    let bad := sensing r { d with openFault := true, inFault := true, okSince := some 90000 }
    let often := sensing r { d with onsets := [50000] }
    let e := fun (health : Health) (occupied : Bool) (ages : List Half) =>
      ({ health := health, occupied := occupied, overrun := false, ages := ages } : DsmInput)
    let sample := fun (s : State) (i : DsmInput) => exec (.dsmReceived .b 2 (List.replicate 16 i)) s
    let found := fun (o : Host.Outcome State Fault Refusal) (p : Detector → Bool) => nextIs o (fun t => (t.detector 1).any p)
    resting s = true ∧ s.answersPoll .b 2 .detector = true ∧ (s.branch .b).record 2 = some (Liveness.fresh 2) ∧ s.detector 1 = some d
      ∧ (s.tables.detector 1).station.toNat = 2 ∧ (∀ n ∈ numbers 48, (s.detector n).isSome = true → n = 1) ∧ faultLaw s = true
      ∧ d.resync = false ∧ d.pending = [] ∧ d.raw = some d.occupied ∧ d.inFault = false ∧ d.reported = d.occupied ∧ s.preempt.plans.length = 8
      ∧ (50#16).toNat ≤ (s.clock.now - d.since).toNat ∧ r.debounceMs true = 50 ∧ r.demand = false
      ∧ (q.tables.detector 1).demand = true ∧ resting q = true ∧ q.detector 1 = some d ∧ q.answersPoll .b 2 .detector = true
      ∧ (q.branch .b).record 2 = some (Liveness.fresh 2)
      ∧ found (sample s (e .ok true [50])) (fun x => x.occupied && decide (x.since = 99950) && decide (x.stuckAt = some 159950)) = true
      ∧ nextIs (sample s (e .ok true [50]))
        (fun t => decide (t.link.sending = some (.det { channel := 1, occupied := true, fault := false, time := 99950, occupancy := none }))) = true
      ∧ found (sample s (e .ok true [49])) (fun x => !x.occupied && decide (x.pending = [{ onset := true, time := 99951 }])) = true
      ∧ found (sample s (e .ok false [60, 10])) (fun x => !x.occupied && decide (x.pending = []) && decide (x.onsets = [])) = true
      ∧ found (sample q (e .ok true [50])) (fun x => decide (x.call = some 99950)) = true
      ∧ found (sample s (e .openCircuit false [])) (fun x => x.openFault && x.inFault) = true
      ∧ found (sample s (e .shortCircuit false [])) (fun x => x.shortFault) = true
      ∧ found (sample bad (e .ok false [])) (fun x => !x.openFault && !x.inFault && decide (x.okSince = none)) = true
      ∧ found (sample (sensing r { d with openFault := true, inFault := true, okSince := some 90001 }) (e .ok false [])) Detector.openFault = true
      ∧ found (sample often (e .ok true [50])) Detector.chatterFault = true := by decide +kernel

/-- The tables of that sample with a DEMAND channel pass the checks: its served group is live (V8). -/
theorem witness_DebounceDecides_tables : tableLaw demanding = true := by
  have valid : demanding.tables.valid = true := by
    apply valid_of_checks
    rw [show numbers 10 = [1, 2, 3, 4, 5, 6, 7, 8, 9, 10] from by decide]
    simp only [List.forall_mem_cons]
    refine ⟨?_, ?_, ?_, ?_, ?_, ?_, ?_, ?_, ?_, ?_, by simp⟩ <;> decide +kernel
  have h : demanding.store.active = some demanding.tables := rfl
  have o : decide (demanding.store.op = .commit) = false := rfl
  simp [tableLaw, h, o, valid]

theorem witness_DebounceDecides :
    let r : DetectorRec := { station := 2 }
    let x : Transition := { onset := true, time := 1000 }
    let y : Transition := { onset := false, time := 1050 }
    (∀ z more, [y] = z :: more → (z.time - x.time).toNat ≤ r.debounceMs x.onset)
      ∧ (∀ z more, [{ y with time := 1051 }] = z :: more → r.debounceMs x.onset < (z.time - x.time).toNat)
      ∧ r.debounceMs x.onset ≤ ((1050#32) - x.time).toNat ∧ ((1049#32) - x.time).toNat < r.debounceMs x.onset := by
  refine ⟨?_, ?_, by decide, by decide⟩
  · rintro z more h
    cases h
    decide
  · rintro z more h
    cases h
    decide

end Sys2Proof.Tests
end

/-! ### Numbered lists, and the groups that they hold -/

namespace Sys2Proof.Machine

@[simp] theorem mem_numbers {n k : Nat} : k ∈ numbers n ↔ 1 ≤ k ∧ k ≤ n := by
  simp only [numbers, List.mem_map, List.mem_range]
  exact ⟨by rintro ⟨m, hm, rfl⟩; omega, fun h => ⟨k - 1, by omega, by omega⟩⟩

theorem mem_groupNumbers {g : Nat} : g ∈ groupNumbers ↔ 1 ≤ g ∧ g ≤ 24 := mem_numbers

theorem numbers_getElem? (n k : Nat) : (numbers n)[k]? = if k < n then some (k + 1) else none := by
  simp only [numbers, List.getElem?_map]
  split <;> simp_all

/-- The entry of a list changed at one place. -/
theorem entry?_changeEntry {α : Type} (l : List α) (n k : Nat) (f : α → α) :
    entry? (changeEntry l n f) k = if k = n then (entry? l k).map f else entry? l k := by
  unfold entry? changeEntry
  by_cases hk : k = 0
  · simp [hk]
  · by_cases hn : n = 0
    · subst hn
      simp [hk]
    · have place : n - 1 = k - 1 ↔ k = n := by omega
      simp only [hk, hn, if_false, List.getElem?_modify, place]
      split <;> simp_all

theorem entry?_map {α β : Type} (l : List α) (f : α → β) (k : Nat) : entry? (l.map f) k = (entry? l k).map f := by
  unfold entry?
  split <;> simp

/-- The entry of a list made anew place by place. -/
theorem entry?_map_numberedEntries {α β : Type} (l : List α) (f : Nat × α → β) (k : Nat) :
    entry? ((numberedEntries l).map f) k = (entry? l k).map (fun x => f (k, x)) := by
  unfold entry? numberedEntries
  by_cases hk : k = 0
  · simp [hk]
  · have back : k - 1 + 1 = k := by omega
    simp only [hk, if_false, List.getElem?_map, List.zip, List.getElem?_zipWith, numbers_getElem?]
    by_cases hl : k - 1 < l.length
    · simp [hl, back]
    · simp [hl]

theorem length_numberedEntries {α : Type} (l : List α) : (numberedEntries l).length = l.length := by
  simp [numberedEntries, numbers]

theorem entry?_map_numbers {β : Type} (n k : Nat) (f : Nat → β) :
    entry? ((numbers n).map f) k = if 1 ≤ k ∧ k ≤ n then some (f k) else none := by
  unfold entry?
  by_cases hk : k = 0
  · simp [hk]
  · have back : k - 1 + 1 = k := by omega
    simp only [hk, if_false, List.getElem?_map, numbers_getElem?, back]
    by_cases hn : k ≤ n
    · rw [if_pos (by omega), if_pos (by omega)]
      rfl
    · rw [if_neg (by omega), if_neg (by omega)]
      rfl

/-- A list has an entry at each place from 1 to its length. -/
theorem exists_entry? {α : Type} {l : List α} {k : Nat} (first : 1 ≤ k) (last : k ≤ l.length) : ∃ x, entry? l k = some x := by
  have hk : k - 1 < l.length := by omega
  exact ⟨l[k - 1], by simp [entry?, show k ≠ 0 by omega, hk]⟩

/-! ### The record of a group after each operation on the records -/

theorem group_def (s : State) (g : Nat) : s.group g = (entry? s.engine.groups g).getD Group.reset := rfl

theorem group_congr {s t : State} (groups : t.engine.groups = s.engine.groups) (g : Nat) : t.group g = s.group g := by
  rw [group_def, group_def, groups]

@[simp] theorem setGroup_length (g : Nat) (x : Group) (s : State) :
    (setGroup g x s).engine.groups.length = s.engine.groups.length := by
  simp only [setGroup, changeEntry]
  split <;> simp

theorem setGroup_group {g : Nat} {s : State} (first : 1 ≤ g) (last : g ≤ s.engine.groups.length) (x : Group) (k : Nat) :
    (setGroup g x s).group k = if k = g then x else s.group k := by
  obtain ⟨y, hy⟩ := exists_entry? first last
  rw [group_def, group_def]
  simp only [setGroup, entry?_changeEntry]
  split
  · next h => simp [h, hy]
  · rfl

theorem setGroup_group_other {g k : Nat} {s : State} (other : k ≠ g) (x : Group) : (setGroup g x s).group k = s.group k := by
  rw [group_def, group_def]
  simp only [setGroup, entry?_changeEntry, if_neg other]

/-- A flash transfer shows every live group FLASH (R17). -/
theorem showFlash_shown {s : State} {g : Nat} (live : s.tables.live g = true) : (showFlash s).shown g = .flash := by
  rw [State.shown, group_def]
  simp only [showFlash, entry?_map_numberedEntries, live, if_true]
  cases entry? s.engine.groups g <;> rfl

/-- START entry shows every live group STOP (R18). -/
theorem showStop_shown {s : State} {g : Nat} (live : s.tables.live g = true) (first : 1 ≤ g) (last : g ≤ s.engine.groups.length) :
    (showStop s).shown g = .stop := by
  obtain ⟨x, hx⟩ := exists_entry? first last
  rw [State.shown, group_def]
  simp [showStop, entry?_map_numberedEntries, live, hx]

/-- New tables show every live group FLASH (R19). -/
theorem retableGroups_shown {s : State} {g : Nat} (live : s.tables.live g = true) : (retableGroups s).shown g = .flash := by
  rw [State.shown, group_def]
  simp only [retableGroups, entry?_map_numbers, live, if_true]
  split <;> rfl

@[simp] theorem showFlash_length (s : State) : (showFlash s).engine.groups.length = s.engine.groups.length := by
  simp [showFlash, length_numberedEntries]

@[simp] theorem showStop_length (s : State) : (showStop s).engine.groups.length = s.engine.groups.length := by
  simp [showStop, length_numberedEntries]

@[simp] theorem retableGroups_length (s : State) : (retableGroups s).engine.groups.length = Config.groups := by
  simp [retableGroups, numbers]

/-- The 10 ms counts of a group that has a record (R5). -/
theorem countUnits_group {s : State} {g : Nat} (first : 1 ≤ g) (last : g ≤ s.engine.groups.length) :
    (countUnits s).group g = (s.group g).count := by
  obtain ⟨x, hx⟩ := exists_entry? first last
  rw [group_def, group_def]
  simp [countUnits, entry?_map, hx]

/-! ### Live groups and conflicts of a table set -/

theorem live_iff {t : TableSet} {g : Nat} : t.live g = true ↔ 1 ≤ g ∧ g ≤ t.inUse := by
  simp [TableSet.live]

theorem conflict_iff {t : TableSet} {i j : Nat} :
    t.conflict i j = true ↔ t.live i = true ∧ t.live j = true ∧ (t.entry i j).conflict = 1 := by
  simp [TableSet.conflict, and_assoc]

theorem mem_conflicting {t : TableSet} {i j : Nat} : i ∈ t.conflicting j ↔ t.conflict i j = true := by
  simp only [TableSet.conflicting, TableSet.liveGroups, List.mem_filter, mem_numbers, ← live_iff, and_iff_right_iff_imp]
  exact fun h => (conflict_iff.mp h).1

/-- An intergreen is at most 2 550 units, below the saturation of the clearance clocks. -/
theorem intergreen_le (t : TableSet) (i j : Nat) : t.intergreen i j ≤ 2550 := by
  have := (t.entry i j).intergreen.isLt
  unfold TableSet.intergreen
  omega

/-! ### What the validation checks say of a table set -/

/-- A valid set passes every check on every record (R166). -/
theorem checkRecord_of_valid {t : TableSet} (valid : t.valid = true) {check i : Nat} (hc : check ∈ numbers 10)
    (hi : i ∈ numbers (recordCount (checkTable check))) : checkRecord t check i = true := by
  simp only [TableSet.valid, firstFailure, Option.isNone_iff_eq_none, List.findSome?_eq_none_iff, Option.map_eq_none_iff,
    List.find?_eq_none, Bool.not_eq_true, Bool.not_eq_false'] at valid
  exact valid check hc i hi

theorem flag_zero_or_one {b : Byte} : within 0 1 b.toNat = true ↔ b = 0 ∨ b = 1 := by
  simp only [within, Nat.zero_le, decide_true, Bool.true_and, decide_eq_true_eq]
  constructor
  · intro h
    by_cases hz : b.toNat = 0
    · exact .inl (BitVec.eq_of_toNat_eq hz)
    · exact .inr (BitVec.eq_of_toNat_eq (show b.toNat = 1 by omega))
  · rintro (rfl | rfl) <;> decide

/-- V3 on one row, entry by entry (R24). -/
theorem conflictRowValid_iff {t : TableSet} {i : Nat} :
    conflictRowValid t i = true ↔ ∀ j ∈ groupNumbers,
      ((t.entry i j).conflict = 0 ∨ (t.entry i j).conflict = 1) ∧ (t.entry i j).conflict = (t.entry j i).conflict
        ∧ (i = j → (t.entry i j).conflict = 0) ∧ ((t.entry i j).conflict = 1 ∨ (t.entry i j).intergreen = 0) := by
  simp only [conflictRowValid, List.all_eq_true, Bool.and_eq_true, Bool.or_eq_true, decide_eq_true_eq, flag_zero_or_one,
    and_assoc, groupNumbers, ← imp_iff_not_or, ne_eq]

/-- A set passes V3 on every row only if its matrix is sound (R24). -/
theorem matrixSound_of_rows {t : TableSet} (rows : ∀ i ∈ groupNumbers, conflictRowValid t i = true) : Safety.matrixSound t := by
  intro i hi j hj
  obtain ⟨-, same, -, free⟩ := conflictRowValid_iff.mp (rows i hi) j hj
  obtain ⟨-, -, own, -⟩ := conflictRowValid_iff.mp (rows i hi) i hi
  exact ⟨same, own rfl, fun clear => free.resolve_left (by rw [clear]; decide)⟩

/-- Among matrices whose flags are 0 or 1 V3 accepts every sound one (R24). -/
theorem rows_of_matrixSound {t : TableSet}
    (flags : ∀ i ∈ groupNumbers, ∀ j ∈ groupNumbers, (t.entry i j).conflict = 0 ∨ (t.entry i j).conflict = 1)
    (sound : Safety.matrixSound t) : ∀ i ∈ groupNumbers, conflictRowValid t i = true := by
  intro i hi
  refine conflictRowValid_iff.mpr (fun j hj => ?_)
  obtain ⟨same, own, free⟩ := sound i hi j hj
  exact ⟨flags i hi j hj, same, fun h => h ▸ own, (flags i hi j hj).symm.imp_right free⟩

/-- A set that passes every check passes V3 on every row. -/
theorem rows_of_valid {t : TableSet} (valid : t.valid = true) : ∀ i ∈ groupNumbers, conflictRowValid t i = true :=
  fun _ hi => checkRecord_of_valid (check := 3) valid (by decide) hi

/-- The tables keep at most 24 groups in use, and conflict is mutual and never of a group with itself. -/
structure TableSet.Orderly (t : TableSet) : Prop where
  live_le : ∀ {g}, t.live g = true → g ≤ 24
  symm : ∀ {i j}, t.conflict i j = true → t.conflict j i = true
  irrefl : ∀ i, t.conflict i i = false

theorem orderly_of_valid {t : TableSet} (valid : t.valid = true) : t.Orderly := by
  have cabinet : cabinetValid t.cabinet = true :=
    checkRecord_of_valid (check := 1) (i := 1) valid (by decide) (by decide)
  have le : ∀ {g}, t.live g = true → g ≤ 24 := by
    intro g live
    simp only [cabinetValid, within, Bool.and_eq_true, decide_eq_true_eq] at cabinet
    have := (live_iff.mp live).2
    unfold TableSet.inUse at this
    omega
  have sound := matrixSound_of_rows (rows_of_valid valid)
  have numbered : ∀ {g}, t.live g = true → g ∈ groupNumbers :=
    fun live => mem_groupNumbers.mpr ⟨(live_iff.mp live).1, le live⟩
  refine ⟨le, fun {i j} h => ?_, fun i => ?_⟩
  · obtain ⟨hi, hj, flag⟩ := conflict_iff.mp h
    exact conflict_iff.mpr ⟨hj, hi, (sound i (numbered hi) j (numbered hj)).1 ▸ flag⟩
  · by_contra h
    obtain ⟨hi, -, flag⟩ := conflict_iff.mp (Bool.eq_true_of_not_eq_false h)
    exact absurd ((sound i (numbered hi) i (numbered hi)).2.1.symm.trans flag) (by decide)

/-- No group of the empty set is live. -/
theorem emptySet_live (g : Nat) : emptySet.live g = false := by
  rw [← Bool.not_eq_true, live_iff]
  show ¬(1 ≤ g ∧ g ≤ 0)
  omega

theorem orderly_emptySet : emptySet.Orderly := by
  have none : ∀ i j, emptySet.conflict i j = false := fun i j => by simp [TableSet.conflict, emptySet_live]
  exact ⟨fun live => by simp [emptySet_live] at live, fun h => by simp [none] at h, fun i => none i i⟩

/-- A store whose active copy, if any, is valid has orderly tables in force (R166). -/
theorem orderly_of_active {s : State} (valid : ∀ t, s.store.active = some t → t.valid = true) : s.tables.Orderly := by
  unfold State.tables
  cases h : s.store.active with
  | none => exact orderly_emptySet
  | some t => exact orderly_of_valid (valid t h)

/-! ### The admission test -/

theorem le_greatestShortfall {l : List Int} {x : Int} (h : x ∈ l) : x.toNat ≤ greatestShortfall l := by
  unfold greatestShortfall
  suffices H : ∀ (l : List Int) (acc : Nat), acc ≤ l.foldl (fun acc x => Nat.max acc x.toNat) acc
      ∧ ∀ y ∈ l, y.toNat ≤ l.foldl (fun acc x => Nat.max acc x.toNat) acc from (H l 0).2 x h
  intro l
  induction l with
  | nil => simp
  | cons y ys ih =>
    intro acc
    obtain ⟨start, each⟩ := ih (Nat.max acc y.toNat)
    have left := Nat.le_max_left acc y.toNat
    have right := Nat.le_max_right acc y.toNat
    refine ⟨le_trans left start, fun z hz => ?_⟩
    obtain rfl | hz := List.mem_cons.mp hz
    · exact le_trans right start
    · exact each z hz

theorem greatestShortfall_le {l : List Int} {n : Nat} (h : ∀ x ∈ l, x ≤ (n : Int)) : greatestShortfall l ≤ n := by
  unfold greatestShortfall
  suffices H : ∀ (l : List Int) (acc : Nat), acc ≤ n → (∀ x ∈ l, x ≤ (n : Int)) →
      l.foldl (fun acc x => Nat.max acc x.toNat) acc ≤ n from H l 0 (Nat.zero_le n) h
  intro l
  induction l with
  | nil => exact fun acc hacc _ => hacc
  | cons y ys ih =>
    intro acc hacc hl
    have hy := hl y List.mem_cons_self
    exact ih _ (Nat.max_le.mpr ⟨hacc, by omega⟩) (fun x hx => hl x (List.mem_cons_of_mem _ hx))

/-- A group that a rival blocks is not admitted (R29, R30). -/
theorem admission_of_blocks {s : State} {j : Nat} (h : ∃ i ∈ s.tables.conflicting j, s.blocks i = true) :
    s.admission j = .blocked := by
  unfold State.admission
  rw [if_pos (List.any_eq_true.mpr h)]

/-- A group that no rival blocks waits for its greatest shortfall, and is admitted when none is above 0 (R31 to R33). -/
theorem admission_of_free {s : State} {j : Nat} (free : ∀ i ∈ s.tables.conflicting j, s.blocks i = false) :
    s.admission j
      = if greatestShortfall ((s.tables.conflicting j).map (fun i => s.shortfall i j)) = 0 then .admitted
        else .deferred (greatestShortfall ((s.tables.conflicting j).map (fun i => s.shortfall i j))) := by
  unfold State.admission
  have none : ¬ (s.tables.conflicting j).any s.blocks = true := by
    rw [List.any_eq_true]
    rintro ⟨i, hi, blocks⟩
    simp [free i hi] at blocks
  dsimp only
  rw [if_neg none]
  generalize greatestShortfall _ = units
  cases units <;> rfl

/-- A group is admitted exactly when no rival blocks it and no shortfall is above 0 (R33). -/
theorem admission_eq_admitted {s : State} {j : Nat} :
    s.admission j = .admitted ↔ ∀ i, s.tables.conflict i j = true → s.blocks i = false ∧ s.shortfall i j ≤ 0 := by
  constructor
  · intro admitted
    have free : ∀ i ∈ s.tables.conflicting j, s.blocks i = false := by
      by_contra h
      push Not at h
      obtain ⟨i, hi, blocks⟩ := h
      rw [admission_of_blocks ⟨i, hi, by simpa using blocks⟩] at admitted
      cases admitted
    intro i hi
    refine ⟨free i (mem_conflicting.mpr hi), ?_⟩
    rw [admission_of_free free] at admitted
    split at admitted
    · next zero =>
      have := le_greatestShortfall (List.mem_map_of_mem (f := fun i => s.shortfall i j) (mem_conflicting.mpr hi))
      omega
    · cases admitted
  · intro h
    have zero : greatestShortfall ((s.tables.conflicting j).map (fun i => s.shortfall i j)) = 0 := by
      refine Nat.le_zero.mp (greatestShortfall_le ?_)
      rintro x hx
      obtain ⟨i, hi, rfl⟩ := List.mem_map.mp hx
      exact (h i (mem_conflicting.mp hi)).2
    rw [admission_of_free (fun i hi => (h i (mem_conflicting.mp hi)).1), if_pos zero]

/-- A group is deferred by the greatest shortfall where that is above 0 (R32). -/
theorem admission_eq_deferred {s : State} {j n : Nat} (above : 0 < n)
    (free : ∀ i ∈ s.tables.conflicting j, s.blocks i = false)
    (met : ∃ i ∈ s.tables.conflicting j, s.shortfall i j = (n : Int))
    (greatest : ∀ i ∈ s.tables.conflicting j, s.shortfall i j ≤ (n : Int)) : s.admission j = .deferred n := by
  obtain ⟨i, hi, hn⟩ := met
  have value : greatestShortfall ((s.tables.conflicting j).map (fun i => s.shortfall i j)) = n := by
    refine le_antisymm (greatestShortfall_le ?_) ?_
    · rintro x hx
      obtain ⟨k, hk, rfl⟩ := List.mem_map.mp hx
      exact greatest k hk
    · have := le_greatestShortfall (List.mem_map_of_mem (f := fun i => s.shortfall i j) hi)
      rw [hn] at this
      simpa using this
  rw [admission_of_free free, value, if_neg (by omega)]

end Sys2Proof.Machine

/-! ### Settled: admission and the check of the conflict matrix -/

namespace Sys2Proof.Proofs

open Sys2Proof Sys2Proof.Machine Sys2Proof.Safety

/-- Settles O51. An intergreen is at most 2 550 units, so that the shortfall against a saturated clock is below 0; the outcomes of the admission
test are read off its greatest shortfall. -/
theorem shortfallOfZeroAdmits : Obligations.ShortfallOfZeroAdmits := by
  unfold Obligations.ShortfallOfZeroAdmits
  intro s j
  refine ⟨?saturated, ?free, ?begun, admission_of_blocks, fun free => ⟨?zero, ?admitted, ?deferred⟩⟩
  case saturated =>
    intro i saturated
    have := intergreen_le s.tables i j
    unfold State.shortfall
    omega
  case free =>
    intro i none
    unfold State.shortfall
    rw [none]
    omega
  case begun =>
    intro i begun long
    unfold State.shortfall
    omega
  case zero => exact fun short => admission_eq_admitted.mpr (fun i hi => ⟨free i (mem_conflicting.mpr hi), short i (mem_conflicting.mpr hi)⟩)
  case admitted =>
    intro admitted i hi
    have := (admission_eq_admitted.mp admitted i (mem_conflicting.mp hi)).2
    unfold State.shortfall at this
    omega
  case deferred => exact fun n above met greatest => admission_eq_deferred above free met greatest

/-- A commit of a working copy whose matrix is not sound is refused with INVALID (R173). -/
theorem commitAnswer_invalid {s : State} (edits : s.control.mode.edits = true) (idle : s.store.op = .idle)
    (unsound : ¬ matrixSound s.store.working) : ∃ content, commitAnswer s = (.invalid, content) := by
  obtain ⟨⟨check, table, index⟩, found⟩ : ∃ x, firstFailure s.store.working = some x := by
    have invalid : s.store.working.valid ≠ true := fun valid => unsound (matrixSound_of_rows (rows_of_valid valid))
    exact Option.ne_none_iff_exists'.mp (fun none => invalid (by rw [TableSet.valid, none]; rfl))
  exact ⟨_, by simp only [commitAnswer, edits, idle, found]; rfl⟩

/-- The scratch record at the start of an event is not part of what rest keeps. -/
theorem restFrame_openEvent {s t : State} : restFrame (openEvent s) t ↔ restFrame s t := Iff.rfl

/-- A TCM that is refused at rest changes nothing but its reply and what every event at rest may change (R173, log 18). -/
theorem tcm_refused {s : State} (rest : resting s = true) (hears : s.hears = true) {result : Result} {content : List Byte}
    (answer : commitAnswer s = (result, content)) (refused : result ≠ .ok) :
    ∃ t, exec .tcm s = .next t ∧ restFrame s t ∧ t.link = s.link.accept (.rpl 0x15 result content) := by
  simp only [resting, Bool.and_eq_true, Bool.not_eq_true'] at rest
  obtain ⟨⟨up, flash⟩, law⟩ := rest
  have ran : exec .tcm s = .next (asEvent id (reply tcmKind result content) s) := by
    show Host.Outcome.next _ = _
    simp only [whileUp, up, hears, answer, refused, if_true, if_false]
  obtain ⟨frame, link, quiet⟩ :=
    asEvent_rest (effect := id) (s := s) (reply_onlyLink tcmKind result content) flash law rfl rfl rfl rfl
  refine ⟨_, ran, restFrame_openEvent.mp frame, ?_⟩
  rw [link, reply, send_link, quiet]
  rfl

/-- Settles O52, from V3 read entry by entry. -/
theorem conflictMatrixCheck : Obligations.ConflictMatrixCheck := by
  unfold Obligations.ConflictMatrixCheck
  refine ⟨fun t => ⟨matrixSound_of_rows, rows_of_matrixSound⟩, fun s rest hears edits idle unsound => ?_⟩
  obtain ⟨content, answer⟩ := commitAnswer_invalid edits idle unsound
  obtain ⟨t, ran, frame, link⟩ := tcm_refused rest hears answer (by decide)
  exact ⟨t, content, ran, frame, link⟩

end Sys2Proof.Proofs

/-! ### The separation of groups in conflict, the invariant behind R29 and R39 -/

namespace Sys2Proof.Machine

open Sys2Proof.Safety

theorem released_iff {s : State} {g : Nat} : released s g = true ↔ s.shown g = .prepare ∨ s.shown g = .go := by
  simp [released]

theorem released_congr {s t : State} {g : Nat} (shown : (t.group g).shown = (s.group g).shown) : released t g = released s g := by
  rw [released, released, State.shown, State.shown, shown]

/-- The clearance clock of group `i` lets group `j` have the record `x`: in GO the intergreen from `i` to `j` has passed, and in PREPARE it will have
passed when the prepare time is over (R39). -/
def State.cleared (s : State) (i j : Nat) (x : Group) : Prop :=
  (x.shown = .go → s.tables.intergreen i j ≤ (s.group i).clearance)
    ∧ (x.shown = .prepare →
      s.tables.intergreen i j ≤ (s.group i).clearance + ((s.tables.group j).prepareUnits - x.time))

/-- Groups in conflict are separated: of two never both are released, and the clearance clock of each lets the other have its record. The 24 records
are there, and the tables in force are orderly. -/
structure Separated (s : State) : Prop where
  orderly : s.tables.Orderly
  records : s.engine.groups.length = Config.groups
  exclusive : ∀ {i j}, s.tables.conflict i j = true → released s j = true → released s i = false
  cleared : ∀ {i j}, s.tables.conflict i j = true → s.cleared i j (s.group j)

/-- The separation reads nothing but the records and the tables in force. -/
theorem Separated.congr {s t : State} (h : Separated s) (groups : t.engine.groups = s.engine.groups) (active : t.store.active = s.store.active) :
    Separated t := by
  have tables : t.tables = s.tables := tables_congr active
  have group : ∀ g, t.group g = s.group g := group_congr groups
  have rel : ∀ g, released t g = released s g := fun g => released_congr (congrArg Group.shown (group g))
  refine ⟨tables ▸ h.orderly, groups ▸ h.records, fun {i j} hc hj => ?_, fun {i j} hc => ?_⟩
  · rw [rel] at hj ⊢
    exact h.exclusive (tables ▸ hc) hj
  · have := h.cleared (i := i) (j := j) (tables ▸ hc)
    simpa only [State.cleared, tables, group] using this

/-- While no live group is released every pair is separated. -/
theorem separated_of_stopped {s : State} (orderly : s.tables.Orderly) (records : s.engine.groups.length = Config.groups)
    (stopped : ∀ g, s.tables.live g = true → released s g = false) : Separated s := by
  have still : ∀ {i j}, s.tables.conflict i j = true → released s j = false := fun hc => stopped _ (conflict_iff.mp hc).2.1
  refine ⟨orderly, records, fun hc hj => absurd hj (by simp [still hc]), fun {i j} hc => ?_⟩
  have := still hc
  constructor <;> intro shown <;> simp [released, State.shown, shown] at this

theorem Separated.mem_range {s : State} (h : Separated s) {g : Nat} (live : s.tables.live g = true) :
    1 ≤ g ∧ g ≤ s.engine.groups.length :=
  ⟨(live_iff.mp live).1, h.records ▸ h.orderly.live_le live⟩

/-- A live group may take a record if, where it is released, its rivals are not, their clearance clocks let it have the record, and its own clearance
clock does not fall while a rival is released. -/
theorem Separated.setGroup {s : State} (h : Separated s) {g : Nat} (live : s.tables.live g = true) {x : Group}
    (alone : x.shown = .prepare ∨ x.shown = .go → ∀ i, s.tables.conflict i g = true → released s i = false)
    (lets : ∀ i, s.tables.conflict i g = true → s.cleared i g x)
    (own : ∀ j, s.tables.conflict g j = true → released s j = true → (s.group g).clearance ≤ x.clearance) :
    Separated (setGroup g x s) := by
  obtain ⟨first, last⟩ := h.mem_range live
  have group := setGroup_group first last x
  have rel : ∀ k, released (Machine.setGroup g x s) k = true ↔ if k = g then x.shown = .prepare ∨ x.shown = .go else released s k = true := by
    intro k
    rw [released_iff, State.shown, group]
    split
    · rfl
    · exact released_iff.symm
  refine ⟨h.orderly, by simpa using h.records, fun {i j} hc hj => ?_, fun {i j} hc => ?_⟩
  · have hij : s.tables.conflict i j = true := hc
    rw [rel] at hj
    rw [← Bool.not_eq_true, rel]
    intro hi
    by_cases hjg : j = g
    · subst hjg
      have hne : i ≠ j := by rintro rfl; simp [h.orderly.irrefl] at hij
      rw [if_pos rfl] at hj
      rw [if_neg hne] at hi
      simp [alone hj i hij] at hi
    · rw [if_neg hjg] at hj
      by_cases hig : i = g
      · subst hig
        rw [if_pos rfl] at hi
        simp [alone hi j (h.orderly.symm hij)] at hj
      · rw [if_neg hig] at hi
        simp [h.exclusive hij hj] at hi
  · have hij : s.tables.conflict i j = true := hc
    show (Machine.setGroup g x s).cleared i j ((Machine.setGroup g x s).group j)
    unfold State.cleared
    rw [group i, group j]
    by_cases hj : j = g
    · subst hj
      have hi : i ≠ j := by rintro rfl; simp [h.orderly.irrefl] at hij
      rw [if_pos rfl, if_neg hi]
      exact lets i hij
    · rw [if_neg hj]
      by_cases hi : i = g
      · subst hi
        obtain ⟨go, prepare⟩ := h.cleared hij
        rw [if_pos rfl]
        have kept := fun shown => own j hij (released_iff.mpr shown)
        exact ⟨fun shown => le_trans (go shown) (kept (.inr shown)),
          fun shown => le_trans (prepare shown) (Nat.add_le_add_right (kept (.inl shown)) _)⟩
      · rw [if_neg hi]
        exact h.cleared hij

/-- The records that one evaluation of group `g` can give (R10 to R15). -/
inductive State.Evaluated (s : State) (g : Nat) (y : Group) : Prop where
  /-- nothing that the group shows changes -/
  | stays (same : face y = face (s.group g))
  /-- an admitted group leaves STOP for PREPARE, or for GO where it has no prepare time -/
  | admitted (verdict : s.admission g = .admitted) (kept : y.clearance = (s.group g).clearance)
      (start : y.shown = .prepare ∧ y.time = 0 ∨ y.shown = .go ∧ (s.tables.group g).prepareUnits = 0)
  /-- PREPARE ends in GO -/
  | prepared (before : s.shown g = .prepare) (due : (s.tables.group g).prepareUnits ≤ (s.group g).time)
      (after : y.shown = .go) (kept : y.clearance = (s.group g).clearance)
  /-- GO ends in CLEAR -/
  | ended (before : s.shown g = .go) (after : y.shown = .clear)
  /-- another aspect gives way to STOP or DARK -/
  | stopped (after : y.shown = .stop ∨ y.shown = .dark) (kept : y.clearance = (s.group g).clearance)

/-- An evaluation gives one of these records. -/
theorem judge_evaluated (s : State) (g : Nat) : s.Evaluated g (s.judge g) := by
  have noted : ∀ n, s.Evaluated g ((s.group g).noted n) := fun _ => .stays rfl
  cases shown : (s.group g).shown <;> simp only [State.judge, shown]
  case stop =>
    repeat' split
    case isFalse.isFalse.isFalse.isTrue => exact .stopped (.inr rfl) rfl
    case h_2 => exact .stays (by simp [face, shown])
    case h_3.isTrue verdict noPrepare => exact .admitted verdict rfl (.inr ⟨rfl, noPrepare⟩)
    case h_3.isFalse verdict _ => exact .admitted verdict rfl (.inl ⟨rfl, rfl⟩)
    all_goals exact noted _
  case prepare =>
    split
    · next due => exact .prepared shown due rfl rfl
    · exact noted _
  case go =>
    repeat' split
    case isFalse.isFalse => exact .ended shown rfl
    all_goals exact noted _
  case clear =>
    split
    · exact .stopped (.inl rfl) rfl
    · exact noted _
  case dark =>
    split
    · exact .stopped (.inl rfl) rfl
    · exact noted _
  case flash => exact noted _

/-- The record of a group that is not live is no part of the separation. -/
theorem Separated.setGroup_dead {s : State} (h : Separated s) {g : Nat} (dead : s.tables.live g ≠ true) (y : Group) :
    Separated (Machine.setGroup g y s) := by
  have group : ∀ k, s.tables.live k = true → (Machine.setGroup g y s).group k = s.group k :=
    fun k live => setGroup_group_other (fun hk => dead (by rwa [← hk])) y
  refine ⟨h.orderly, by simpa using h.records, fun {i j} hc hj => ?_, fun {i j} hc => ?_⟩
  · obtain ⟨hi, hlive, -⟩ := conflict_iff.mp hc
    rw [released_congr (congrArg Group.shown (group _ hlive))] at hj
    rw [released_congr (congrArg Group.shown (group _ hi))]
    exact h.exclusive hc hj
  · obtain ⟨hi, hlive, -⟩ := conflict_iff.mp hc
    rw [State.cleared, group _ hi, group _ hlive]
    exact h.cleared hc

/-- A record that shows the same leaves the separation as it is. -/
theorem Separated.setGroup_face {s : State} (h : Separated s) {g : Nat} {y : Group} (same : face y = face (s.group g)) :
    Separated (Machine.setGroup g y s) := by
  by_cases live : s.tables.live g = true
  · simp only [face, Prod.mk.injEq] at same
    obtain ⟨shown, time, clearance⟩ := same
    have released_of : y.shown = .prepare ∨ y.shown = .go → released s g = true :=
      fun hy => released_iff.mpr (by rwa [State.shown, ← shown])
    refine h.setGroup live (fun hy i hi => h.exclusive hi (released_of hy)) (fun i hi => ?_) (fun _ _ _ => clearance.ge)
    have := h.cleared hi
    simpa only [State.cleared, shown, time] using this
  · exact h.setGroup_dead live y

/-- An evaluation keeps the separation: a group is admitted only where no rival is released and no shortfall is above 0 (R29, R31), and a group that
is released ends that before its clearance clock is reset (R5). -/
theorem Separated.judge {s : State} (h : Separated s) {g : Nat} (live : s.tables.live g = true) :
    Separated (Machine.setGroup g (s.judge g) s) := by
  have outcome := judge_evaluated s g
  generalize s.judge g = y at outcome ⊢
  cases outcome with
  | stays same => exact h.setGroup_face same
  | admitted verdict kept start =>
    have rivals := admission_eq_admitted.mp verdict
    refine h.setGroup live (fun _ i hi => ?_) (fun i hi => ?_) (fun _ _ _ => kept.ge)
    · have free := (rivals i hi).1
      simp only [State.blocks, Bool.or_eq_false_iff] at free
      simpa [released] using free.1
    · have short := (rivals i hi).2
      unfold State.shortfall at short
      rcases start with ⟨prepare, zero⟩ | ⟨go, noPrepare⟩
      · exact ⟨fun shown => by simp [prepare] at shown, fun _ => by omega⟩
      · exact ⟨fun _ => by omega, fun shown => by simp [go] at shown⟩
  | prepared before due after kept =>
    refine h.setGroup live (fun _ i hi => h.exclusive hi (released_iff.mpr (.inl before))) (fun i hi => ?_) (fun _ _ _ => kept.ge)
    have := (h.cleared hi).2 before
    exact ⟨fun _ => by omega, fun shown => by simp [after] at shown⟩
  | ended before after =>
    refine h.setGroup live (fun shown => by simp [after] at shown) (fun i _ => ?_) (fun j hj hr => ?_)
    · exact ⟨fun shown => by simp [after] at shown, fun shown => by simp [after] at shown⟩
    · have alone := h.exclusive (h.orderly.symm hj) (released_iff.mpr (.inr before))
      simp [hr] at alone
  | stopped after kept =>
    have still : ¬(y.shown = .prepare ∨ y.shown = .go) := by rcases after with after | after <;> simp [after]
    exact h.setGroup live (fun shown => absurd shown still)
      (fun i _ => ⟨fun shown => absurd (.inr shown) still, fun shown => absurd (.inl shown) still⟩) (fun _ _ _ => kept.ge)

/-! ### The separation through the settling of an event -/

theorem Separated.rebuildGroup {s : State} (h : Separated s) (g : Nat) : Separated (Machine.rebuildGroup g s) := by
  unfold Machine.rebuildGroup
  dsimp only
  split
  · exact h
  · exact (h.setGroup_face (y := { s.group g with target := (s.effective g).1, source := (s.effective g).2 }) rfl).congr rfl rfl

theorem Separated.rebuild {s : State} (h : Separated s) : Separated (Machine.rebuild s) := by
  have each := eachOf_holds Separated Machine.rebuildGroup (fun g _ ht => ht.rebuildGroup g) s.tables.liveGroups s h
  unfold Machine.rebuild
  dsimp only
  split
  · exact each.congr rfl rfl
  · exact each

theorem Separated.evaluate {s : State} (h : Separated s) (g : Nat) : Separated (Machine.evaluate g s) := by
  unfold Machine.evaluate
  split
  · next live =>
    have moved := h.judge live
    dsimp only
    split
    · exact moved
    · exact moved.congr (by simp only [concern_frame]; split <;> rfl) (by simp only [concern_frame]; split <;> rfl)
  · exact h

theorem Separated.evaluateConcerned {s : State} (h : Separated s) (passes : Nat) :
    Separated (Machine.evaluateConcerned passes s) := by
  induction passes generalizing s with
  | zero => exact h
  | succ n ih =>
    unfold Machine.evaluateConcerned
    split
    · exact h
    · exact ih (eachOf_holds Separated Machine.evaluate (fun g _ ht => ht.evaluate g) _ _ (h.congr rfl rfl))

theorem Separated.settle {s : State} (h : Separated s) (rounds : Nat) : Separated (Machine.settle rounds s) := by
  induction rounds generalizing s with
  | zero => exact h.rebuild.evaluateConcerned passLimit
  | succ n ih =>
    have settled := h.rebuild.evaluateConcerned passLimit
    unfold Machine.settle
    dsimp only
    split
    · exact ih (settled.congr (by simp) (by simp))
    · exact settled

/-! ### The separation through changes of mode and fault actions -/

/-- A flash transfer separates all groups: none is released (R17). -/
theorem Separated.showFlash {s : State} (h : Separated s) : Separated (Machine.showFlash s) :=
  separated_of_stopped h.orderly (by simpa using h.records) (fun g live => by
    simp [released, showFlash_shown (s := s) (g := g) live])

/-- START entry separates all groups: none is released (R18). -/
theorem Separated.showStop {s : State} (h : Separated s) : Separated (Machine.showStop s) :=
  separated_of_stopped h.orderly (by simpa using h.records) (fun g live => by
    obtain ⟨first, last⟩ := h.mem_range (g := g) live
    simp [released, showStop_shown (s := s) (g := g) live first last])

/-- New tables that are orderly separate all groups: none is released (R19). -/
theorem separated_retableGroups {s : State} (orderly : s.tables.Orderly) : Separated (retableGroups s) :=
  separated_of_stopped orderly (by simp) (fun g live => by simp [released, retableGroups_shown (s := s) (g := g) live])

/-- A flash transfer reads the records and the tables in force alone. -/
theorem showFlash_engine {s t : State} (engine : t.engine = s.engine) (active : t.store.active = s.store.active) :
    (showFlash t).engine = (showFlash s).engine := by
  unfold showFlash
  rw [engine, tables_congr active]

/-- A permit mode is left by a flash transfer (R17, R58). -/
theorem leavePermit_engine (new : Mode) (cause : Cause) (record : Option (FaultKind × Option Nat)) (s : State) :
    (leavePermit new cause record s).engine = (showFlash s).engine := by
  simp only [leavePermit, announce_frame, writeRecordOf_frame, resetWorking_frame, stopProving_frame, plansFlash_frame,
    exchangeFlash_frame]
  exact showFlash_engine rfl rfl

theorem Separated.leavePermit {s : State} (h : Separated s) (new : Mode) (cause : Cause)
    (record : Option (FaultKind × Option Nat)) : Separated (Machine.leavePermit new cause record s) :=
  h.showFlash.congr (congrArg Engine.groups (leavePermit_engine new cause record s)) (by simp)

/-- A fault action leaves the records alone or makes a flash transfer (R58). -/
theorem takeAction_engine (r : Raise) (close : CloseTarget) (s : State) :
    (takeAction r close s).engine = s.engine ∨ (takeAction r close s).engine = (showFlash s).engine := by
  unfold takeAction
  repeat' split
  all_goals simp [leavePermit_engine]

theorem Separated.takeAction {s : State} (h : Separated s) (r : Raise) (close : CloseTarget) :
    Separated (Machine.takeAction r close s) := by
  rcases takeAction_engine r close s with same | flash
  · exact h.congr (congrArg Engine.groups same) (by simp)
  · exact h.showFlash.congr (congrArg Engine.groups flash) (by simp)

theorem Separated.raise {s : State} (h : Separated s) (r : Raise) : Separated (Machine.raise r s) :=
  (h.congr (t := note r s) (by simp) (by simp)).takeAction r .flash

theorem Separated.handRed {s : State} (h : Separated s) (change : Nat × Bool) : Separated (Machine.handRed change s) := by
  have raised : Separated (Machine.raise (redFailRaise s.tables change.1) (setRedFail true change.1 s)) :=
    (h.congr (t := setRedFail true change.1 s) (by simp) (by simp)).raise _
  unfold Machine.handRed
  dsimp only
  repeat' split
  · exact raised
  · exact raised.congr (by simp) (by simp)
  · exact h.congr (by simp) (by simp)

theorem Separated.evaluateReds {s : State} (h : Separated s) : Separated (Machine.evaluateReds s) :=
  eachOf_holds Separated Machine.handRed (fun change _ ht => ht.handRed change) _ s h

theorem Separated.recurStations {s : State} (h : Separated s) (br : BranchId) : Separated (Machine.recurStations br s) :=
  eachOf_holds Separated _ (fun _ _ ht => ht.raise _) _ _ (eachOf_holds Separated _ (fun _ _ ht => ht.raise _) _ _ h)

theorem Separated.enterStart {s : State} (h : Separated s) (startChain : Half) : Separated (Machine.enterStart startChain s) := by
  have stopped : Separated (Machine.showStop (setMode .start .modRun s)) := (h.congr (t := setMode .start .modRun s) (by simp) rfl).showStop
  exact eachOf_holds Separated Machine.recurStations (fun br _ ht => ht.recurStations br) _ _
    (Separated.evaluateReds (stopped.congr (by simp) (by simp)))

/-! ### The separation through the conclusion of an event -/

theorem Separated.closeIfDone {s : State} (h : Separated s) : Separated (Machine.closeIfDone s) := by
  unfold Machine.closeIfDone
  split
  · exact h.leavePermit _ _ _
  · exact h

theorem Separated.evaluateShown {s : State} (h : Separated s) : Separated (Machine.evaluateShown s) := by
  unfold Machine.evaluateShown
  split
  · exact h
  · exact h.evaluateReds

/-- The numbering of an image changes no record. -/
@[simp] theorem numberImage_groups (s : State) : (numberImage s).engine.groups = s.engine.groups := by
  unfold numberImage
  split <;> simp

/-- The conclusion of an event keeps the separation. -/
theorem Separated.conclude {s : State} (h : Separated s) : Separated (Machine.conclude s) := by
  have closed := (h.settle roundLimit).closeIfDone
  have noticed : Separated (noticeGo (Machine.closeIfDone (Machine.settle roundLimit s))) := closed.congr (by simp) (by simp)
  exact noticed.evaluateShown.congr (by simp [Machine.conclude]) (by simp [Machine.conclude])

/-- An answer that only hands frames to the link interface keeps the separation. -/
theorem Separated.answer {s : State} (h : Separated s) {answer : State → State} (only : onlyLink answer) : Separated (answer s) :=
  h.congr (congrArg (fun t => t.engine.groups) (only s)) (congrArg (fun t => t.store.active) (only s))

theorem Separated.openEvent {s : State} (h : Separated s) : Separated (Machine.openEvent s) := h.congr rfl rfl

/-- An event keeps the separation that its command's own effect leaves. -/
theorem separated_asEvent {effect answer : State → State} {s : State} (only : onlyLink answer)
    (own : Separated (effect (openEvent s))) : Separated (asEvent effect answer s) :=
  (own.conclude.answer only).congr rfl rfl

/-! ### The separation through the outcomes of the commands -/

theorem Separated.whileUp {effect : State → State} {s : State} (h : Separated s) (own : Separated (effect s)) :
    Separated (Machine.whileUp effect s) := by
  unfold Machine.whileUp
  split
  · exact own
  · exact h

/-- Any outcome of the meaning is a state in which groups in conflict are separated. -/
def EndsSeparated (outcome : Host.Outcome State Fault Refusal) : Prop := ∀ t, outcome = .next t → Separated t

theorem endsSeparated_next {s : State} (h : Separated s) : EndsSeparated (.next s) := by
  rintro t ⟨⟩
  exact h

theorem Separated.eventOutcome {effect : State → State} {s : State} (h : Separated s) (own : Separated (effect (Machine.openEvent s))) :
    EndsSeparated (Machine.eventOutcome effect s) :=
  endsSeparated_next (h.whileUp (separated_asEvent id_onlyLink own))

/-- An event whose command changes neither the records nor the active tables by its own effect. -/
theorem Separated.eventOutcome_kept {effect : State → State} {s : State} (h : Separated s)
    (groups : (effect (Machine.openEvent s)).engine.groups = s.engine.groups)
    (active : (effect (Machine.openEvent s)).store.active = s.store.active) : EndsSeparated (Machine.eventOutcome effect s) :=
  h.eventOutcome (h.congr groups active)

theorem Separated.frameOutcome {effect answer : State → State} {s : State} (h : Separated s) (only : onlyLink answer)
    (own : Separated (effect (Machine.openEvent s))) : EndsSeparated (Machine.frameOutcome effect answer s) := by
  refine endsSeparated_next (h.whileUp ?_)
  split
  · exact separated_asEvent only own
  · exact h.congr rfl rfl

/-! ### The separation through the commands' own effects -/

/-- After a reset there are no tables in force, and no group is released (R4, R166). -/
theorem separated_resetState (pending : List Instr) (lowFor drawn strikes : Nat) (nv : Nonvolatile) :
    Separated (resetState pending lowFor drawn strikes nv) :=
  separated_of_stopped orderly_emptySet (by simp [resetState]) (fun g live => absurd live (Bool.eq_false_iff.mp (emptySet_live g)))

@[simp] theorem cutWrites_frame (s : State) :
    (cutWrites s).engine = s.engine ∧ (cutWrites s).store.active = s.store.active := by
  unfold cutWrites
  dsimp only
  repeat' split
  all_goals simp [tearCommit, spoilErase]

@[simp] theorem callPlan_frame (p : Nat) (s t : State) :
    ((callPlan p s).2 t).engine = t.engine ∧ ((callPlan p s).2 t).store = t.store := by
  unfold callPlan
  repeat' split
  all_goals simp

@[simp] theorem changeLine_frame (line : Nat) (active : Bool) (s : State) :
    (changeLine line active s).engine = s.engine ∧ (changeLine line active s).store = s.store := by
  unfold changeLine
  dsimp only
  split <;> simp

theorem Separated.clearLatched {s : State} (h : Separated s) : Separated (Machine.clearLatched s) := by
  have cleared : Separated (eachOf s.channelNumbers clearChannel s) :=
    eachOf_holds Separated clearChannel (fun _ _ ht => ht.congr (by simp) (by simp)) _ s h
  unfold Machine.clearLatched
  dsimp only
  split
  · exact cleared.evaluateReds.congr rfl rfl
  · exact cleared.evaluateReds

@[simp] theorem clearStrikes_frame (s : State) :
    (clearStrikes s).engine = s.engine ∧ (clearStrikes s).store.active = s.store.active := by
  unfold clearStrikes
  dsimp only
  repeat' split
  all_goals simp

theorem Separated.concern {s : State} (h : Separated s) (groups : List Nat) : Separated (Machine.concern groups s) := h.congr rfl rfl

theorem Separated.changeBranch {s : State} (h : Separated s) (br : BranchId) (f : Branch → Branch) :
    Separated (Machine.changeBranch br f s) := h.congr rfl rfl

theorem Separated.stationLost {s : State} (h : Separated s) (station : Nat) : Separated (Machine.stationLost station s) :=
  h.congr (by simp) (by simp)

theorem Separated.takeReadings {s : State} (h : Separated s) (station : Nat) (currents : List Half) :
    Separated (Machine.takeReadings station currents s) := by
  have judged : Separated (judgeReport station currents s).1 := h.congr (by simp) (by simp)
  unfold Machine.takeReadings
  generalize judgeReport station currents s = x at judged ⊢
  obtain ⟨u, found⟩ := x
  have handed : Separated (handFindings found u) := Separated.congr judged (by simp) (by simp)
  have reds := fun l => eachOf_holds Separated Machine.handRed (fun change _ ht => ht.handRed change) l _ handed
  have conflicts := fun k l =>
    eachOf_holds Separated (fun g => Machine.raise (fieldConflictRaise g)) (fun _ _ ht => ht.raise _) k _ (reds l)
  exact (conflicts _ _).concern _

theorem Separated.proveReport {s : State} (h : Separated s) (br : BranchId) (station : Nat) (applied : Option Byte)
    (currents : List Half) : Separated (Machine.proveReport br station applied currents s) := by
  unfold Machine.proveReport
  split
  · exact h.takeReadings station currents
  · exact h

theorem Separated.lagMissed {s : State} (h : Separated s) (br : BranchId) (l : Liveness) : Separated (Machine.lagMissed br l s) := by
  unfold Machine.lagMissed
  dsimp only
  split
  · exact Separated.raise (h.congr (by simp) (by simp)) _
  · exact h.congr (by simp) (by simp)

theorem Separated.countLag {s : State} (h : Separated s) (br : BranchId) (station : Nat) (applied : Option Byte) :
    Separated (Machine.countLag br station applied s) := by
  unfold Machine.countLag
  split
  · split
    · exact h
    · split
      · exact h.congr (by simp) (by simp)
      · exact h.lagMissed br _
  · exact h

theorem Separated.pollMissed {s : State} (h : Separated s) (br : BranchId) (station : Nat) :
    Separated (Machine.pollMissed br station s) := by
  have absent : Separated (becomeAbsent br station s) := by
    unfold becomeAbsent
    dsimp only
    have raised := fun f r => Separated.raise (h.congr (t := changeLiveness br station f s) (by simp) (by simp)) r
    split
    · exact (raised _ _).stationLost station
    · exact raised _ _
  unfold Machine.pollMissed
  split
  · split
    · exact h.congr (by simp) (by simp)
    · split
      · exact absent
      · exact h.congr (by simp) (by simp)
  · exact h

theorem Separated.superviseClose {s : State} (h : Separated s) : Separated (Machine.superviseClose s) := by
  unfold Machine.superviseClose
  dsimp only
  exact Separated.takeAction (h.congr (by simp) (by simp)) _ _

/-- The blocks take tables that are orderly: none is released from then on (R19). -/
theorem separated_takeLoaded {s : State} (orderly : s.tables.Orderly) : Separated (takeLoaded s) :=
  (separated_retableGroups orderly).congr (by simp [takeLoaded]) (by simp)

theorem separated_takeCommitted {s : State} (orderly : s.tables.Orderly) : Separated (takeCommitted s) :=
  (separated_retableGroups (s := { s with event.remark := true }) orderly).congr (by simp [takeCommitted]) (by simp)

/-- What a load finds is in force only where it passes the checks (R168). -/
theorem orderly_loaded (nv : Nonvolatile) (s : State) : (leaveLoading (reportLoad (loadStore nv s))).tables.Orderly := by
  refine orderly_of_active (fun t active => ?_)
  have found : (if nv.passes then some nv.set else none) = some t := by simpa [loadStore] using active
  split at found
  · next passes =>
    cases found
    simp only [Nonvolatile.passes, Bool.and_eq_true] at passes
    exact passes.2
  · cases found

/-- The working copy of a commit in progress is valid (R173). -/
theorem orderly_committed {s : State} (law : tableLaw s = true) (commit : s.store.op = .commit) :
    (endInvalid (activate s)).tables.Orderly := by
  refine orderly_of_active (fun t active => ?_)
  have same : some s.store.working = some t := by simpa [activate] using active
  cases same
  simp [tableLaw, commit] at law
  exact law.2.2

/-! ### The separation through every command -/

/-- The end of a load keeps the separation: from a load on the tables that it found are in force. -/
theorem Separated.execTableLoadEnd {s : State} (h : Separated s) (upsets : List Upset) (recordReadable : Bool) :
    EndsSeparated (Machine.execTableLoadEnd upsets recordReadable s) := by
  refine h.eventOutcome ?_
  split
  · exact separated_takeLoaded (orderly_loaded _ _)
  · exact h.openEvent

/-- The completion of a commit keeps the separation: its tables have passed the checks. -/
theorem Separated.execCommitCompletion {s : State} (h : Separated s) (law : tableLaw s = true) :
    EndsSeparated (Machine.execCommitCompletion s) := by
  refine h.eventOutcome ?_
  split
  · next commit => exact separated_takeCommitted (orderly_committed (s := Machine.openEvent s) law commit)
  · exact h.openEvent

theorem Separated.execImg {s : State} (h : Separated s) (chain next : Half) (inhibit : Byte) (targets : BitVec 48) :
    EndsSeparated (Machine.execImg chain next inhibit targets s) := by
  refine h.frameOutcome (fun _ => rfl) ?_
  dsimp only
  split <;> exact h.openEvent.congr (by simp) (by simp)

theorem Separated.execCalCall {s : State} (h : Separated s) (plan : Byte) : EndsSeparated (Machine.execCalCall plan s) := by
  refine h.frameOutcome (reply_onlyLink _ _ _) ?_
  dsimp only
  split
  · exact h.openEvent.congr (by simp) (by simp)
  · exact h.openEvent

theorem Separated.execCalCancel {s : State} (h : Separated s) (plan request : Byte) :
    EndsSeparated (Machine.execCalCancel plan request s) := by
  refine h.frameOutcome (reply_onlyLink _ _ _) ?_
  dsimp only
  split
  · exact h.openEvent.congr (by simp) (by simp)
  · exact h.openEvent

theorem Separated.execModRun {s : State} (h : Separated s) (cabinet generation startChain : Half) :
    EndsSeparated (Machine.execModRun cabinet generation startChain s) := by
  refine h.frameOutcome (reply_onlyLink _ _ _) ?_
  dsimp only
  split
  · exact h.openEvent.enterStart startChain
  · exact h.openEvent

theorem Separated.execModFlash {s : State} (h : Separated s) (request : Byte) : EndsSeparated (Machine.execModFlash request s) := by
  refine h.frameOutcome (reply_onlyLink _ _ _) ?_
  dsimp only
  split
  · exact h.openEvent.congr (by simp) (by simp)
  · exact h.openEvent

theorem Separated.execTwr {s : State} (h : Separated s) (table index : Byte) (content : List Byte) :
    EndsSeparated (Machine.execTwr table index content s) := by
  refine h.frameOutcome (reply_onlyLink _ _ _) ?_
  dsimp only
  split <;> exact h.openEvent.congr rfl rfl

theorem Separated.execTcm {s : State} (h : Separated s) : EndsSeparated (Machine.execTcm s) := by
  refine h.frameOutcome (reply_onlyLink _ _ _) ?_
  dsimp only
  split <;> exact h.openEvent.congr rfl rfl

theorem Separated.execTds {s : State} (h : Separated s) : EndsSeparated (Machine.execTds s) := by
  refine h.frameOutcome (reply_onlyLink _ _ _) ?_
  dsimp only
  split <;> exact h.openEvent.congr rfl rfl

theorem Separated.execFcl {s : State} (h : Separated s) : EndsSeparated (Machine.execFcl s) := by
  unfold Machine.execFcl answeredOutcome
  dsimp only
  split
  · exact h.frameOutcome (reply_onlyLink _ _ _) ((h.openEvent.clearLatched.congr (t := pruneFaults _) rfl rfl).congr (by simp) (by simp))
  · exact h.frameOutcome (reply_onlyLink _ _ _) h.openEvent

theorem Separated.execFwd {s : State} (h : Separated s) (tag station inner : Byte) (payload : List Byte) :
    EndsSeparated (Machine.execFwd tag station inner payload s) := by
  unfold Machine.execFwd answeredOutcome
  dsimp only
  split
  · exact h.frameOutcome (send_onlyLink _) h.openEvent
  · exact h.frameOutcome id_onlyLink (h.openEvent.congr rfl rfl)

/-- A lamp report (R132, R118). -/
theorem Separated.execLstReceived {s : State} (h : Separated s) (br : BranchId) (station : Nat) (applied : Option Byte)
    (currents : List Half) : EndsSeparated (Machine.execLstReceived br station applied currents s) := by
  refine h.eventOutcome ?_
  split
  · exact Separated.countLag (Separated.proveReport (h.openEvent.congr (by simp) (by simp)) _ _ _ _) _ _ _
  · exact h.openEvent.congr (by simp) (by simp)

theorem Separated.execDsmReceived {s : State} (h : Separated s) (br : BranchId) (station : Nat) (inputs : List DsmInput) :
    EndsSeparated (Machine.execDsmReceived br station inputs s) := by
  refine h.eventOutcome ?_
  split
  · refine h.openEvent.congr ?_ ?_
    all_goals
      simp only [takeSample_frame]
      split <;> simp
  · exact h.openEvent.congr (by simp) (by simp)

theorem Separated.execSstReceived {s : State} (h : Separated s) (br : BranchId) (station : Nat) (status : List Byte) :
    EndsSeparated (Machine.execSstReceived br station status s) := by
  refine h.eventOutcome ?_
  split <;> exact h.openEvent.congr (by simp) (by simp)

theorem Separated.execFwrReceived {s : State} (h : Separated s) (br : BranchId) (station : Nat) (payload : List Byte) :
    EndsSeparated (Machine.execFwrReceived br station payload s) := by
  refine endsSeparated_next (h.whileUp ?_)
  split
  · exact separated_asEvent (send_onlyLink _) (h.openEvent.congr rfl rfl)
  · exact separated_asEvent id_onlyLink (h.openEvent.congr rfl rfl)

theorem Separated.execPollAnswerTimeout {s : State} (h : Separated s) (br : BranchId) :
    EndsSeparated (Machine.execPollAnswerTimeout br s) := by
  refine h.eventOutcome ?_
  split
  · exact Separated.pollMissed (h.openEvent.congr (by simp) (by simp)) br _
  · exact h.openEvent

theorem Separated.execForwardAnswerTimeout {s : State} (h : Separated s) (br : BranchId) :
    EndsSeparated (Machine.execForwardAnswerTimeout br s) := by
  refine endsSeparated_next (h.whileUp ?_)
  split
  · exact separated_asEvent (send_onlyLink _) (h.openEvent.congr rfl rfl)
  · exact h

theorem Separated.execRepollTimerExpiry {s : State} (h : Separated s) (station : Nat) :
    EndsSeparated (Machine.execRepollTimerExpiry station s) := by
  refine h.eventOutcome ?_
  exact eachOf_holds Separated _ (fun br _ ht => ht.changeBranch br _) _ _ h.openEvent

theorem Separated.execStartUpStopTimerExpiry {s : State} (h : Separated s) : EndsSeparated (Machine.execStartUpStopTimerExpiry s) := by
  refine h.eventOutcome ?_
  split
  · dsimp only
    split <;> exact h.openEvent.congr (by simp) (by simp)
  · exact h.openEvent

theorem Separated.execSupervisionTimerExpiry {s : State} (h : Separated s) : EndsSeparated (Machine.execSupervisionTimerExpiry s) := by
  refine h.eventOutcome ?_
  have expired : Separated { Machine.openEvent s with exchange.supervision := some .expired } := h.openEvent.congr rfl rfl
  split
  · dsimp only
    split
    · exact expired.raise _
    · exact expired.congr (by simp) (by simp)
    all_goals exact expired
  · exact h.openEvent

theorem Separated.execWarningWindowExpiry {s : State} (h : Separated s) : EndsSeparated (Machine.execWarningWindowExpiry s) := by
  refine h.eventOutcome ?_
  split
  · exact h.openEvent.superviseClose
  · exact h.openEvent

/-- An expiry of a group re-evaluates it, and has no effect of its own (R20). -/
theorem Separated.groupExpiry {s : State} (h : Separated s) (due : State → Nat → Bool) (g : Nat) :
    EndsSeparated (Machine.eventOutcome (Machine.groupExpiry due g) s) :=
  h.eventOutcome_kept (by simp) (by simp)

/-- Every command keeps the groups in conflict separated. -/
theorem Separated.exec {s : State} (h : Separated s) (law : tableLaw s = true) (c : Instr) : EndsSeparated (Machine.exec c s) := by
  cases c with
  | powerOnReset => exact endsSeparated_next (separated_resetState ..)
  | nreset lowMicros supplyRising =>
    refine endsSeparated_next ?_
    split
    · exact separated_resetState ..
    · exact h
  | supplyLoss =>
    refine endsSeparated_next ?_
    split
    · exact h.congr (by simp) (by simp)
    · exact h
  | tableLoadEnd upsets recordReadable => exact h.execTableLoadEnd upsets recordReadable
  | img chain next inhibit targets => exact h.execImg chain next inhibit targets
  | calCall plan => exact h.execCalCall plan
  | calCancel plan request => exact h.execCalCancel plan request
  | modRun cabinet generation startChain => exact h.execModRun cabinet generation startChain
  | modFlash request => exact h.execModFlash request
  | twr table index content => exact h.execTwr table index content
  | trd table index copy => exact h.frameOutcome (reply_onlyLink _ _ _) h.openEvent
  | tcm => exact h.execTcm
  | tds => exact h.execTds
  | sta part first => exact h.frameOutcome (fun _ => rfl) h.openEvent
  | fcl => exact h.execFcl
  | fwd tag station inner payload => exact h.execFwd tag station inner payload
  | unknownKindFrame kind => exact h.frameOutcome (reply_onlyLink _ _ _) h.openEvent
  | damagedFrame cause => exact endsSeparated_next (h.whileUp (h.congr rfl rfl))
  | outgoingFrameSent => exact endsSeparated_next (h.whileUp (h.congr rfl rfl))
  | commitCompletion => exact h.execCommitCompletion law
  | commitWriteFailure => exact h.eventOutcome_kept (by split <;> simp [tearCommit]) (by split <;> simp [tearCommit])
  | recordWriteCompletion => exact h.eventOutcome_kept (by split <;> simp [endRecordOp]) (by split <;> simp [endRecordOp])
  | recordWriteFailure => exact h.eventOutcome_kept (by split <;> simp [endRecordOp]) (by split <;> simp [endRecordOp])
  | recordEraseCompletion => exact h.eventOutcome_kept (by split <;> simp [endRecordOp]) (by split <;> simp [endRecordOp])
  | recordEraseFailure => exact h.eventOutcome_kept (by split <;> simp [endRecordOp, spoilErase]) (by split <;> simp [endRecordOp, spoilErase])
  | maintStateChange active heldMs => exact endsSeparated_next (h.whileUp (h.congr (by split <;> rfl) (by split <;> rfl)))
  | peLineChange line active heldMs => exact h.eventOutcome_kept (by split <;> simp) (by split <;> simp)
  | startUpStopTimerExpiry => exact h.execStartUpStopTimerExpiry
  | supervisionTimerExpiry => exact h.execSupervisionTimerExpiry
  | warningWindowExpiry => exact h.execWarningWindowExpiry
  | endOfPrepare group => exact h.groupExpiry _ group
  | endOfClear group => exact h.groupExpiry _ group
  | minimumGoReached group => exact h.groupExpiry _ group
  | minimumStopReached group => exact h.groupExpiry _ group
  | deferralTimerExpiry group => exact h.groupExpiry _ group
  | planDelayEnd => exact h.eventOutcome_kept (by split <;> simp) (by split <;> simp)
  | planDwellEnd => exact h.eventOutcome_kept (by split <;> simp) (by split <;> simp)
  | planDurationExpiry plan => exact h.eventOutcome_kept (by split <;> simp) (by split <;> simp)
  | branchTransmissionEnd branch => exact h.eventOutcome_kept (by split <;> simp) (by split <;> simp)
  | lstReceived branch station applied currents => exact h.execLstReceived branch station applied currents
  | dsmReceived branch station inputs => exact h.execDsmReceived branch station inputs
  | sstReceived branch station status => exact h.execSstReceived branch station status
  | fwrReceived branch station payload => exact h.execFwrReceived branch station payload
  | branchFrameDiscarded branch cause => exact endsSeparated_next (h.whileUp (h.congr rfl rfl))
  | pollAnswerTimeout branch => exact h.execPollAnswerTimeout branch
  | forwardAnswerTimeout branch => exact h.execForwardAnswerTimeout branch
  | repollTimerExpiry station => exact h.execRepollTimerExpiry station
  | stuckDeadlineExpiry channel => exact h.eventOutcome_kept (by split <;> simp) (by split <;> simp)
  | idleDeadlineExpiry channel => exact h.eventOutcome_kept (by split <;> simp) (by split <;> simp)
  | idleGap line => exact endsSeparated_next (h.whileUp (h.congr (by split <;> rfl) (by split <;> rfl)))

/-! ### The separation through the passing of time -/

/-- The 10 ms counts keep the separation: a clearance clock moves by one at every count at which a time in PREPARE does, and it saturates above
every intergreen (R5). -/
theorem Separated.countUnits {s : State} (h : Separated s) : Separated (Machine.countUnits s) := by
  have group : ∀ {g}, s.tables.live g = true → (Machine.countUnits s).group g = (s.group g).count := fun live =>
    countUnits_group (h.mem_range live).1 (h.mem_range live).2
  have rel : ∀ {g}, s.tables.live g = true → released (Machine.countUnits s) g = released s g :=
    fun live => released_congr (by rw [group live]; rfl)
  refine ⟨h.orderly, by simpa [Machine.countUnits] using h.records, fun {i j} hc hj => ?_, fun {i j} hc => ?_⟩
  · obtain ⟨hi, hlive, -⟩ := conflict_iff.mp hc
    rw [rel hlive] at hj
    rw [rel hi]
    exact h.exclusive hc hj
  · obtain ⟨hi, hlive, -⟩ := conflict_iff.mp hc
    obtain ⟨go, prepare⟩ := h.cleared hc
    have small := intergreen_le s.tables i j
    rw [State.cleared, group hi, group hlive]
    show (_ → s.tables.intergreen i j ≤ min 65535 _) ∧ (_ → s.tables.intergreen i j ≤ min 65535 _ + (_ - min 65535 _))
    refine ⟨fun shown => ?_, fun shown => ?_⟩
    · have := go shown
      omega
    · have := prepare shown
      show s.tables.intergreen i j ≤ min 65535 _ + ((s.tables.group j).prepareUnits - _)
      omega

theorem Separated.tick {s : State} (h : Separated s) : Separated (Machine.tick s) := by
  have passed : Separated (passMillisecond s) := by
    unfold passMillisecond
    dsimp only
    split
    · exact Separated.countUnits (h.congr rfl rfl)
    · exact h.congr rfl rfl
  unfold Machine.tick
  split
  · exact h.congr rfl rfl
  · exact h.whileUp (passed.congr rfl rfl)

/-- Every step keeps the groups in conflict separated. -/
theorem Separated.step {s t : State} (h : Separated s) (law : tableLaw s = true) (ran : Machine.step s = .next t) : Separated t := by
  unfold Machine.step at ran
  split at ran
  · next c rest _ =>
    have front : Separated { s with pending := rest } := h.congr rfl rfl
    exact front.exec law c t ran
  · cases ran
    exact h.tick

/-! ### The separation and the laws -/

/-- A law over the conflicts of orderly tables, group by group. -/
theorem overConflicts_iff {s : State} (orderly : s.tables.Orderly) {p : Nat → Nat → Bool} :
    overConflicts s p = true ↔ ∀ i j, s.tables.conflict i j = true → p i j = true := by
  have numbered : ∀ {g}, s.tables.live g = true → g ∈ groupNumbers :=
    fun live => mem_groupNumbers.mpr ⟨(live_iff.mp live).1, orderly.live_le live⟩
  simp only [overConflicts, List.all_eq_true, Bool.or_eq_true, Bool.not_eq_true', ← Bool.not_eq_true, ← imp_iff_not_or]
  constructor
  · intro law i j hc
    obtain ⟨hi, hj, -⟩ := conflict_iff.mp hc
    exact law i (numbered hi) j (numbered hj) hc
  · exact fun law i _ j _ hc => law i j hc

/-- The tables in force are orderly where the ninth law holds (R166). -/
theorem orderly_of_tableLaw {s : State} (law : tableLaw s = true) : s.tables.Orderly := by
  refine orderly_of_active (fun t active => ?_)
  simp only [tableLaw, active, Bool.and_eq_true] at law
  exact law.1

theorem exclusionLaw_iff {s : State} (orderly : s.tables.Orderly) :
    exclusionLaw s = true ↔ ∀ i j, s.tables.conflict i j = true → released s j = true → released s i = false := by
  simp only [exclusionLaw, overConflicts_iff orderly, Bool.not_eq_true', Bool.and_eq_false_imp]
  constructor
  · exact fun law i j hc hj => Bool.eq_false_iff.mpr (fun hi => by simp [law i j hc hi] at hj)
  · exact fun law i j hc hi => Bool.eq_false_iff.mpr (fun hj => by simp [law i j hc hj] at hi)

theorem intergreenLaw_iff {s : State} (orderly : s.tables.Orderly) :
    intergreenLaw s = true ↔ ∀ i j, s.tables.conflict i j = true → s.cleared i j (s.group j) := by
  simp only [intergreenLaw, overConflicts_iff orderly, Bool.and_eq_true, Bool.or_eq_true, Bool.not_eq_true', decide_eq_false_iff_not,
    decide_eq_true_eq, ← imp_iff_not_or]
  rfl

/-- The separation is the first and second laws over orderly tables and the 24 records. -/
theorem separated_iff {s : State} (orderly : s.tables.Orderly) (records : s.engine.groups.length = Config.groups) :
    Separated s ↔ exclusionLaw s = true ∧ intergreenLaw s = true := by
  rw [exclusionLaw_iff orderly, intergreenLaw_iff orderly]
  exact ⟨fun h => ⟨fun _ _ => h.exclusive, fun _ _ => h.cleared⟩, fun ⟨exclusive, cleared⟩ => ⟨orderly, records, exclusive _ _, cleared _ _⟩⟩

/-- The laws that a step leans on separate the groups in conflict. -/
theorem separated_of_laws {s : State} (tables : tableLaw s = true) (aspects : aspectLaw s = true) (exclusion : exclusionLaw s = true)
    (intergreens : intergreenLaw s = true) : Separated s := by
  simp only [aspectLaw, Bool.and_eq_true, decide_eq_true_eq] at aspects
  exact (separated_iff (orderly_of_tableLaw tables) aspects.1).mpr ⟨exclusion, intergreens⟩

end Sys2Proof.Machine

namespace Sys2Proof.Proofs

open Sys2Proof Sys2Proof.Machine Sys2Proof.Safety

/-- Settles O8. Every step keeps the groups in conflict separated, which for a group shown GO says that the clearance clock of each rival has
reached the intergreen. -/
theorem goOnlyAfterIntergreens : Obligations.GoOnlyAfterIntergreens := by
  unfold Obligations.GoOnlyAfterIntergreens
  intro s t tables aspects exclusion intergreens ran i j conflict _ shown
  have separated := (separated_of_laws tables aspects exclusion intergreens).step tables ran
  exact (separated.cleared conflict).1 shown

end Sys2Proof.Proofs

/-! ### The frames of an event before its answer: alarms and detector reports (log 18) -/

namespace Sys2Proof.Machine

open Sys2Proof.Safety

theorem reportedOnly_of_link {s t : State} (link : t.link = s.link) : reportedOnly s t := ⟨[], rfl, link⟩

theorem reportedOnly_trans {s t u : State} (first : reportedOnly s t) (second : reportedOnly t u) : reportedOnly s u := by
  obtain ⟨made, reports, link⟩ := first
  obtain ⟨made', reports', link'⟩ := second
  exact ⟨made ++ made', by simp [reports, reports'], by rw [link', link, List.foldl_append]⟩

theorem reportedOnly_alarm (body : AlarmBody) (s : State) : reportedOnly s (alarm body s) := ⟨[_], rfl, rfl⟩

theorem reportedOnly_congr {s t u : State} (made : reportedOnly s t) (link : u.link = t.link) : reportedOnly s u :=
  reportedOnly_trans made (reportedOnly_of_link link)

/-- An alarm made after a change that hands no frame to the link interface. -/
theorem reportedOnly_alarm_of_link {s t : State} (link : t.link = s.link) (body : AlarmBody) : reportedOnly s (alarm body t) :=
  reportedOnly_trans (reportedOnly_of_link link) (reportedOnly_alarm body t)

theorem reportedOnly_eachOf {α : Type} {f : α → State → State} (each : ∀ x s, reportedOnly s (f x s)) (l : List α) (s : State) :
    reportedOnly s (eachOf l f s) :=
  eachOf_holds (reportedOnly s) f (fun x t made => reportedOnly_trans made (each x t)) l s (reportedOnly_of_link rfl)

theorem reportedOnly_recordRaise (r : Raise) (s : State) : reportedOnly s (recordRaise r s) := by
  unfold recordRaise
  dsimp only
  split
  · split
    · exact reportedOnly_of_link rfl
    · exact reportedOnly_alarm_of_link rfl _
  · split <;> exact reportedOnly_alarm_of_link rfl _

theorem reportedOnly_note (r : Raise) (s : State) : reportedOnly s (note r s) :=
  reportedOnly_trans (reportedOnly_of_link rfl) (reportedOnly_recordRaise r _)

theorem reportedOnly_reportEnd (kind : FaultKind) (subject : Option Nat) (s : State) : reportedOnly s (reportEnd kind subject s) := by
  unfold reportEnd
  dsimp only
  split
  · split
    · exact reportedOnly_alarm_of_link rfl _
    · exact reportedOnly_of_link rfl
  · exact reportedOnly_alarm_of_link rfl _

/-- The end of a fault, reported where it was active. -/
theorem reportedOnly_reportEnd_if (active : Prop) [Decidable active] (kind : FaultKind) (subject : Option Nat) (s : State) :
    reportedOnly s (if active then reportEnd kind subject s else s) := by
  split
  · exact reportedOnly_reportEnd kind subject s
  · exact reportedOnly_of_link rfl

/-! #### The preemption unit reports its nesting limit -/

theorem reportedOnly_reportLimit (p : Nat) (s : State) : reportedOnly s (reportLimit p s) := by
  unfold reportLimit
  dsimp only
  split
  · exact reportedOnly_of_link rfl
  · exact reportedOnly_trans (reportedOnly_of_link (by simp)) (reportedOnly_note _ _)

theorem reportedOnly_consider (s : State) : reportedOnly s (consider s) := by
  unfold consider
  dsimp only
  split
  · split
    · split
      · exact reportedOnly_of_link (by simp)
      · exact reportedOnly_of_link rfl
    · exact reportedOnly_eachOf reportedOnly_reportLimit _ _
  · exact reportedOnly_of_link rfl

/-- A step of the top plan changes the stack, and where it ends the plan it considers taking. -/
theorem reportedOnly_topStep {s t : State} (step : topStep s = some t) : reportedOnly s t := by
  have taking : ∀ p outcome, reportedOnly s (consider (unstack p outcome s)) := fun p outcome =>
    reportedOnly_trans (reportedOnly_of_link (by simp)) (reportedOnly_consider _)
  have changed : ∀ f, reportedOnly s (changeTop f s) := fun f => reportedOnly_of_link (by simp)
  unfold topStep at step
  dsimp only at step
  repeat' split at step
  all_goals cases step
  all_goals simp only [taking, changed]

theorem reportedOnly_advance (steps : Nat) (s : State) : reportedOnly s (advance steps s) := by
  induction steps generalizing s with
  | zero => exact reportedOnly_of_link rfl
  | succ n ih =>
    unfold advance
    split
    · next t step => exact reportedOnly_trans (reportedOnly_topStep step) (ih t)
    · exact reportedOnly_of_link rfl

theorem reportedOnly_settle (rounds : Nat) (s : State) : reportedOnly s (settle rounds s) := by
  have evaluated : ∀ u, reportedOnly u (evaluateConcerned passLimit (rebuild u)) := fun u => reportedOnly_of_link (by simp)
  induction rounds generalizing s with
  | zero => exact evaluated s
  | succ n ih =>
    unfold settle
    dsimp only
    split
    · exact reportedOnly_trans (evaluated s) (reportedOnly_trans (reportedOnly_advance _ _) (ih _))
    · exact evaluated s

/-! #### The mode controller reports the changes of mode, and the other blocks the faults that end with a mode -/

theorem reportedOnly_announce (old : Mode) (s : State) : reportedOnly s (announce old s) := reportedOnly_alarm _ s

theorem reportedOnly_endLapse (s : State) : reportedOnly s (endLapse s) := by
  unfold endLapse
  split
  · exact reportedOnly_trans (reportedOnly_of_link rfl) (reportedOnly_reportEnd _ _ _)
  · exact reportedOnly_of_link rfl

theorem reportedOnly_stopChannel (c : Nat) (s : State) : reportedOnly s (stopChannel c s) := by
  unfold stopChannel
  dsimp only
  exact reportedOnly_trans (reportedOnly_trans (reportedOnly_of_link (by simp)) (reportedOnly_reportEnd_if _ _ _ _))
    (reportedOnly_reportEnd_if _ _ _ _)

theorem reportedOnly_endRedFail (g : Nat) (s : State) : reportedOnly s (endRedFail g s) := by
  unfold endRedFail
  split
  · exact reportedOnly_trans (reportedOnly_of_link (by simp)) (reportedOnly_reportEnd _ _ _)
  · exact reportedOnly_of_link rfl

theorem reportedOnly_stopProving (s : State) : reportedOnly s (stopProving s) :=
  reportedOnly_trans (reportedOnly_eachOf reportedOnly_stopChannel _ _) (reportedOnly_eachOf reportedOnly_endRedFail _ _)

theorem reportedOnly_exchangeFlash (s : State) : reportedOnly s (exchangeFlash s) :=
  reportedOnly_trans (reportedOnly_of_link rfl) (reportedOnly_endLapse _)

theorem reportedOnly_leavePermit (new : Mode) (cause : Cause) (record : Option (FaultKind × Option Nat)) (s : State) :
    reportedOnly s (leavePermit new cause record s) := by
  have left (old : Mode) (u : State) (link : u.link = s.link) : reportedOnly s
      (announce old (writeRecordOf record (resetWorking (stopProving (plansFlash (exchangeFlash (showFlash u))))))) := by
    have lapsed : reportedOnly s (exchangeFlash (showFlash u)) :=
      reportedOnly_trans (reportedOnly_of_link link) (reportedOnly_exchangeFlash _)
    have stopped : reportedOnly s (stopProving (plansFlash (exchangeFlash (showFlash u)))) :=
      reportedOnly_trans (reportedOnly_congr lapsed (by simp)) (reportedOnly_stopProving _)
    exact reportedOnly_trans (reportedOnly_congr stopped (by simp)) (reportedOnly_announce _ _)
  exact left _ _ rfl

theorem reportedOnly_changeFlashMode (new : Mode) (cause : Cause) (record : Option (FaultKind × Option Nat)) (s : State) :
    reportedOnly s (changeFlashMode new cause record s) :=
  reportedOnly_trans (reportedOnly_of_link (by simp)) (reportedOnly_announce _ _)

theorem reportedOnly_enterClosing (target : CloseTarget) (cause : CloseCause) (s : State) :
    reportedOnly s (enterClosing target cause s) := by
  have entered (old : Mode) (u : State) (link : u.link = s.link) : reportedOnly s (announce old (plansClosing (endLapse u))) := by
    have lapsed : reportedOnly s (endLapse u) := reportedOnly_trans (reportedOnly_of_link link) (reportedOnly_endLapse u)
    exact reportedOnly_trans (reportedOnly_congr lapsed (by simp)) (reportedOnly_announce _ _)
  exact entered _ _ rfl

theorem reportedOnly_takeAction (r : Raise) (close : CloseTarget) (s : State) : reportedOnly s (takeAction r close s) := by
  have same : reportedOnly s s := reportedOnly_of_link rfl
  have held : ∀ control, reportedOnly s { s with control := control } := fun _ => reportedOnly_of_link rfl
  unfold takeAction
  repeat' split
  all_goals simp only [same, held, reportedOnly_leavePermit, reportedOnly_enterClosing, reportedOnly_changeFlashMode]

theorem reportedOnly_raise (r : Raise) (s : State) : reportedOnly s (raise r s) :=
  reportedOnly_trans (reportedOnly_note r s) (reportedOnly_takeAction r .flash _)

theorem reportedOnly_handRed (change : Nat × Bool) (s : State) : reportedOnly s (handRed change s) := by
  have raised : reportedOnly s (raise (redFailRaise s.tables change.1) (setRedFail true change.1 s)) :=
    reportedOnly_trans (reportedOnly_of_link (by simp)) (reportedOnly_raise _ _)
  unfold handRed
  dsimp only
  split
  · split
    · exact raised
    · exact reportedOnly_trans raised (reportedOnly_endRedFail _ _)
  · exact reportedOnly_endRedFail _ _

/-! #### The conclusion and the answer of an event -/

theorem reportedOnly_closeIfDone (s : State) : reportedOnly s (closeIfDone s) := by
  unfold closeIfDone
  split
  · exact reportedOnly_leavePermit _ _ _ s
  · exact reportedOnly_of_link rfl

theorem reportedOnly_evaluateShown (s : State) : reportedOnly s (evaluateShown s) := by
  unfold evaluateShown
  split
  · exact reportedOnly_of_link rfl
  · exact reportedOnly_eachOf reportedOnly_handRed _ _

theorem reportedOnly_handReports (s : State) : reportedOnly s (handReports s) :=
  reportedOnly_eachOf (fun _ _ => ⟨[_], rfl, rfl⟩) _ _

theorem reportedOnly_conclude (s : State) : reportedOnly s (conclude s) := by
  have closed : reportedOnly s (closeIfDone (settle roundLimit s)) :=
    reportedOnly_trans (reportedOnly_settle _ s) (reportedOnly_closeIfDone _)
  have shown : reportedOnly s (evaluateShown (noticeGo (closeIfDone (settle roundLimit s)))) :=
    reportedOnly_trans (reportedOnly_congr closed (by simp)) (reportedOnly_evaluateShown _)
  unfold conclude
  exact reportedOnly_trans (reportedOnly_congr shown (by simp)) (reportedOnly_handReports _)

/-- An event whose own effect makes no other frames than reports hands its reply to the link interface behind them (log 18). -/
theorem replied_asEvent {effect : State → State} {s : State} (own : reportedOnly (openEvent s) (effect (openEvent s)))
    (kind : Byte) (result : Result) (content : List Byte) :
    replied s (asEvent effect (reply kind result content) s) (.rpl kind result content) := by
  obtain ⟨made, reports, link⟩ := reportedOnly_trans own (reportedOnly_conclude _)
  refine ⟨made, [], reports, rfl, ?_⟩
  simp only [asEvent, closeEvent_frame, reply, send_link, link, openEvent_frame, List.foldl_append, List.foldl_cons, List.foldl_nil]

/-- An answer that only hands frames to the link interface leaves an event's outcome to its effect and conclusion. -/
theorem asEvent_frame {effect answer : State → State} (only : onlyLink answer) (s : State) :
    (asEvent effect answer s).pending = (conclude (effect (openEvent s))).pending
      ∧ (asEvent effect answer s).clock = (conclude (effect (openEvent s))).clock
      ∧ (asEvent effect answer s).event = { }
      ∧ (asEvent effect answer s).exchange = (conclude (effect (openEvent s))).exchange
      ∧ (asEvent effect answer s).control = (conclude (effect (openEvent s))).control
      ∧ (asEvent effect answer s).store = (conclude (effect (openEvent s))).store := by
  have same := only (conclude (effect (openEvent s)))
  exact ⟨(congrArg State.pending same :), (congrArg State.clock same :), rfl, (congrArg State.exchange same :),
    (congrArg State.control same :), (congrArg State.store same :)⟩

/-! ### Groups that stay as they are while the mode admits none (R15, R16) -/

/-- A group that no re-evaluation moves outside RUNNING and WARNING: it is shown STOP or DARK, or CLEAR short of its clear time. -/
def State.still (s : State) (g : Nat) : Prop :=
  s.shown g = .stop ∨ s.shown g = .dark ∨ s.shown g = .clear ∧ (s.group g).time < (s.tables.group g).clearUnits

/-- Re-evaluations have left the mode, the tables and what group `g` shows as they were. -/
structure Unmoved (g : Nat) (s t : State) : Prop where
  control : t.control = s.control
  active : t.store.active = s.store.active
  same : face (t.group g) = face (s.group g)

theorem Unmoved.refl (g : Nat) (s : State) : Unmoved g s s := ⟨rfl, rfl, rfl⟩

theorem Unmoved.trans {g : Nat} {s t u : State} (first : Unmoved g s t) (second : Unmoved g t u) : Unmoved g s u :=
  ⟨second.control.trans first.control, second.active.trans first.active, second.same.trans first.same⟩

theorem Unmoved.shown {g : Nat} {s t : State} (h : Unmoved g s t) : t.shown g = s.shown g := congrArg Prod.fst h.same

theorem Unmoved.still {g : Nat} {s t : State} (h : Unmoved g s t) (still : s.still g) : t.still g := by
  have time : (t.group g).time = (s.group g).time := congrArg (fun x => x.2.1) h.same
  unfold State.still
  rw [Unmoved.shown h, time, tables_congr h.active]
  exact still

theorem judge_face_of_still {s : State} {g : Nat} (admits : s.control.mode.admits = false) (still : s.still g) :
    face (s.judge g) = face (s.group g) := by
  rcases still with stop | dark | ⟨clear, short⟩
  · simp only [State.shown] at stop
    simp only [State.judge, stop, admits, if_true]
    repeat' split
    all_goals rfl
  · simp only [State.shown] at dark
    simp only [State.judge, dark, admits]
    rfl
  · simp only [State.shown] at clear
    simp only [State.judge, clear, if_neg (Nat.not_le.mpr short)]
    rfl

/-- Setting a record leaves what group `g` shows as it is, if the record shows the same or is another group's. -/
theorem setGroup_face {g k : Nat} {x : Group} {s : State} (same : k = g → face x = face (s.group g)) :
    face ((setGroup k x s).group g) = face (s.group g) := by
  by_cases h : k = g
  · subst h
    exact shown_of_faces (setGroup_faces (same rfl)) k
  · rw [setGroup_group_other (Ne.symm h)]

theorem evaluate_groups (k : Nat) (s : State) :
    (evaluate k s).engine.groups = if s.tables.live k then (setGroup k (s.judge k) s).engine.groups else s.engine.groups := by
  unfold evaluate
  split
  · dsimp only
    split
    · rfl
    · simp only [concern_frame]
      split <;> rfl
  · rfl

theorem unmoved_evaluate {s t : State} {g : Nat} (admits : s.control.mode.admits = false) (still : s.still g) (k : Nat)
    (h : Unmoved g s t) : Unmoved g s (evaluate k t) := by
  refine Unmoved.trans h ⟨by simp, by simp, ?_⟩
  by_cases live : t.tables.live k = true
  · have groups : (evaluate k t).engine.groups = (setGroup k (t.judge k) t).engine.groups := by rw [evaluate_groups, if_pos live]
    rw [group_congr groups]
    refine setGroup_face ?_
    rintro rfl
    exact judge_face_of_still (h.control ▸ admits) (Unmoved.still h still)
  · exact congrArg face (group_congr (by rw [evaluate_groups, if_neg live]) g)

theorem unmoved_evaluateConcerned {s t : State} {g : Nat} (admits : s.control.mode.admits = false) (still : s.still g)
    (passes : Nat) (h : Unmoved g s t) : Unmoved g s (evaluateConcerned passes t) := by
  induction passes generalizing t with
  | zero => exact h
  | succ n ih =>
    unfold evaluateConcerned
    split
    · exact h
    · exact ih (eachOf_holds (Unmoved g s) evaluate (fun k _ hu => unmoved_evaluate admits still k hu) _ _
        ⟨h.control, h.active, h.same⟩)

theorem unmoved_rebuild (g : Nat) (s : State) : Unmoved g s (rebuild s) :=
  ⟨by simp, by simp, shown_of_faces rebuild_rest.1 g⟩

theorem unmoved_advance (g steps : Nat) (s : State) : Unmoved g s (advance steps s) :=
  ⟨by simp, by simp, congrArg face (group_congr (by simp) g)⟩

/-- The settling of an event outside RUNNING and WARNING leaves a still group as it is. -/
theorem unmoved_settle {s t : State} {g : Nat} (admits : s.control.mode.admits = false) (still : s.still g) (rounds : Nat)
    (h : Unmoved g s t) : Unmoved g s (settle rounds t) := by
  have evaluated : ∀ {u : State}, Unmoved g s u → Unmoved g s (evaluateConcerned passLimit (rebuild u)) := fun hu =>
    unmoved_evaluateConcerned admits still _ (Unmoved.trans hu (unmoved_rebuild g _))
  induction rounds generalizing t with
  | zero => exact evaluated h
  | succ n ih =>
    unfold settle
    dsimp only
    split
    · exact ih (Unmoved.trans (evaluated h) (unmoved_advance g stepLimit _))
    · exact evaluated h

theorem closed_iff {s : State} : s.closed = true ↔ ∀ g, s.tables.live g = true → s.shown g = .stop ∨ s.shown g = .dark := by
  simp only [State.closed, TableSet.liveGroups, List.all_eq_true, mem_numbers, Bool.or_eq_true, decide_eq_true_eq, live_iff]

theorem closed_congr {s t : State} (groups : t.engine.groups = s.engine.groups) (active : t.store.active = s.store.active) :
    t.closed = s.closed := by
  have shown : ∀ g, t.shown g = s.shown g := fun g => congrArg Group.shown (group_congr groups g)
  rw [Bool.eq_iff_iff, closed_iff, closed_iff, tables_congr active]
  simp only [shown]

/-- A close that has nothing left to wait for stays so while the event settles. -/
theorem settle_closed {s : State} (admits : s.control.mode.admits = false) (closed : s.closed = true) (rounds : Nat) :
    (settle rounds s).closed = true := by
  rw [closed_iff] at closed ⊢
  intro g live
  have shown := closed g (by simpa [State.tables] using live)
  have still : s.still g := shown.imp_right .inl
  rwa [Unmoved.shown (unmoved_settle admits still rounds (Unmoved.refl g s))]

/-- A live group short of its clear time keeps a close from its end while the event settles (R16). -/
theorem settle_not_closed {s : State} {g : Nat} (admits : s.control.mode.admits = false) (live : s.tables.live g = true)
    (clear : s.shown g = .clear) (short : (s.group g).time < (s.tables.group g).clearUnits) (rounds : Nat) :
    (settle rounds s).closed ≠ true := by
  have unmoved := unmoved_settle admits (.inr (.inr ⟨clear, short⟩)) rounds (Unmoved.refl g s)
  intro closed
  have shown := closed_iff.mp closed g (by simpa [State.tables] using live)
  rw [Unmoved.shown unmoved, clear] at shown
  simp at shown

/-! ### The end of a close at the conclusion of an event (R56) -/

@[simp] theorem leavePermit_control (new : Mode) (cause : Cause) (record : Option (FaultKind × Option Nat)) (s : State) :
    (leavePermit new cause record s).control.mode = new ∧ (leavePermit new cause record s).control.runPermit = new.permit
      ∧ (leavePermit new cause record s).control.lastCause = cause := by
  cases record <;> simp [leavePermit, writeRecordOf, startRecordWrite]

/-- A change of one proving record that starts no LAMP_OUT. -/
theorem noLampOut_changeProving {s : State} (h : noLampOut s = true) (c : Nat) {f : Proving → Proving}
    (dark : ∀ x, x.lampOut = false → (f x).lampOut = false) : noLampOut (changeProving c f s) = true := by
  simp only [noLampOut, List.all_eq_true, Bool.not_eq_true'] at h ⊢
  intro x hx
  simp only [changeProving, changeEntry] at hx
  split at hx
  · exact h x hx
  · obtain ⟨i, at_i⟩ := List.mem_iff_getElem?.mp hx
    rw [List.getElem?_modify] at at_i
    obtain ⟨y, at_y, rfl⟩ := Option.map_eq_some_iff.mp at_i
    have := h y (List.mem_of_getElem? at_y)
    split
    · exact dark y this
    · exact this

/-- The report of a fault's end touches no proving record. -/
theorem noLampOut_reportEnd_if (active : Prop) [Decidable active] (kind : FaultKind) (subject : Option Nat) (s : State) :
    noLampOut (if active then reportEnd kind subject s else s) = noLampOut s := by
  split
  · exact noLampOut_of_channels (by simp)
  · rfl

theorem noLampOut_stopChannel {s : State} (h : noLampOut s = true) (c : Nat) : noLampOut (stopChannel c s) = true := by
  unfold stopChannel
  dsimp only
  rw [noLampOut_reportEnd_if, noLampOut_reportEnd_if]
  exact noLampOut_changeProving h c (fun x dark => by simp [dark])

theorem noLampOut_stopProving {s : State} (h : noLampOut s = true) : noLampOut (stopProving s) = true := by
  have stopped := eachOf_holds (noLampOut · = true) stopChannel (fun c _ ht => noLampOut_stopChannel ht c) s.channelNumbers s h
  exact eachOf_holds (noLampOut · = true) endRedFail
    (fun g t ht => (noLampOut_of_channels (endRedFail_channels g t)).trans ht) groupNumbers _ stopped

theorem noLampOut_leavePermit {s : State} (h : noLampOut s = true) (new : Mode) (cause : Cause)
    (record : Option (FaultKind × Option Nat)) : noLampOut (leavePermit new cause record s) = true := by
  have left (old : Mode) (u : State) (hu : noLampOut u = true) : noLampOut
      (announce old (writeRecordOf record (resetWorking (stopProving (plansFlash (exchangeFlash (showFlash u))))))) = true := by
    have stopped := noLampOut_stopProving (s := plansFlash (exchangeFlash (showFlash u))) ((noLampOut_of_channels (by simp)).trans hu)
    exact (noLampOut_of_channels (by simp)).trans stopped
  exact left _ _ h

theorem noLampOut_closeIfDone {s : State} (h : noLampOut s = true) : noLampOut (closeIfDone s) = true := by
  unfold closeIfDone
  split
  · exact noLampOut_leavePermit h _ _ _
  · exact h

/-- Without LAMP_OUT nothing but the end of a close moves the mode controller at the conclusion of an event. -/
theorem conclude_control {s : State} (h : noLampOut s = true) :
    (conclude s).control = (closeIfDone (settle roundLimit s)).control := by
  have settled : noLampOut (settle roundLimit s) = true := (noLampOut_of_channels (by simp)).trans h
  have noticed : noLampOut (noticeGo (closeIfDone (settle roundLimit s))) = true :=
    (noLampOut_of_channels (by simp)).trans (noLampOut_closeIfDone settled)
  obtain ⟨control, -⟩ := evaluateReds_calm noticed
  unfold conclude
  simp only [handReports_frame, arbitrateAll_frame, markIfDue_frame, numberImage_frame]
  unfold evaluateShown
  split
  · simp
  · simp [control]

/-- A close that has live groups left to wait for goes on. -/
theorem conclude_control_of_not_closed {s : State} (h : noLampOut s = true) (unfinished : (settle roundLimit s).closed ≠ true) :
    (conclude s).control = s.control := by
  rw [conclude_control h, closeIfDone, if_neg (fun done => unfinished done.2)]
  simp

/-- A close ends in a mode in which RUNPERMIT is released (R44, R56). -/
theorem closeTarget_permit (target : CloseTarget) : target.mode.permit = false := by cases target <;> rfl

/-- In CLOSING a close at its end enters the close target's mode, and RUNPERMIT is released (R44, R56). -/
theorem conclude_control_of_closed {s : State} (h : noLampOut s = true) (closing : s.control.mode = .closing)
    (done : (settle roundLimit s).closed = true) :
    (conclude s).control.mode = (s.control.closeTarget.getD .flash).mode ∧ (conclude s).control.runPermit = false
      ∧ (conclude s).control.lastCause = .closeDone := by
  rw [conclude_control h, closeIfDone, if_pos ⟨by simpa using closing, done⟩]
  simp [completeClose, closeTarget_permit]

/-- CLOSING is entered with its target and cause, RUNPERMIT energized (R44, R55). -/
theorem enterClosing_control (target : CloseTarget) (cause : CloseCause) (s : State) :
    (enterClosing target cause s).control
      = { s.control with
          mode := .closing, runPermit := true, lastCause := cause.cause, closeTarget := some target, closeCause := some cause
          startTimer := none, firstImage := none } := by
  simp [enterClosing, setMode, Mode.permit]

/-! ### The flash request -/

/-- The own effect of a MOD FLASH that is answered OK (R50): a close toward FLASH begins, but for FLASH and CLOSING. -/
def flashEffect (s : State) : State → State :=
  if flashResult 1 s = .ok ∧ s.control.mode ≠ .flash ∧ s.control.mode ≠ .closing then enterClosing .flash .modFlash else id

/-- The outcome of a MOD FLASH that finds the supervisor listening. -/
def flashed (s : State) : State := asEvent (flashEffect s) (reply modKind (flashResult 1 s) []) s

theorem exec_modFlash {s : State} (hears : listening s = true) : exec (.modFlash 1) s = .next (flashed s) := by
  simp only [listening, Bool.and_eq_true] at hears
  show Host.Outcome.next _ = _
  simp only [whileUp, hears, if_true]
  rfl

theorem reportedOnly_flashEffect (s t : State) : reportedOnly t (flashEffect s t) := by
  unfold flashEffect
  split
  · exact reportedOnly_enterClosing _ _ t
  · exact reportedOnly_of_link rfl

@[simp] theorem flashEffect_strikes (s t : State) : (flashEffect s t).exchange.strikes = t.exchange.strikes := by
  unfold flashEffect
  split <;> simp

/-- The outcome of a flash request is that of its own effect and the conclusion, but for the reply. -/
theorem flashed_frame (s : State) :
    (flashed s).pending = (conclude (flashEffect s (openEvent s))).pending
      ∧ (flashed s).clock = (conclude (flashEffect s (openEvent s))).clock
      ∧ (flashed s).event = { }
      ∧ (flashed s).exchange = (conclude (flashEffect s (openEvent s))).exchange
      ∧ (flashed s).control = (conclude (flashEffect s (openEvent s))).control
      ∧ (flashed s).store = (conclude (flashEffect s (openEvent s))).store :=
  asEvent_frame (reply_onlyLink modKind (flashResult 1 s) []) s

theorem flashed_control (s : State) : (flashed s).control = (conclude (flashEffect s (openEvent s))).control := by
  obtain ⟨-, -, -, -, control, -⟩ := flashed_frame s
  exact control

/-- A flash request counts no strike (R50). -/
theorem flashed_strikes (s : State) : (flashed s).exchange.strikes = s.exchange.strikes := by
  obtain ⟨-, -, -, exchange, -⟩ := flashed_frame s
  simp [exchange]

/-- In LOADING, FLASH, LOCKOUT and CLOSING a flash request has no effect of its own (R50). -/
theorem flashEffect_eq_id {s : State} (h : s.control.mode.permit = false ∨ s.control.mode = .closing) : flashEffect s = id := by
  cases mode : s.control.mode with
  | start | running | warning => simp [mode, Mode.permit] at h
  | loading | flash | closing | lockout => simp [flashEffect, flashResult, mode]

/-- In START, RUNNING and WARNING a flash request begins a close toward FLASH (R50). -/
theorem flashEffect_eq_enterClosing {s : State}
    (h : s.control.mode = .start ∨ s.control.mode = .running ∨ s.control.mode = .warning) :
    flashResult 1 s = .ok ∧ flashEffect s = enterClosing .flash .modFlash := by
  unfold flashEffect flashResult
  rcases h with mode | mode | mode <;> simp [mode]

theorem flashed_calm {s : State} (calm : noLampOut s = true) (flash : s.control.mode.permit = false) : calmFrame s (flashed s) := by
  have mode : s.control.mode ≠ .closing := fun closing => by simp [closing, Mode.permit] at flash
  obtain ⟨control, store, exchange⟩ := conclude_calm (s := openEvent s) calm mode
  have frame := flashed_frame s
  simpa only [calmFrame, flashEffect_eq_id (.inl flash), id, conclude_frame, control, store, exchange, openEvent_frame] using frame

theorem flashed_rest {s : State} (rest : resting s = true) :
    restFrame s (flashed s) ∧ (flashed s).link = s.link.accept (.rpl modKind (flashResult 1 s) []) := by
  simp only [resting, Bool.and_eq_true, Bool.not_eq_true'] at rest
  obtain ⟨⟨-, flash⟩, law⟩ := rest
  obtain ⟨frame, link, quiet⟩ := asEvent_rest (effect := id) (s := s) (reply_onlyLink modKind (flashResult 1 s) []) flash law rfl rfl rfl rfl
  rw [flashed, flashEffect_eq_id (.inl flash)]
  refine ⟨Proofs.restFrame_openEvent.mp frame, ?_⟩
  rw [link, reply, send_link, quiet]
  rfl

/-- In CLOSING the close goes on at a flash request, or has come to its end by itself (R50, R56). -/
theorem flashed_closing {s : State} (calm : noLampOut s = true) (closing : s.control.mode = .closing) :
    ((flashed s).control.mode = .closing → (flashed s).control = s.control)
      ∧ ((∃ g, inService s g = true ∧ s.shown g = .clear ∧ (s.group g).time < (s.tables.group g).clearUnits) →
        (flashed s).control = s.control) := by
  rw [flashed_control, flashEffect_eq_id (.inr closing)]
  have admits : (openEvent s).control.mode.admits = false := by simp [closing, Mode.admits]
  constructor
  · intro still
    by_cases done : (settle roundLimit (openEvent s)).closed = true
    · obtain ⟨mode, -⟩ := conclude_control_of_closed (s := openEvent s) calm closing done
      have released := closeTarget_permit ((openEvent s).control.closeTarget.getD .flash)
      rw [← mode] at released
      rw [id] at still
      simp [still, Mode.permit] at released
    · exact conclude_control_of_not_closed (s := openEvent s) calm done
  · rintro ⟨g, service, clear, short⟩
    simp only [inService, Bool.and_eq_true] at service
    exact conclude_control_of_not_closed (s := openEvent s) calm (settle_not_closed admits service.2 clear short _)

/-- In START, RUNNING and WARNING a close toward FLASH begins at a flash request, and ends at once when it has nothing to wait for (R50, R55, R56). -/
theorem flashed_permit {s : State} (calm : noLampOut s = true)
    (permit : s.control.mode = .start ∨ s.control.mode = .running ∨ s.control.mode = .warning) :
    (((flashed s).control.mode = .closing ∧ (flashed s).control.runPermit = true ∧ (flashed s).control.closeTarget = some .flash
        ∧ (flashed s).control.closeCause = some .modFlash ∧ (flashed s).control.lastCause = .modFlash)
      ∨ ((flashed s).control.mode = .flash ∧ (flashed s).control.runPermit = false ∧ (flashed s).control.lastCause = .closeDone))
    ∧ (s.closed = true → (flashed s).control.mode = .flash)
    ∧ ((∃ g, inService s g = true ∧ s.shown g = .clear ∧ (s.group g).time < (s.tables.group g).clearUnits) →
      (flashed s).control.mode = .closing) := by
  rw [flashed_control, (flashEffect_eq_enterClosing permit).2]
  have start := enterClosing_control .flash .modFlash (openEvent s)
  have engine : (enterClosing .flash .modFlash (openEvent s)).engine = s.engine := by simp
  have active : (enterClosing .flash .modFlash (openEvent s)).store.active = s.store.active := by simp
  have dark : noLampOut (enterClosing .flash .modFlash (openEvent s)) = true := (noLampOut_of_channels (by simp)).trans calm
  generalize enterClosing .flash .modFlash (openEvent s) = u at *
  have closing : u.control.mode = .closing := by rw [start]
  have shut : u.closed = s.closed := closed_congr (congrArg Engine.groups engine) active
  have admits : u.control.mode.admits = false := by rw [closing]; rfl
  have ended := fun done => conclude_control_of_closed dark closing done
  have unfinished := fun going => conclude_control_of_not_closed dark going
  simp only [start, Option.getD_some] at ended
  refine ⟨?_, fun closed => (ended (settle_closed admits (shut.trans closed) _)).1, ?_⟩
  · by_cases done : (settle roundLimit u).closed = true
    · exact .inr (ended done)
    · rw [unfinished done, start]
      exact .inl ⟨rfl, rfl, rfl, rfl, rfl⟩
  · rintro ⟨g, service, clear, short⟩
    simp only [inService, Bool.and_eq_true] at service
    have group : u.group g = s.group g := group_congr (congrArg Engine.groups engine) g
    have tables : u.tables = s.tables := tables_congr active
    rw [unfinished (settle_not_closed admits (tables ▸ service.2) (by rwa [State.shown, group]) (by rwa [group, tables]) _), closing]

end Sys2Proof.Machine

namespace Sys2Proof.Proofs

open Sys2Proof Sys2Proof.Machine Sys2Proof.Safety

/-- Settles O28, mode by mode: the result is read off the checks of R50, and what the event leaves off its conclusion, which ends a close exactly
where every live group has come to STOP or DARK. -/
theorem flashRequestByMode : Obligations.FlashRequestByMode := by
  unfold Obligations.FlashRequestByMode
  intro s hears calm
  refine ⟨flashed s, flashResult 1 s, exec_modFlash hears, replied_asEvent (reportedOnly_flashEffect s _) _ _ _,
    flashed_strikes s, ?refused, ?flash, ?rest, ?closing, ?permit⟩
  case refused => rintro (mode | mode) <;> simp [flashResult, mode]
  case flash => intro mode; simp [flashResult, mode]
  case rest => exact fun flash => ⟨flashed_calm calm flash, flashed_rest⟩
  case closing => exact fun mode => ⟨by simp [flashResult, mode], flashed_closing calm mode⟩
  case permit => exact fun mode => ⟨(flashEffect_eq_enterClosing mode).1, flashed_permit calm mode⟩

end Sys2Proof.Proofs

/-! ### The calm conclusion of an event and the table store (R56, R167) -/

namespace Sys2Proof.Machine

open Sys2Proof.Safety

/-- Outside CLOSING and without LAMP_OUT an answered event leaves what its own effect has made, as `calmFrame` says. -/
theorem asEvent_calm {effect answer : State → State} {s : State} (only : onlyLink answer)
    (calm : noLampOut (effect (openEvent s)) = true) (mode : (effect (openEvent s)).control.mode ≠ .closing) :
    calmFrame (effect (openEvent s)) (asEvent effect answer s) := by
  obtain ⟨control, store, exchange⟩ := conclude_calm calm mode
  have frame := asEvent_frame (effect := effect) only s
  simpa only [calmFrame, conclude_frame, control, store, exchange] using frame

/-- Without LAMP_OUT the red-failure evaluation leaves the table store alone. -/
theorem evaluateShown_store {s : State} (calm : noLampOut s = true) : (evaluateShown s).store = s.store := by
  obtain ⟨-, store, -⟩ := evaluateReds_calm calm
  unfold evaluateShown
  split
  · rfl
  · exact store

/-- Without LAMP_OUT nothing but the end of a close changes the table store at the conclusion of an event. -/
theorem conclude_store {s : State} (calm : noLampOut s = true) :
    (conclude s).store = (closeIfDone (settle roundLimit s)).store := by
  have settled : noLampOut (settle roundLimit s) = true := (noLampOut_of_channels (by simp)).trans calm
  have noticed : noLampOut (noticeGo (closeIfDone (settle roundLimit s))) = true :=
    (noLampOut_of_channels (by simp)).trans (noLampOut_closeIfDone settled)
  simp [conclude, evaluateShown_store noticed]

@[simp] theorem resetWorking_working (s : State) : (resetWorking s).store.working = s.store.active.getD defaultSet := rfl

@[simp] theorem writeRecordOf_working (record : Option (FaultKind × Option Nat)) (s : State) :
    (writeRecordOf record s).store.working = s.store.working := by
  cases record <;> rfl

/-- An entry to a flash mode from a permit mode sets the working copy equal to the active copy (R167). -/
theorem leavePermit_working (new : Mode) (cause : Cause) (record : Option (FaultKind × Option Nat)) (s : State) :
    (leavePermit new cause record s).store.working = s.store.active.getD defaultSet := by
  simp [leavePermit]

/-- A working copy equal to the active copy stays so at the conclusion of an event: the end of a close sets it so itself (R167). -/
theorem conclude_working {s : State} (calm : noLampOut s = true) (restored : s.store.working = s.store.active.getD defaultSet) :
    (conclude s).store.working = s.store.active.getD defaultSet := by
  rw [conclude_store calm]
  unfold closeIfDone
  split
  · rw [completeClose, leavePermit_working]
    simp
  · simpa using restored

/-! ### The discard -/

/-- The own effect of a TDS (R172). -/
def discardEffect (s : State) : State → State := if discardResult s = .ok then resetWorking else id

/-- The outcome of a TDS that finds the supervisor listening. -/
def discarded (s : State) : State := asEvent (discardEffect s) (reply tdsKind (discardResult s) []) s

theorem exec_tds {s : State} (hears : listening s = true) : exec .tds s = .next (discarded s) := by
  simp only [listening, Bool.and_eq_true] at hears
  show Host.Outcome.next _ = _
  simp only [whileUp, hears, if_true]
  rfl

/-- The checks of a TDS in their order (R172). -/
theorem discardResult_cases (s : State) :
    (s.control.mode = .loading → discardResult s = .mode)
      ∧ (s.control.mode ≠ .loading → s.store.op ≠ .idle → discardResult s = .busy)
      ∧ (s.control.mode ≠ .loading → s.store.op = .idle → discardResult s = .ok) := by
  refine ⟨fun mode => ?_, fun mode busy => ?_, fun mode idle => ?_⟩
  · rw [discardResult, if_pos mode]
  · rw [discardResult, if_neg mode, if_pos busy]
  · rw [discardResult, if_neg mode, if_neg (not_not_intro idle)]

theorem discardEffect_ok {s : State} (ok : discardResult s = .ok) : discardEffect s = resetWorking := if_pos ok

theorem discardEffect_refused {s : State} (refused : discardResult s ≠ .ok) : discardEffect s = id := if_neg refused

/-- What the own effect of a TDS leaves alone, of what its event turns on. -/
theorem discardEffect_frame (s t : State) :
    (discardEffect s t).control = t.control ∧ (discardEffect s t).prover = t.prover ∧ (discardEffect s t).link = t.link
      ∧ (discardEffect s t).store.active = t.store.active ∧ (discardEffect s t).store.generation = t.store.generation
      ∧ (discardEffect s t).store.nv = t.store.nv := by
  unfold discardEffect
  split <;> exact ⟨rfl, rfl, rfl, rfl, rfl, rfl⟩

/-- The answer is handed to the link interface behind the reports of the event (log 18). -/
theorem discarded_replied (s : State) : replied s (discarded s) (.rpl tdsKind (discardResult s) []) := by
  obtain ⟨-, -, link, -⟩ := discardEffect_frame s (openEvent s)
  exact replied_asEvent (reportedOnly_of_link link) _ _ _

theorem discarded_store (s : State) : (discarded s).store = (conclude (discardEffect s (openEvent s))).store := by
  obtain ⟨-, -, -, -, -, store⟩ := asEvent_frame (effect := discardEffect s) (reply_onlyLink tdsKind (discardResult s) []) s
  exact store

/-- Taken or refused, a discard touches neither the active copy nor the stored set (R172). -/
theorem discarded_copies (s : State) :
    (discarded s).store.active = s.store.active ∧ (discarded s).store.generation = s.store.generation
      ∧ (discarded s).store.nv.words = s.store.nv.words ∧ (discarded s).store.nv.generation = s.store.nv.generation
      ∧ (discarded s).store.nv.check = s.store.nv.check ∧ (discarded s).store.nv.complete = s.store.nv.complete := by
  obtain ⟨-, -, -, active, generation, nv⟩ := discardEffect_frame s (openEvent s)
  simp [discarded_store, active, generation, nv]

/-- The working copy after a discard, also where a close comes to its end in the same event (R167, R172). -/
theorem discarded_working {s : State} (calm : noLampOut s = true) (ok : discardResult s = .ok) :
    (discarded s).store.working = s.store.active.getD defaultSet := by
  rw [discarded_store, discardEffect_ok ok]
  exact conclude_working (s := resetWorking (openEvent s)) calm rfl

theorem discarded_calm {s : State} (calm : noLampOut s = true) (mode : s.control.mode ≠ .closing) :
    calmFrame (discardEffect s (openEvent s)) (discarded s) := by
  obtain ⟨control, prover, -⟩ := discardEffect_frame s (openEvent s)
  refine asEvent_calm (reply_onlyLink _ _ _) ?_ (by rw [control]; exact mode)
  exact (noLampOut_of_channels (congrArg Prover.channels prover)).trans calm

theorem discarded_calm_refused {s : State} (calm : noLampOut s = true) (mode : s.control.mode ≠ .closing)
    (refused : discardResult s ≠ .ok) : calmFrame s (discarded s) := by
  have frame := discarded_calm calm mode
  rwa [discardEffect_refused refused] at frame

theorem discarded_calm_ok {s : State} (calm : noLampOut s = true) (mode : s.control.mode ≠ .closing)
    (ok : discardResult s = .ok) : calmFrame (resetWorking s) (discarded s) := by
  have frame := discarded_calm calm mode
  rwa [discardEffect_ok ok] at frame

/-- At rest a discard changes the working copy and nothing else but what every event at rest may change. -/
theorem discarded_rest {s : State} (rest : resting s = true) (ok : discardResult s = .ok) :
    restFrame (resetWorking s) (discarded s) := by
  simp only [resting, Bool.and_eq_true, Bool.not_eq_true'] at rest
  obtain ⟨⟨-, flash⟩, law⟩ := rest
  obtain ⟨frame, -⟩ := asEvent_rest (effect := resetWorking) (s := s) (reply_onlyLink tdsKind (discardResult s) []) flash law rfl rfl rfl rfl
  rwa [discarded, discardEffect_ok ok]

end Sys2Proof.Machine

namespace Sys2Proof.Proofs

open Sys2Proof Sys2Proof.Machine Sys2Proof.Safety

/-- Settles O37, by the three outcomes of the checks of R172. In CLOSING the event may end the close, which sets the working copy as the discard
does. -/
theorem discardRestoresWorkingCopy : Obligations.DiscardRestoresWorkingCopy := by
  unfold Obligations.DiscardRestoresWorkingCopy
  intro s hears calm
  obtain ⟨loads, busies, takes⟩ := discardResult_cases s
  obtain ⟨active, generation, words, header, check, complete⟩ := discarded_copies s
  have answer := discarded_replied s
  refine ⟨fun mode idle => ?taken, fun mode => ?loading, fun mode busy => ?busy⟩
  case taken =>
    have ok := takes mode idle
    rw [ok] at answer
    exact ⟨discarded s, exec_tds hears, discarded_working calm ok, active, generation, words, header, check, complete, answer,
      fun closing => discarded_calm_ok calm closing ok, fun rest => discarded_rest rest ok⟩
  case loading =>
    have refused := loads mode
    rw [refused] at answer
    exact ⟨discarded s, exec_tds hears, discarded_calm_refused calm (by simp [mode]) (by simp [refused]), answer⟩
  case busy =>
    have refused := busies mode busy
    rw [refused] at answer
    exact ⟨discarded s, exec_tds hears, answer, active, words,
      fun closing => discarded_calm_refused calm closing (by simp [refused])⟩

end Sys2Proof.Proofs

/-! ### What an event can do to the mode, the groups, the plans and the store

The laws of the device that concern the mode controller, the aspect engine, the preemption unit, the strike count and the table store are kept by
every event because each of the few moves below keeps them. `Course` says once which moves an event is made of. -/

namespace Sys2Proof.Machine

open Sys2Proof.Safety

/-- Two states have the same mode controller, image exchange, preemption unit, group records, table store and supply. -/
def Alike (s t : State) : Prop :=
  t.control = s.control ∧ t.exchange = s.exchange ∧ t.preempt = s.preempt ∧ t.engine.groups = s.engine.groups ∧ t.store = s.store
    ∧ t.clock.powered = s.clock.powered ∧ t.clock.lowFor = s.clock.lowFor

/-- The state that START entry makes before its alarm (R49). -/
def startEntry (startChain : Half) (s : State) : State :=
  { showStop (setMode .start .modRun s) with
    control.startTimer := some (.running (s.tables.cabinet.startUp.toNat * 10)), control.firstImage := some false
    exchange.expectedChain := some startChain, exchange.accepted := none
    exchange.supervision := some (.running (s.tables.cabinet.supervision.toNat * 10)), exchange.warning := none }

/-- A mode to which a permit mode is left, with the lockout record that is then written: FLASH only where the close is not toward LOCKOUT (R56 to R60). -/
def LeavesTo (s : State) (new : Mode) (record : Option (FaultKind × Option Nat)) : Prop :=
  new = .lockout ∧ record.isSome = true
    ∨ new = .flash ∧ record = none ∧ (s.control.mode = .closing → s.control.closeTarget ≠ some .lockout)

/-- The moves that events are made of. -/
inductive Course : State → State → Prop where
  | trans {s t u : State} (first : Course s t) (second : Course t u) : Course s u
  | alike {s t : State} (same : Alike s t) : Course s t
  /-- the target of a live group is rebuilt (R7) -/
  | rebuilt {s : State} (g : Nat) (live : s.tables.live g = true) : Course s (rebuildGroup g s)
  /-- a group is re-evaluated; in LOADING its source is the image (R20) -/
  | evaluated {s : State} (g : Nat) (plain : s.control.mode = .loading → (s.group g).source = .image) : Course s (evaluate g s)
  /-- what the unit keeps for a plan changes; a stacked plan's request does not become PENDING (R93) -/
  | plan {s : State} (p : Nat) (f : PlanState → PlanState)
      (kept : ∀ x, (f x).pending = true → x.pending = true ∨ s.stacked p = false) : Course s (changePlan p f s)
  /-- the inputs of the preemption unit change -/
  | inputs {s : State} (q : Preemption) (stack : q.stack = s.preempt.stack) (plans : q.plans = s.preempt.plans) :
      Course s { s with preempt := q }
  /-- a plan leaves the stack -/
  | dropped {s : State} (p : Nat) :
      Course s { s with preempt.stack := s.preempt.stack.filter (fun x => decide (x.plan ≠ p)) }
  /-- a plan is taken (R94, R96) -/
  | taken {s : State} (p : Nat) (number : p ∈ planNumbers) (wants : s.wantsTaking p = true)
      (depth : s.preempt.stack.length < Config.stackDepth) (admits : s.control.mode.admits = true) : Course s (takePlan p s)
  /-- the top plan goes on to another phase, with the counts of that phase (R97 to R99) -/
  | topped {s : State} (f : Stacked → Stacked)
      (counts : ∀ top rest, s.preempt.stack = top :: rest → countsOfPhase top = true →
        (f top).plan = top.plan ∧ countsOfPhase (f top) = true) : Course s (changeTop f s)
  /-- the image exchange changes something other than the strike count -/
  | exchange {s : State} (x : Exchange) (strikes : x.strikes = s.exchange.strikes) : Course s { s with exchange := x }
  /-- the mode controller changes none of its mode, line, close target and record operation -/
  | control {s : State} (x : Control) (mode : x.mode = s.control.mode) (permit : x.runPermit = s.control.runPermit)
      (target : x.closeTarget = s.control.closeTarget) (op : x.recordOp = s.control.recordOp) : Course s { s with control := x }
  /-- a permit mode is left for FLASH or LOCKOUT (R56, R58) -/
  | left {s : State} (new : Mode) (cause : Cause) (record : Option (FaultKind × Option Nat)) (permit : s.control.mode.permit = true)
      (target : LeavesTo s new record) : Course s (leavePermit new cause record s)
  /-- FLASH gives way to LOCKOUT (R58) -/
  | locked {s : State} (cause : Cause) (record : FaultKind × Option Nat) (flash : s.control.mode = .flash) :
      Course s (changeFlashMode .lockout cause (some record) s)
  /-- START is entered (R49) -/
  | started {s : State} (startChain : Half) (flash : s.control.mode = .flash) (idle : s.storeBusy = false)
      (active : s.store.active.isSome = true) : Course s (startEntry startChain s)
  /-- RUNNING is entered (R51, R53) -/
  | ran {s : State} (cause : Cause) (mode : s.control.mode = .start ∨ s.control.mode = .warning) : Course s (setMode .running cause s)
  /-- WARNING is entered (R73) -/
  | warned {s : State} (cause : Cause) (mode : s.control.mode = .running) : Course s (setMode .warning cause s)
  /-- CLOSING is entered (R55) -/
  | closing {s : State} (target : CloseTarget) (cause : CloseCause)
      (mode : s.control.mode = .start ∨ s.control.mode = .running ∨ s.control.mode = .warning) : Course s (enterClosing target cause s)
  /-- the warning window closes (R74) -/
  | supervised {s : State} (mode : s.control.mode = .warning) : Course s (superviseClose s)
  /-- step 5 of a fault clear (R161) -/
  | cleared {s : State} : Course s (clearStrikes s)
  /-- a load ends (R168, R169) -/
  | loaded {s : State} (nv : Nonvolatile) (mode : s.control.mode = .loading) :
      Course s (takeLoaded (leaveLoading (reportLoad (loadStore nv s))))
  /-- a commit completes (R174) -/
  | committed {s : State} (op : s.store.op = .commit) : Course s (takeCommitted (endInvalid (activate s)))
  /-- the working copy is edited (R170, R172) -/
  | edited {s : State} (working : TableSet) (op : s.store.op = .idle) : Course s { s with store.working := working }
  /-- a commit starts (R173) -/
  | commits {s : State} (edits : s.control.mode.edits = true) (op : s.store.op = .idle) (valid : s.store.working.valid = true) :
      Course s (startCommit s)
  /-- a commit fails (R175) -/
  | failed {s : State} (op : s.store.op = .commit) :
      Course s
        { tearCommit s with store.op := .idle, store.progress := none, store.lastCommit := .failed, store.valid := false }
  /-- the writing of the lockout record ends (R60) -/
  | recorded {s : State} (kind : FaultKind) (subject : Option Nat) (op : s.control.recordOp = .writing kind subject)
      (record : LockoutRecord) (present : record.isSome = true ∨ record = s.store.nv.record) :
      Course s { endRecordOp s with store.nv.record := record }
  /-- the erasing of the lockout record ends (R64) -/
  | erased {s : State} (op : s.control.recordOp = .erasing) (record : LockoutRecord) (drawn : Nat) :
      Course s { endRecordOp s with store.nv.record := record, clock.drawn := drawn }

theorem Alike.refl (s : State) : Alike s s := ⟨rfl, rfl, rfl, rfl, rfl, rfl, rfl⟩

theorem Course.refl (s : State) : Course s s := .alike (Alike.refl s)

/-- A course that goes on with a state alike. -/
theorem Course.then_alike {s t u : State} (first : Course s t) (same : Alike t u) : Course s u := .trans first (.alike same)

theorem course_eachOf {α : Type} {f : α → State → State} (each : ∀ x s, Course s (f x s)) (l : List α) (s : State) : Course s (eachOf l f s) :=
  eachOf_holds (Course s) f (fun x t ht => .trans ht (each x t)) l s (.refl s)

/-! #### Reports and notes -/

theorem course_note (r : Raise) (s : State) : Course s (note r s) := .alike (by simp [Alike])

theorem course_reportEnd (kind : FaultKind) (subject : Option Nat) (s : State) : Course s (reportEnd kind subject s) :=
  .alike (by simp [Alike])

theorem course_announce (old : Mode) (s : State) : Course s (announce old s) := .alike (by simp [Alike])

theorem course_endRedFail (g : Nat) (s : State) : Course s (endRedFail g s) := .alike (by simp [Alike])

/-! #### The preemption unit -/

theorem course_refreshRequest (p : Nat) (s : State) : Course s (refreshRequest p s) := by
  unfold refreshRequest
  dsimp only
  split
  · next free =>
    simp only [Bool.and_eq_true, Bool.not_eq_true'] at free
    exact .plan p _ (fun _ _ => .inr free.2)
  · exact .refl s

theorem course_setSource (active : Bool) (p : Nat) (s : State) : Course s (setSource active p s) := by
  refine .trans (.plan p _ ?_) (course_refreshRequest p _)
  exact fun _ pending => .inl pending

theorem course_emptySlot (s : State) : Course s (emptySlot s) := by
  unfold emptySlot
  split
  · next slot _ => exact .trans (.inputs { s.preempt with slot := none } rfl rfl) (course_setSource false slot.plan _)
  · exact .refl s

theorem course_unstack (p : Nat) (outcome : PlanOutcome) (s : State) : Course s (unstack p outcome s) := by
  have removed : Course s (changePlan p (fun x => { x with outcome := outcome })
      { s with preempt.stack := s.preempt.stack.filter (fun x => decide (x.plan ≠ p)) }) :=
    .trans (.dropped p) (.plan p _ (fun _ pending => .inl pending))
  unfold unstack
  refine .trans ?_ (course_refreshRequest p _)
  split
  · exact .trans removed (course_emptySlot _)
  · exact removed

theorem course_reportLimit (p : Nat) (s : State) : Course s (reportLimit p s) := by
  have flagged : Course s { s with preempt.nestingLimit := true } := .inputs { s.preempt with nestingLimit := true } rfl rfl
  unfold reportLimit
  dsimp only
  split
  · exact flagged
  · refine .trans flagged (.trans (.plan p _ ?_) (course_note _ _))
    exact fun _ pending => .inl pending

theorem course_consider (s : State) : Course s (consider s) := by
  unfold consider
  dsimp only
  split
  · next admits =>
    split
    · next depth =>
      split
      · next p rest wanting =>
        have first : p ∈ planNumbers.filter s.wantsTaking := by simp [wanting]
        obtain ⟨number, wants⟩ := List.mem_filter.mp first
        exact .taken p number wants depth admits
      · exact .refl s
    · exact course_eachOf course_reportLimit _ s
  · exact .refl s

theorem course_ended (p : Nat) (outcome : PlanOutcome) (s : State) : Course s (consider (unstack p outcome s)) :=
  .trans (course_unstack p outcome s) (course_consider _)

/-- A step of the top plan takes it to its next phase or ends it (R97 to R101). -/
theorem course_topStep {s t : State} (step : topStep s = some t) : Course s t := by
  unfold topStep at step
  split at step
  · cases step
  · next top rest stack =>
    dsimp only at step
    have counted : ∀ {f : Stacked → Stacked}, (countsOfPhase top = true → (f top).plan = top.plan ∧ countsOfPhase (f top) = true) →
        Course s (changeTop f s) := fun {f} h => .topped f (fun x l hx => by
      rw [stack] at hx
      cases hx
      exact h)
    split at step
    · next phase =>
      split at step
      · cases step; exact course_ended _ _ s
      · split at step
        · cases step
          exact counted (fun h => by simp_all [countsOfPhase])
        · cases step
    · next phase =>
      split at step
      · cases step
        exact counted (fun h => by simp_all [countsOfPhase])
      · cases step
    · next phase =>
      split at step
      · split at step
        · cases step
          exact counted (fun h => by simp_all [countsOfPhase])
        · cases step; exact course_ended _ _ s
      · cases step
    · split at step
      · cases step; exact course_ended _ _ s
      · cases step

theorem course_advance (steps : Nat) (s : State) : Course s (advance steps s) := by
  induction steps generalizing s with
  | zero => exact .refl s
  | succ n ih =>
    unfold advance
    split
    · next step => exact .trans (course_topStep step) (ih _)
    · exact .refl s

theorem course_considerTaking (s : State) : Course s (considerTaking s) := by
  unfold considerTaking
  dsimp only
  split
  · exact course_consider s
  · exact .trans (course_consider s) (course_advance _ _)

theorem course_sourceActive (edge : Bool) (p : Nat) (s : State) : Course s (sourceActive edge p s) := by
  have stack : (setSource true p s).stacked p = s.stacked p := by
    unfold setSource refreshRequest
    dsimp only
    split <;> rfl
  unfold sourceActive
  dsimp only
  split
  · next free =>
    simp only [Bool.and_eq_true, Bool.not_eq_true'] at free
    exact .trans (course_setSource true p s) (.plan p _ (fun _ _ => .inr (stack.trans free.2)))
  · exact course_setSource true p s

theorem course_sourcesActive (edge : Bool) (plans : List Nat) (s : State) : Course s (sourcesActive edge plans s) := by
  unfold sourcesActive
  dsimp only
  split
  · exact .trans (course_eachOf (course_sourceActive edge) plans s) (course_considerTaking _)
  · exact course_eachOf (course_sourceActive edge) plans s

theorem course_sourcesInactive (plans : List Nat) (s : State) : Course s (sourcesInactive plans s) := by
  unfold sourcesInactive
  dsimp only
  split
  · exact .trans (course_eachOf (course_setSource false) plans s) (course_advance _ _)
  · exact course_eachOf (course_setSource false) plans s

/-! #### The settling of an event -/

/-- Outside RUNNING and WARNING every live group has the image as the source of its target, once the image is rebuilt (R7). -/
def Sourced (s : State) : Prop := s.control.mode.admits = false → ∀ g, s.tables.live g = true → (s.group g).source = .image

theorem rebuildGroup_source {s : State} (admits : s.control.mode.admits = false) (g k : Nat)
    (h : k = g ∨ (s.group k).source = .image) : ((rebuildGroup g s).group k).source = .image := by
  have effective : s.effective g = (.stop, .image) := by simp [State.effective, admits]
  unfold rebuildGroup
  dsimp only
  rw [effective]
  split
  · next same =>
    rcases h with rfl | h
    · exact same.2
    · exact h
  · show ((setGroup g _ s).group k).source = .image
    by_cases hk : k = g
    · subst hk
      by_cases range : 1 ≤ k ∧ k ≤ s.engine.groups.length
      · rw [setGroup_group range.1 range.2, if_pos rfl]
      · have none : ∀ l : List Group, l.length = s.engine.groups.length → entry? l k = none := by
          intro l hl
          unfold entry?
          split
          · rfl
          · simp; omega
        rw [group_def, none _ (by simp)]
        rfl
    · rw [setGroup_group_other hk]
      exact h.resolve_left hk

theorem sourced_rebuild (s : State) : Sourced (rebuild s) := by
  intro admits g live
  have admits : s.control.mode.admits = false := by simpa using admits
  have live : g ∈ s.tables.liveGroups := by
    simpa [TableSet.liveGroups, ← live_iff, State.tables] using live
  have each : ∀ (l : List Nat) (u : State), u.control = s.control → (g ∈ l ∨ (u.group g).source = .image) →
      ((eachOf l rebuildGroup u).group g).source = .image := by
    intro l
    induction l with
    | nil => intro u _ h; simpa [eachOf] using h
    | cons k ks ih =>
      intro u control h
      refine ih (rebuildGroup k u) (by simpa using control) ?_
      rw [List.mem_cons] at h
      by_cases later : g ∈ ks
      · exact .inl later
      · exact .inr (rebuildGroup_source (control ▸ admits) k g (by tauto))
  have built := each s.tables.liveGroups s rfl (.inl live)
  unfold rebuild
  dsimp only
  split
  · exact built
  · exact built

theorem judge_source (s : State) (g : Nat) : (s.judge g).source = (s.group g).source := by
  cases shown : (s.group g).shown <;> simp only [State.judge, shown]
  all_goals repeat' split
  all_goals rfl

theorem setGroup_source {g k : Nat} {x : Group} {s : State} (same : x.source = (s.group g).source) :
    ((setGroup g x s).group k).source = (s.group k).source := by
  by_cases hk : k = g
  · subst hk
    rw [group_def, group_def] at *
    simp only [setGroup, entry?_changeEntry, if_true]
    cases h : entry? s.engine.groups k with
    | none => rfl
    | some y => simpa [h] using same
  · rw [setGroup_group_other hk]

theorem Sourced.evaluate {s : State} (h : Sourced s) (k : Nat) : Sourced (Machine.evaluate k s) := by
  intro admits g live
  have kept := h (by simpa using admits) g (by simpa [State.tables] using live)
  have groups := evaluate_groups k s
  split at groups
  · rw [group_congr groups, setGroup_source (judge_source s k), kept]
  · rw [group_congr groups, kept]

/-- The re-evaluation of groups whose targets are rebuilt. -/
theorem course_evaluateConcerned (passes : Nat) {s : State} (h : Sourced s) : Course s (evaluateConcerned passes s) := by
  have each : ∀ (l : List Nat) (u : State), Sourced u → (∀ g ∈ l, u.tables.live g = true) →
      Course u (eachOf l evaluate u) ∧ Sourced (eachOf l evaluate u) := by
    intro l
    induction l with
    | nil => exact fun u hu _ => ⟨.refl u, hu⟩
    | cons g gs ih =>
      intro u hu live
      obtain ⟨rest, sourced⟩ := ih (evaluate g u) (hu.evaluate g) (fun k hk => by
        simpa [State.tables] using live k (List.mem_cons_of_mem _ hk))
      exact ⟨.trans (.evaluated g (fun loading => hu (by rw [loading]; rfl) g (live g List.mem_cons_self))) rest, sourced⟩
  induction passes generalizing s with
  | zero => exact .refl s
  | succ n ih =>
    unfold evaluateConcerned
    split
    · exact .refl s
    · next groups _ =>
      obtain ⟨course, sourced⟩ := each (s.tables.liveGroups.filter (fun g => s.event.concerned.contains g)) { s with event.concerned := [] } h
        (fun g hg => by
          have := List.mem_of_mem_filter hg
          simp only [TableSet.liveGroups, mem_numbers, ← live_iff] at this
          exact this)
      exact .trans (.trans (t := { s with event.concerned := [] }) (.alike ⟨rfl, rfl, rfl, rfl, rfl, rfl, rfl⟩) course) (ih sourced)

theorem course_rebuild (s : State) : Course s (rebuild s) := by
  have each : ∀ (l : List Nat) (u : State), (∀ g ∈ l, u.tables.live g = true) → Course u (eachOf l rebuildGroup u) := by
    intro l
    induction l with
    | nil => exact fun u _ => .refl u
    | cons g gs ih =>
      exact fun u live => .trans (.rebuilt g (live g List.mem_cons_self))
        (ih (rebuildGroup g u) (fun k hk => by simpa [State.tables] using live k (List.mem_cons_of_mem _ hk)))
  have built := each s.tables.liveGroups s (fun g hg => by simpa [TableSet.liveGroups, ← live_iff] using hg)
  unfold rebuild
  dsimp only
  split
  · exact built.then_alike (by simp [Alike])
  · exact built

theorem course_settle (rounds : Nat) (s : State) : Course s (settle rounds s) := by
  have evaluated : ∀ u, Course u (evaluateConcerned passLimit (rebuild u)) := fun u =>
    .trans (course_rebuild u) (course_evaluateConcerned _ (sourced_rebuild u))
  induction rounds generalizing s with
  | zero => exact evaluated s
  | succ n ih =>
    unfold settle
    dsimp only
    split
    · exact .trans (evaluated s) (.trans (course_advance _ _) (ih _))
    · exact evaluated s

/-! #### Changes of mode and fault actions -/

theorem course_endLapse (s : State) : Course s (endLapse s) := by
  unfold endLapse
  split
  · exact .trans (.exchange { s.exchange with warning := none } rfl) (course_reportEnd _ _ _)
  · exact .refl s

theorem course_enterRunning {cause : Cause} {s : State} (mode : s.control.mode = .start ∨ s.control.mode = .warning) :
    Course s (enterRunning cause s) := by
  unfold enterRunning
  dsimp only
  refine .trans ?_ (course_announce _ _)
  refine .trans (.ran cause mode) (.trans ?_ (course_considerTaking _))
  exact .trans (.control { (setMode .running cause s).control with startTimer := none, firstImage := none } rfl rfl rfl rfl)
    (course_endLapse _)

theorem course_enterWarning {s : State} (mode : s.control.mode = .running) : Course s (enterWarning s) := by
  unfold enterWarning
  dsimp only
  refine .trans ?_ (course_announce _ _)
  refine .trans ?_ (course_considerTaking _)
  refine .trans (.trans (.exchange { s.exchange with supervision := some .expired, warning := _ } rfl) (course_note _ _)) (.warned _ ?_)
  simpa using mode

theorem permit_cases {m : Mode} : m.permit = true ↔ m = .start ∨ m = .running ∨ m = .warning ∨ m = .closing := by
  cases m <;> simp [Mode.permit]

theorem leavesTo_close (s : State) :
    LeavesTo s (s.control.closeTarget.getD .flash).mode (s.control.closeTarget.getD .flash).record := by
  unfold LeavesTo
  cases s.control.closeTarget with
  | none => simp [CloseTarget.mode, CloseTarget.record]
  | some target => cases target <;> simp [CloseTarget.mode, CloseTarget.record]

/-- A fault action outside a supervision close (R58). -/
theorem course_takeAction (r : Raise) (s : State) : Course s (takeAction r .flash s) := by
  have out : ∀ {m : Mode}, s.control.mode = m → m.permit = true → ∀ cause record, Course s (leavePermit .lockout cause (some record) s) :=
    fun mode permit cause record => .left _ cause _ (mode ▸ permit) (.inl ⟨rfl, rfl⟩)
  have toFlash : ∀ {m : Mode}, s.control.mode = m → m.permit = true → (m = .closing → s.control.closeTarget ≠ some .lockout) → ∀ cause,
      Course s (leavePermit .flash cause none s) :=
    fun mode permit target cause => .left _ cause _ (mode ▸ permit) (.inr ⟨rfl, rfl, fun closing => target (mode.symm.trans closing)⟩)
  unfold takeAction
  split
  case h_4 =>
    split
    case h_4 mode =>
      split
      · exact out mode rfl _ _
      · next target => exact toFlash mode rfl (fun _ => target) _
    case h_1 mode | h_2 mode | h_3 mode => exact toFlash mode rfl (by simp) _
    all_goals exact .refl s
  case h_5 =>
    split
    case h_1 mode => exact .closing _ _ (.inl mode)
    case h_2 mode => exact .closing _ _ (.inr (.inl mode))
    case h_3 mode => exact .closing _ _ (.inr (.inr mode))
    all_goals exact .refl s
  case h_6 =>
    split
    case h_1 mode | h_2 mode | h_3 mode | h_4 mode => exact out mode rfl _ _
    case h_5 mode => exact .locked _ _ mode
    case h_6 => exact .control { s.control with heldLockout := _ } rfl rfl rfl rfl
    case h_7 => exact .refl s
  all_goals exact .refl s

theorem course_raise (r : Raise) (s : State) : Course s (raise r s) := .trans (course_note r s) (course_takeAction r _)

theorem course_handRed (change : Nat × Bool) (s : State) : Course s (handRed change s) := by
  have raised : Course s (raise (redFailRaise s.tables change.1) (setRedFail true change.1 s)) :=
    .trans (.alike (by simp [Alike])) (course_raise _ _)
  unfold handRed
  dsimp only
  split
  · split
    · exact raised
    · exact .trans raised (course_endRedFail _ _)
  · exact course_endRedFail _ _

theorem course_evaluateReds (s : State) : Course s (evaluateReds s) := course_eachOf course_handRed _ s

theorem course_recurStations (br : BranchId) (s : State) : Course s (recurStations br s) :=
  .trans (course_eachOf (fun _ => course_raise _) _ s) (course_eachOf (fun _ => course_raise _) _ _)

theorem course_enterStart {startChain : Half} {s : State} (flash : s.control.mode = .flash) (idle : s.storeBusy = false)
    (active : s.store.active.isSome = true) : Course s (enterStart startChain s) := by
  have entered : Course s (announce s.control.mode (startEntry startChain s)) :=
    .then_alike (.started startChain flash idle active) (by simp [Alike])
  exact .trans (.trans entered (course_evaluateReds _)) (course_eachOf course_recurStations _ _)

/-! #### The conclusion of an event, and events as a whole -/

theorem course_closeIfDone (s : State) : Course s (closeIfDone s) := by
  unfold closeIfDone
  split
  · next done => exact .left _ _ _ (by rw [done.1]; rfl) (leavesTo_close s)
  · exact .refl s

theorem course_evaluateShown (s : State) : Course s (evaluateShown s) := by
  unfold evaluateShown
  split
  · exact .refl s
  · exact course_evaluateReds s

theorem course_conclude (s : State) : Course s (conclude s) := by
  have closed : Course s (closeIfDone (settle roundLimit s)) := .trans (course_settle _ s) (course_closeIfDone _)
  have noticed : Course s (noticeGo (closeIfDone (settle roundLimit s))) := closed.then_alike (by simp [Alike])
  exact .then_alike (.trans noticed (course_evaluateShown _)) (by simp [Alike, conclude])

theorem alike_answer {answer : State → State} (only : onlyLink answer) (s : State) : Alike s (answer s) := by
  have same := only s
  exact ⟨(congrArg State.control same :), (congrArg State.exchange same :), (congrArg State.preempt same :),
    (congrArg (fun t => t.engine.groups) same :), (congrArg State.store same :), (congrArg (fun t => t.clock.powered) same :),
    (congrArg (fun t => t.clock.lowFor) same :)⟩

theorem course_asEvent {effect answer : State → State} {s : State} (only : onlyLink answer)
    (own : Course (openEvent s) (effect (openEvent s))) : Course s (asEvent effect answer s) := by
  have opened : Course s (effect (openEvent s)) := .trans (t := openEvent s) (.alike ⟨rfl, rfl, rfl, rfl, rfl, rfl, rfl⟩) own
  have concluded := Course.then_alike (.trans opened (course_conclude _)) (alike_answer only _)
  exact concluded.then_alike ⟨rfl, rfl, rfl, rfl, rfl, rfl, rfl⟩

end Sys2Proof.Machine

/-! #### The commands' own effects as courses -/

namespace Sys2Proof.Machine

open Sys2Proof.Safety

theorem course_acceptImage (chain next : Half) (inhibit : Byte) (targets : BitVec 48) (s : State) :
    Course s (acceptImage chain next inhibit targets s) := by
  have kept : Course s (keepImage chain next inhibit targets s) :=
    .trans (.exchange (keepImage chain next inhibit targets s).exchange rfl) (.inputs { s.preempt with inhibit := inhibit } rfl rfl)
  have mode : (keepImage chain next inhibit targets s).control = s.control := rfl
  unfold acceptImage
  generalize keepImage chain next inhibit targets s = u at kept mode ⊢
  dsimp only
  refine .trans kept ?_
  split
  case h_1 warning => exact course_enterRunning (.inr warning)
  case h_2 start =>
    have noted : Course u { u with control.firstImage := some true } := .control { u.control with firstImage := some true } rfl rfl rfl rfl
    split
    · exact .trans noted (course_enterRunning (.inl start))
    · exact noted
  case h_3 =>
    split
    · exact .refl u
    · exact course_considerTaking u
  all_goals exact .refl u

theorem course_refuseImage (result : Result) (s : State) : Course s (refuseImage result s) :=
  .then_alike (.exchange (refuseImage result s).exchange (by simp)) (by simp [Alike])

theorem course_fillSlot (p : Nat) (s : State) : Course s (fillSlot p s) :=
  .trans (.inputs { s.preempt with slot := some { plan := p, called := true } } rfl rfl) (course_sourcesActive _ _ _)

theorem course_callPlan (p : Nat) (s t : State) : Course t ((callPlan p s).2 t) := by
  unfold callPlan
  split
  · exact course_fillSlot p t
  · split
    · exact .refl t
    · split
      · exact .refl t
      · exact .trans (course_emptySlot t) (course_fillSlot p _)

theorem course_cancelPlan (p : Nat) (s : State) : Course s (cancelPlan p s) := by
  unfold cancelPlan
  split
  · next slot _ =>
    split
    · exact .refl s
    · split
      · exact .trans (.inputs { s.preempt with slot := some { slot with called := false } } rfl rfl) (course_sourcesInactive _ _)
      · exact course_emptySlot s
  · exact .refl s

theorem course_clearChannel (c : Nat) (s : State) : Course s (clearChannel c s) := .alike (by simp [Alike])

theorem course_clearLatched (s : State) : Course s (clearLatched s) := by
  unfold clearLatched
  dsimp only
  have judged : Course s (evaluateReds (eachOf s.channelNumbers clearChannel s)) :=
    .trans (course_eachOf course_clearChannel _ s) (course_evaluateReds _)
  split
  · exact judged.then_alike (by simp [Alike])
  · exact judged

theorem course_pruneFaults (s : State) : Course s (pruneFaults s) :=
  .then_alike (.inputs { s.preempt with nestingLimit := false } rfl rfl) ⟨rfl, rfl, rfl, rfl, rfl, rfl, rfl⟩

theorem course_changeLine (line : Nat) (active : Bool) (s : State) : Course s (changeLine line active s) := by
  have changed : Course s { s with preempt.lines := changeEntry s.preempt.lines line (fun _ => active) } := .inputs _ rfl rfl
  unfold changeLine
  dsimp only
  split
  · exact .trans changed (course_sourcesActive _ _ _)
  · exact .trans changed (course_sourcesInactive _ _)

theorem course_timeOut (p : Nat) (s : State) : Course s (timeOut p s) := by
  unfold timeOut
  dsimp only
  refine .trans (.trans (.plan p _ ?_) (course_unstack _ _ _)) (course_note _ _)
  exact fun _ pending => .inl pending

theorem course_afterTimeOut (wasTop : Bool) (s : State) : Course s (afterTimeOut wasTop s) := by
  unfold afterTimeOut
  split
  · exact .trans (course_consider s) (course_advance _ _)
  · exact course_considerTaking s

/-! #### Detectors and stations -/

theorem course_raiseDetector (f : DetectorFault) (c : Nat) (s : State) : Course s (raiseDetector f c s) := .alike (by simp [Alike])

/-- Of what a conditioned onset does only the rising edge for preemption concerns the plans (R143, R153). -/
theorem course_takeOnset (c : Nat) (t : Time) (s : State) : Course s (takeOnset c t s) := by
  unfold takeOnset
  dsimp only
  split
  all_goals split
  case isTrue.isTrue | isFalse.isTrue => exact .alike (by simp [Alike])
  case isTrue.isFalse | isFalse.isFalse => exact .trans (.alike (by simp [Alike])) (course_sourcesActive _ _ _)

theorem course_takeOffset (c : Nat) (t : Time) (s : State) : Course s (takeOffset c t s) :=
  .trans (.alike (by simp [Alike])) (course_sourcesInactive _ _)

theorem course_takeTransition (c : Nat) (x : Transition) (s : State) : Course s (takeTransition c x s) := by
  unfold takeTransition
  split
  · exact course_takeOnset c x.time s
  · exact course_takeOffset c x.time s

theorem course_changeDetector (c : Nat) (f : Detector → Detector) (s : State) : Course s (changeDetector c f s) :=
  .alike (by simp [Alike])

theorem course_debounce (c steps : Nat) (s : State) : Course s (debounce c steps s) := by
  induction steps generalizing s with
  | zero => exact .refl s
  | succ n ih =>
    unfold debounce
    split
    · exact .refl s
    · split
      · exact .refl s
      · next rest confirmed _ =>
        dsimp only
        cases confirmed with
        | none => exact .trans (course_changeDetector c _ s) (ih _)
        | some x => exact .trans (.trans (course_changeDetector c _ s) (course_takeTransition c x _)) (ih _)

theorem course_resynchronize (c : Nat) (e : DsmInput) (s : State) : Course s (resynchronize c e s) := by
  unfold resynchronize
  split
  · dsimp only
    split
    · exact course_changeDetector c _ s
    · exact .trans (course_changeDetector c _ s) (course_takeTransition c _ _)
  · exact .refl s

theorem course_takeEntry (c : Nat) (e : DsmInput) (s : State) : Course s (takeEntry c e s) := by
  unfold takeEntry
  split
  · split
    · exact course_resynchronize c e s
    · exact .trans (course_changeDetector c _ s) (course_debounce c _ _)
  · exact .refl s

theorem course_testHealth (c : Nat) (health : Health) (s : State) : Course s (testHealth c health s) := .alike (by simp [Alike])

theorem course_testChatter (c : Nat) (s : State) : Course s (testChatter c s) := .alike (by simp [Alike])

theorem course_takeInput (inputs : List DsmInput) (c : Nat) (s : State) : Course s (takeInput inputs c s) := by
  unfold takeInput
  split
  · exact .trans (.trans (course_takeEntry c _ s) (course_testHealth c _ _)) (course_testChatter c _)
  · exact .refl s

theorem course_enterFault (c : Nat) (d : Detector) (s : State) : Course s (enterFault c d s) :=
  .trans (.alike (by simp [Alike])) (course_sourcesInactive _ _)

theorem course_leaveFault (c : Nat) (d : Detector) (s : State) : Course s (leaveFault c d s) := by
  unfold leaveFault
  dsimp only
  cases d.occupied
  · exact .alike (by simp [Alike])
  · exact .trans (.alike (by simp [Alike])) (course_sourcesActive _ _ _)

theorem course_decideFault (c : Nat) (s : State) : Course s (decideFault c s) := by
  unfold decideFault
  split
  · split
    · exact course_enterFault c _ s
    · split
      · exact course_leaveFault c _ s
      · exact .refl s
  · exact .refl s

theorem course_takeSample (station : Nat) (inputs : List DsmInput) (s : State) : Course s (takeSample station inputs s) :=
  .trans (course_eachOf (course_takeInput inputs) _ s) (course_eachOf course_decideFault _ _)

theorem course_stationLost (station : Nat) (s : State) : Course s (stationLost station s) :=
  .trans (course_eachOf (fun c => course_changeDetector c _) _ s) (course_eachOf course_decideFault _ _)

theorem course_stationBack (station : Nat) (s : State) : Course s (stationBack station s) := .alike (by simp [Alike])

theorem course_concern (groups : List Nat) (s : State) : Course s (concern groups s) := .alike (by simp [Alike])

theorem course_takeReadings (station : Nat) (currents : List Half) (s : State) : Course s (takeReadings station currents s) := by
  have judged : Course s (judgeReport station currents s).1 := .alike (by simp [Alike])
  unfold takeReadings
  generalize judgeReport station currents s = x at judged ⊢
  obtain ⟨u, found⟩ := x
  have handed : Course s (handFindings found u) := judged.then_alike (by simp [Alike])
  exact .trans (.trans (.trans handed (course_eachOf course_handRed _ _)) (course_eachOf (fun _ => course_raise _) _ _))
    (course_concern _ _)

theorem course_proveReport (br : BranchId) (station : Nat) (applied : Option Byte) (currents : List Half) (s : State) :
    Course s (proveReport br station applied currents s) := by
  unfold proveReport
  split
  · exact course_takeReadings station currents s
  · exact .refl s

theorem course_changeLiveness (br : BranchId) (station : Nat) (f : Liveness → Liveness) (s : State) :
    Course s (changeLiveness br station f s) := .alike (by simp [Alike])

theorem course_lagMissed (br : BranchId) (l : Liveness) (s : State) : Course s (lagMissed br l s) := by
  unfold lagMissed
  dsimp only
  split
  · exact .trans (course_changeLiveness br _ _ s) (course_raise _ _)
  · exact course_changeLiveness br _ _ s

theorem course_countLag (br : BranchId) (station : Nat) (applied : Option Byte) (s : State) :
    Course s (countLag br station applied s) := by
  unfold countLag
  split
  · split
    · exact .refl s
    · split
      · exact .alike (by simp [Alike])
      · exact course_lagMissed br _ s
  · exact .refl s

theorem course_becomeAbsent (br : BranchId) (station : Nat) (s : State) : Course s (becomeAbsent br station s) := by
  unfold becomeAbsent
  dsimp only
  have raised := fun f r => Course.trans (course_changeLiveness br station f s) (course_raise r _)
  split
  · exact .trans (raised _ _) (course_stationLost station _)
  · exact raised _ _

theorem course_pollMissed (br : BranchId) (station : Nat) (s : State) : Course s (pollMissed br station s) := by
  unfold pollMissed
  split
  · split
    · exact course_changeLiveness br _ _ s
    · split
      · exact course_becomeAbsent br station s
      · exact course_changeLiveness br _ _ s
  · exact .refl s

/-! #### Every command is a course -/

/-- Between two states there is a course, or nothing changes. -/
def Outcome (s : State) (outcome : Host.Outcome State Fault Refusal) : Prop :=
  ∀ t, outcome = .next t → t = s ∨ s.up = true ∧ Course s t

theorem outcome_whileUp {s : State} {effect : State → State} (own : Course s (effect s)) : Outcome s (.next (whileUp effect s)) := by
  rintro t ⟨⟩
  unfold whileUp
  split
  · next up => exact .inr ⟨up, own⟩
  · exact .inl rfl

theorem outcome_event {s : State} {effect : State → State} (own : Course (openEvent s) (effect (openEvent s))) :
    Outcome s (eventOutcome effect s) := outcome_whileUp (course_asEvent id_onlyLink own)

theorem outcome_frame {s : State} {effect answer : State → State} (only : onlyLink answer)
    (own : Course (openEvent s) (effect (openEvent s))) : Outcome s (frameOutcome effect answer s) := by
  refine outcome_whileUp ?_
  split
  · exact course_asEvent only own
  · exact .alike (by simp [Alike])

/-- An event whose command is alike by its own effect. -/
theorem outcome_event_alike {s : State} {effect : State → State} (own : Alike (openEvent s) (effect (openEvent s))) :
    Outcome s (eventOutcome effect s) := outcome_event (.alike own)

theorem outcome_execModRun (cabinet generation startChain : Half) (s : State) :
    Outcome s (execModRun cabinet generation startChain s) := by
  refine outcome_frame (reply_onlyLink _ _ _) ?_
  dsimp only
  split
  · next ok =>
    unfold runResult at ok
    have flash : s.control.mode = .flash := by by_contra h; simp [h] at ok
    have idle : s.storeBusy = false := by
      by_contra busy
      simp [flash, Bool.eq_true_of_not_eq_false busy] at ok
    have active : s.store.active.isSome = true := by
      by_contra h
      simp [flash, idle, Option.not_isSome_iff_eq_none.mp h] at ok
    exact course_enterStart flash idle active
  · exact .refl _

theorem outcome_execModFlash (request : Byte) (s : State) : Outcome s (execModFlash request s) := by
  refine outcome_frame (reply_onlyLink _ _ _) ?_
  dsimp only
  split
  · next taken =>
    obtain ⟨ok, flash, closing⟩ := taken
    refine .closing _ _ ?_
    show s.control.mode = .start ∨ s.control.mode = .running ∨ s.control.mode = .warning
    cases mode : s.control.mode <;> simp [flashResult, mode] at ok flash closing ⊢
    split at ok <;> cases ok
  · exact .refl _

theorem outcome_execTwr (table index : Byte) (content : List Byte) (s : State) : Outcome s (execTwr table index content s) := by
  refine outcome_frame (reply_onlyLink _ _ _) ?_
  dsimp only
  split
  · next ok =>
    unfold writeResult at ok
    have op : s.store.op = .idle := by
      by_contra h
      by_cases edits : s.control.mode.edits = false <;> simp [edits, h] at ok
    exact .edited (s := openEvent s) _ op
  · exact .refl _

theorem outcome_execTds (s : State) : Outcome s (execTds s) := by
  refine outcome_frame (reply_onlyLink _ _ _) ?_
  dsimp only
  split
  · next ok =>
    unfold discardResult at ok
    have op : s.store.op = .idle := by
      by_contra h
      by_cases mode : s.control.mode = .loading <;> simp [mode, h] at ok
    exact .edited (s := openEvent s) _ op
  · exact .refl _

theorem outcome_execTcm (s : State) : Outcome s (execTcm s) := by
  refine outcome_frame (reply_onlyLink _ _ _) ?_
  dsimp only
  split
  · next ok =>
    unfold commitAnswer at ok
    by_cases edits : s.control.mode.edits = false
    · simp [edits] at ok
    · by_cases op : s.store.op = .idle
      · have valid : s.store.working.valid = true := by
          unfold TableSet.valid
          cases failure : firstFailure s.store.working with
          | none => rfl
          | some x => simp [edits, op, failure] at ok
        exact .commits (s := openEvent s) (Bool.eq_true_of_not_eq_false edits) op valid
      · simp [edits, op] at ok
  · exact .refl _

theorem outcome_execFcl (s : State) : Outcome s (execFcl s) := by
  unfold execFcl answeredOutcome
  dsimp only
  split
  · exact outcome_frame (reply_onlyLink _ _ _) (.trans (.trans (course_clearLatched _) (course_pruneFaults _)) .cleared)
  · exact outcome_frame (reply_onlyLink _ _ _) (.refl _)

theorem outcome_execFwd (tag station inner : Byte) (payload : List Byte) (s : State) : Outcome s (execFwd tag station inner payload s) := by
  unfold execFwd answeredOutcome
  dsimp only
  split
  · exact outcome_frame (send_onlyLink _) (.refl _)
  · exact outcome_frame id_onlyLink (.alike (by simp [Alike]))

theorem outcome_execImg (chain next : Half) (inhibit : Byte) (targets : BitVec 48) (s : State) :
    Outcome s (execImg chain next inhibit targets s) := by
  refine outcome_frame (fun _ => rfl) ?_
  dsimp only
  split
  · exact course_acceptImage _ _ _ _ _
  · exact course_refuseImage _ _

theorem outcome_execCalCall (plan : Byte) (s : State) : Outcome s (execCalCall plan s) := by
  refine outcome_frame (reply_onlyLink _ _ _) ?_
  dsimp only
  split
  · exact course_callPlan _ _ _
  · exact .refl _

theorem outcome_execCalCancel (plan request : Byte) (s : State) : Outcome s (execCalCancel plan request s) := by
  refine outcome_frame (reply_onlyLink _ _ _) ?_
  dsimp only
  split
  · exact course_cancelPlan _ _
  · exact .refl _

theorem outcome_execTableLoadEnd (upsets : List Upset) (recordReadable : Bool) (s : State) :
    Outcome s (execTableLoadEnd upsets recordReadable s) := by
  refine outcome_event ?_
  split
  · next loading => exact .loaded _ loading
  · exact .refl _

theorem outcome_execCommitCompletion (s : State) : Outcome s (execCommitCompletion s) := by
  refine outcome_event ?_
  split
  · next commit => exact .committed commit
  · exact .refl _

theorem outcome_execCommitWriteFailure (s : State) : Outcome s (execCommitWriteFailure s) := by
  refine outcome_event ?_
  split
  · next commit => exact .trans (.failed commit) (course_note _ _)
  · exact .refl _

theorem outcome_execRecordWriteCompletion (s : State) : Outcome s (execRecordWriteCompletion s) := by
  refine outcome_event ?_
  split
  · next op => exact .recorded _ _ op _ (.inl rfl)
  · exact .refl _

theorem outcome_execRecordWriteFailure (s : State) : Outcome s (execRecordWriteFailure s) := by
  refine outcome_event ?_
  split
  · next op => exact .trans (.recorded _ _ op (openEvent s).store.nv.record (.inr rfl)) (course_note _ _)
  · exact .refl _

theorem outcome_execRecordEraseCompletion (s : State) : Outcome s (execRecordEraseCompletion s) := by
  refine outcome_event ?_
  split
  · next op => exact .erased op none (openEvent s).clock.drawn
  · exact .refl _

theorem outcome_execRecordEraseFailure (s : State) : Outcome s (execRecordEraseFailure s) := by
  refine outcome_event ?_
  split
  · next op => exact .trans (.erased op _ _) (course_note _ _)
  · exact .refl _

theorem outcome_execMaintStateChange (active : Bool) (heldMs : Nat) (s : State) : Outcome s (execMaintStateChange active heldMs s) := by
  refine outcome_whileUp ?_
  split
  · exact .control { s.control with maint := active } rfl rfl rfl rfl
  · exact .refl s

theorem outcome_execPeLineChange (line : Nat) (active : Bool) (heldMs : Nat) (s : State) :
    Outcome s (execPeLineChange line active heldMs s) := by
  refine outcome_event ?_
  split
  · exact course_changeLine _ _ _
  · exact .refl _

theorem outcome_execStartUpStopTimerExpiry (s : State) : Outcome s (execStartUpStopTimerExpiry s) := by
  refine outcome_event ?_
  split
  · next due =>
    have expired : Course (openEvent s) { openEvent s with control.startTimer := some .expired } := .control _ rfl rfl rfl rfl
    dsimp only
    split
    · exact .trans expired (course_enterRunning (.inl due.1))
    · exact expired
  · exact .refl _

theorem outcome_execSupervisionTimerExpiry (s : State) : Outcome s (execSupervisionTimerExpiry s) := by
  refine outcome_event ?_
  split
  · have expired : Course (openEvent s) { openEvent s with exchange.supervision := some .expired } := .exchange _ rfl
    dsimp only
    split
    case h_1 => exact .trans expired (course_raise _ _)
    case h_2 running => exact .trans expired (course_enterWarning running)
    all_goals exact expired
  · exact .refl _

theorem outcome_execWarningWindowExpiry (s : State) : Outcome s (execWarningWindowExpiry s) := by
  refine outcome_event ?_
  split
  · next due => exact .supervised due.1
  · exact .refl _

theorem outcome_groupExpiry (due : State → Nat → Bool) (g : Nat) (s : State) : Outcome s (eventOutcome (groupExpiry due g) s) :=
  outcome_event_alike (by simp [Alike])

theorem outcome_execPlanDelayEnd (s : State) : Outcome s (execPlanDelayEnd s) := by
  refine outcome_event ?_
  split
  · exact course_advance _ _
  · exact .refl _

theorem outcome_execPlanDwellEnd (s : State) : Outcome s (execPlanDwellEnd s) := by
  refine outcome_event ?_
  split
  · exact course_advance _ _
  · exact .refl _

theorem outcome_execPlanDurationExpiry (plan : Nat) (s : State) : Outcome s (execPlanDurationExpiry plan s) := by
  refine outcome_event ?_
  split
  · exact .trans (course_timeOut _ _) (course_afterTimeOut _ _)
  · exact .refl _

theorem outcome_execBranchTransmissionEnd (branch : BranchId) (s : State) : Outcome s (execBranchTransmissionEnd branch s) :=
  outcome_event_alike (by split <;> simp [Alike])

theorem outcome_execLstReceived (branch : BranchId) (station : Nat) (applied : Option Byte) (currents : List Half) (s : State) :
    Outcome s (execLstReceived branch station applied currents s) := by
  refine outcome_event ?_
  split
  · exact .trans (.trans (.alike (by simp [Alike])) (course_proveReport _ _ _ _ _)) (course_countLag _ _ _ _)
  · exact .alike (by simp [Alike])

theorem outcome_execDsmReceived (branch : BranchId) (station : Nat) (inputs : List DsmInput) (s : State) :
    Outcome s (execDsmReceived branch station inputs s) := by
  refine outcome_event ?_
  split
  · refine .trans ?_ (course_takeSample _ _ _)
    split <;> exact .alike (by simp [Alike])
  · exact .alike (by simp [Alike])

theorem outcome_execSstReceived (branch : BranchId) (station : Nat) (status : List Byte) (s : State) :
    Outcome s (execSstReceived branch station status s) :=
  outcome_event_alike (by split <;> simp [Alike])

theorem outcome_execFwrReceived (branch : BranchId) (station : Nat) (payload : List Byte) (s : State) :
    Outcome s (execFwrReceived branch station payload s) := by
  refine outcome_whileUp ?_
  split
  · exact course_asEvent (send_onlyLink _) (.alike (by simp [Alike]))
  · exact course_asEvent id_onlyLink (.alike (by simp [Alike]))

theorem outcome_execPollAnswerTimeout (branch : BranchId) (s : State) : Outcome s (execPollAnswerTimeout branch s) := by
  refine outcome_event ?_
  split
  · exact .trans (.alike (by simp [Alike])) (course_pollMissed _ _ _)
  · exact .refl _

theorem outcome_execForwardAnswerTimeout (branch : BranchId) (s : State) : Outcome s (execForwardAnswerTimeout branch s) := by
  refine outcome_whileUp ?_
  split
  · exact course_asEvent (send_onlyLink _) (.alike (by simp [Alike]))
  · exact .refl s

theorem outcome_execRepollTimerExpiry (station : Nat) (s : State) : Outcome s (execRepollTimerExpiry station s) :=
  outcome_event (course_eachOf (fun _ _ => .alike (by simp [Alike])) _ _)

theorem outcome_execStuckDeadlineExpiry (channel : Nat) (s : State) : Outcome s (execStuckDeadlineExpiry channel s) := by
  refine outcome_event ?_
  split
  · exact .trans (.alike (by simp [Alike])) (course_decideFault _ _)
  · exact .refl _

theorem outcome_execIdleDeadlineExpiry (channel : Nat) (s : State) : Outcome s (execIdleDeadlineExpiry channel s) := by
  refine outcome_event ?_
  split
  · exact .trans (.alike (by simp [Alike])) (course_decideFault _ _)
  · exact .refl _

/-- Every command but those of the supply and of the NRESET line makes a course, or nothing while the supervisor does not work (R186). -/
theorem outcome_exec (c : Instr) (s : State) (event : isReset c = false) (supply : c ≠ .supplyLoss) : Outcome s (exec c s) := by
  cases c with
  | powerOnReset => cases event
  | nreset lowMicros supplyRising => cases event
  | supplyLoss => exact absurd rfl supply
  | tableLoadEnd upsets recordReadable => exact outcome_execTableLoadEnd upsets recordReadable s
  | img chain next inhibit targets => exact outcome_execImg chain next inhibit targets s
  | calCall plan => exact outcome_execCalCall plan s
  | calCancel plan request => exact outcome_execCalCancel plan request s
  | modRun cabinet generation startChain => exact outcome_execModRun cabinet generation startChain s
  | modFlash request => exact outcome_execModFlash request s
  | twr table index content => exact outcome_execTwr table index content s
  | trd table index copy => exact outcome_frame (reply_onlyLink _ _ _) (.refl _)
  | tcm => exact outcome_execTcm s
  | tds => exact outcome_execTds s
  | sta part first => exact outcome_frame (fun _ => rfl) (.refl _)
  | fcl => exact outcome_execFcl s
  | fwd tag station inner payload => exact outcome_execFwd tag station inner payload s
  | unknownKindFrame kind => exact outcome_frame (reply_onlyLink _ _ _) (.refl _)
  | damagedFrame cause => exact outcome_whileUp (.alike ⟨rfl, rfl, rfl, rfl, rfl, rfl, rfl⟩)
  | outgoingFrameSent => exact outcome_whileUp (.alike ⟨rfl, rfl, rfl, rfl, rfl, rfl, rfl⟩)
  | commitCompletion => exact outcome_execCommitCompletion s
  | commitWriteFailure => exact outcome_execCommitWriteFailure s
  | recordWriteCompletion => exact outcome_execRecordWriteCompletion s
  | recordWriteFailure => exact outcome_execRecordWriteFailure s
  | recordEraseCompletion => exact outcome_execRecordEraseCompletion s
  | recordEraseFailure => exact outcome_execRecordEraseFailure s
  | maintStateChange active heldMs => exact outcome_execMaintStateChange active heldMs s
  | peLineChange line active heldMs => exact outcome_execPeLineChange line active heldMs s
  | startUpStopTimerExpiry => exact outcome_execStartUpStopTimerExpiry s
  | supervisionTimerExpiry => exact outcome_execSupervisionTimerExpiry s
  | warningWindowExpiry => exact outcome_execWarningWindowExpiry s
  | endOfPrepare group | endOfClear group | minimumGoReached group | minimumStopReached group | deferralTimerExpiry group =>
    exact outcome_groupExpiry _ group s
  | planDelayEnd => exact outcome_execPlanDelayEnd s
  | planDwellEnd => exact outcome_execPlanDwellEnd s
  | planDurationExpiry plan => exact outcome_execPlanDurationExpiry plan s
  | branchTransmissionEnd branch => exact outcome_execBranchTransmissionEnd branch s
  | lstReceived branch station applied currents => exact outcome_execLstReceived branch station applied currents s
  | dsmReceived branch station inputs => exact outcome_execDsmReceived branch station inputs s
  | sstReceived branch station status => exact outcome_execSstReceived branch station status s
  | fwrReceived branch station payload => exact outcome_execFwrReceived branch station payload s
  | branchFrameDiscarded branch cause => exact outcome_whileUp (.alike (by simp [Alike]))
  | pollAnswerTimeout branch => exact outcome_execPollAnswerTimeout branch s
  | forwardAnswerTimeout branch => exact outcome_execForwardAnswerTimeout branch s
  | repollTimerExpiry station => exact outcome_execRepollTimerExpiry station s
  | stuckDeadlineExpiry channel => exact outcome_execStuckDeadlineExpiry channel s
  | idleDeadlineExpiry channel => exact outcome_execIdleDeadlineExpiry channel s
  | idleGap line =>
    refine outcome_whileUp (.alike ?_)
    cases line <;> exact ⟨rfl, rfl, rfl, rfl, rfl, rfl, rfl⟩

end Sys2Proof.Machine

/-! ### Laws that every course keeps are kept by every step -/

namespace Sys2Proof.Machine

open Sys2Proof.Safety

/-- A property of the mode, the groups, the plans and the store that every kind of step keeps. -/
structure Kept (P : State → Prop) : Prop where
  alike : ∀ {s t}, Alike s t → P s → P t
  course : ∀ {s t}, s.up = true → Course s t → P s → P t
  reset : ∀ {s} lowFor strikes, strikes = 0 ∨ strikes = s.exchange.strikes → P s → P (resetKeeping lowFor strikes s)
  /-- a loss of supply cuts the writes in progress and releases RUNPERMIT -/
  supply : ∀ {s}, P s →
    P { cutWrites s with
        clock.powered := false, clock.lowFor := 0, control.runPermit := false, control.recordOp := .none
        store.op := .idle, store.progress := none }
  low : ∀ {s}, s.up = false → P s → P (passLow s)
  counts : ∀ {s}, P s → P (countUnits s)

theorem Kept.exec {P : State → Prop} (kept : Kept P) {c : Instr} {s t : State} (ran : Machine.exec c s = .next t) (h : P s) : P t := by
  by_cases reset : isReset c = true
  · cases c with
    | powerOnReset => cases ran; exact kept.reset 0 0 (.inl rfl) h
    | nreset lowMicros supplyRising =>
      cases ran
      split
      · refine kept.reset _ _ ?_ h
        cases supplyRising
        · exact .inr rfl
        · exact .inl rfl
      · exact h
    | _ => cases reset
  · by_cases supply : c = .supplyLoss
    · subst supply
      cases ran
      split
      · exact kept.supply h
      · exact h
    · rcases outcome_exec c s (Bool.eq_false_iff.mpr reset) supply t ran with rfl | ⟨up, course⟩
      · exact h
      · exact kept.course up course h

theorem Kept.tick {P : State → Prop} (kept : Kept P) {s : State} (h : P s) : P (Machine.tick s) := by
  unfold Machine.tick
  split
  · next low =>
    refine kept.low ?_ h
    simp only [Bool.and_eq_true, decide_eq_true_eq] at low
    simp [State.up, low]
  · unfold whileUp
    split
    · have passed : P (passMillisecond s) := by
        unfold passMillisecond
        dsimp only
        split
        · exact kept.counts (kept.alike (s := s) ⟨rfl, rfl, rfl, rfl, rfl, rfl, rfl⟩ h)
        · exact kept.alike (s := s) ⟨rfl, rfl, rfl, rfl, rfl, rfl, rfl⟩ h
      exact kept.alike (s := passMillisecond s) ⟨rfl, rfl, rfl, rfl, rfl, rfl, rfl⟩ passed
    · exact h

theorem Kept.step {P : State → Prop} (kept : Kept P) {s t : State} (ran : Machine.step s = .next t) (h : P s) : P t := by
  unfold Machine.step at ran
  split at ran
  · exact kept.exec ran (kept.alike (s := s) ⟨rfl, rfl, rfl, rfl, rfl, rfl, rfl⟩ h)
  · cases ran
    exact kept.tick h

/-! #### What the moves leave of the mode controller and the table store -/

/-- What a record operation stands at once a lockout record is to be written. -/
def writingOf (record : Option (FaultKind × Option Nat)) (op : RecordOp) : RecordOp := (record.map (fun r => .writing r.1 r.2)).getD op

theorem writeRecordOf_record (record : Option (FaultKind × Option Nat)) (s : State) :
    (writeRecordOf record s).control = { s.control with recordOp := writingOf record s.control.recordOp }
      ∧ (writeRecordOf record s).store.op = (if record.isSome then .record else s.store.op)
      ∧ (writeRecordOf record s).store.nv.record = (if record.isSome then some (.unknown, none) else s.store.nv.record) := by
  cases record <;> exact ⟨rfl, rfl, rfl⟩

theorem leavePermit_record (new : Mode) (cause : Cause) (record : Option (FaultKind × Option Nat)) (s : State) :
    (leavePermit new cause record s).control.recordOp = writingOf record s.control.recordOp
      ∧ (leavePermit new cause record s).store.op = (if record.isSome then .record else s.store.op)
      ∧ (leavePermit new cause record s).store.nv.record = (if record.isSome then some (.unknown, none) else s.store.nv.record) := by
  simp [leavePermit, writeRecordOf_record, resetWorking]

theorem changeFlashMode_record (new : Mode) (cause : Cause) (record : Option (FaultKind × Option Nat)) (s : State) :
    (changeFlashMode new cause record s).control
        = { s.control with
            mode := new, runPermit := new.permit, lastCause := cause, recordOp := writingOf record s.control.recordOp }
      ∧ (changeFlashMode new cause record s).store.op = (if record.isSome then .record else s.store.op)
      ∧ (changeFlashMode new cause record s).store.nv.record = (if record.isSome then some (.unknown, none) else s.store.nv.record)
      ∧ (changeFlashMode new cause record s).store.working = s.store.active.getD defaultSet := by
  simp [changeFlashMode, writeRecordOf_record, resetWorking, setMode]

/-- A load ends in FLASH, or in LOCKOUT with a record PRESENT; two strikes lead to LOCKOUT (R45). -/
theorem leaveLoading_mode (s : State) :
    ((leaveLoading s).control.runPermit = false)
      ∧ ((leaveLoading s).control.mode = .lockout ∧ (leaveLoading s).store.nv.record.isSome = true
        ∨ (leaveLoading s).control.mode = .flash ∧ s.exchange.strikes ≠ 2 ∧ (leaveLoading s).control.recordOp = s.control.recordOp)
      ∧ ((leaveLoading s).store.op = s.store.op ∧ (leaveLoading s).control.recordOp = s.control.recordOp
        ∨ (leaveLoading s).control.mode = .lockout ∧ (leaveLoading s).store.op = .record
          ∧ ∃ kind subject, (leaveLoading s).control.recordOp = .writing kind subject) := by
  unfold leaveLoading
  dsimp only
  split
  · next present => simp [changeFlashMode_record, writingOf, present, Mode.permit]
  · split
    · simp [changeFlashMode_record, writingOf, Mode.permit]
    · next strikes =>
      split
      · next record _ => simp [changeFlashMode_record, writingOf, Mode.permit]
      · simp [changeFlashMode_record, writingOf, Mode.permit]; exact strikes

/-- The reports of a load move no mode in LOADING (R46, R169). -/
theorem alike_reportLoad (s : State) :
    Alike s (reportLoad s) := by
  have kept : ∀ u : State, Alike s u → Alike s (raise { kind := .tableInvalid, subject := none, action := .noRun, condition := true } u) := by
    intro u hu
    simpa [Alike, raise, takeAction] using hu
  have first : Alike s (if 0 < s.store.corrected then noteOccurrence .tableCorrected none s else s) := by
    split <;> simp [Alike]
  unfold reportLoad
  dsimp only
  generalize (if 0 < s.store.corrected then noteOccurrence .tableCorrected none s else s) = u at first ⊢
  split
  · exact first
  · exact kept u first

end Sys2Proof.Machine

/-! ### The ninth law: valid tables, or a flash mode (R166) -/

namespace Sys2Proof.Machine

open Sys2Proof.Safety

theorem tableLaw_iff {s : State} :
    tableLaw s = true ↔ (∀ t, s.store.active = some t → t.valid = true) ∧ (s.store.active = none → s.control.mode.permit = false)
      ∧ (s.store.op = .commit → s.control.mode.edits = true ∧ s.store.working.valid = true) := by
  unfold tableLaw
  cases s.store.active <;> cases s.store.op <;> simp

theorem edits_of_permit {m : Mode} (permit : m.permit = true) : m.edits = false := by cases m <;> simp_all [Mode.permit, Mode.edits]

/-- The ninth law reads the mode, the active tables, the working copy and the store operation. -/
theorem tableLaw_congr {s t : State} (h : tableLaw s = true) (mode : t.control.mode = s.control.mode) (active : t.store.active = s.store.active)
    (op : t.store.op = s.store.op) (working : t.store.working = s.store.working) : tableLaw t = true := by
  rw [tableLaw_iff] at h ⊢
  rwa [mode, active, op, working]

/-- The ninth law while no commit is written. -/
theorem tableLaw_idle {s t : State} (h : tableLaw s = true) (mode : t.control.mode.permit = true → s.store.active ≠ none)
    (active : t.store.active = s.store.active) (op : t.store.op ≠ .commit) : tableLaw t = true := by
  obtain ⟨valid, -, -⟩ := tableLaw_iff.mp h
  exact tableLaw_iff.mpr ⟨active ▸ valid, fun none => Bool.eq_false_iff.mpr (fun permit => mode permit (active ▸ none)), fun commit => absurd commit op⟩

theorem op_of_permit {s : State} (h : tableLaw s = true) (permit : s.control.mode.permit = true) : s.store.op ≠ .commit := by
  obtain ⟨-, -, commit⟩ := tableLaw_iff.mp h
  intro op
  have edits := (commit op).1
  simp [edits_of_permit permit] at edits

theorem active_of_permit {s : State} (h : tableLaw s = true) (permit : s.control.mode.permit = true) : s.store.active ≠ none := by
  obtain ⟨-, none, -⟩ := tableLaw_iff.mp h
  intro empty
  simp [none empty] at permit

/-- A move from a permit mode that touches neither the active tables nor the store operation. -/
theorem tableLaw_of_permit {s t : State} (h : tableLaw s = true) (permit : s.control.mode.permit = true)
    (active : t.store.active = s.store.active) (op : t.store.op = s.store.op) : tableLaw t = true :=
  tableLaw_idle h (fun _ => active_of_permit h permit) active (op ▸ op_of_permit h permit)

theorem edits_not_permit {m : Mode} (edits : m.edits = true) : m.permit = false := by cases m <;> simp_all [Mode.permit, Mode.edits]

@[simp] theorem changePlan_stack (p : Nat) (f : PlanState → PlanState) (s : State) : (changePlan p f s).preempt.stack = s.preempt.stack := rfl

/-- The window's close is the entry to CLOSING with one strike more (R74). -/
theorem superviseClose_eq {s : State} (mode : s.control.mode = .warning) :
    superviseClose s
      = enterClosing (closeTargetOf (Nat.min 2 (s.exchange.strikes + 1))) .supervisionClose
          (note supervisionCloseRaise (endLapse { s with exchange.strikes := Nat.min 2 (s.exchange.strikes + 1) })) := by
  simp [superviseClose, takeAction, supervisionCloseRaise, mode]

theorem superviseClose_store {s : State} (mode : s.control.mode = .warning) : (superviseClose s).store = s.store := by
  simp [superviseClose_eq mode]

@[simp] theorem clearStrikes_mode (s : State) :
    (clearStrikes s).control
      = (if s.control.maint = true ∧ s.control.mode = .lockout then
          { s.control with mode := .flash, runPermit := false, lastCause := .maintClear, recordOp := .erasing }
        else s.control) := by
  unfold clearStrikes
  split
  · next maint =>
    dsimp only
    split
    · next lockout => simp [changeFlashMode_record, maint, lockout, writingOf, startRecordErase, Mode.permit]
    · next other => simp [other]
  · next maint => simp [maint]

theorem clearStrikes_store (s : State) :
    (clearStrikes s).store
      = (if s.control.maint = true ∧ s.control.mode = .lockout then
          { s.store with op := .record, working := s.store.active.getD defaultSet }
        else s.store) := by
  unfold clearStrikes
  split
  · next maint =>
    dsimp only
    split
    · next lockout => simp [changeFlashMode, maint, lockout, writeRecordOf, startRecordErase, resetWorking, setMode]
    · next other => simp [other]
  · next maint => simp [maint]

/-- Every move keeps the ninth law. -/
theorem course_tableLaw {s t : State} (course : Course s t) (h : tableLaw s = true) : tableLaw t = true := by
  induction course with
  | trans _ _ first second => exact second (first h)
  | alike same =>
    obtain ⟨control, -, -, -, store, -⟩ := same
    exact tableLaw_congr h (by rw [control]) (by rw [store]) (by rw [store]) (by rw [store])
  | control x mode _ _ _ => exact tableLaw_congr h mode rfl rfl rfl
  | left new cause record permit target =>
    refine tableLaw_idle h (fun _ => active_of_permit h permit) (by simp) ?_
    rw [(leavePermit_record _ _ _ _).2.1]
    split
    · simp
    · exact op_of_permit h permit
  | locked cause record flash => exact tableLaw_idle h (by simp [changeFlashMode_record, Mode.permit]) (by simp) (by simp [changeFlashMode_record])
  | started startChain flash idle active =>
    simp only [State.storeBusy, Bool.or_eq_false_iff, decide_eq_false_iff_not, not_not] at idle
    refine tableLaw_idle h (fun _ empty => by simp [empty] at active) rfl ?_
    show _ ≠ _
    rw [show (startEntry startChain _).store.op = _ from idle.1]
    simp
  | ran cause mode => exact tableLaw_of_permit h (by rcases mode with mode | mode <;> simp [mode, Mode.permit]) rfl rfl
  | warned cause mode => exact tableLaw_of_permit h (by simp [mode, Mode.permit]) rfl rfl
  | closing target cause mode =>
    exact tableLaw_of_permit h (by rcases mode with mode | mode | mode <;> simp [mode, Mode.permit]) (by simp) (by simp)
  | supervised mode =>
    exact tableLaw_of_permit h (by simp [mode, Mode.permit]) (by simp) (by rw [superviseClose_store mode])
  | @cleared s =>
    by_cases taken : s.control.maint = true ∧ s.control.mode = .lockout
    · exact tableLaw_idle h (by simp [taken, Mode.permit]) (by simp) (by simp [clearStrikes_store, taken])
    · exact tableLaw_congr h (by simp [taken]) (by simp) (by simp [clearStrikes_store, taken]) (by simp [clearStrikes_store, taken])
  | @loaded s nv mode =>
    obtain ⟨-, -, commit⟩ := tableLaw_iff.mp h
    obtain ⟨-, mode', op⟩ := leaveLoading_mode (reportLoad (loadStore nv s))
    obtain ⟨control, -, -, -, store, -⟩ := alike_reportLoad (loadStore nv s)
    refine tableLaw_iff.mpr ⟨fun t active => ?_, fun _ => ?_, fun now => ?_⟩
    · have found : (if nv.passes then some nv.set else none) = some t := by simpa [loadStore] using active
      split at found
      · next passes =>
        cases found
        simp only [Nonvolatile.passes, Bool.and_eq_true] at passes
        exact passes.2
      · cases found
    · rcases mode' with ⟨lockout, -⟩ | ⟨flash, -⟩
      · simp [lockout, Mode.permit]
      · simp [flash, Mode.permit]
    · rcases op with ⟨same, -⟩ | ⟨-, record, -⟩
      · have before : s.store.op = .commit := by
          simp only [takeLoaded_frame, same, store] at now
          exact now
        have edits := (commit before).1
        simp [mode, Mode.edits] at edits
      · simp [record] at now
  | @committed s op =>
    obtain ⟨-, -, commit⟩ := tableLaw_iff.mp h
    refine tableLaw_iff.mpr ⟨fun t active => ?_, fun none => ?_, fun now => ?_⟩
    · have same : some s.store.working = some t := by simpa [activate] using active
      cases same
      exact (commit op).2
    · simp [activate] at none
    · simp [activate] at now
  | edited working op => exact tableLaw_idle h (fun permit => active_of_permit h permit) rfl (by simp [op])
  | commits edits op valid =>
    obtain ⟨active, -, -⟩ := tableLaw_iff.mp h
    exact tableLaw_iff.mpr ⟨active, fun _ => edits_not_permit edits, fun _ => ⟨edits, valid⟩⟩
  | failed op => exact tableLaw_idle h (fun permit => active_of_permit h permit) (by simp [tearCommit]) (by simp)
  | recorded => exact tableLaw_idle h (fun permit => active_of_permit h permit) rfl (fun commit => nomatch commit)
  | @erased s op record drawn =>
    exact tableLaw_idle (s := s) h (fun permit => active_of_permit h permit) (by simp [endRecordOp]) (by simp [endRecordOp])
  | _ => exact tableLaw_congr h (by simp) (by simp) (by simp) (by simp)

theorem cutWrites_control (s : State) :
    (cutWrites s).control = s.control ∧ (cutWrites s).exchange = s.exchange ∧ (cutWrites s).preempt = s.preempt := by
  unfold cutWrites tearCommit spoilErase
  dsimp only
  repeat' split
  all_goals exact ⟨rfl, rfl, rfl⟩

theorem kept_tableLaw : Kept (tableLaw · = true) where
  alike same h := course_tableLaw (.alike same) h
  course _ course h := course_tableLaw course h
  reset _ _ _ _ := rfl
  supply {s} h := tableLaw_idle h (fun permit => active_of_permit h (by simpa [cutWrites_control] using permit)) (by simp) (by simp)
  low _ h := tableLaw_congr h rfl rfl rfl rfl
  counts h := tableLaw_congr h rfl rfl rfl rfl

end Sys2Proof.Machine

/-! ### The eighth law: the strike count (R77) -/

namespace Sys2Proof.Machine

open Sys2Proof.Safety

theorem strikeLaw_iff {s : State} :
    strikeLaw s = true ↔ s.exchange.strikes ≤ 2 ∧ (s.exchange.strikes = 2 → s.control.mode = .loading ∨ s.control.mode = .lockout
      ∨ s.control.mode = .closing ∧ s.control.closeTarget = some .lockout) := by
  unfold strikeLaw
  cases s.control.mode <;> simp [imp_iff_not_or]

theorem strikeLaw_congr {s t : State} (h : strikeLaw s = true) (strikes : t.exchange.strikes = s.exchange.strikes)
    (mode : t.control.mode = s.control.mode) (target : t.control.closeTarget = s.control.closeTarget) : strikeLaw t = true := by
  rw [strikeLaw_iff] at h ⊢
  rwa [strikes, mode, target]

/-- A move in a mode that two strikes never reach, or to LOCKOUT. -/
theorem strikeLaw_moved {s t : State} (h : strikeLaw s = true) (strikes : t.exchange.strikes = s.exchange.strikes)
    (fewer : t.control.mode = .lockout ∨ s.exchange.strikes ≠ 2) : strikeLaw t = true := by
  rw [strikeLaw_iff] at h ⊢
  rw [strikes]
  exact ⟨h.1, fun two => .inr (.inl (fewer.resolve_right (not_not_intro two)))⟩

/-- Two strikes stand in no mode but LOADING, LOCKOUT and a close toward LOCKOUT. -/
theorem strikes_of_mode {s : State} (h : strikeLaw s = true) (loading : s.control.mode ≠ .loading) (lockout : s.control.mode ≠ .lockout)
    (closing : s.control.mode = .closing → s.control.closeTarget ≠ some .lockout) : s.exchange.strikes ≠ 2 := by
  rw [strikeLaw_iff] at h
  intro two
  rcases h.2 two with mode | mode | mode
  · exact loading mode
  · exact lockout mode
  · exact closing mode.1 mode.2

theorem clearStrikes_exchange (s : State) :
    (clearStrikes s).exchange = (if s.control.maint = true then { s.exchange with strikes := 0 } else s.exchange) := by
  unfold clearStrikes
  split
  · dsimp only
    split <;> simp
  · rfl

theorem course_strikeLaw {s t : State} (course : Course s t) (h : strikeLaw s = true) : strikeLaw t = true := by
  induction course with
  | trans _ _ first second => exact second (first h)
  | alike same =>
    obtain ⟨control, exchange, -⟩ := same
    exact strikeLaw_congr h (by rw [exchange]) (by rw [control]) (by rw [control])
  | exchange x strikes => exact strikeLaw_congr h strikes rfl rfl
  | control x mode _ target _ => exact strikeLaw_congr h rfl mode target
  | left new cause record permit target =>
    refine strikeLaw_moved h (by simp) ?_
    rcases target with ⟨lockout, -⟩ | ⟨-, -, close⟩
    · exact .inl (by simp [lockout])
    · exact .inr (strikes_of_mode h (fun mode => by simp [mode, Mode.permit] at permit) (fun mode => by simp [mode, Mode.permit] at permit) close)
  | locked cause record flash => exact strikeLaw_moved h (by simp) (.inl (by simp [changeFlashMode_record]))
  | started startChain flash idle active =>
    exact strikeLaw_moved h rfl (.inr (strikes_of_mode h (by simp [flash]) (by simp [flash]) (by simp [flash])))
  | ran cause mode =>
    refine strikeLaw_moved h rfl (.inr ?_)
    rcases mode with mode | mode <;> exact strikes_of_mode h (by simp [mode]) (by simp [mode]) (by simp [mode])
  | warned cause mode => exact strikeLaw_moved h rfl (.inr (strikes_of_mode h (by simp [mode]) (by simp [mode]) (by simp [mode])))
  | closing target cause mode =>
    refine strikeLaw_moved h (by simp) (.inr ?_)
    rcases mode with mode | mode | mode <;> exact strikes_of_mode h (by simp [mode]) (by simp [mode]) (by simp [mode])
  | @supervised s mode =>
    have strikes : (superviseClose s).exchange.strikes = Nat.min 2 (s.exchange.strikes + 1) := by simp [superviseClose_eq mode]
    have control : (superviseClose s).control.mode = .closing
        ∧ (superviseClose s).control.closeTarget = some (closeTargetOf (Nat.min 2 (s.exchange.strikes + 1))) := by
      simp [superviseClose_eq mode, enterClosing_control]
    refine strikeLaw_iff.mpr ⟨strikes ▸ Nat.min_le_left _ _, fun two => .inr (.inr ⟨control.1, ?_⟩)⟩
    rw [control.2, ← strikes, two]
    rfl
  | @cleared s =>
    by_cases maint : s.control.maint = true
    · exact strikeLaw_iff.mpr (by simp [clearStrikes_exchange, maint])
    · exact strikeLaw_congr h (by simp [clearStrikes_exchange, maint]) (by simp [maint]) (by simp [maint])
  | @loaded s nv mode =>
    obtain ⟨-, reached, -⟩ := leaveLoading_mode (reportLoad (loadStore nv s))
    obtain ⟨-, exchange, -⟩ := alike_reportLoad (loadStore nv s)
    refine strikeLaw_moved h (by simp; rfl) ?_
    rw [exchange] at reached
    rcases reached with ⟨lockout, -⟩ | ⟨-, fewer, -⟩
    · exact .inl (by simpa using lockout)
    · exact .inr fewer
  | @committed s op =>
    have control : (takeCommitted (endInvalid (activate s))).control = s.control := by simp only [takeCommitted_frame, endInvalid_frame]; rfl
    refine strikeLaw_congr h ?_ (by rw [control]) (by rw [control])
    simp only [takeCommitted_frame, endInvalid_frame]
    rfl
  | failed | recorded | erased | edited | commits | inputs => exact strikeLaw_congr h rfl rfl rfl
  | _ => exact strikeLaw_congr h (by simp) (by simp) (by simp)

theorem kept_strikeLaw : Kept (strikeLaw · = true) where
  alike same h := course_strikeLaw (.alike same) h
  course _ course h := course_strikeLaw course h
  reset {s} lowFor strikes from' h := by
    rw [strikeLaw_iff] at h ⊢
    refine ⟨?_, fun _ => .inl rfl⟩
    show strikes ≤ 2
    omega
  supply {s} h := by
    obtain ⟨control, exchange, -⟩ := cutWrites_control s
    exact strikeLaw_congr h (by rw [exchange]) (by simp [control]) (by simp [control])
  low _ h := strikeLaw_congr h rfl rfl rfl
  counts h := strikeLaw_congr h rfl rfl rfl

/-! ### The third law: RUNPERMIT (R44, R186) -/

theorem course_up {s t : State} (course : Course s t) : t.up = s.up := by
  induction course with
  | trans _ _ first second => exact second.trans first
  | alike same =>
    obtain ⟨-, -, -, -, -, powered, low⟩ := same
    rw [State.up, State.up, powered, low]
  | cleared =>
    unfold clearStrikes State.up
    dsimp only
    repeat' split
    all_goals simp
  | committed => simp [State.up, activate]
  | loaded => simp [State.up, loadStore]
  | failed | recorded | erased | commits => rfl
  | _ => simp [State.up, startEntry]

/-- RUNPERMIT is energized exactly in the permit modes. -/
def Permitted (s : State) : Prop := s.control.runPermit = s.control.mode.permit

theorem course_permitted {s t : State} (course : Course s t) (h : Permitted s) : Permitted t := by
  unfold Permitted at *
  induction course with
  | trans _ _ first second => exact second (first h)
  | alike same => rwa [same.1]
  | control x mode permit _ _ => rw [permit, mode]; exact h
  | locked => simp [changeFlashMode_record]
  | left => simp
  | started | ran | warned => rfl
  | closing => rw [enterClosing_control]; rfl
  | supervised mode => rw [superviseClose_eq mode, enterClosing_control]; rfl
  | @cleared s =>
    by_cases taken : s.control.maint = true ∧ s.control.mode = .lockout
    · simp [taken, Mode.permit]
    · simpa [taken] using h
  | @loaded s nv mode =>
    obtain ⟨line, reached, -⟩ := leaveLoading_mode (reportLoad (loadStore nv s))
    rcases reached with ⟨mode, -⟩ | ⟨mode, -⟩ <;> simp [line, mode, Mode.permit]
  | failed | recorded | erased | commits | edited => exact h
  | committed => simpa [activate] using h
  | _ => simpa using h

theorem permitLaw_iff {s : State} :
    permitLaw s = true ↔ s.control.runPermit = (s.up && s.control.mode.permit) ∧ (s.clock.lowFor = 0 ∨ s.control.mode = .loading) := by
  simp [permitLaw]

theorem kept_permitLaw : Kept (permitLaw · = true) where
  alike {s t} same h := by
    obtain ⟨control, -, -, -, -, powered, low⟩ := same
    rw [permitLaw_iff] at h ⊢
    rwa [State.up, control, powered, low]
  course {s t} up course h := by
    rw [permitLaw_iff] at h ⊢
    have line : Permitted s := by simpa [up, Permitted] using h.1
    have up' : t.up = true := (course_up course).trans up
    refine ⟨by rw [up']; exact course_permitted course line, .inl ?_⟩
    simp only [State.up, Bool.and_eq_true, decide_eq_true_eq] at up'
    exact up'.2
  reset {s} lowFor strikes _ _ := permitLaw_iff.mpr ⟨by simp [resetKeeping, resetState, Mode.permit], .inr rfl⟩
  supply {s} h := permitLaw_iff.mpr ⟨by simp [State.up], .inl rfl⟩
  low {s} down h := by
    rw [permitLaw_iff] at h ⊢
    rw [down] at h
    by_cases zero : s.clock.lowFor = 0
    · refine ⟨?_, .inl (by simp [passLow, zero])⟩
      have powered : s.clock.powered = false := by simpa [State.up, zero] using down
      simpa [passLow, State.up, powered] using h.1
    · have mode := h.2.resolve_left zero
      exact ⟨by simpa [passLow, mode, Mode.permit] using h.1, .inr mode⟩
  counts {s} h := by
    rw [permitLaw_iff] at h ⊢
    exact h

/-! ### The lockout record (R60, R61, R64) -/

theorem recordLaw_iff {s : State} :
    recordLaw s = true ↔ (∀ kind subject, s.control.recordOp = .writing kind subject → s.control.mode = .lockout)
      ∧ (s.control.recordOp = .erasing → s.control.mode = .flash ∧ s.store.nv.record.isSome = true)
      ∧ (s.control.mode = .lockout → s.store.nv.record.isSome = true)
      ∧ (s.store.op = .record ↔ s.control.recordOp ≠ .none) := by
  unfold recordLaw
  by_cases lockout : s.control.mode = .lockout <;> cases s.control.recordOp <;> simp [lockout]

theorem recordLaw_congr {s t : State} (h : recordLaw s = true) (mode : t.control.mode = s.control.mode)
    (recordOp : t.control.recordOp = s.control.recordOp) (op : t.store.op = s.store.op)
    (record : t.store.nv.record = s.store.nv.record) : recordLaw t = true := by
  rw [recordLaw_iff] at h ⊢
  rwa [mode, recordOp, op, record]

/-- While no record operation is in progress the law says that LOCKOUT has a record. -/
theorem recordLaw_idle {t : State} (recordOp : t.control.recordOp = .none) (op : t.store.op ≠ .record)
    (present : t.control.mode = .lockout → t.store.nv.record.isSome = true) : recordLaw t = true :=
  recordLaw_iff.mpr ⟨by simp [recordOp], by simp [recordOp], present, by simp [recordOp, op]⟩

/-- In LOCKOUT, with a record PRESENT, it may be being written. -/
theorem recordLaw_writing {t : State} {kind : FaultKind} {subject : Option Nat} (recordOp : t.control.recordOp = .writing kind subject)
    (op : t.store.op = .record) (mode : t.control.mode = .lockout) (present : t.store.nv.record.isSome = true) : recordLaw t = true :=
  recordLaw_iff.mpr ⟨fun _ _ _ => mode, by simp [recordOp], fun _ => present, by simp [recordOp, op]⟩

/-- No record operation goes on outside FLASH and LOCKOUT. -/
theorem recordOp_of_mode {s : State} (h : recordLaw s = true) (flash : s.control.mode ≠ .flash) (lockout : s.control.mode ≠ .lockout) :
    s.control.recordOp = .none ∧ s.store.op ≠ .record := by
  obtain ⟨writing, erasing, -, op⟩ := recordLaw_iff.mp h
  have none : s.control.recordOp = .none := by
    cases now : s.control.recordOp with
    | none => rfl
    | writing kind subject => exact absurd (writing kind subject now) lockout
    | erasing => exact absurd (erasing now).1 flash
  exact ⟨none, by simp [op, none]⟩

theorem recordOp_of_op {s : State} (h : recordLaw s = true) (op : s.store.op ≠ .record) : s.control.recordOp = .none := by
  obtain ⟨-, -, -, same⟩ := recordLaw_iff.mp h
  by_contra other
  exact op (same.mpr other)

theorem tearCommit_record (s : State) : (tearCommit s).store.nv.record = s.store.nv.record := by simp [tearCommit, Nonvolatile.torn]

theorem cutWrites_record (s : State) (present : s.store.nv.record.isSome = true) : (cutWrites s).store.nv.record.isSome = true := by
  have erased : ∀ n r, (unerased n r).isSome = true := by
    intro n r
    unfold unerased
    split <;> rfl
  unfold cutWrites
  dsimp only
  split
  · split
    · exact erased _ _
    · rw [tearCommit_record]; exact present
  · split
    · exact erased _ _
    · exact present

theorem permit_ne {m : Mode} (permit : m.permit = true) : m ≠ .flash ∧ m ≠ .lockout ∧ m ≠ .loading := by
  cases m <;> simp_all [Mode.permit]

/-- A move from a permit mode that reaches neither FLASH nor LOCKOUT and leaves the record alone. -/
theorem recordLaw_of_permit {s t : State} (h : recordLaw s = true) (permit : s.control.mode.permit = true)
    (mode : t.control.mode ≠ .lockout) (recordOp : t.control.recordOp = s.control.recordOp) (op : t.store.op = s.store.op) : recordLaw t = true := by
  obtain ⟨flash, lockout, -⟩ := permit_ne permit
  obtain ⟨none, idle⟩ := recordOp_of_mode h flash lockout
  exact recordLaw_idle (recordOp.trans none) (op ▸ idle) (fun now => absurd now mode)

theorem course_recordLaw {s t : State} (course : Course s t) (h : recordLaw s = true) : recordLaw t = true := by
  induction course with
  | trans _ _ first second => exact second (first h)
  | alike same =>
    obtain ⟨control, -, -, -, store, -⟩ := same
    exact recordLaw_congr h (by rw [control]) (by rw [control]) (by rw [store]) (by rw [store])
  | control x mode _ _ op => exact recordLaw_congr h mode op rfl rfl
  | @left s new cause record permit target =>
    obtain ⟨flash, lockout, -⟩ := permit_ne permit
    obtain ⟨none, idle⟩ := recordOp_of_mode h flash lockout
    obtain ⟨recordOp, op, present⟩ := leavePermit_record new cause record s
    rcases target with ⟨rfl, some⟩ | ⟨rfl, rfl, -⟩
    · obtain ⟨⟨kind, subject⟩, rfl⟩ := Option.isSome_iff_exists.mp some
      exact recordLaw_writing recordOp op (by simp) (by simp [present])
    · exact recordLaw_idle (recordOp.trans none) (ne_of_eq_of_ne op idle) (by simp)
  | @locked s cause record flash =>
    obtain ⟨control, op, present, -⟩ := changeFlashMode_record .lockout cause (some record) s
    exact recordLaw_writing (kind := record.1) (subject := record.2) (by rw [control]; rfl) op (by rw [control]) (by simp [present])
  | @started s startChain flash idle active =>
    simp only [State.storeBusy, Bool.or_eq_false_iff, decide_eq_false_iff_not, not_not] at idle
    refine recordLaw_idle idle.2 ?_ (fun lockout => nomatch lockout)
    show s.store.op ≠ .record
    simp [idle.1]
  | ran cause mode => exact recordLaw_of_permit h (by rcases mode with mode | mode <;> simp [mode, Mode.permit]) (by simp) (by simp) (by simp)
  | warned cause mode => exact recordLaw_of_permit h (by simp [mode, Mode.permit]) (by simp) (by simp) (by simp)
  | closing target cause mode =>
    exact recordLaw_of_permit h (by rcases mode with mode | mode | mode <;> simp [mode, Mode.permit]) (by simp [enterClosing_control])
      (by simp [enterClosing_control]) (by simp)
  | supervised mode =>
    exact recordLaw_of_permit h (by simp [mode, Mode.permit]) (by simp [superviseClose_eq mode, enterClosing_control])
      (by simp [superviseClose_eq mode, enterClosing_control]) (by simp [superviseClose_eq mode])
  | @cleared s =>
    obtain ⟨-, -, present, -⟩ := recordLaw_iff.mp h
    by_cases taken : s.control.maint = true ∧ s.control.mode = .lockout
    · refine recordLaw_iff.mpr ⟨by simp [taken], fun _ => ⟨by simp [taken], ?_⟩, by simp [taken], by simp [taken, clearStrikes_store]⟩
      simpa [clearStrikes_store, taken] using present taken.2
    · exact recordLaw_congr h (by simp [taken]) (by simp [taken]) (by simp [taken, clearStrikes_store]) (by simp [taken, clearStrikes_store])
  | @loaded s nv mode =>
    obtain ⟨none, idle⟩ := recordOp_of_mode h (by simp [mode]) (by simp [mode])
    obtain ⟨-, reached, op⟩ := leaveLoading_mode (reportLoad (loadStore nv s))
    obtain ⟨control, -, -, -, store, -⟩ := alike_reportLoad (loadStore nv s)
    rw [control, store] at op
    rcases op with ⟨op, recordOp⟩ | ⟨lockout, op, kind, subject, recordOp⟩
    · refine recordLaw_idle ?_ ?_ (fun lockout => ?_)
      · simp only [takeLoaded_frame, recordOp]; exact none
      · simp only [takeLoaded_frame, op]; exact idle
      · simp only [takeLoaded_frame] at lockout ⊢
        rcases reached with ⟨-, present⟩ | ⟨flash, -⟩
        · exact present
        · simp [flash] at lockout
    · refine recordLaw_writing (kind := kind) (subject := subject) ?_ ?_ ?_ ?_
      all_goals simp only [takeLoaded_frame]
      · exact recordOp
      · exact op
      · exact lockout
      · rcases reached with ⟨-, present⟩ | ⟨flash, -⟩
        · exact present
        · simp [flash] at lockout
  | committed op =>
    obtain ⟨-, -, present, -⟩ := recordLaw_iff.mp h
    have none := recordOp_of_op h (by simp [op])
    exact recordLaw_idle (by simpa [activate] using none) (by simp [activate]) (by simpa [activate, Nonvolatile.write] using present)
  | edited => exact recordLaw_congr h rfl rfl rfl rfl
  | @commits s edits op valid =>
    obtain ⟨-, -, present, -⟩ := recordLaw_iff.mp h
    have none : s.control.recordOp = .none := recordOp_of_op h (by simp [op])
    exact recordLaw_idle none nofun present
  | @failed s op =>
    obtain ⟨-, -, present, -⟩ := recordLaw_iff.mp h
    have none : s.control.recordOp = .none := recordOp_of_op h (by simp [op])
    exact recordLaw_idle none nofun (fun lockout => (congrArg Option.isSome (tearCommit_record s)).trans (present lockout))
  | recorded kind subject op record present =>
    obtain ⟨writing, -, held, -⟩ := recordLaw_iff.mp h
    refine recordLaw_idle rfl (by simp [endRecordOp]) (fun lockout => ?_)
    rcases present with some | same
    · exact some
    · exact same ▸ held (writing _ _ op)
  | @erased s op record drawn =>
    obtain ⟨-, erasing, -, -⟩ := recordLaw_iff.mp h
    refine recordLaw_idle rfl (by simp [endRecordOp]) (fun lockout => ?_)
    have flash : s.control.mode = .flash := (erasing op).1
    have lockout : s.control.mode = .lockout := lockout
    simp [flash] at lockout
  | _ => exact recordLaw_congr h (by simp) (by simp) (by simp) (by simp)

theorem kept_recordLaw : Kept (recordLaw · = true) where
  alike same h := course_recordLaw (.alike same) h
  course _ course h := course_recordLaw course h
  reset _ _ _ _ := rfl
  supply {s} h := by
    obtain ⟨-, -, present, -⟩ := recordLaw_iff.mp h
    refine recordLaw_idle rfl (by simp) (fun lockout => ?_)
    exact cutWrites_record s (present (by simpa [cutWrites_control] using lockout))
  low _ h := recordLaw_congr h rfl rfl rfl rfl
  counts h := recordLaw_congr h rfl rfl rfl rfl

end Sys2Proof.Machine

/-! ### What a course does to the group records -/

namespace Sys2Proof.Machine

open Sys2Proof.Safety

theorem permit_of_loading {m : Mode} (loading : m = .loading) : m.permit = false := by rw [loading]; rfl

/-- What a course does to the group records under the tables in force: a target is rebuilt, a group is re-evaluated, a mode change shows all live groups
FLASH or STOP, new tables set all records anew, or they stay. -/
inductive Regrouped : State → State → Prop where
  | trans {s t u : State} (first : Regrouped s t) (second : Regrouped t u) : Regrouped s u
  | same {s t : State} (groups : t.engine.groups = s.engine.groups) (active : t.store.active = s.store.active)
      (permit : t.control.mode.permit = s.control.mode.permit) (loading : t.control.mode = .loading ↔ s.control.mode = .loading) : Regrouped s t
  | retargeted {s t : State} (g : Nat) (live : s.tables.live g = true) (target : Target) (source : Source)
      (groups : t.engine.groups = (setGroup g { s.group g with target := target, source := source } s).engine.groups)
      (active : t.store.active = s.store.active) (mode : t.control.mode = s.control.mode) : Regrouped s t
  | judged {s t : State} (g : Nat) (live : s.tables.live g = true) (plain : s.control.mode = .loading → (s.group g).source = .image)
      (groups : t.engine.groups = (setGroup g (s.judge g) s).engine.groups)
      (active : t.store.active = s.store.active) (mode : t.control.mode = s.control.mode) : Regrouped s t
  | flashed {s t : State} (groups : t.engine.groups = (showFlash s).engine.groups) (active : t.store.active = s.store.active)
      (before : s.control.mode.permit = true) (after : t.control.mode.permit = false) (loading : t.control.mode ≠ .loading) : Regrouped s t
  | stopped {s t : State} (groups : t.engine.groups = (showStop s).engine.groups) (active : t.store.active = s.store.active)
      (before : s.control.mode = .flash) (after : t.control.mode.permit = true) : Regrouped s t
  | retabled {s t : State} (u : State) (groups : t.engine.groups = (retableGroups u).engine.groups) (active : u.store.active = t.store.active)
      (orderly : t.tables.Orderly) (after : t.control.mode.permit = false) (loading : t.control.mode ≠ .loading) : Regrouped s t

theorem regrouped_kept {s t : State} (groups : t.engine.groups = s.engine.groups) (active : t.store.active = s.store.active)
    (mode : t.control.mode = s.control.mode) : Regrouped s t :=
  .same groups active (by rw [mode]) (by rw [mode])

/-- A move from one permit mode to another leaves the records. -/
theorem regrouped_permit {s t : State} (groups : t.engine.groups = s.engine.groups) (active : t.store.active = s.store.active)
    (before : s.control.mode.permit = true) (after : t.control.mode.permit = true) : Regrouped s t :=
  .same groups active (after.trans before.symm) (by simp [(permit_ne before).2.2, (permit_ne after).2.2])

theorem regrouped_rebuildGroup {s : State} {g : Nat} (live : s.tables.live g = true) : Regrouped s (rebuildGroup g s) := by
  unfold rebuildGroup
  dsimp only
  split
  · exact regrouped_kept rfl rfl rfl
  · exact .retargeted g live (s.effective g).1 (s.effective g).2 rfl rfl rfl

theorem regrouped_evaluate {s : State} (g : Nat) (plain : s.control.mode = .loading → (s.group g).source = .image) : Regrouped s (evaluate g s) := by
  by_cases live : s.tables.live g = true
  · exact .judged g live plain (by rw [evaluate_groups, if_pos live]) (by simp) (by simp)
  · unfold evaluate
    rw [if_neg live]
    exact regrouped_kept rfl rfl rfl

@[simp] theorem retablePlans_engine (s : State) : (retablePlans s).engine = s.engine := by simp

theorem takeLoaded_groups (s : State) : (takeLoaded s).engine.groups = (retableGroups s).engine.groups := by simp [takeLoaded]

theorem takeCommitted_groups (s : State) : (takeCommitted s).engine.groups = (retableGroups s).engine.groups := by
  simp only [takeCommitted, retablePlans_frame, retableDetectors_frame, retableProver_frame, retableBranches_frame]
  rfl

/-- Every course does one of these to the records. -/
theorem course_regrouped {s t : State} (course : Course s t) (law : tableLaw s = true) : Regrouped s t := by
  induction course with
  | trans first _ ih ih' => exact .trans (ih law) (ih' (course_tableLaw first law))
  | alike same =>
    obtain ⟨control, -, -, groups, store, -⟩ := same
    exact regrouped_kept groups (by rw [store]) (by rw [control])
  | rebuilt g live => exact regrouped_rebuildGroup live
  | evaluated g plain => exact regrouped_evaluate g plain
  | control x mode => exact regrouped_kept rfl rfl mode
  | left new cause record permit target =>
    refine .flashed (by rw [leavePermit_engine]) (by simp) permit ?_ ?_
    all_goals rcases target with ⟨rfl, -⟩ | ⟨rfl, -⟩ <;> simp [Mode.permit]
  | locked cause record flash => exact .same (by simp) (by simp) (by simp [changeFlashMode_record, flash, Mode.permit]) (by simp [changeFlashMode_record, flash])
  | started startChain flash => exact .stopped rfl rfl flash rfl
  | ran cause mode => exact regrouped_permit rfl rfl (by rcases mode with mode | mode <;> simp [mode, Mode.permit]) rfl
  | warned cause mode => exact regrouped_permit rfl rfl (by simp [mode, Mode.permit]) rfl
  | closing target cause mode =>
    exact regrouped_permit (by simp) (by simp) (by rcases mode with mode | mode | mode <;> simp [mode, Mode.permit]) (by rw [enterClosing_control]; rfl)
  | supervised mode =>
    rw [superviseClose_eq mode]
    exact regrouped_permit (by simp) (by simp) (by simp [mode, Mode.permit]) (by rw [enterClosing_control]; rfl)
  | @cleared s =>
    by_cases taken : s.control.maint = true ∧ s.control.mode = .lockout
    · exact .same (by simp) (by simp) (by simp [taken, Mode.permit]) (by simp [taken])
    · exact regrouped_kept (by simp) (by simp) (by simp [taken])
  | @loaded s nv mode =>
    have after := course_tableLaw (.loaded nv mode) law
    obtain ⟨-, reached, -⟩ := leaveLoading_mode (reportLoad (loadStore nv s))
    refine .retabled (leaveLoading (reportLoad (loadStore nv s))) (takeLoaded_groups _) (by simp only [takeLoaded_frame]) (orderly_of_tableLaw after) ?_ ?_
    all_goals
      simp only [takeLoaded_frame]
      rcases reached with ⟨mode, -⟩ | ⟨mode, -⟩ <;> simp [mode, Mode.permit]
  | @committed s op =>
    have after := course_tableLaw (.committed op) law
    have mode : (takeCommitted (endInvalid (activate s))).control.mode = s.control.mode := by simp only [takeCommitted_frame, endInvalid_frame]; rfl
    have edits : s.control.mode.edits = true := ((tableLaw_iff.mp law).2.2 op).1
    refine .retabled (endInvalid (activate s)) (takeCommitted_groups _) (by simp only [takeCommitted_frame]) (orderly_of_tableLaw after) ?_ ?_
    · rw [mode]; exact edits_not_permit edits
    · rw [mode]; intro loading; simp [loading, Mode.edits] at edits
  | failed => exact regrouped_kept rfl (by simp [tearCommit]) rfl
  | recorded | erased | edited | commits | inputs | exchange => exact regrouped_kept rfl rfl rfl
  | _ => exact regrouped_kept (by simp) (by simp) (by simp)

end Sys2Proof.Machine

/-! ### The first law: groups in conflict (R29) -/

namespace Sys2Proof.Machine

open Sys2Proof.Safety

/-- Of two groups in conflict never both are released. The 24 records are there, and the tables in force are orderly. -/
structure Exclusive (s : State) : Prop where
  orderly : s.tables.Orderly
  records : s.engine.groups.length = Config.groups
  alone : ∀ {i j}, s.tables.conflict i j = true → released s j = true → released s i = false

theorem Exclusive.congr {s t : State} (h : Exclusive s) (groups : t.engine.groups = s.engine.groups) (active : t.store.active = s.store.active) :
    Exclusive t := by
  have tables : t.tables = s.tables := tables_congr active
  have rel : ∀ g, released t g = released s g := fun g => released_congr (congrArg Group.shown (group_congr groups g))
  refine ⟨tables ▸ h.orderly, groups ▸ h.records, fun {i j} hc hj => ?_⟩
  rw [rel] at hj ⊢
  exact h.alone (tables ▸ hc) hj

/-- While no live group is released no two are. -/
theorem exclusive_of_stopped {s : State} (orderly : s.tables.Orderly) (records : s.engine.groups.length = Config.groups)
    (stopped : ∀ g, s.tables.live g = true → released s g = false) : Exclusive s :=
  ⟨orderly, records, fun hc _ => stopped _ (conflict_iff.mp hc).1⟩

theorem Exclusive.mem_range {s : State} (h : Exclusive s) {g : Nat} (live : s.tables.live g = true) : 1 ≤ g ∧ g ≤ s.engine.groups.length :=
  ⟨(live_iff.mp live).1, h.records ▸ h.orderly.live_le live⟩

/-- A live group may take a record if, where that is released, its rivals are not. -/
theorem Exclusive.setGroup {s : State} (h : Exclusive s) {g : Nat} (live : s.tables.live g = true) {x : Group}
    (alone : x.shown = .prepare ∨ x.shown = .go → ∀ i, s.tables.conflict i g = true → released s i = false) : Exclusive (setGroup g x s) := by
  obtain ⟨first, last⟩ := h.mem_range live
  have rel : ∀ k, released (Machine.setGroup g x s) k = true ↔ if k = g then x.shown = .prepare ∨ x.shown = .go else released s k = true := by
    intro k
    rw [released_iff, State.shown, setGroup_group first last x]
    split
    · rfl
    · exact released_iff.symm
  refine ⟨h.orderly, by simpa using h.records, fun {i j} hc hj => ?_⟩
  have hij : s.tables.conflict i j = true := hc
  rw [← Bool.not_eq_true, rel]
  rw [rel] at hj
  by_cases hjg : j = g
  · subst hjg
    have other : i ≠ j := by rintro rfl; simp [h.orderly.irrefl] at hij
    rw [if_pos rfl] at hj
    rw [if_neg other, alone hj i hij]
    exact Bool.false_ne_true
  · rw [if_neg hjg] at hj
    split
    · next hig =>
      subst hig
      intro hi
      simp [alone hi j (h.orderly.symm hij)] at hj
    · simp [h.alone hij hj]

/-- An evaluation admits a group only where no rival is released (R29). -/
theorem Exclusive.judge {s : State} (h : Exclusive s) {g : Nat} (live : s.tables.live g = true) : Exclusive (Machine.setGroup g (s.judge g) s) := by
  have outcome := judge_evaluated s g
  generalize s.judge g = y at outcome ⊢
  refine h.setGroup live (fun shown i hi => ?_)
  cases outcome with
  | stays same =>
    simp only [face, Prod.mk.injEq] at same
    rw [same.1] at shown
    exact h.alone hi (released_iff.mpr shown)
  | admitted verdict =>
    have free := (admission_eq_admitted.mp verdict i hi).1
    simp only [State.blocks, Bool.or_eq_false_iff] at free
    simpa [released] using free.1
  | prepared before => exact h.alone hi (released_iff.mpr (.inl before))
  | ended _ after => simp [after] at shown
  | stopped after => rcases after with after | after <;> simp [after] at shown

theorem Exclusive.regrouped {s t : State} (move : Regrouped s t) (h : Exclusive s) : Exclusive t := by
  induction move with
  | trans _ _ first second => exact second (first h)
  | same groups active => exact h.congr groups active
  | @retargeted s t g live target source groups active =>
    have moved : Exclusive (Machine.setGroup g { s.group g with target := target, source := source } s) :=
      h.setGroup live (fun shown i hi => h.alone hi (released_iff.mpr shown))
    exact moved.congr groups active
  | judged g live _ groups active => exact (h.judge live).congr groups active
  | @flashed s t groups active =>
    have flash : Exclusive (showFlash s) :=
      exclusive_of_stopped h.orderly (by simpa using h.records) (fun g live => by simp [released, showFlash_shown (s := s) (g := g) live])
    exact flash.congr groups active
  | @stopped s t groups active =>
    have stop : Exclusive (showStop s) := exclusive_of_stopped h.orderly (by simpa using h.records) (fun g live => by
      obtain ⟨first, last⟩ := h.mem_range (g := g) live
      simp [released, showStop_shown (s := s) (g := g) live first last])
    exact stop.congr groups active
  | @retabled s t u groups active orderly =>
    have tables : u.tables = t.tables := tables_congr active
    have renewed : Exclusive (retableGroups u) := exclusive_of_stopped (tables ▸ orderly : u.tables.Orderly) (by simp)
      (fun g live => by simp [released, retableGroups_shown (s := u) (g := g) live])
    exact renewed.congr groups active.symm

theorem Exclusive.countUnits {s : State} (h : Exclusive s) : Exclusive (Machine.countUnits s) := by
  have rel : ∀ {g}, s.tables.live g = true → released (Machine.countUnits s) g = released s g :=
    fun live => released_congr (by rw [countUnits_group (h.mem_range live).1 (h.mem_range live).2]; rfl)
  refine ⟨h.orderly, by simpa [Machine.countUnits] using h.records, fun {i j} hc hj => ?_⟩
  obtain ⟨hi, hlive, -⟩ := conflict_iff.mp hc
  rw [rel hlive] at hj
  rw [rel hi]
  exact h.alone hc hj

@[simp] theorem resetState_group (pending : List Instr) (lowFor drawn strikes : Nat) (nv : Nonvolatile) (g : Nat) :
    (resetState pending lowFor drawn strikes nv).group g = Group.reset := by
  rw [group_def]
  simp only [resetState, entry?]
  split
  · rfl
  · rw [List.getElem?_replicate]
    split <;> rfl

theorem exclusive_resetState (pending : List Instr) (lowFor drawn strikes : Nat) (nv : Nonvolatile) :
    Exclusive (resetState pending lowFor drawn strikes nv) :=
  exclusive_of_stopped orderly_emptySet rfl (fun g live => absurd live (by simp [State.tables, resetState, emptySet_live]))

theorem cutWrites_engine (s : State) : (cutWrites s).engine = s.engine ∧ (cutWrites s).store.active = s.store.active := by
  have torn : (tearCommit s).engine = s.engine ∧ (tearCommit s).store.active = s.store.active := by simp [tearCommit]
  have spoiled : ∀ u : State, (spoilErase u).engine = u.engine ∧ (spoilErase u).store.active = u.store.active := fun _ => ⟨rfl, rfl⟩
  unfold cutWrites
  dsimp only
  split <;> split
  · exact ⟨(spoiled _).1.trans torn.1, (spoiled _).2.trans torn.2⟩
  · exact spoiled s
  · exact torn
  · exact ⟨rfl, rfl⟩

/-- A law that a group move keeps, with the ninth law, is kept by every step. -/
theorem kept_grouped {P : State → Prop}
    (congr : ∀ {s t : State}, t.engine = s.engine → t.store.active = s.store.active → t.control.mode = s.control.mode → P s → P t)
    (regrouped : ∀ {s t}, Regrouped s t → P s → P t)
    (reset : ∀ pending lowFor drawn strikes nv, P (resetState pending lowFor drawn strikes nv)) (counts : ∀ {s}, P s → P (countUnits s)) :
    Kept (fun s => tableLaw s = true ∧ P s) where
  alike same h := ⟨kept_tableLaw.alike same h.1, regrouped (course_regrouped (.alike same) h.1) h.2⟩
  course up course h := ⟨kept_tableLaw.course up course h.1, regrouped (course_regrouped course h.1) h.2⟩
  reset lowFor strikes from' h := ⟨kept_tableLaw.reset lowFor strikes from' h.1, reset _ _ _ _ _⟩
  supply {s} h := by
    obtain ⟨engine, active⟩ := cutWrites_engine s
    refine ⟨kept_tableLaw.supply h.1, congr engine active ?_ h.2⟩
    show (cutWrites s).control.mode = s.control.mode
    rw [(cutWrites_control s).1]
  low {s} down h := ⟨kept_tableLaw.low down h.1, congr (s := s) (t := passLow s) rfl rfl rfl h.2⟩
  counts h := ⟨kept_tableLaw.counts h.1, counts h.2⟩

theorem kept_exclusive : Kept (fun s => tableLaw s = true ∧ Exclusive s) :=
  kept_grouped (fun engine active _ h => h.congr (congrArg Engine.groups engine) active) (fun move h => h.regrouped move)
    exclusive_resetState (fun h => h.countUnits)

theorem exclusive_iff {s : State} (orderly : s.tables.Orderly) (records : s.engine.groups.length = Config.groups) :
    Exclusive s ↔ exclusionLaw s = true := by
  rw [exclusionLaw_iff orderly]
  exact ⟨fun h _ _ => h.alone, fun alone => ⟨orderly, records, alone _ _⟩⟩

/-! ### The fourth law: what a mode shows (R1, R3, R4) -/

/-- The 24 records are there, and a live group is shown FLASH exactly outside the permit modes. -/
def Faced (s : State) : Prop :=
  s.engine.groups.length = Config.groups ∧ ∀ g, s.tables.live g = true → (s.shown g = .flash ↔ s.control.mode.permit = false)

theorem faced_iff {s : State} (orderly : s.tables.Orderly) : Faced s ↔ aspectLaw s = true := by
  have numbered : ∀ {g}, s.tables.live g = true → g ∈ groupNumbers :=
    fun live => mem_groupNumbers.mpr ⟨(live_iff.mp live).1, orderly.live_le live⟩
  simp only [Faced, aspectLaw, Bool.and_eq_true, decide_eq_true_eq, List.all_eq_true, Bool.or_eq_true, Bool.not_eq_true', beq_iff_eq, ← Bool.not_eq_true,
    ← imp_iff_not_or]
  have same : ∀ g, (decide (s.shown g = .flash) = !s.control.mode.permit) ↔ (s.shown g = .flash ↔ s.control.mode.permit = false) := by
    intro g
    cases s.control.mode.permit <;> simp
  simp only [same, Bool.not_eq_true]
  exact and_congr_right (fun _ => ⟨fun h g _ live => h g live, fun h g live => h g (numbered live) live⟩)

/-- An evaluation leaves FLASH alone and gives it to no other group (R16). -/
theorem judge_flash (s : State) (g : Nat) : (s.judge g).shown = .flash ↔ s.shown g = .flash := by
  rw [State.shown]
  cases shown : (s.group g).shown <;> simp only [State.judge, shown]
  all_goals repeat' split
  all_goals simp_all [Group.noted, Group.enter]

end Sys2Proof.Machine

namespace Sys2Proof.Machine

open Sys2Proof.Safety

/-! #### Entries of numbered lists -/

theorem entry?_mem {α : Type} {l : List α} {n : Nat} {x : α} (found : entry? l n = some x) : x ∈ l := by
  unfold entry? at found
  split at found
  · cases found
  · exact List.mem_of_getElem? found

theorem changeEntry_all {α : Type} {p : α → Prop} {f : α → α} {l : List α} {n : Nat} (changed : ∀ x, p x → p (f x)) (h : ∀ x ∈ l, p x) :
    ∀ x ∈ changeEntry l n f, p x := by
  unfold changeEntry
  split
  · exact h
  · intro x member
    obtain ⟨k, found⟩ := List.mem_iff_getElem?.mp member
    rw [List.getElem?_modify, Option.map_eq_map, Option.map_eq_some_iff] at found
    obtain ⟨y, old, rfl⟩ := found
    have holds := h y (List.mem_of_getElem? old)
    split
    · exact changed y holds
    · exact holds

theorem mem_of_mem_numberedEntries {α : Type} {l : List α} {n : Nat} {x : α} (h : (n, x) ∈ numberedEntries l) : x ∈ l :=
  (List.of_mem_zip h).2

/-- A record set is read back under its number, or nowhere. -/
theorem setGroup_cases (g : Nat) (x : Group) (s : State) (k : Nat) :
    (setGroup g x s).group k = s.group k ∨ k = g ∧ (setGroup g x s).group k = x := by
  by_cases number : k = g
  · subst number
    by_cases range : 1 ≤ k ∧ k ≤ s.engine.groups.length
    · exact .inr ⟨rfl, by rw [setGroup_group range.1 range.2, if_pos rfl]⟩
    · left
      rw [group_def, group_def]
      have absent : entry? s.engine.groups k = none := by
        simp only [entry?, ite_eq_left_iff, List.getElem?_eq_none_iff]
        omega
      simp [setGroup, entry?_changeEntry, absent]
  · exact .inl (setGroup_group_other number x)

/-- Every other record keeps what it shows in a flash transfer but the clearance clock (R17). -/
theorem showFlash_group_dead {s : State} {g : Nat} (dead : s.tables.live g = false) : (showFlash s).group g = { s.group g with clearance := 0 } := by
  rw [group_def, group_def]
  simp only [showFlash, entry?_map_numberedEntries, dead]
  cases entry? s.engine.groups g <;> rfl

theorem showStop_group_dead {s : State} {g : Nat} (dead : s.tables.live g = false) : (showStop s).group g = { s.group g with clearance := 0 } := by
  rw [group_def, group_def]
  simp only [showStop, entry?_map_numberedEntries, dead]
  cases entry? s.engine.groups g <;> rfl

theorem retableGroups_group {s : State} {g : Nat} (number : g ∈ groupNumbers) :
    (retableGroups s).group g = if s.tables.live g = true then Group.reset else Group.notLive := by
  rw [group_def]
  obtain ⟨first, last⟩ := mem_groupNumbers.mp number
  simp only [retableGroups, entry?_map_numbers]
  rw [if_pos ⟨first, last⟩]
  rfl

/-- The fourth law over orderly tables. -/
def FacedOrderly (s : State) : Prop := s.tables.Orderly ∧ Faced s

theorem FacedOrderly.congr {s t : State} (h : FacedOrderly s) (groups : t.engine.groups = s.engine.groups) (active : t.store.active = s.store.active)
    (permit : t.control.mode.permit = s.control.mode.permit) : FacedOrderly t := by
  have tables : t.tables = s.tables := tables_congr active
  obtain ⟨orderly, records, faced⟩ := h
  refine ⟨tables ▸ orderly, groups ▸ records, fun g live => ?_⟩
  rw [State.shown, group_congr groups, permit]
  exact faced g (tables ▸ live)

/-- A group may take a record that is shown FLASH where the group was. -/
theorem FacedOrderly.setGroup {s : State} (h : FacedOrderly s) {g : Nat} {x : Group} (same : x.shown = .flash ↔ s.shown g = .flash) :
    FacedOrderly (setGroup g x s) := by
  obtain ⟨orderly, records, faced⟩ := h
  refine ⟨orderly, by simpa using records, fun k live => ?_⟩
  rw [State.shown]
  rcases setGroup_cases g x s k with kept | ⟨rfl, set⟩
  · rw [kept]; exact faced k live
  · rw [set, same]; exact faced k live

theorem FacedOrderly.regrouped {s t : State} (move : Regrouped s t) (h : FacedOrderly s) : FacedOrderly t := by
  induction move with
  | trans _ _ first second => exact second (first h)
  | same groups active permit => exact h.congr groups active permit
  | retargeted g live target source groups active mode => exact (h.setGroup (g := g) (x := { State.group _ g with target := target, source := source }) Iff.rfl).congr groups active (congrArg Mode.permit mode)
  | judged g live _ groups active mode => exact (h.setGroup (judge_flash _ g)).congr groups active (congrArg Mode.permit mode)
  | @flashed s t groups active before after =>
    have tables : t.tables = s.tables := tables_congr active
    refine ⟨tables ▸ h.1, by rw [groups]; simpa using h.2.1, fun g live => ?_⟩
    rw [tables] at live
    simp only [State.shown, group_congr groups, after, iff_true]
    exact showFlash_shown live
  | @stopped s t groups active before after =>
    have tables : t.tables = s.tables := tables_congr active
    refine ⟨tables ▸ h.1, by rw [groups]; simpa using h.2.1, fun g live => ?_⟩
    rw [tables] at live
    have stop : (showStop s).shown g = .stop :=
      showStop_shown live (live_iff.mp live).1 (h.2.1 ▸ h.1.live_le live)
    rw [State.shown, group_congr groups, after, ← State.shown, stop]
    simp
  | @retabled s t u groups active orderly after =>
    have tables : u.tables = t.tables := tables_congr active
    refine ⟨orderly, by rw [groups]; simp, fun g live => ?_⟩
    rw [State.shown, group_congr groups, after]
    have flash : (retableGroups u).shown g = .flash := retableGroups_shown (tables ▸ live)
    rw [← State.shown, flash]
    simp

theorem countUnits_shown (s : State) (g : Nat) :
    (countUnits s).group g = (s.group g).count ∨ (countUnits s).group g = s.group g := by
  rw [group_def, group_def]
  simp only [countUnits, entry?_map]
  cases entry? s.engine.groups g with
  | none => exact .inr rfl
  | some x => exact .inl rfl

theorem FacedOrderly.countUnits {s : State} (h : FacedOrderly s) : FacedOrderly (Machine.countUnits s) := by
  refine ⟨h.1, by simpa [Machine.countUnits] using h.2.1, fun g live => ?_⟩
  have faced := h.2.2 g live
  rw [State.shown]
  rcases countUnits_shown s g with count | same
  · rw [count]; exact faced
  · rw [same]; exact faced

theorem facedOrderly_resetState (pending : List Instr) (lowFor drawn strikes : Nat) (nv : Nonvolatile) :
    FacedOrderly (resetState pending lowFor drawn strikes nv) :=
  ⟨orderly_emptySet, rfl, fun g _ => by rw [State.shown, resetState_group]; exact ⟨fun _ => rfl, fun _ => rfl⟩⟩

theorem kept_faced : Kept (fun s => tableLaw s = true ∧ FacedOrderly s) :=
  kept_grouped (fun engine active mode h => h.congr (congrArg Engine.groups engine) active (congrArg Mode.permit mode)) (fun move h => h.regrouped move)
    facedOrderly_resetState (fun h => h.countUnits)

/-! #### Groups above the number in use (R1, R4) -/

/-- The record of a group that is not in use: shown DARK, with target DARK and without note or deferral timer. -/
def Group.IsDark (x : Group) : Prop := x.shown = .dark ∧ x.target = .dark ∧ x.note = .none ∧ x.deferral = none

/-- In LOADING every group is shown FLASH without a note; in every other mode a group that is not live is dark. -/
structure Darkened (s : State) : Prop where
  loading : s.control.mode = .loading → ∀ g ∈ groupNumbers, (s.group g).shown = .flash ∧ (s.group g).note = .none
  dead : s.control.mode ≠ .loading → ∀ g ∈ groupNumbers, s.tables.live g = false → (s.group g).IsDark

theorem darkened_iff {s : State} : darkLaw s = true ↔ Darkened s := by
  have record : ∀ g, (decide ((s.group g).shown = .dark) && decide ((s.group g).target = .dark) && decide ((s.group g).note = .none)
      && (s.group g).deferral.isNone) = true ↔ (s.group g).IsDark := by
    intro g
    simp [Group.IsDark, and_assoc]
  unfold darkLaw
  by_cases loading : s.control.mode = .loading
  · simp only [loading, if_true, List.all_eq_true, Bool.and_eq_true, decide_eq_true_eq]
    exact ⟨fun h => ⟨fun _ => h, fun other => absurd loading other⟩, fun h => h.loading loading⟩
  · simp only [loading, if_false, List.all_eq_true, Bool.or_eq_true, record]
    refine ⟨fun h => ⟨fun now => absurd now loading, fun _ g number dead => ?_⟩, fun h g number => ?_⟩
    · exact (h g number).resolve_left (by simp [dead])
    · cases live : s.tables.live g with
      | true => exact .inl rfl
      | false => exact .inr (h.dead loading g number live)

theorem Darkened.congr {s t : State} (h : Darkened s) (groups : t.engine.groups = s.engine.groups) (active : t.store.active = s.store.active)
    (loading : t.control.mode = .loading ↔ s.control.mode = .loading) : Darkened t := by
  have tables : t.tables = s.tables := tables_congr active
  constructor
  · intro now g number
    rw [group_congr groups]
    exact h.loading (loading.mp now) g number
  · intro other g number dead
    rw [group_congr groups]
    exact h.dead (fun now => other (loading.mpr now)) g number (tables ▸ dead)

/-- A live group may take a record that is shown as before and, in LOADING, has no note. -/
theorem Darkened.setGroup {s : State} (h : Darkened s) {g : Nat} (live : s.tables.live g = true) {x : Group}
    (loading : s.control.mode = .loading → g ∈ groupNumbers → x.shown = .flash ∧ x.note = .none) : Darkened (setGroup g x s) := by
  constructor
  · intro now k number
    rcases setGroup_cases g x s k with kept | ⟨rfl, set⟩
    · rw [kept]; exact h.loading now k number
    · rw [set]; exact loading now number
  · intro other k number dead
    have dead : s.tables.live k = false := dead
    rw [setGroup_group_other (fun same => by simp [same ▸ dead] at live)]
    exact h.dead other k number dead

/-- A dark record stays dark when its clearance clock is reset. -/
theorem Group.IsDark.reset_clearance {x : Group} (h : x.IsDark) : Group.IsDark { x with clearance := 0 } := h

theorem Darkened.regrouped {s t : State} (move : Regrouped s t) (h : Darkened s) : Darkened t := by
  induction move with
  | trans _ _ first second => exact second (first h)
  | same groups active _ loading => exact h.congr groups active loading
  | @retargeted s t g live target source groups active mode =>
    have set := h.setGroup live (x := { s.group g with target := target, source := source }) (fun now number => h.loading now g number)
    exact set.congr groups active (by rw [mode]; rfl)
  | @judged s t g live plain groups active mode =>
    refine (h.setGroup live (fun now number => ?_)).congr groups active (by rw [mode]; rfl)
    obtain ⟨shown, -⟩ := h.loading now g number
    simp [State.judge, shown, Group.noted, plain now, Source.note]
  | @flashed s t groups active before after loading =>
    have tables : t.tables = s.tables := tables_congr active
    refine ⟨fun now => absurd now loading, fun _ g number dead => ?_⟩
    rw [tables] at dead
    rw [group_congr groups, showFlash_group_dead dead]
    exact (h.dead (permit_ne before).2.2 g number dead).reset_clearance
  | @stopped s t groups active before after =>
    have tables : t.tables = s.tables := tables_congr active
    refine ⟨fun now => absurd now (permit_ne after).2.2, fun _ g number dead => ?_⟩
    rw [tables] at dead
    rw [group_congr groups, showStop_group_dead dead]
    exact (h.dead (by simp [before]) g number dead).reset_clearance
  | @retabled s t u groups active orderly after loading =>
    have tables : u.tables = t.tables := tables_congr active
    refine ⟨fun now => absurd now loading, fun _ g number dead => ?_⟩
    rw [← tables] at dead
    rw [group_congr groups, retableGroups_group number, if_neg (by simp [dead])]
    exact ⟨rfl, rfl, rfl, rfl⟩

theorem Darkened.countUnits {s : State} (h : Darkened s) : Darkened (Machine.countUnits s) := by
  constructor
  · intro now g number
    rcases countUnits_shown s g with count | same
    · rw [count]; exact h.loading now g number
    · rw [same]; exact h.loading now g number
  · intro other g number dead
    have dark := h.dead other g number dead
    rcases countUnits_shown s g with count | same
    · rw [count]
      exact ⟨dark.1, dark.2.1, dark.2.2.1, by simp [Group.count, dark.2.2.2]⟩
    · rw [same]; exact dark

theorem kept_darkened : Kept (fun s => tableLaw s = true ∧ Darkened s) :=
  kept_grouped (fun engine active mode h => h.congr (congrArg Engine.groups engine) active (by rw [mode])) (fun move h => h.regrouped move)
    (fun _ _ _ _ _ => ⟨fun _ g _ => by simp [Group.reset], fun other => absurd rfl other⟩) (fun h => h.countUnits)

/-! ### The fifth law: note DEFERRED and the deferral timer (R6) -/

/-- The note is DEFERRED exactly while the deferral timer is present. -/
def Group.Waits (x : Group) : Prop := x.note = .deferred ↔ x.deferral.isSome = true

theorem deferralLaw_iff {s : State} : deferralLaw s = true ↔ ∀ x ∈ s.engine.groups, x.Waits := by
  have record : ∀ x : Group, (decide (x.note = .deferred) == x.deferral.isSome) = true ↔ x.Waits := by
    intro x
    unfold Group.Waits
    cases x.deferral.isSome <;> simp
  simp [deferralLaw, record]

theorem source_note (x : Source) : x.note ≠ .deferred := by cases x <;> simp [Source.note]

theorem waits_noted (x : Group) {n : Note} (other : n ≠ .deferred) : (x.noted n).Waits := by simp [Group.Waits, Group.noted, other]

theorem waits_enter (x : Group) (a : Aspect) : (x.enter a).Waits := by simp [Group.Waits, Group.enter, source_note]

theorem waits_judge (s : State) (g : Nat) : (s.judge g).Waits := by
  cases shown : (s.group g).shown <;> simp only [State.judge, shown]
  all_goals repeat' split
  all_goals simp [Group.Waits, Group.noted, Group.enter, source_note]

theorem waits_group {s : State} (h : ∀ x ∈ s.engine.groups, x.Waits) (g : Nat) : (s.group g).Waits := by
  rw [group_def]
  cases found : entry? s.engine.groups g with
  | none => simp [Group.Waits, Group.reset]
  | some x => exact h x (entry?_mem found)

theorem waits_setGroup {s : State} (h : ∀ x ∈ s.engine.groups, x.Waits) {g : Nat} {y : Group} (waits : y.Waits) :
    ∀ x ∈ (setGroup g y s).engine.groups, x.Waits :=
  changeEntry_all (fun _ _ => waits) h

theorem waits_showFlash {s : State} (h : ∀ x ∈ s.engine.groups, x.Waits) : ∀ x ∈ (showFlash s).engine.groups, x.Waits := by
  simp only [showFlash, List.forall_mem_map]
  rintro ⟨g, x⟩ member
  dsimp only
  split
  · simp [Group.Waits, Group.reset]
  · exact h x (mem_of_mem_numberedEntries member)

theorem waits_showStop {s : State} (h : ∀ x ∈ s.engine.groups, x.Waits) : ∀ x ∈ (showStop s).engine.groups, x.Waits := by
  simp only [showStop, List.forall_mem_map]
  rintro ⟨g, x⟩ member
  dsimp only
  split
  · simp [Group.Waits, Group.reset]
  · exact h x (mem_of_mem_numberedEntries member)

theorem waits_retableGroups (s : State) : ∀ x ∈ (retableGroups s).engine.groups, x.Waits := by
  simp only [retableGroups, List.forall_mem_map]
  intro g _
  split <;> simp [Group.Waits, Group.reset, Group.notLive]

theorem rebuildGroup_groups (g : Nat) (s : State) :
    (rebuildGroup g s).engine.groups = s.engine.groups
      ∨ (rebuildGroup g s).engine.groups
        = (setGroup g { s.group g with target := (s.effective g).1, source := (s.effective g).2 } s).engine.groups := by
  unfold rebuildGroup
  dsimp only
  split
  · exact .inl rfl
  · exact .inr rfl

theorem course_waits {s t : State} (course : Course s t) (h : ∀ x ∈ s.engine.groups, x.Waits) : ∀ x ∈ t.engine.groups, x.Waits := by
  induction course with
  | trans _ _ first second => exact second (first h)
  | alike same => rwa [same.2.2.2.1]
  | @rebuilt s g =>
    rcases rebuildGroup_groups g s with same | set
    · rwa [same]
    · rw [set]
      exact waits_setGroup h (waits_group h g)
  | @evaluated s g =>
    rw [evaluate_groups]
    split
    · exact waits_setGroup h (waits_judge s g)
    · exact h
  | left => rw [leavePermit_engine]; exact waits_showFlash h
  | started => exact waits_showStop (s := setMode .start .modRun _) h
  | loaded => rw [takeLoaded_groups]; exact waits_retableGroups _
  | committed => rw [takeCommitted_groups]; exact waits_retableGroups _
  | supervised mode => rw [superviseClose_eq mode]; simpa using h
  | failed | recorded | erased | edited | commits | inputs | exchange | control => exact h
  | _ => simpa using h

theorem kept_deferralLaw : Kept (deferralLaw · = true) where
  alike same h := deferralLaw_iff.mpr (course_waits (.alike same) (deferralLaw_iff.mp h))
  course _ course h := deferralLaw_iff.mpr (course_waits course (deferralLaw_iff.mp h))
  reset _ _ _ _ := rfl
  supply {s} h := by
    rw [deferralLaw_iff] at h ⊢
    have same : (cutWrites s).engine = s.engine := (cutWrites_engine s).1
    exact fun x member => h x (same ▸ member)
  low _ h := h
  counts {s} h := by
    rw [deferralLaw_iff] at h ⊢
    simp only [countUnits, List.forall_mem_map]
    intro x member
    have waits := h x member
    simpa [Group.Waits, Group.count] using waits

end Sys2Proof.Machine

/-! ### Settled: laws of the groups, the strike count, RUNPERMIT and the tables -/

namespace Sys2Proof.Proofs

open Sys2Proof Sys2Proof.Machine Sys2Proof.Safety

theorem aspectLaw_records {s : State} (aspects : aspectLaw s = true) : s.engine.groups.length = Config.groups := by
  simp only [aspectLaw, Bool.and_eq_true, decide_eq_true_eq] at aspects
  exact aspects.1

/-- Settles O6. A group is admitted only where no group in conflict with it is released, and every other move releases none. -/
theorem stepKeepsExclusion : Obligations.StepKeepsExclusion := by
  unfold Obligations.StepKeepsExclusion
  intro s t tables aspects exclusion ran
  have before : Exclusive s := (exclusive_iff (orderly_of_tableLaw tables) (aspectLaw_records aspects)).mpr exclusion
  obtain ⟨-, after⟩ := kept_exclusive.step ran ⟨tables, before⟩
  exact (exclusive_iff after.orderly after.records).mp after

/-- Settles O7: the clearance clocks are the second half of the separation that every step keeps. -/
theorem stepKeepsIntergreens : Obligations.StepKeepsIntergreens := by
  unfold Obligations.StepKeepsIntergreens
  intro s t tables aspects exclusion intergreens ran
  have separated := (separated_of_laws tables aspects exclusion intergreens).step tables ran
  exact ((separated_iff separated.orderly separated.records).mp separated).2

/-- Settles O9, from what each course does to the mode and to the line. -/
theorem stepKeepsRunpermitLaw : Obligations.StepKeepsRunpermitLaw := by
  unfold Obligations.StepKeepsRunpermitLaw
  exact fun s t law ran => kept_permitLaw.step ran law

/-- Settles O10. The groups are shown FLASH by the transfers to a flash mode and STOP by START entry, and no evaluation gives or takes FLASH; records of
groups that are not live are set by the tables alone. -/
theorem stepKeepsAspectLaw : Obligations.StepKeepsAspectLaw := by
  unfold Obligations.StepKeepsAspectLaw
  intro s t tables aspects ran
  have orderly := orderly_of_tableLaw tables
  obtain ⟨-, orderly', faced⟩ := kept_faced.step ran ⟨tables, orderly, (faced_iff orderly).mpr aspects⟩
  refine ⟨(faced_iff orderly').mp faced, fun dark => ?_⟩
  exact darkened_iff.mpr (kept_darkened.step ran ⟨tables, darkened_iff.mp dark⟩).2

/-- Settles O11: every way in which a record is set puts the note and the deferral timer together. -/
theorem stepKeepsDeferralLaw : Obligations.StepKeepsDeferralLaw := by
  unfold Obligations.StepKeepsDeferralLaw
  exact fun s t law ran => kept_deferralLaw.step ran law

/-- Settles O14. Two strikes are reached at the end of the warning window alone, which begins a close toward LOCKOUT. -/
theorem stepKeepsStrikeLaw : Obligations.StepKeepsStrikeLaw := by
  unfold Obligations.StepKeepsStrikeLaw
  exact fun s t law ran => kept_strikeLaw.step ran law

/-- Settles O15. The active tables come from a load that passed or from a commit whose working copy passed, and START is entered with tables alone. -/
theorem stepKeepsTableLaw : Obligations.StepKeepsTableLaw := by
  unfold Obligations.StepKeepsTableLaw
  exact fun s t law ran => kept_tableLaw.step ran law

end Sys2Proof.Proofs

/-! ### The sixth law: the plan stack (R93) -/

namespace Sys2Proof.Machine

open Sys2Proof.Safety

/-! #### What the operations of the unit do to the stack and to the requests -/

/-- What the unit keeps for a plan after a change to plan `p`: as before, or changed where it is that plan. -/
theorem changePlan_plan (p : Nat) (f : PlanState → PlanState) (s : State) (q : Nat) :
    (changePlan p f s).plan q = s.plan q ∨ q = p ∧ (changePlan p f s).plan q = f (s.plan q) := by
  simp only [State.plan, entryD, changePlan, entry?_changeEntry]
  split
  · next same =>
    cases entry? s.preempt.plans q with
    | none => exact .inl rfl
    | some x => exact .inr ⟨same, rfl⟩
  · exact .inl rfl

@[simp] theorem refreshRequest_stack (p : Nat) (s : State) : (refreshRequest p s).preempt.stack = s.preempt.stack := by
  unfold refreshRequest
  dsimp only
  split <;> rfl

@[simp] theorem setSource_stack (active : Bool) (p : Nat) (s : State) : (setSource active p s).preempt.stack = s.preempt.stack := by
  simp [setSource]

@[simp] theorem emptySlot_stack (s : State) : (emptySlot s).preempt.stack = s.preempt.stack := by
  unfold emptySlot
  split
  · exact setSource_stack _ _ _
  · rfl

@[simp] theorem unstack_stack (p : Nat) (outcome : PlanOutcome) (s : State) :
    (unstack p outcome s).preempt.stack = s.preempt.stack.filter (fun x => decide (x.plan ≠ p)) := by
  unfold unstack
  dsimp only
  split <;> simp

/-- A mode change that clears the stack leaves none on it (R104). -/
@[simp] theorem clearStack_stack (s : State) : (clearStack s).preempt.stack = [] := by
  have each : ∀ (l : List Nat) (u : State), (eachOf l (fun p => unstack p .cleared) u).preempt.stack
      = u.preempt.stack.filter (fun x => decide (x.plan ∉ l)) := by
    intro l
    induction l with
    | nil => intro u; simp [eachOf]
    | cons p l ih =>
      intro u
      show (eachOf l _ (unstack p .cleared u)).preempt.stack = _
      rw [ih, unstack_stack, List.filter_filter]
      refine List.filter_congr (fun x _ => ?_)
      by_cases same : x.plan = p <;> simp [same]
  rw [clearStack, each, List.filter_eq_nil_iff]
  intro x member
  simpa using ⟨x, member, rfl⟩

@[simp] theorem plansFlash_stack (s : State) : (plansFlash s).preempt.stack = [] := by
  unfold plansFlash
  refine eachOf_holds (fun u => u.preempt.stack = []) _ (fun p u empty => ?_) _ _ (by simp)
  simpa using empty

theorem leavePermit_stack (new : Mode) (cause : Cause) (record : Option (FaultKind × Option Nat)) (s : State) :
    (leavePermit new cause record s).preempt.stack = [] := by
  simp [leavePermit]

theorem enterClosing_stack (target : CloseTarget) (cause : CloseCause) (s : State) : (enterClosing target cause s).preempt.stack = [] := by
  simp [enterClosing, plansClosing]

@[simp] theorem retablePlans_stack (s : State) : (retablePlans s).preempt.stack = s.preempt.stack := by
  unfold retablePlans
  exact eachOf_keeps (fun u => u.preempt.stack) _ (fun p u => by simp [changePlan]) _ s

/-! #### The law -/

/-- What the law says of each stacked plan. -/
def State.StackedWell (s : State) (x : Stacked) : Prop :=
  (1 ≤ x.plan ∧ x.plan ≤ 8) ∧ countsOfPhase x = true ∧ (s.tables.plan x.plan).on = true ∧ (s.plan x.plan).pending = false

theorem stackLaw_iff {s : State} :
    stackLaw s = true ↔ s.preempt.stack.length ≤ 4 ∧ s.preempt.stack.Pairwise (fun a b => a.plan < b.plan)
      ∧ (s.control.mode.admits = true ∨ s.preempt.stack = []) ∧ ∀ x ∈ s.preempt.stack, s.StackedWell x := by
  simp only [stackLaw, within, State.StackedWell, and_assoc, Bool.and_eq_true, decide_eq_true_eq,
    List.all_eq_true, Bool.or_eq_true, List.isEmpty_iff, Bool.not_eq_true']
  rfl

theorem stackLaw_of_empty {t : State} (empty : t.preempt.stack = []) : stackLaw t = true := by
  rw [stackLaw_iff]
  simp [empty]

theorem stack_of_mode {s : State} (h : stackLaw s = true) (mode : s.control.mode.admits = false) : s.preempt.stack = [] := by
  obtain ⟨-, -, empty, -⟩ := stackLaw_iff.mp h
  exact empty.resolve_left (by simp [mode])

theorem stackLaw_congr {s t : State} (h : stackLaw s = true) (stack : t.preempt.stack = s.preempt.stack) (plans : t.preempt.plans = s.preempt.plans)
    (active : t.store.active = s.store.active) (mode : t.control.mode.admits = s.control.mode.admits) : stackLaw t = true := by
  have plan : ∀ p, t.plan p = s.plan p := fun p => by rw [State.plan, plans, State.plan]
  simp only [stackLaw_iff, State.StackedWell, stack, mode, tables_congr active, plan] at h ⊢
  exact h

/-- A change of what the unit keeps for a plan, where it makes no stacked plan PENDING. -/
theorem stackLaw_changePlan {s : State} {p : Nat} {f : PlanState → PlanState} (h : stackLaw s = true)
    (kept : ∀ x, (f x).pending = true → x.pending = true ∨ s.stacked p = false) : stackLaw (changePlan p f s) = true := by
  obtain ⟨depth, ordered, mode, each⟩ := stackLaw_iff.mp h
  refine stackLaw_iff.mpr ⟨depth, ordered, mode, fun x member => ?_⟩
  obtain ⟨number, counts, on, idle⟩ := each x member
  refine ⟨number, counts, on, ?_⟩
  rcases changePlan_plan p f s x.plan with same | ⟨own, changed⟩
  · rw [same]; exact idle
  · rw [changed]
    by_contra pending
    rcases kept _ (Bool.eq_true_of_not_eq_false pending) with was | free
    · simp [idle] at was
    · rw [State.stacked, List.any_eq_false] at free
      exact free x member (by simp [own])

/-- A plan is taken only over an empty stack or a top with a larger number (R94, R96). -/
theorem stackLaw_takePlan {s : State} {p : Nat} (h : stackLaw s = true) (number : p ∈ planNumbers) (wants : s.wantsTaking p = true)
    (depth : s.preempt.stack.length < Config.stackDepth) (admits : s.control.mode.admits = true) : stackLaw (takePlan p s) = true := by
  obtain ⟨-, ordered, -, each⟩ := stackLaw_iff.mp h
  simp only [State.wantsTaking, Bool.and_eq_true] at wants
  obtain ⟨⟨⟨-, on⟩, -⟩, above⟩ := wants
  have lower : ∀ x ∈ s.preempt.stack, p < x.plan := by
    cases stack : s.preempt.stack with
    | nil => simp
    | cons top rest =>
      rw [stack] at ordered above
      have below := (List.pairwise_cons.mp ordered).1
      simp only [decide_eq_true_eq] at above
      intro x member
      rcases List.mem_cons.mp member with rfl | member
      · exact above
      · exact lt_trans above (below x member)
  have idle : ∀ q, ((takePlan p s).plan q).pending = true → (s.plan q).pending = true ∧ q ≠ p := by
    intro q pending
    by_cases same : q = p
    · subst same
      have range : 1 ≤ q ∧ q ≤ 8 := mem_numbers.mp number
      simp only [takePlan, changePlan, State.plan, entryD, entry?_changeEntry, if_true] at pending
      cases found : entry? s.preempt.plans q <;> simp [found, PlanState.reset] at pending
    · refine ⟨?_, same⟩
      rcases changePlan_plan p (fun x => { x with pending := false, limitReported := false })
        { s with preempt.stack := { plan := p, phase := .delay, delay := some (s.tables.plan p).delayUnits, dwell := none,
                                    duration := (s.tables.plan p).durationUnits } :: s.preempt.stack } q with kept | ⟨own, -⟩
      · rw [takePlan, kept] at pending; exact pending
      · exact absurd own same
  refine stackLaw_iff.mpr ⟨depth, List.pairwise_cons.mpr ⟨lower, ordered⟩, .inl admits, fun x member => ?_⟩
  rcases List.mem_cons.mp member with rfl | member
  · refine ⟨mem_numbers.mp number, rfl, on, ?_⟩
    by_contra pending
    exact (idle p (Bool.eq_true_of_not_eq_false pending)).2 rfl
  · obtain ⟨range, counts, on, was⟩ := each x member
    refine ⟨range, counts, on, ?_⟩
    by_contra pending
    have before := (idle x.plan (Bool.eq_true_of_not_eq_false pending)).1
    simp [was] at before

/-- The top plan goes on to a phase with the counts of that phase (R97 to R99). -/
theorem stackLaw_changeTop {s : State} {f : Stacked → Stacked} (h : stackLaw s = true)
    (counts : ∀ top rest, s.preempt.stack = top :: rest → countsOfPhase top = true → (f top).plan = top.plan ∧ countsOfPhase (f top) = true) :
    stackLaw (changeTop f s) = true := by
  cases stack : s.preempt.stack with
  | nil => simpa [changeTop, stack] using h
  | cons top rest =>
    obtain ⟨depth, ordered, mode, each⟩ := stackLaw_iff.mp h
    rw [stack] at depth ordered each
    obtain ⟨first, later⟩ := List.pairwise_cons.mp ordered
    obtain ⟨range, held, on, idle⟩ := each top List.mem_cons_self
    obtain ⟨plan, held'⟩ := counts top rest stack held
    simp only [changeTop, stack]
    refine stackLaw_iff.mpr ⟨depth, List.pairwise_cons.mpr ⟨fun x member => plan ▸ first x member, later⟩, .inl ?_, fun x member => ?_⟩
    · exact mode.resolve_right (by simp [stack])
    · rcases List.mem_cons.mp member with rfl | member
      · exact ⟨plan ▸ range, held', plan ▸ on, plan ▸ idle⟩
      · exact each x (List.mem_cons_of_mem _ member)

theorem clearStrikes_preempt (s : State) : (clearStrikes s).preempt = s.preempt := by
  unfold clearStrikes
  dsimp only
  repeat' split
  all_goals simp

theorem course_stackLaw {s t : State} (course : Course s t) (law : tableLaw s = true) (h : stackLaw s = true) : stackLaw t = true := by
  induction course with
  | trans first _ ih ih' => exact ih' (course_tableLaw first law) (ih law h)
  | alike same =>
    obtain ⟨control, -, preempt, -, store, -⟩ := same
    exact stackLaw_congr h (by rw [preempt]) (by rw [preempt]) (by rw [store]) (by rw [control])
  | plan p f kept => exact stackLaw_changePlan h kept
  | inputs q stack plans => exact stackLaw_congr h stack plans rfl rfl
  | @dropped s p =>
    obtain ⟨depth, ordered, mode, each⟩ := stackLaw_iff.mp h
    refine stackLaw_iff.mpr ⟨le_trans (List.length_filter_le _ _) depth, ordered.filter _, ?_, fun x member => ?_⟩
    · exact mode.imp_right (fun empty => by simp [empty])
    · exact each x (List.mem_of_mem_filter member)
  | taken p number wants depth admits => exact stackLaw_takePlan h number wants depth admits
  | topped f counts => exact stackLaw_changeTop h counts
  | control x mode => exact stackLaw_congr h rfl rfl rfl (by rw [mode])
  | left => exact stackLaw_of_empty (leavePermit_stack _ _ _ _)
  | locked cause record flash => exact stackLaw_of_empty (by simpa using stack_of_mode h (by simp [flash, Mode.admits]))
  | @started s startChain flash => exact stackLaw_of_empty (stack_of_mode (s := s) h (by simp [flash, Mode.admits]))
  | @ran s cause mode =>
    rcases mode with mode | mode
    · exact stackLaw_of_empty (stack_of_mode (s := s) h (by simp [mode, Mode.admits]))
    · exact stackLaw_congr h rfl rfl rfl (by simp [mode, Mode.admits])
  | warned cause mode => exact stackLaw_congr h rfl rfl rfl (by simp [mode, Mode.admits])
  | closing => exact stackLaw_of_empty (enterClosing_stack _ _ _)
  | supervised mode => rw [superviseClose_eq mode]; exact stackLaw_of_empty (enterClosing_stack _ _ _)
  | @cleared s =>
    refine stackLaw_congr h (by rw [clearStrikes_preempt]) (by rw [clearStrikes_preempt]) (by simp) ?_
    rw [clearStrikes_mode]
    split
    · next taken => simp [taken, Mode.admits]
    · rfl
  | @loaded s nv mode =>
    have empty := stack_of_mode h (by simp [mode, Mode.admits])
    obtain ⟨-, -, preempt, -⟩ := alike_reportLoad (loadStore nv s)
    refine stackLaw_of_empty ?_
    simp only [takeLoaded, retablePlans_stack, loadDetectors_frame, loadBranches_frame, retableGroups_frame, leaveLoading_frame, preempt]
    exact empty
  | @committed s op =>
    obtain ⟨-, -, commit⟩ := tableLaw_iff.mp law
    have empty : s.preempt.stack = [] := stack_of_mode h (by
      have edits := (commit op).1
      cases mode : s.control.mode <;> simp_all [Mode.edits, Mode.admits])
    refine stackLaw_of_empty ?_
    simp only [takeCommitted, retablePlans_stack, retableDetectors_frame, retableProver_frame, retableBranches_frame]
    simpa [retableGroups, activate] using empty
  | failed => exact stackLaw_congr h rfl rfl (by simp [tearCommit]) rfl
  | recorded | erased | edited | commits | exchange => exact stackLaw_congr h rfl rfl rfl rfl
  | _ => exact stackLaw_congr h (by simp) (by simp) (by simp) (by simp)

/-- The counts of the stack leave plans, phases and which counts there are (R97 to R100). -/
theorem countStack_map (stack : List Stacked) :
    (countStack stack).map (fun x => (x.plan, countsOfPhase x)) = stack.map (fun x => (x.plan, countsOfPhase x)) := by
  cases stack with
  | nil => rfl
  | cons top rest =>
    simp [countStack, Stacked.countDuration, Stacked.countTop, countsOfPhase, Function.comp_def]
    exact fun _ _ => rfl

theorem stackLaw_counts {s : State} (h : stackLaw s = true) : stackLaw (countUnits s) = true := by
  obtain ⟨depth, ordered, mode, each⟩ := stackLaw_iff.mp h
  have same := countStack_map s.preempt.stack
  have plans : (countStack s.preempt.stack).map Stacked.plan = s.preempt.stack.map Stacked.plan := by
    have := congrArg (List.map Prod.fst) same
    simpa [Function.comp_def] using this
  refine stackLaw_iff.mpr ⟨?_, ?_, mode.imp_right (fun empty => ?_), fun x member => ?_⟩
  · have := congrArg List.length plans
    simp only [List.length_map] at this
    exact this.trans_le depth
  · have := List.pairwise_map.mpr ordered
    rw [← plans] at this
    exact List.pairwise_map.mp this
  · show countStack s.preempt.stack = []
    rw [empty]; rfl
  · have : (x.plan, countsOfPhase x) ∈ s.preempt.stack.map (fun x => (x.plan, countsOfPhase x)) := same ▸ List.mem_map_of_mem member
    obtain ⟨y, there, pair⟩ := List.mem_map.mp this
    simp only [Prod.mk.injEq] at pair
    obtain ⟨range, held, on, idle⟩ := each y there
    rw [pair.1] at range on idle
    exact ⟨range, pair.2 ▸ held, on, idle⟩

theorem kept_stackLaw : Kept (fun s => tableLaw s = true ∧ stackLaw s = true) where
  alike same h := ⟨kept_tableLaw.alike same h.1, course_stackLaw (.alike same) h.1 h.2⟩
  course up course h := ⟨kept_tableLaw.course up course h.1, course_stackLaw course h.1 h.2⟩
  reset lowFor strikes from' h := ⟨kept_tableLaw.reset lowFor strikes from' h.1, stackLaw_of_empty rfl⟩
  supply {s} h := by
    refine ⟨kept_tableLaw.supply h.1, ?_⟩
    obtain ⟨control, -, preempt⟩ := cutWrites_control s
    refine stackLaw_congr h.2 (congrArg Preemption.stack preempt) (congrArg Preemption.plans preempt) (cutWrites_engine s).2 ?_
    show (cutWrites s).control.mode.admits = s.control.mode.admits
    rw [control]
  low {s} down h := ⟨kept_tableLaw.low down h.1, stackLaw_congr (s := s) h.2 rfl rfl rfl rfl⟩
  counts h := ⟨kept_tableLaw.counts h.1, stackLaw_counts h.2⟩

end Sys2Proof.Machine

namespace Sys2Proof.Proofs

open Sys2Proof Sys2Proof.Machine Sys2Proof.Safety

/-- Settles O12: a plan is taken over larger numbers below the depth limit, goes from phase to phase with its counts, and no mode but RUNNING and
WARNING keeps the stack. -/
theorem stepKeepsStackLaw : Obligations.StepKeepsStackLaw := by
  unfold Obligations.StepKeepsStackLaw
  exact fun s t tables law ran => (kept_stackLaw.step ran ⟨tables, law⟩).2

end Sys2Proof.Proofs

/-! ### Commands that are events and commands that are not -/

namespace Sys2Proof.Machine

open Sys2Proof.Safety

/-- A command that concerns the lines alone: the controller link, the branches and the MAINT state. -/
def Quiet (s t : State) : Prop :=
  t = { s with link := t.link, branches := t.branches, control.maint := t.control.maint }

theorem quiet_refl (s : State) : Quiet s s := rfl

/-- The command is an event with some effect and an answer, or concerns the lines alone. -/
def Eventful (s : State) (o : Host.Outcome State Fault Refusal) : Prop :=
  ∀ t, o = .next t → Quiet s t ∨ ∃ effect answer, onlyLink answer ∧ t = asEvent effect answer s

theorem eventful_whileUp {s : State} {effect : State → State}
    (h : Quiet s (effect s) ∨ ∃ own answer, onlyLink answer ∧ effect s = asEvent own answer s) : Eventful s (.next (whileUp effect s)) := by
  rintro t ⟨⟩
  unfold whileUp
  split
  · exact h
  · exact .inl (quiet_refl s)

theorem eventful_event (effect : State → State) (s : State) : Eventful s (eventOutcome effect s) :=
  eventful_whileUp (.inr ⟨effect, id, id_onlyLink, rfl⟩)

theorem eventful_frame {effect answer : State → State} {s : State} (only : onlyLink answer) : Eventful s (frameOutcome effect answer s) := by
  refine eventful_whileUp ?_
  split
  · exact .inr ⟨effect, answer, only, rfl⟩
  · exact .inl rfl

theorem eventful_exec (c : Instr) (s : State) (reset : isReset c = false) (supply : c ≠ .supplyLoss) : Eventful s (exec c s) := by
  cases c with
  | powerOnReset => cases reset
  | nreset => cases reset
  | supplyLoss => exact absurd rfl supply
  | img => exact eventful_frame (fun _ => rfl)
  | calCall | calCancel | modRun | modFlash | twr | trd | tcm | tds | unknownKindFrame => exact eventful_frame (reply_onlyLink _ _ _)
  | sta => exact eventful_frame (fun _ => rfl)
  | fcl =>
    refine eventful_frame ?_
    dsimp only
    split <;> exact reply_onlyLink _ _ _
  | fwd =>
    refine eventful_frame ?_
    dsimp only
    split
    · exact send_onlyLink _
    · exact id_onlyLink
  | damagedFrame | outgoingFrameSent | branchFrameDiscarded => exact eventful_whileUp (.inl rfl)
  | maintStateChange => exact eventful_whileUp (.inl (by split <;> rfl))
  | idleGap => exact eventful_whileUp (.inl (by split <;> rfl))
  | fwrReceived branch station payload =>
    refine eventful_whileUp (.inr ?_)
    cases s.forwardTag branch station with
    | some tag => exact ⟨_, _, send_onlyLink _, rfl⟩
    | none => exact ⟨_, _, id_onlyLink, rfl⟩
  | forwardAnswerTimeout branch =>
    refine eventful_whileUp ?_
    split
    · exact .inr ⟨_, _, send_onlyLink _, rfl⟩
    · exact .inl rfl
  | tableLoadEnd | commitCompletion | commitWriteFailure | recordWriteCompletion | recordWriteFailure | recordEraseCompletion | recordEraseFailure
  | peLineChange | startUpStopTimerExpiry | supervisionTimerExpiry | warningWindowExpiry | endOfPrepare | endOfClear | minimumGoReached
  | minimumStopReached | deferralTimerExpiry | planDelayEnd | planDwellEnd | planDurationExpiry | branchTransmissionEnd | lstReceived | dsmReceived
  | sstReceived | pollAnswerTimeout | repollTimerExpiry | stuckDeadlineExpiry | idleDeadlineExpiry => exact eventful_event _ s

/-! ### The seventh law: the effective requested image (R7 to R9) -/

/-- Every live group has the target and the source that the effective requested image gives. -/
def Aimed (s : State) : Prop :=
  ∀ g, inService s g = true → (s.group g).target = (s.effective g).1 ∧ (s.group g).source = (s.effective g).2

/-- The seventh law by the model's own function: the effective requested image in RUNNING and WARNING, and STOP in every other mode. -/
def Intended (s : State) : Prop :=
  ∀ g, inService s g = true →
    (s.control.mode.admits = false → (s.group g).target = .stop)
      ∧ (s.control.mode.admits = true → (s.group g).target = (s.effective g).1 ∧ (s.group g).source = (s.effective g).2)

theorem Aimed.intended {s : State} (h : Aimed s) : Intended s := by
  intro g service
  obtain ⟨target, source⟩ := h g service
  refine ⟨fun rest => ?_, fun _ => ⟨target, source⟩⟩
  rw [target, State.effective, rest]
  rfl

/-- The parts of the state that the effective requested image reads. -/
theorem effective_congr {s t : State} (control : t.control.mode = s.control.mode) (stack : t.preempt.stack = s.preempt.stack)
    (accepted : t.exchange.accepted = s.exchange.accepted) (active : t.store.active = s.store.active) (g : Nat) : t.effective g = s.effective g := by
  have tables : t.tables = s.tables := tables_congr active
  have overlay : t.overlay = s.overlay := by simp only [State.overlay, control, stack, tables]
  have image : ∀ k, t.imageTarget k = s.imageTarget k := fun k => by simp only [State.imageTarget, accepted]
  have asks : t.asksGo = s.asksGo := funext fun k => by simp only [State.asksGo, tables, overlay, image]
  simp only [State.effective, control, overlay, image, tables, asks]

theorem inService_iff {s : State} {g : Nat} : inService s g = true ↔ (1 ≤ g ∧ g ≤ s.engine.groups.length) ∧ s.tables.live g = true := by
  simp [inService]

/-! #### The rebuilding of the targets (R7) -/

/-- The parts of the state that a rebuilding and a re-evaluation leave to the effective requested image. -/
def SameAim (s t : State) : Prop :=
  t.control = s.control ∧ t.preempt = s.preempt ∧ t.exchange = s.exchange ∧ t.store = s.store ∧ t.engine.groups.length = s.engine.groups.length

theorem SameAim.effective {s t : State} (same : SameAim s t) (g : Nat) : t.effective g = s.effective g := by
  obtain ⟨control, preempt, exchange, store, -⟩ := same
  exact effective_congr (by rw [control]) (by rw [preempt]) (by rw [exchange]) (by rw [store]) g

theorem SameAim.inService {s t : State} (same : SameAim s t) (g : Nat) : inService t g = inService s g := by
  obtain ⟨-, -, -, store, length⟩ := same
  simp only [Safety.inService, length, State.tables, store]

theorem rebuildGroup_length (g : Nat) (s : State) : (rebuildGroup g s).engine.groups.length = s.engine.groups.length := by
  rcases rebuildGroup_groups g s with same | set
  · rw [same]
  · rw [set]; exact setGroup_length _ _ _

theorem sameAim_rebuildGroup (g : Nat) (s : State) : SameAim s (rebuildGroup g s) := by
  simp [SameAim, rebuildGroup_length]

theorem evaluate_length (g : Nat) (s : State) : (evaluate g s).engine.groups.length = s.engine.groups.length := by
  rw [evaluate_groups]
  split
  · exact setGroup_length _ _ _
  · rfl

theorem sameAim_evaluate (g : Nat) (s : State) : SameAim s (evaluate g s) := by
  simp [SameAim, evaluate_length]

/-- Group `g` has the target and the source of the effective requested image. -/
def State.aims (s : State) (g : Nat) : Prop := (s.group g).target = (s.effective g).1 ∧ (s.group g).source = (s.effective g).2

theorem aims_rebuildGroup {s : State} {g k : Nat} (first : 1 ≤ k) (last : k ≤ s.engine.groups.length) (h : k = g ∨ s.aims k) :
    (rebuildGroup g s).aims k := by
  unfold State.aims
  rw [(sameAim_rebuildGroup g s).effective]
  unfold rebuildGroup
  dsimp only
  split
  · next same =>
    rcases h with rfl | h
    · exact same
    · exact h
  · show ((setGroup g _ s).group k).target = _ ∧ ((setGroup g _ s).group k).source = _
    by_cases same : k = g
    · subst same
      rw [setGroup_group first last, if_pos rfl]
      exact ⟨rfl, rfl⟩
    · rw [setGroup_group_other same]
      exact h.resolve_left same

theorem SameAim.refl (s : State) : SameAim s s := ⟨rfl, rfl, rfl, rfl, rfl⟩

theorem SameAim.trans {s t u : State} (first : SameAim s t) (second : SameAim t u) : SameAim s u := by
  obtain ⟨control, preempt, exchange, store, length⟩ := first
  obtain ⟨control', preempt', exchange', store', length'⟩ := second
  exact ⟨control'.trans control, preempt'.trans preempt, exchange'.trans exchange, store'.trans store, length'.trans length⟩

theorem sameAim_eachOf {α : Type} {f : α → State → State} (each : ∀ x s, SameAim s (f x s)) (l : List α) (s : State) : SameAim s (eachOf l f s) :=
  eachOf_holds (SameAim s) f (fun x t ht => ht.trans (each x t)) l s (.refl s)

theorem sameAim_rebuild (s : State) : SameAim s (rebuild s) := by
  have each := sameAim_eachOf sameAim_rebuildGroup s.tables.liveGroups s
  unfold rebuild
  dsimp only
  split <;> exact each

theorem aimed_rebuild (s : State) : Aimed (rebuild s) := by
  intro g service
  rw [(sameAim_rebuild s).inService] at service
  obtain ⟨⟨first, last⟩, live⟩ := inService_iff.mp service
  have each : ∀ (l : List Nat) (u : State), g ≤ u.engine.groups.length → (g ∈ l ∨ u.aims g) → (eachOf l rebuildGroup u).aims g := by
    intro l
    induction l with
    | nil => intro u _ h; simpa [eachOf] using h
    | cons k ks ih =>
      intro u last h
      refine ih (rebuildGroup k u) (by rwa [rebuildGroup_length]) ?_
      rw [List.mem_cons] at h
      by_cases later : g ∈ ks
      · exact .inl later
      · exact .inr (aims_rebuildGroup first last (by tauto))
  have built : (eachOf s.tables.liveGroups rebuildGroup s).aims g :=
    each _ s last (.inl (by simpa [TableSet.liveGroups, ← live_iff] using live))
  unfold rebuild
  dsimp only
  split
  · exact built
  · exact built

theorem judge_target (s : State) (g : Nat) : (s.judge g).target = (s.group g).target := by
  cases shown : (s.group g).shown <;> simp only [State.judge, shown]
  all_goals repeat' split
  all_goals rfl

/-- A re-evaluation moves groups and leaves their targets. -/
theorem Aimed.evaluate {s : State} (h : Aimed s) (k : Nat) : Aimed (Machine.evaluate k s) := by
  intro g service
  rw [(sameAim_evaluate k s).inService] at service
  have aims := h g service
  rw [(sameAim_evaluate k s).effective]
  have groups := evaluate_groups k s
  split at groups
  · rw [group_congr groups]
    rcases setGroup_cases k (s.judge k) s g with kept | ⟨rfl, set⟩
    · rw [kept]; exact aims
    · rw [set, judge_target, judge_source]; exact aims
  · rw [group_congr groups]; exact aims

theorem Aimed.congr {s t : State} (h : Aimed s) (groups : t.engine.groups = s.engine.groups) (control : t.control.mode = s.control.mode)
    (stack : t.preempt.stack = s.preempt.stack) (accepted : t.exchange.accepted = s.exchange.accepted)
    (active : t.store.active = s.store.active) : Aimed t := by
  intro g service
  have service : inService s g = true := by simpa only [inService, groups, tables_congr active] using service
  rw [group_congr groups, effective_congr control stack accepted active]
  exact h g service

theorem Aimed.evaluateConcerned {s : State} (h : Aimed s) (passes : Nat) : Aimed (Machine.evaluateConcerned passes s) := by
  induction passes generalizing s with
  | zero => exact h
  | succ n ih =>
    unfold Machine.evaluateConcerned
    split
    · exact h
    · exact ih (eachOf_holds Aimed Machine.evaluate (fun g _ ht => ht.evaluate g) _ _ (h.congr rfl rfl rfl rfl rfl))

theorem aimed_settle (rounds : Nat) (s : State) : Aimed (settle rounds s) := by
  induction rounds generalizing s with
  | zero => exact (aimed_rebuild s).evaluateConcerned passLimit
  | succ n ih =>
    unfold settle
    dsimp only
    split
    · exact ih _
    · exact (aimed_rebuild s).evaluateConcerned passLimit

/-! #### What follows the settling of an event -/

theorem Intended.congr {s t : State} (h : Intended s) (groups : t.engine.groups = s.engine.groups) (mode : t.control.mode = s.control.mode)
    (stack : t.preempt.stack = s.preempt.stack) (accepted : t.exchange.accepted = s.exchange.accepted)
    (active : t.store.active = s.store.active) : Intended t := by
  intro g service
  have service : inService s g = true := by simpa only [inService, groups, tables_congr active] using service
  rw [group_congr groups, effective_congr mode stack accepted active, mode]
  exact h g service

/-- A flash transfer sets every target to STOP (R17). -/
theorem showFlash_group_live {s : State} {g : Nat} (live : s.tables.live g = true) : (showFlash s).group g = Group.reset := by
  rw [group_def]
  simp only [showFlash, entry?_map_numberedEntries, live, if_true]
  cases entry? s.engine.groups g <;> rfl

theorem intended_leavePermit {new : Mode} (rests : new.admits = false) (cause : Cause) (record : Option (FaultKind × Option Nat)) (s : State) :
    Intended (leavePermit new cause record s) := by
  intro g service
  have live : s.tables.live g = true := by simpa [State.tables] using (inService_iff.mp service).2
  have flash : (leavePermit new cause record s).group g = Group.reset :=
    (group_congr (congrArg Engine.groups (leavePermit_engine new cause record s)) g).trans (showFlash_group_live live)
  exact ⟨fun _ => by rw [flash]; rfl, fun admits => by simp [rests] at admits⟩

/-- FLASH and LOCKOUT have the same targets. -/
theorem Intended.locked {s : State} (h : Intended s) (flash : s.control.mode = .flash) (cause : Cause) (record : Option (FaultKind × Option Nat)) :
    Intended (changeFlashMode .lockout cause record s) := by
  intro g service
  have service : inService s g = true := by simpa [inService, State.tables] using service
  have stop := (h g service).1 (by simp [flash, Mode.admits])
  refine ⟨fun _ => ?_, fun admits => by simp [changeFlashMode_record, Mode.admits] at admits⟩
  rw [group_congr (s := s) (by simp)]
  exact stop

/-- A fault whose action is REPORT or LOCKOUT leaves the mode, or enters LOCKOUT. -/
theorem Intended.raise {s : State} (h : Intended s) {r : Raise} (action : r.action = .report ∨ r.action = .lockout) :
    Intended (Machine.raise r s) := by
  have noted : Intended (note r s) := h.congr (by simp) (by simp) (by simp) (by simp) (by simp)
  rcases action with action | action <;> simp only [Machine.raise, takeAction, action]
  · exact noted
  · split
    case h_5 flash => exact noted.locked flash _ _
    case h_6 => exact noted.congr rfl rfl rfl rfl rfl
    case h_7 => exact noted
    all_goals exact intended_leavePermit rfl _ _ _

theorem Intended.handRed {s : State} (h : Intended s) (change : Nat × Bool) : Intended (Machine.handRed change s) := by
  have ended : ∀ u : State, Intended u → Intended (endRedFail change.1 u) := fun u hu => hu.congr (by simp) (by simp) (by simp) (by simp) (by simp)
  unfold Machine.handRed
  split
  · have raised : Intended (Machine.raise (redFailRaise s.tables change.1) (setRedFail true change.1 s)) := by
      refine Intended.raise (s := setRedFail true change.1 s) (h.congr rfl rfl rfl rfl rfl) ?_
      unfold redFailRaise
      split <;> simp
    dsimp only
    split
    · exact raised
    · exact ended _ raised
  · exact ended s h

theorem Intended.closeIfDone {s : State} (h : Intended s) : Intended (Machine.closeIfDone s) := by
  unfold Machine.closeIfDone
  split
  · unfold completeClose
    refine intended_leavePermit ?_ _ _ _
    cases s.control.closeTarget.getD .flash <;> rfl
  · exact h

theorem Intended.evaluateShown {s : State} (h : Intended s) : Intended (Machine.evaluateShown s) := by
  unfold Machine.evaluateShown
  split
  · exact h
  · exact eachOf_holds Intended Machine.handRed (fun change _ ht => ht.handRed change) _ s h

/-- Every event ends with the targets that the effective requested image gives. -/
theorem intended_asEvent {answer : State → State} (only : onlyLink answer) (effect : State → State) (s : State) :
    Intended (asEvent effect answer s) := by
  have settled := (aimed_settle roundLimit (effect (openEvent s))).intended.closeIfDone
  have noticed : Intended (noticeGo (closeIfDone (settle roundLimit (effect (openEvent s))))) :=
    settled.congr (by simp) (by simp) (by simp) (by simp) (by simp)
  have shown := noticed.evaluateShown
  have concluded : Intended (conclude (effect (openEvent s))) :=
    shown.congr (by simp [conclude, numberImage_groups]) (by simp [conclude]) (by simp [conclude]) (by simp [conclude]) (by simp [conclude])
  have same := only (conclude (effect (openEvent s)))
  exact concluded.congr (congrArg (fun u : State => u.engine.groups) same :) (congrArg (fun u : State => u.control.mode) same :)
    (congrArg (fun u : State => u.preempt.stack) same :) (congrArg (fun u : State => u.exchange.accepted) same :)
    (congrArg (fun u : State => u.store.active) same :)

/-! #### The law in the words of R7 to R9 -/

/-- The overlay's target for a group: STOP or GO where it forces the group. -/
theorem overlaid_eq (s : State) (g : Nat) :
    overlaid s.overlay g = if stopForced s g = true then some .stop else if goForced s g = true then some .go else none := by
  unfold State.overlay stopForced goForced
  cases s.control.mode.admits with
  | false => cases s.preempt.stack <;> simp [overlaid]
  | true =>
    cases s.preempt.stack with
    | nil => simp [overlaid]
    | cons top rest =>
      by_cases delay : top.phase = .delay
      · simp [overlaid, delay]
      · cases stop : member (s.tables.plan top.plan).forcedStop g <;> simp [overlaid, delay, stop]

theorem overlaid_none_iff {s : State} {g : Nat} : overlaid s.overlay g = none ↔ stopForced s g = false ∧ goForced s g = false := by
  rw [overlaid_eq]
  cases stopForced s g <;> cases goForced s g <;> simp

theorem imageAsks_iff {s : State} {g : Nat} {target : Target} :
    imageAsks s g target = true ↔ s.tables.live g = true ∧ overlaid s.overlay g = none ∧ s.imageTarget g = target := by
  unfold imageAsks State.imageTarget
  rw [overlaid_none_iff]
  cases s.exchange.accepted with
  | none => simp [and_assoc, eq_comm (a := target)]
  | some image => simp [and_assoc]

theorem imageAsks_go (s : State) (g : Nat) : imageAsks s g .go = s.asksGo g := by
  rw [Bool.eq_iff_iff, imageAsks_iff]
  simp [State.asksGo, and_assoc]

theorem forced_admits {s : State} {g : Nat} (h : stopForced s g = true ∨ goForced s g = true) : s.control.mode.admits = true := by
  unfold stopForced goForced at h
  cases stack : s.preempt.stack with
  | nil => simp [stack] at h
  | cons top rest =>
    simp only [stack, Bool.and_eq_true] at h
    tauto

theorem any_asksGo_iff {s : State} {g : Nat} :
    (s.tables.conflicting g).any s.asksGo = true ↔ ∃ i, s.tables.conflict i g = true ∧ imageAsks s i .go = true := by
  simp only [List.any_eq_true, mem_conflicting, imageAsks_go]

theorem Intended.effectiveLaw {s : State} (h : Intended s) : effectiveLaw s := by
  intro g service
  obtain ⟨rest, works⟩ := h g service
  have forced : ∀ target, overlaid s.overlay g = some target → s.control.mode.admits = true →
      (s.group g).target = target ∧ (s.group g).source = .overlay := by
    intro target laid admits
    have aims := works admits
    simpa [State.effective, admits, laid] using aims
  have image : s.control.mode.admits = true → overlaid s.overlay g = none →
      (s.group g).target = (s.effective g).1 ∧ (s.group g).source = (s.effective g).2 := fun admits _ => works admits
  refine ⟨rest, fun stop => ?_, fun go => ?_, fun admits => ⟨fun asks => ?_, fun asks => ⟨fun dark => ?_, fun dark => ?_⟩,
    fun asks => ⟨fun rival => ?_, fun alone => ?_⟩⟩⟩
  · exact forced .stop (by rw [overlaid_eq, if_pos stop]) (forced_admits (.inl stop))
  · have free : ¬stopForced s g = true := by
      unfold stopForced goForced at *
      cases stack : s.preempt.stack <;> simp_all
    exact forced .go (by rw [overlaid_eq, if_neg free, if_pos go]) (forced_admits (.inr go))
  all_goals
    obtain ⟨-, laid, target⟩ := imageAsks_iff.mp asks
    have aims := works admits
    simp only [State.effective, admits, laid, target, if_true] at aims
  · exact aims
  · rwa [if_pos dark] at aims
  · rwa [if_neg dark] at aims
  · rwa [if_pos (any_asksGo_iff.mpr rival)] at aims
  · refine (if_neg ?_ ▸ aims :)
    rw [any_asksGo_iff]
    rintro ⟨i, conflict, go⟩
    simp [alone i conflict] at go

/-- What the law reads is the same, but for the counts of the stacked plans. -/
structure SameTargets (s t : State) : Prop where
  length : t.engine.groups.length = s.engine.groups.length
  aims : ∀ g, (t.group g).target = (s.group g).target ∧ (t.group g).source = (s.group g).source
  mode : t.control.mode = s.control.mode
  phases : t.preempt.stack.map (fun x => (x.plan, x.phase)) = s.preempt.stack.map (fun x => (x.plan, x.phase))
  accepted : t.exchange.accepted = s.exchange.accepted
  active : t.store.active = s.store.active

theorem sameTargets_of_parts {s t : State} (engine : t.engine = s.engine) (mode : t.control.mode = s.control.mode) (preempt : t.preempt = s.preempt)
    (exchange : t.exchange = s.exchange) (active : t.store.active = s.store.active) : SameTargets s t :=
  ⟨by rw [engine], fun g => by rw [group_congr (congrArg Engine.groups engine)]; exact ⟨rfl, rfl⟩, mode, by rw [preempt], by rw [exchange], active⟩

theorem Quiet.sameTargets {s t : State} (quiet : Quiet s t) : SameTargets s t := by
  rw [quiet]
  exact sameTargets_of_parts rfl rfl rfl rfl rfl

theorem sameTargets_counts (s : State) : SameTargets s (countUnits s) := by
  refine ⟨by simp [countUnits], fun g => ?_, rfl, ?_, rfl, rfl⟩
  · rcases countUnits_shown s g with count | same
    · rw [count]; exact ⟨rfl, rfl⟩
    · rw [same]; exact ⟨rfl, rfl⟩
  · show (countStack s.preempt.stack).map _ = _
    cases s.preempt.stack with
    | nil => rfl
    | cons top rest => simp [countStack, Stacked.countDuration, Stacked.countTop, Function.comp_def]

theorem sameTargets_supply (s : State) :
    SameTargets s
      { cutWrites s with
        clock.powered := false, clock.lowFor := 0, control.runPermit := false, control.recordOp := .none
        store.op := .idle, store.progress := none } := by
  obtain ⟨engine, active⟩ := cutWrites_engine s
  obtain ⟨control, exchange, preempt⟩ := cutWrites_control s
  refine sameTargets_of_parts engine ?_ preempt exchange active
  show (cutWrites s).control.mode = _
  rw [control]

theorem sameTargets_tick (s : State) : SameTargets s (tick s) := by
  unfold tick whileUp passMillisecond
  dsimp only
  split
  · exact sameTargets_of_parts rfl rfl rfl rfl rfl
  · split
    · split
      · have counted := sameTargets_counts
          { s with
            clock.now := s.clock.now + 1, clock.phase := (s.clock.phase + 1) % 10, clock.awake := Nat.min longestFilterMs (s.clock.awake + 1) }
        exact ⟨counted.length, counted.aims, counted.mode, counted.phases, counted.accepted, counted.active⟩
      · exact sameTargets_of_parts rfl rfl rfl rfl rfl
    · exact sameTargets_of_parts rfl rfl rfl rfl rfl

theorem intended_resetState (pending : List Instr) (lowFor drawn strikes : Nat) (nv : Nonvolatile) :
    Intended (resetState pending lowFor drawn strikes nv) := by
  intro g _
  rw [resetState_group]
  exact ⟨fun _ => rfl, nofun⟩

/-- What a step does to the targets: they stay, or it ends with those of the effective requested image. -/
theorem step_targets {s t : State} (ran : step s = .next t) :
    SameTargets s t ∨ Intended t := by
  unfold step at ran
  split at ran
  case h_2 =>
    cases ran
    exact .inl (sameTargets_tick s)
  case h_1 c rest front =>
    have same : SameTargets s { s with pending := rest } := sameTargets_of_parts rfl rfl rfl rfl rfl
    by_cases reset : isReset c = true
    · cases c with
      | powerOnReset => cases ran; exact .inr (intended_resetState _ _ _ _ _)
      | nreset lowMicros supplyRising =>
        cases ran
        split
        · exact .inr (intended_resetState _ _ _ _ _)
        · exact .inl same
      | _ => cases reset
    · by_cases supply : c = .supplyLoss
      · subst supply
        cases ran
        split
        · obtain ⟨length, aims, mode, phases, accepted, active⟩ := sameTargets_supply { s with pending := rest }
          exact .inl ⟨length, aims, mode, phases, accepted, active⟩
        · exact .inl same
      · rcases eventful_exec c _ (Bool.eq_false_iff.mpr reset) supply t ran with quiet | ⟨effect, answer, only, rfl⟩
        · rw [quiet]
          exact .inl (sameTargets_of_parts rfl rfl rfl rfl rfl)
        · exact .inr (intended_asEvent only effect _)

theorem SameTargets.effectiveLaw {s t : State} (same : SameTargets s t) (h : effectiveLaw s) : effectiveLaw t := by
  obtain ⟨length, aims, mode, phases, accepted, active⟩ := same
  have tables : t.tables = s.tables := tables_congr active
  have stop : stopForced t = stopForced s := funext fun g => by
    unfold stopForced
    cases now : t.preempt.stack <;> cases was : s.preempt.stack <;> simp_all
  have go : goForced t = goForced s := funext fun g => by
    unfold goForced
    cases now : t.preempt.stack <;> cases was : s.preempt.stack <;> simp_all
  have asks : imageAsks t = imageAsks s := funext fun g => funext fun target => by
    unfold imageAsks
    rw [tables, stop, go, accepted]
  intro g service
  have service : inService s g = true := by simpa only [inService, length, tables] using service
  obtain ⟨target, source⟩ := aims g
  have law := h g service
  rw [target, source, mode, stop, go, asks, tables]
  exact law

/-! #### No two groups in conflict have target GO (R8) -/

/-- Check V9 on an enabled plan: a group in conflict with one that the plan forces to GO is forced to STOP (R84). -/
theorem forcedStop_of_valid {t : TableSet} (valid : t.valid = true) {p : Nat} (number : p ∈ planNumbers) (on : (t.plan p).on = true) {i j : Nat}
    (conflict : t.conflict i j = true) (go : member (t.plan p).forcedGo i = true) : member (t.plan p).forcedStop j = true := by
  obtain ⟨hi, hj, -⟩ := conflict_iff.mp conflict
  have sets : planSetsValid t p = true := checkRecord_of_valid (check := 9) valid (by decide) number
  have checked : (t.plan p).checked = true := by
    simp only [PlanRec.on, decide_eq_true_eq] at on
    simp [PlanRec.checked, on]
  have liveGroups : ∀ {g}, t.live g = true → g ∈ t.liveGroups := fun live => by simpa [TableSet.liveGroups, ← live_iff] using live
  simp only [planSetsValid, checked, Bool.not_true, Bool.false_or, Bool.and_eq_true, List.all_eq_true, Bool.or_eq_true, Bool.not_eq_true'] at sets
  have row := ((sets.1.1 i (liveGroups hi)).resolve_left (by simp [go])) j (liveGroups hj)
  exact (row.resolve_left (by simp [conflict])).2

/-- The tables in force pass the checks where a group is live. -/
theorem valid_of_live {s : State} (tables : tableLaw s = true) {g : Nat} (live : s.tables.live g = true) : s.tables.valid = true := by
  obtain ⟨valid, -, -⟩ := tableLaw_iff.mp tables
  cases active : s.store.active with
  | none => simp [State.tables, active, emptySet_live] at live
  | some t => simpa [State.tables, active] using valid t active

/-- An overlay that forces a group to GO forces every group in conflict with it to STOP (R84). -/
theorem overlaid_rival {s : State} (tables : tableLaw s = true) (stack : stackLaw s = true) {i j : Nat} (conflict : s.tables.conflict i j = true)
    (go : overlaid s.overlay i = some .go) : overlaid s.overlay j = some .stop := by
  obtain ⟨-, -, -, each⟩ := stackLaw_iff.mp stack
  have valid := valid_of_live tables (conflict_iff.mp conflict).1
  unfold State.overlay at go ⊢
  split at go
  · next admits =>
    rw [if_pos admits]
    split at go
    · next top rest held =>
      obtain ⟨number, -, on, -⟩ := each top (by simp [held])
      split at go
      · cases go
      · next phase =>
        have forces : member (s.tables.plan top.plan).forcedGo i = true := by
          by_contra other
          simp [overlaid, other] at go
        have stop := forcedStop_of_valid valid (mem_numbers.mpr number) on conflict forces
        simp [overlaid, phase, stop]
    · cases go
  · cases go

/-- A group has target GO by the overlay, or by the image beside no other such group in conflict (R7, R8). -/
theorem effective_go {s : State} {g : Nat} (go : (s.effective g).1 = .go) :
    overlaid s.overlay g = some .go ∨ overlaid s.overlay g = none ∧ s.imageTarget g = .go ∧ (s.tables.conflicting g).any s.asksGo = false := by
  unfold State.effective at go
  split at go
  · split at go
    · next target laid => exact .inl (laid.trans (congrArg some go))
    · next laid =>
      refine .inr ⟨laid, ?_⟩
      split at go
      · next image =>
        refine ⟨image, Bool.eq_false_iff.mpr (fun rival => ?_)⟩
        rw [if_pos rival] at go
        cases go
      · split at go <;> cases go
      · cases go
  · cases go

/-- Two groups in conflict never both have target GO in the effective requested image. -/
theorem effective_not_go {s : State} (tables : tableLaw s = true) (stack : stackLaw s = true) {i j : Nat} (conflict : s.tables.conflict i j = true)
    (hi : (s.effective i).1 = .go) (hj : (s.effective j).1 = .go) : False := by
  have symm := (orderly_of_tableLaw tables).symm conflict
  rcases effective_go hi with laid | ⟨free, image, -⟩
  · have stop := overlaid_rival tables stack conflict laid
    rcases effective_go hj with laid' | ⟨free', -⟩ <;> simp_all
  · rcases effective_go hj with laid' | ⟨-, -, alone⟩
    · have stop := overlaid_rival tables stack symm laid'
      simp [free] at stop
    · rw [List.any_eq_false] at alone
      exact alone i (mem_conflicting.mpr conflict) (by simp [State.asksGo, (conflict_iff.mp conflict).1, free, image])

theorem targetLaw_iff {s : State} (orderly : s.tables.Orderly) :
    targetLaw s = true ↔ ∀ i j, s.tables.conflict i j = true → ¬((s.group i).target = .go ∧ (s.group j).target = .go) := by
  simp only [targetLaw, overConflicts_iff orderly, Bool.not_eq_true', Bool.and_eq_false_iff, decide_eq_false_iff_not, not_and_or]

/-- A group whose target is GO has a record, and the effective requested image gives it that target. -/
theorem Intended.go {s : State} (h : Intended s) {g : Nat} (live : s.tables.live g = true) (go : (s.group g).target = .go) :
    (s.effective g).1 = .go := by
  have last : g ≤ s.engine.groups.length := by
    by_contra beyond
    have absent : entry? s.engine.groups g = none := by
      simp only [entry?, ite_eq_left_iff, List.getElem?_eq_none_iff]
      omega
    simp [group_def, absent, Group.reset] at go
  obtain ⟨rest, works⟩ := h g (inService_iff.mpr ⟨⟨(live_iff.mp live).1, last⟩, live⟩)
  by_cases admits : s.control.mode.admits = true
  · exact (works admits).1 ▸ go
  · simp [rest (Bool.eq_false_iff.mpr admits)] at go

theorem Intended.targetLaw {s : State} (h : Intended s) (tables : tableLaw s = true) (stack : stackLaw s = true) : targetLaw s = true := by
  refine (targetLaw_iff (orderly_of_tableLaw tables)).mpr (fun i j conflict both => ?_)
  obtain ⟨hi, hj, -⟩ := conflict_iff.mp conflict
  exact effective_not_go tables stack conflict (h.go hi both.1) (h.go hj both.2)

theorem SameTargets.targetLaw {s t : State} (same : SameTargets s t) (tables : tableLaw s = true) (h : targetLaw s = true) : targetLaw t = true := by
  have orderly := orderly_of_tableLaw tables
  have set : t.tables = s.tables := tables_congr same.active
  rw [targetLaw_iff orderly] at h
  rw [targetLaw_iff (set ▸ orderly), set]
  intro i j conflict
  rw [(same.aims i).1, (same.aims j).1]
  exact h i j conflict

end Sys2Proof.Machine

namespace Sys2Proof.Proofs

open Sys2Proof Sys2Proof.Machine Sys2Proof.Safety

/-- Settles O13. Every event ends with all targets rebuilt (R7): what comes after the settling either leaves the targets and what they follow from, or
sets every target to STOP with the mode. That no two are GO in conflict is the clamp for the image, and check V9 for an overlay. -/
theorem stepKeepsTargetLaw : Obligations.StepKeepsTargetLaw := by
  unfold Obligations.StepKeepsTargetLaw
  intro s t ran
  rcases step_targets ran with same | intended
  · exact ⟨fun tables _ law => same.targetLaw tables law, same.effectiveLaw⟩
  · refine ⟨fun tables stack _ => ?_, fun _ => intended.effectiveLaw⟩
    obtain ⟨tables', stack'⟩ := kept_stackLaw.step ran ⟨tables, stack⟩
    exact intended.targetLaw tables' stack'

end Sys2Proof.Proofs

/-! ### What an event may do to each block (tenth to twelfth law, and what comes from outside) -/

namespace Sys2Proof.Machine

open Sys2Proof.Safety

/-- What a command may change beside what every event may. -/
structure Allowed where
  strikes : Bool
  image : Bool
  run : Bool
  maint : Bool
  lines : Bool
  call : Bool
  sensing : Bool
  judging : Bool
  tables : Bool
  words : Bool
  commit : Bool
  number : Bool
  sent : Bool

/-- The cabinet time, the supply and the NRESET line stand. -/
def Timed (x y : Clock) : Prop :=
  y.now = x.now ∧ y.phase = x.phase ∧ y.awake = x.awake ∧ y.powered = x.powered ∧ y.lowFor = x.lowFor

/-- What the image exchange keeps as it came, or removes with the mode. -/
def Exchanged (a : Allowed) (x y : Exchange) : Prop :=
  (a.strikes = true ∨ y.strikes = x.strikes)
    ∧ (a.image = true ∨ y.imagesAccepted = x.imagesAccepted ∧ y.imagesRefused = x.imagesRefused ∧ (y.accepted = x.accepted ∨ y.accepted = none))
    ∧ (a.image = true ∨ a.run = true ∨ y.expectedChain = x.expectedChain ∨ y.expectedChain = none)

/-- What the preemption unit keeps as it came, or removes with the mode. -/
def Preempted (a : Allowed) (x y : Preemption) : Prop :=
  (a.image = true ∨ y.inhibit = x.inhibit ∨ y.inhibit = 0) ∧ (a.lines = true ∨ y.lines = x.lines)
    ∧ (a.call = true ∨ y.slot = x.slot ∨ y.slot = none)

/-- What the table store keeps of the active tables and of the stored words. -/
def Stored (a : Allowed) (x y : Store) : Prop :=
  (a.tables = true ∨ y.active = x.active ∧ y.generation = x.generation ∧ y.corrected = x.corrected ∧ y.tablesCorrected = x.tablesCorrected)
    ∧ (a.words = true ∨ y.nv.words = x.nv.words ∧ y.nv.generation = x.nv.generation ∧ y.nv.check = x.nv.check ∧ y.valid = x.valid
        ∧ y.lastCommit = x.lastCommit)
    ∧ (a.words = true ∨ a.commit = true ∨ y.nv.complete = x.nv.complete)

/-- The bounds of the outgoing queue (R185). -/
def Link.Well (l : Link) : Prop := l.queue.length ≤ Config.queueFrames ∧ (l.sending.isSome = true ∨ l.queue = [])

/-- The queue keeps its bounds, and the frame being sent goes on. -/
def Linked (a : Allowed) (x y : Link) : Prop := (x.Well → y.Well) ∧ (a.sent = true ∨ (x.sending.isSome = true → y.sending = x.sending))

/-- The bounds of the fault list (R156). -/
def FaultList.Well (f : FaultList) : Prop :=
  f.entries.length ≤ Config.faultEntries ∧ f.entries.Pairwise (fun a b => ¬(a.kind = b.kind ∧ a.subject = b.subject))
    ∧ ∀ e ∈ f.entries, 1 ≤ e.count ∧ e.count ≤ 255

def Listed (x y : FaultList) : Prop := x.Well → y.Well

/-- A branch that awaits an answer sends nothing, and its FIFO holds at most four entries (R109, R111). -/
def Branch.Well (b : Branch) : Prop := ¬(b.awaited.isSome = true ∧ b.sending.isSome = true) ∧ b.fifo.length ≤ Config.fifoEntries

def Branched (x y : List Branch) : Prop := (∀ b ∈ x, b.Well) → ∀ b ∈ y, b.Well

/-- A channel holds no run toward a fault that is already active (R129, R130). -/
def Proving.Well (x : Proving) : Prop := ¬(x.lampOut = true ∧ x.outRun.isSome = true) ∧ ¬(x.foreign = true ∧ x.foreignRun.isSome = true)

/-- The runs of a channel stay or go. -/
def Proving.RunsKept (x y : Proving) : Prop := (y.outRun = x.outRun ∨ y.outRun = none) ∧ (y.foreignRun = x.foreignRun ∨ y.foreignRun = none)

def Proved (a : Allowed) (x y : Prover) : Prop :=
  ((∀ p ∈ x.channels, p.Well) → ∀ p ∈ y.channels, p.Well)
    ∧ (a.judging = true ∨ ∀ n, (entryD x.channels n Proving.reset).RunsKept (entryD y.channels n Proving.reset))

/-- The bounds of a detector record (08, section 8.2; R147). -/
def Detector.Well (d : Detector) : Prop := d.pending.length ≤ 16 ∧ (d.occupied = true ∨ d.stuckAt = none)

def Sensed (a : Allowed) (x y : List (Option Detector)) : Prop :=
  ((∀ d, some d ∈ x → d.Well) → ∀ d, some d ∈ y → d.Well)
    ∧ (a.sensing = true ∨ ∀ n, (entryD y n none).map Detector.raw = (entryD x n none).map Detector.raw
        ∧ (entryD y n none).map Detector.occupied = (entryD x n none).map Detector.occupied)

@[simp] theorem Timed.refl (x : Clock) : Timed x x := ⟨rfl, rfl, rfl, rfl, rfl⟩

@[simp] theorem Exchanged.refl (a : Allowed) (x : Exchange) : Exchanged a x x := ⟨.inr rfl, .inr ⟨rfl, rfl, .inl rfl⟩, .inr (.inr (.inl rfl))⟩

@[simp] theorem Preempted.refl (a : Allowed) (x : Preemption) : Preempted a x x := ⟨.inr (.inl rfl), .inr rfl, .inr (.inl rfl)⟩

@[simp] theorem Stored.refl (a : Allowed) (x : Store) : Stored a x x :=
  ⟨.inr ⟨rfl, rfl, rfl, rfl⟩, .inr ⟨rfl, rfl, rfl, rfl, rfl⟩, .inr (.inr rfl)⟩

@[simp] theorem Linked.refl (a : Allowed) (x : Link) : Linked a x x := ⟨id, .inr (fun _ => rfl)⟩

@[simp] theorem Listed.refl (x : FaultList) : Listed x x := id

@[simp] theorem Branched.refl (x : List Branch) : Branched x x := id

@[simp] theorem Proving.RunsKept.refl (x : Proving) : x.RunsKept x := ⟨.inl rfl, .inl rfl⟩

@[simp] theorem Proved.refl (a : Allowed) (x : Prover) : Proved a x x := ⟨id, .inr (fun _ => .refl _)⟩

@[simp] theorem Sensed.refl (a : Allowed) (x : List (Option Detector)) : Sensed a x x := ⟨id, .inr (fun _ => ⟨rfl, rfl⟩)⟩

/-- A value that stays or goes, twice. -/
theorem stays_or_goes {α : Type} {x y z d : α} (first : y = x ∨ y = d) (second : z = y ∨ z = d) : z = x ∨ z = d := by
  rcases second with rfl | rfl
  · exact first
  · exact .inr rfl

theorem Timed.trans {x y z : Clock} (first : Timed x y) (second : Timed y z) : Timed x z := by
  unfold Timed at *
  simp only [second, first, and_self]

theorem Exchanged.trans {a : Allowed} {x y z : Exchange} (first : Exchanged a x y) (second : Exchanged a y z) : Exchanged a x z := by
  obtain ⟨strikes, images, chain⟩ := first
  obtain ⟨strikes', images', chain'⟩ := second
  refine ⟨?_, ?_, ?_⟩
  · rcases strikes' with h | h
    · exact .inl h
    · rw [h]; exact strikes
  · rcases images with h | ⟨accepted, refused, image⟩
    · exact .inl h
    · exact images'.imp_right (fun ⟨accepted', refused', image'⟩ => ⟨accepted'.trans accepted, refused'.trans refused, stays_or_goes image image'⟩)
  · rcases chain with h | h | h
    · exact .inl h
    · exact .inr (.inl h)
    · exact chain'.imp_right (.imp_right (stays_or_goes h))

theorem Preempted.trans {a : Allowed} {x y z : Preemption} (first : Preempted a x y) (second : Preempted a y z) : Preempted a x z := by
  obtain ⟨inhibit, lines, slot⟩ := first
  obtain ⟨inhibit', lines', slot'⟩ := second
  refine ⟨?_, ?_, ?_⟩
  · rcases inhibit with h | h
    · exact .inl h
    · exact inhibit'.imp_right (stays_or_goes h)
  · rcases lines' with h | h
    · exact .inl h
    · rw [h]; exact lines
  · rcases slot with h | h
    · exact .inl h
    · exact slot'.imp_right (stays_or_goes h)

theorem Stored.trans {a : Allowed} {x y z : Store} (first : Stored a x y) (second : Stored a y z) : Stored a x z := by
  obtain ⟨tables, words, complete⟩ := first
  obtain ⟨tables', words', complete'⟩ := second
  refine ⟨?_, ?_, ?_⟩
  · rcases tables' with h | ⟨active, generation, corrected, told⟩
    · exact .inl h
    · rw [active, generation, corrected, told]; exact tables
  · rcases words' with h | ⟨words', generation, check, valid, last⟩
    · exact .inl h
    · rw [words', generation, check, valid, last]; exact words
  · rcases complete' with h | h | h
    · exact .inl h
    · exact .inr (.inl h)
    · rw [h]; exact complete

theorem Linked.trans {a : Allowed} {x y z : Link} (first : Linked a x y) (second : Linked a y z) : Linked a x z := by
  refine ⟨second.1 ∘ first.1, ?_⟩
  rcases first.2 with h | same
  · exact .inl h
  · exact second.2.imp_right (fun same' sending => (same' (same sending ▸ sending)).trans (same sending))

theorem Proving.RunsKept.trans {x y z : Proving} (first : x.RunsKept y) (second : y.RunsKept z) : x.RunsKept z :=
  ⟨stays_or_goes first.1 second.1, stays_or_goes first.2 second.2⟩

theorem Proved.trans {a : Allowed} {x y z : Prover} (first : Proved a x y) (second : Proved a y z) : Proved a x z := by
  refine ⟨second.1 ∘ first.1, ?_⟩
  rcases first.2 with h | runs
  · exact .inl h
  · exact second.2.imp_right (fun runs' n => (runs n).trans (runs' n))

theorem Sensed.trans {a : Allowed} {x y z : List (Option Detector)} (first : Sensed a x y) (second : Sensed a y z) : Sensed a x z := by
  refine ⟨second.1 ∘ first.1, ?_⟩
  rcases first.2 with h | same
  · exact .inl h
  · exact second.2.imp_right (fun same' n => ⟨(same' n).1.trans (same n).1, (same' n).2.trans (same n).2⟩)

/-- What an event leaves of each block, but for what a command is allowed to change. -/
structure Steady (a : Allowed) (s t : State) : Prop where
  pending : t.pending = s.pending := by simp
  clock : Timed s.clock t.clock := by simp
  exchange : Exchanged a s.exchange t.exchange := by simp
  preempt : Preempted a s.preempt t.preempt := by simp
  store : Stored a s.store t.store := by simp
  maint : a.maint = true ∨ t.control.maint = s.control.maint := by simp
  number : a.number = true ∨ t.engine.imageNumber = s.engine.imageNumber := by simp
  link : Linked a s.link t.link := by simp
  faults : Listed s.faults t.faults := by simp
  branches : Branched s.branches t.branches := by simp
  prover : Proved a s.prover t.prover := by simp
  detectors : Sensed a s.detectors t.detectors := by simp

theorem Steady.refl (a : Allowed) (s : State) : Steady a s s := { }

theorem Steady.trans {a : Allowed} {s t u : State} (first : Steady a s t) (second : Steady a t u) : Steady a s u where
  pending := second.pending.trans first.pending
  clock := first.clock.trans second.clock
  exchange := first.exchange.trans second.exchange
  preempt := first.preempt.trans second.preempt
  store := first.store.trans second.store
  maint := by
    rcases second.maint with h | h
    · exact .inl h
    · rw [h]; exact first.maint
  number := by
    rcases second.number with h | h
    · exact .inl h
    · rw [h]; exact first.number
  link := first.link.trans second.link
  faults := second.faults ∘ first.faults
  branches := second.branches ∘ first.branches
  prover := first.prover.trans second.prover
  detectors := first.detectors.trans second.detectors

theorem steady_eachOf {a : Allowed} {α : Type} {f : α → State → State} (each : ∀ x s, Steady a s (f x s)) (l : List α) (s : State) :
    Steady a s (eachOf l f s) :=
  eachOf_holds (Steady a s) f (fun x t ht => ht.trans (each x t)) l s (.refl a s)

/-! #### Frames to the controller, and reports -/

theorem length_replaceLast (p : OutFrame → Bool) (f : OutFrame) (queue : List OutFrame) : (replaceLast p f queue).length = queue.length := by
  unfold replaceLast
  split <;> simp

theorem place_length {l : Link} (f : OutFrame) (h : l.queue.length ≤ Config.queueFrames) : (l.place f).queue.length ≤ Config.queueFrames := by
  have replaced : l.queue.any OutFrame.isDet = true → (l.queue.eraseP OutFrame.isDet ++ [f]).length ≤ Config.queueFrames := by
    intro any
    obtain ⟨x, member, det⟩ := List.any_eq_true.mp any
    have := List.length_eraseP_of_mem member det
    have := List.length_pos_of_mem member
    simp only [List.length_append, List.length_singleton]
    omega
  unfold Link.place
  split
  · next room => simp; omega
  · repeat' split
    · exact (length_replaceLast _ _ _).trans_le h
    · exact h
    · next any => exact replaced any
    · exact h

@[simp] theorem place_sending (l : Link) (f : OutFrame) : (l.place f).sending = l.sending := by
  unfold Link.place
  repeat' split
  all_goals rfl

theorem start_well {l : Link} (h : l.queue.length ≤ Config.queueFrames) : l.start.Well := by
  unfold Link.start
  split
  · next f rest _ queue => exact ⟨by rw [queue] at h; simp at h ⊢; omega, .inl rfl⟩
  · next other =>
    refine ⟨h, ?_⟩
    cases sending : l.sending with
    | some x => exact .inl rfl
    | none =>
      cases queue : l.queue with
      | nil => exact .inr rfl
      | cons f rest => exact absurd queue (other f rest sending)

theorem start_sending {l : Link} (h : l.sending.isSome = true) : l.start.sending = l.sending := by
  unfold Link.start
  split
  · next none _ => simp [none] at h
  · rfl

theorem linked_accept (a : Allowed) (l : Link) (f : OutFrame) : Linked a l (l.accept f) :=
  ⟨fun well => start_well (place_length f well.1), .inr (fun sending => by
    rw [Link.accept, start_sending (by simpa using sending), place_sending])⟩

theorem steady_send {a : Allowed} (f : OutFrame) (s : State) : Steady a s (send f s) := { Steady.refl _ _ with link := linked_accept a s.link f }

theorem steady_alarm {a : Allowed} (body : AlarmBody) (s : State) : Steady a s (alarm body s) :=
  { Steady.refl _ _ with link := linked_accept a s.link _, faults := id }

end Sys2Proof.Machine

namespace Sys2Proof.Machine

open Sys2Proof.Safety

variable {a : Allowed}

/-! #### The fault list -/

theorem entry_is_iff {kind : FaultKind} {subject : Option Nat} {e : Entry} : e.is kind subject = true ↔ e.kind = kind ∧ e.subject = subject := by
  simp [Entry.is]

/-- A list of entries changed one by one keeps its bounds where kinds, subjects and the range of counts stay. -/
theorem FaultList.Well.map {f g : FaultList} (h : f.Well) (change : Entry → Entry) (entries : g.entries = f.entries.map change)
    (keeps : ∀ e, (change e).kind = e.kind ∧ (change e).subject = e.subject)
    (counts : ∀ e, 1 ≤ e.count ∧ e.count ≤ 255 → 1 ≤ (change e).count ∧ (change e).count ≤ 255) : g.Well := by
  obtain ⟨length, distinct, range⟩ := h
  unfold FaultList.Well
  rw [entries]
  refine ⟨by simpa using length, List.pairwise_map.mpr (distinct.imp (fun other => ?_)), ?_⟩
  · rw [(keeps _).1, (keeps _).2, (keeps _).1, (keeps _).2]
    exact other
  · rw [List.forall_mem_map]
    exact fun e member => counts e (range e member)

/-- A new entry finds room, or takes the place of one that is ENDED and not latched (R158). -/
theorem FaultList.Well.append {f g : FaultList} (h : f.Well) {e : Entry} (fresh : ∀ o ∈ f.entries, ¬(o.kind = e.kind ∧ o.subject = e.subject))
    (count : 1 ≤ e.count ∧ e.count ≤ 255) (entries : f.append e = some g.entries) : g.Well := by
  obtain ⟨length, distinct, range⟩ := h
  have joined : ∀ l : List Entry, l.Sublist f.entries → l.length < Config.faultEntries → l ++ [e] = g.entries → g.Well := by
    intro l sub room same
    unfold FaultList.Well
    rw [← same]
    refine ⟨by simp; omega, List.pairwise_append.mpr ⟨distinct.sublist sub, List.pairwise_singleton _ _, ?_⟩, ?_⟩
    · intro o member x single
      obtain rfl := List.mem_singleton.mp single
      exact fresh o (sub.subset member)
    · intro o member
      rcases List.mem_append.mp member with old | new
      · exact range o (sub.subset old)
      · obtain rfl := List.mem_singleton.mp new
        exact count
  unfold FaultList.append at entries
  split at entries
  · next room => exact joined _ (List.Sublist.refl _) room (Option.some.inj entries)
  · split at entries
    · next any =>
      obtain ⟨x, member, done⟩ := List.any_eq_true.mp any
      refine joined _ (List.eraseP_sublist) ?_ (Option.some.inj entries)
      have := List.length_eraseP_of_mem (p := fun o : Entry => !o.active && !o.latched) member done
      have := List.length_pos_of_mem member
      omega
    · cases entries

theorem steady_recordRaise (r : Raise) (s : State) : Steady a s (recordRaise r s) := by
  unfold recordRaise
  dsimp only
  split
  · next e found =>
    have changed : Steady a s
        { s with
          faults.entries := s.faults.entries.map (fun o => if o.is r.kind r.subject then o.again r s.clock.now else o)
          faults.changeNumber := s.faults.changeNumber + 1 } := by
      refine { Steady.refl _ _ with faults := fun well => well.map _ rfl (fun e => ?_) (fun e range => ?_) }
      · split <;> exact ⟨rfl, rfl⟩
      · split
        · show 1 ≤ min 255 (e.count + 1) ∧ min 255 (e.count + 1) ≤ 255
          omega
        · exact range
    split
    · exact changed
    · exact changed.trans (steady_alarm _ _)
  · next fresh =>
    split
    · next entries made =>
      refine .trans (t := { s with faults.entries := entries, faults.changeNumber := s.faults.changeNumber + 1 }) ?_ (steady_alarm _ _)
      refine { Steady.refl _ _ with faults := fun well => well.append (e := r.entry s.clock.now) (fun o member same => ?_) ⟨le_refl 1, show 1 ≤ 255 by decide⟩ made }
      rw [List.find?_eq_none] at fresh
      exact fresh o member (entry_is_iff.mpr same)
    · exact steady_alarm _ s

theorem steady_note (r : Raise) (s : State) : Steady a s (note r s) :=
  .trans (t := { s with event.worst := s.event.worst.max r.action }) { Steady.refl _ _ with } (steady_recordRaise r _)

theorem steady_noteOccurrence (kind : FaultKind) (subject : Option Nat) (s : State) : Steady a s (noteOccurrence kind subject s) :=
  steady_note _ s

theorem steady_reportEnd (kind : FaultKind) (subject : Option Nat) (s : State) : Steady a s (reportEnd kind subject s) := by
  unfold reportEnd
  split
  · split
    · refine .trans ?_ (steady_alarm _ _)
      refine { Steady.refl _ _ with faults := fun well => well.map _ rfl (fun e => ?_) (fun e range => ?_) }
      · split <;> exact ⟨rfl, rfl⟩
      · split <;> exact range
    · exact .refl a s
  · exact steady_alarm _ s

theorem steady_pruneFaults (s : State) : Steady a s (pruneFaults s) := by
  unfold pruneFaults
  refine { Steady.refl _ _ with preempt := ⟨.inr (.inl rfl), .inr rfl, .inr (.inl rfl)⟩, faults := fun well => ?_ }
  have kept : FaultList.Well { s.faults with entries := s.faults.entries.filter Entry.active } :=
    ⟨le_trans (List.length_filter_le _ _) well.1, well.2.1.filter _, fun e member => well.2.2 e (List.mem_of_mem_filter member)⟩
  exact kept.map (fun e => { e with latched := false }) rfl (fun _ => ⟨rfl, rfl⟩) (fun _ range => range)

/-! #### The preemption unit -/

/-- What concerns the plans and the stack alone. -/
theorem steady_preempt {s t : State} (inhibit : t.preempt.inhibit = s.preempt.inhibit) (lines : t.preempt.lines = s.preempt.lines)
    (slot : t.preempt.slot = s.preempt.slot) (pending : t.pending = s.pending) (clock : t.clock = s.clock) (exchange : t.exchange = s.exchange)
    (engine : t.engine = s.engine) (store : t.store = s.store) (control : t.control = s.control) (link : t.link = s.link) (faults : t.faults = s.faults)
    (branches : t.branches = s.branches) (prover : t.prover = s.prover) (detectors : t.detectors = s.detectors) : Steady a s t where
  preempt := ⟨.inr (.inl inhibit), .inr lines, .inr (.inl slot)⟩
  pending := pending
  clock := by rw [clock]; exact .refl _
  exchange := by rw [exchange]; exact .refl _ _
  store := by rw [store]; exact .refl _ _
  maint := .inr (by rw [control])
  number := .inr (by rw [engine])
  link := by rw [link]; exact .refl _ _
  faults := by rw [faults]; exact .refl _
  branches := by rw [branches]; exact .refl _
  prover := by rw [prover]; exact .refl _ _
  detectors := by rw [detectors]; exact .refl _ _

theorem steady_changePlan (p : Nat) (f : PlanState → PlanState) (s : State) : Steady a s (changePlan p f s) :=
  steady_preempt rfl rfl rfl rfl rfl rfl rfl rfl rfl rfl rfl rfl rfl rfl

theorem steady_refreshRequest (p : Nat) (s : State) : Steady a s (refreshRequest p s) := by
  unfold refreshRequest
  dsimp only
  split
  · exact steady_changePlan _ _ _
  · exact .refl a s

theorem steady_setSource (active : Bool) (p : Nat) (s : State) : Steady a s (setSource active p s) :=
  (steady_changePlan p _ s).trans (steady_refreshRequest p _)

theorem steady_emptySlot (s : State) : Steady a s (emptySlot s) := by
  unfold emptySlot
  split
  · exact .trans (t := { s with preempt.slot := none }) { Steady.refl _ _ with preempt := ⟨.inr (.inl rfl), .inr rfl, .inr (.inr rfl)⟩ } (steady_setSource _ _ _)
  · exact .refl a s

theorem steady_unstack (p : Nat) (outcome : PlanOutcome) (s : State) : Steady a s (unstack p outcome s) := by
  have dropped : Steady a s { s with preempt.stack := s.preempt.stack.filter (fun x => decide (x.plan ≠ p)) } :=
    steady_preempt rfl rfl rfl rfl rfl rfl rfl rfl rfl rfl rfl rfl rfl rfl
  have removed := dropped.trans (steady_changePlan p (fun x => { x with outcome := outcome }) _)
  unfold unstack
  dsimp only
  refine .trans ?_ (steady_refreshRequest p _)
  split
  · exact removed.trans (steady_emptySlot _)
  · exact removed

theorem steady_takePlan (p : Nat) (s : State) : Steady a s (takePlan p s) :=
  steady_preempt rfl rfl rfl rfl rfl rfl rfl rfl rfl rfl rfl rfl rfl rfl

theorem steady_reportLimit (p : Nat) (s : State) : Steady a s (reportLimit p s) := by
  have flagged : Steady a s { s with preempt.nestingLimit := true } :=
    steady_preempt rfl rfl rfl rfl rfl rfl rfl rfl rfl rfl rfl rfl rfl rfl
  unfold reportLimit
  dsimp only
  split
  · exact flagged
  · exact (flagged.trans (steady_changePlan p _ _)).trans (steady_noteOccurrence _ _ _)

theorem steady_consider (s : State) : Steady a s (consider s) := by
  unfold consider
  dsimp only
  split
  · split
    · split
      · exact steady_takePlan _ s
      · exact .refl a s
    · exact steady_eachOf steady_reportLimit _ s
  · exact .refl a s

theorem steady_changeTop (f : Stacked → Stacked) (s : State) : Steady a s (changeTop f s) := by
  unfold changeTop
  split
  · exact steady_preempt rfl rfl rfl rfl rfl rfl rfl rfl rfl rfl rfl rfl rfl rfl
  · exact .refl a s

theorem steady_topStep {s t : State} (step : topStep s = some t) : Steady a s t := by
  have ended : ∀ p outcome, Steady a s (consider (unstack p outcome s)) := fun p outcome => (steady_unstack p outcome s).trans (steady_consider _)
  unfold topStep at step
  split at step
  · cases step
  · dsimp only at step
    repeat' split at step
    all_goals cases step
    all_goals simp only [ended, steady_changeTop]

theorem steady_advance (steps : Nat) (s : State) : Steady a s (advance steps s) := by
  induction steps generalizing s with
  | zero => exact .refl a s
  | succ n ih =>
    unfold advance
    split
    · next t step => exact (steady_topStep step).trans (ih t)
    · exact .refl a s

theorem steady_considerTaking (s : State) : Steady a s (considerTaking s) := by
  unfold considerTaking
  dsimp only
  split
  · exact steady_consider s
  · exact (steady_consider s).trans (steady_advance _ _)

theorem steady_sourceActive (edge : Bool) (p : Nat) (s : State) : Steady a s (sourceActive edge p s) := by
  unfold sourceActive
  dsimp only
  split
  · exact (steady_setSource _ _ s).trans (steady_changePlan _ _ _)
  · exact steady_setSource _ _ s

theorem steady_sourcesActive (edge : Bool) (plans : List Nat) (s : State) : Steady a s (sourcesActive edge plans s) := by
  have each := steady_eachOf (a := a) (steady_sourceActive edge) plans s
  unfold sourcesActive
  dsimp only
  split
  · exact each.trans (steady_considerTaking _)
  · exact each

theorem steady_sourcesInactive (plans : List Nat) (s : State) : Steady a s (sourcesInactive plans s) := by
  have each := steady_eachOf (a := a) (steady_setSource false) plans s
  unfold sourcesInactive
  dsimp only
  split
  · exact each.trans (steady_advance _ _)
  · exact each

theorem steady_clearStack (s : State) : Steady a s (clearStack s) := steady_eachOf (fun p => steady_unstack p _) _ s

theorem steady_plansFlash (s : State) : Steady a s (plansFlash s) := by
  have cleared := (steady_clearStack (a := a) s).trans (steady_emptySlot _)
  have emptied : Steady a (emptySlot (clearStack s)) { emptySlot (clearStack s) with preempt.inhibit := 0 } :=
    { Steady.refl _ _ with preempt := ⟨.inr (.inr rfl), .inr rfl, .inr (.inl rfl)⟩ }
  exact (cleared.trans emptied).trans (steady_eachOf (fun p u => steady_changePlan _ _ u) _ _)

theorem steady_retablePlans (s : State) : Steady a s (retablePlans s) :=
  steady_eachOf (fun p u => (steady_changePlan p _ u).trans (steady_refreshRequest p _)) _ s

end Sys2Proof.Machine

namespace Sys2Proof.Machine

open Sys2Proof.Safety

variable {a : Allowed}

/-! #### One entry of a list -/

theorem changeEntry_changeEntry {α : Type} (l : List α) (n : Nat) (f g : α → α) : changeEntry (changeEntry l n f) n g = changeEntry l n (g ∘ f) := by
  unfold changeEntry
  split
  · rfl
  · exact List.modify_modify_eq _ _ _ _

/-- The entry numbered `n` is changed and every other stays. -/
theorem changeEntry_mem {α : Type} {l : List α} {n : Nat} {f : α → α} {x : α} (member : x ∈ changeEntry l n f) :
    x ∈ l ∨ ∃ y, entry? l n = some y ∧ x = f y := by
  unfold changeEntry at member
  split at member
  · exact .inl member
  · next positive =>
    obtain ⟨k, found⟩ := List.mem_iff_getElem?.mp member
    rw [List.getElem?_modify, Option.map_eq_map, Option.map_eq_some_iff] at found
    obtain ⟨y, old, rfl⟩ := found
    split
    · next same => exact .inr ⟨y, by rw [entry?, if_neg positive, same]; exact old, rfl⟩
    · exact .inl (List.mem_of_getElem? old)

theorem entryD_changeEntry {α : Type} (l : List α) (n k : Nat) (f : α → α) (d : α) :
    entryD (changeEntry l n f) k d = entryD l k d ∨ k = n ∧ entryD (changeEntry l n f) k d = f (entryD l k d) := by
  simp only [entryD, entry?_changeEntry]
  split
  · next same =>
    cases entry? l k with
    | none => exact .inl rfl
    | some x => exact .inr ⟨same, rfl⟩
  · exact .inl rfl

/-! #### The branches -/

theorem branched_change {l : List Branch} {n : Nat} {f : Branch → Branch} (sound : ∀ b : Branch, b.Well → (f b).Well) : Branched l (changeEntry l n f) :=
  fun well => changeEntry_all sound well

theorem steady_changeBranch (br : BranchId) (f : Branch → Branch) (sound : ∀ b : Branch, b.Well → (f b).Well) (s : State) :
    Steady a s (changeBranch br f s) := { Steady.refl _ _ with branches := branched_change sound }

theorem steady_changeLiveness (br : BranchId) (station : Nat) (f : Liveness → Liveness) (s : State) : Steady a s (changeLiveness br station f s) :=
  steady_changeBranch br _ (by exact fun _ => id) s

theorem steady_endWait (br : BranchId) (s : State) : Steady a s (endWait br s) :=
  steady_changeBranch br _ (by exact fun _ well => ⟨fun both => (nomatch both.1), well.2⟩) s

theorem steady_markAll (s : State) : Steady a s (markAll s) := steady_eachOf (fun br u => steady_changeBranch br _ (by exact fun _ => id) u) _ s

/-- A free branch that starts a transmission awaits nothing, and takes at most an entry from its FIFO. -/
theorem startNext_well (b : Branch) : b.startNext.awaited = b.awaited ∧ b.startNext.fifo.length ≤ b.fifo.length := by
  have forward : b.startForward.awaited = b.awaited ∧ b.startForward.fifo.length ≤ b.fifo.length := by
    unfold Branch.startForward
    split
    · next entry rest fifo => exact ⟨rfl, by simp [fifo]⟩
    · exact ⟨rfl, le_refl _⟩
  have poll : ∀ choice, (b.startPoll choice).awaited = b.awaited ∧ (b.startPoll choice).fifo.length ≤ b.fifo.length := by
    intro choice
    unfold Branch.startPoll
    split <;> exact ⟨rfl, le_refl _⟩
  unfold Branch.startNext
  repeat' split
  · exact ⟨rfl, le_refl _⟩
  · exact ⟨rfl, le_refl _⟩
  · exact forward
  · exact poll _
  · exact forward

theorem arbitrate_well {b : Branch} (well : b.Well) : b.arbitrate.Well := by
  unfold Branch.arbitrate
  split
  · next free =>
    obtain ⟨awaited, fifo⟩ := startNext_well b
    simp only [Branch.free, Bool.and_eq_true, Option.isNone_iff_eq_none] at free
    exact ⟨fun both => by simp [awaited, free.1.2] at both, le_trans fifo well.2⟩
  · exact well

theorem steady_arbitrateAll (s : State) : Steady a s (arbitrateAll s) :=
  { branches := fun well => by
      simp only [arbitrateAll, List.forall_mem_map]
      exact fun b member => arbitrate_well (well b member) }

theorem steady_freshBranch (br : BranchId) (s : State) : Steady a s (freshBranch br s) := steady_changeBranch br _ (by exact fun _ => id) s

theorem steady_loadBranches (s : State) : Steady a s (loadBranches s) := steady_eachOf steady_freshBranch _ s

theorem steady_endStationFaults (br : BranchId) (s : State) : Steady a s (endStationFaults br s) := by
  refine steady_eachOf (fun l u => ?_) _ s
  have absent : Steady a u (if l.present then u else reportEnd .stationAbsent (some l.station) u) := by
    split
    · exact .refl a u
    · exact steady_reportEnd _ _ u
  dsimp only
  split
  · exact absent.trans (steady_reportEnd _ _ _)
  · exact absent

theorem steady_purgeForwards (br : BranchId) (s : State) : Steady a s (purgeForwards br s) := by
  refine .trans (steady_changeBranch br _ ?_ s) (steady_eachOf (fun e u => steady_send _ u) _ _)
  exact fun b well => ⟨well.1, le_trans (List.length_filter_le _ _) well.2⟩

theorem steady_retableBranches (s : State) : Steady a s (retableBranches s) :=
  steady_eachOf (fun br u => ((steady_endStationFaults br u).trans (steady_freshBranch br _)).trans (steady_purgeForwards br _)) _ s

/-! #### The lamp prover -/

theorem proved_change {x : Prover} {c : Nat} {f : Proving → Proving} (sound : ∀ p : Proving, p.Well → (f p).Well)
    (runs : a.judging = true ∨ ∀ p : Proving, p.RunsKept (f p)) : Proved a x { x with channels := changeEntry x.channels c f } := by
  refine ⟨fun well => changeEntry_all sound well, runs.imp_right (fun runs n => ?_)⟩
  rcases entryD_changeEntry x.channels c n f Proving.reset with same | ⟨-, changed⟩
  · rw [same]; exact .refl _
  · rw [changed]; exact runs _

theorem steady_changeProving (c : Nat) (f : Proving → Proving) (sound : ∀ p : Proving, p.Well → (f p).Well)
    (runs : a.judging = true ∨ ∀ p : Proving, p.RunsKept (f p)) (s : State) : Steady a s (changeProving c f s) :=
  { Steady.refl _ _ with prover := proved_change sound runs }

/-- A record without runs is within the bounds. -/
theorem well_of_noRuns {p : Proving} (out : p.outRun = none) (foreign : p.foreignRun = none) : p.Well := by simp [Proving.Well, out, foreign]

theorem noRuns_kept (p : Proving) : p.RunsKept p.noRuns := ⟨.inr rfl, .inr rfl⟩

theorem steady_discardChanged (before after : List Aspect) (s : State) : Steady a s (discardChanged before after s) := by
  refine steady_eachOf (fun c u => ?_) _ s
  dsimp only
  split
  · exact .refl a u
  · exact steady_changeProving c _ (by exact fun _ _ => well_of_noRuns rfl rfl) (.inr noRuns_kept) u

theorem steady_takeApply (br : BranchId) (carried : List (Nat × List Lamp)) (s : State) : Steady a s (takeApply br carried s) := by
  refine steady_eachOf (fun c u => ?_) _ s
  dsimp only
  split
  · split
    · refine steady_changeProving c _ ?_ (.inr (fun p => ?_)) u
      · intro p well
        split
        · exact well
        · exact well_of_noRuns rfl rfl
      · split
        · exact .refl p
        · exact noRuns_kept p
    · exact .refl a u
  · exact .refl a u

theorem steady_setRedFail (active : Bool) (g : Nat) (s : State) : Steady a s (setRedFail active g s) :=
  { Steady.refl _ _ with prover := ⟨id, .inr (fun _ => .refl _)⟩ }

theorem steady_endRedFail (g : Nat) (s : State) : Steady a s (endRedFail g s) := by
  unfold endRedFail
  split
  · exact (steady_setRedFail false g s).trans (steady_reportEnd _ _ _)
  · exact .refl a s

theorem steady_stopChannel (c : Nat) (s : State) : Steady a s (stopChannel c s) := by
  have stopped : ∀ out foreign : Bool, Steady a s (changeProving c (fun p => { p.noRuns with lampOut := p.lampOut && out, foreign := p.foreign && foreign }) s) :=
    fun out foreign => steady_changeProving c _ (by exact fun _ _ => well_of_noRuns rfl rfl) (.inr (fun _ => ⟨.inr rfl, .inr rfl⟩)) s
  unfold stopChannel
  dsimp only
  repeat' split
  · exact ((stopped _ _).trans (steady_reportEnd _ _ _)).trans (steady_reportEnd _ _ _)
  · exact (stopped _ _).trans (steady_reportEnd _ _ _)
  · exact (stopped _ _).trans (steady_reportEnd _ _ _)
  · exact stopped _ _

theorem steady_stopProving (s : State) : Steady a s (stopProving s) :=
  (steady_eachOf steady_stopChannel _ s).trans (steady_eachOf steady_endRedFail _ _)

theorem steady_clearChannel (c : Nat) (s : State) : Steady a s (clearChannel c s) := by
  have cleared : ∀ out foreign : Bool, Steady a s
      (changeProving c
        (fun p => { p with
                    lampOut := p.lampOut && !out, lampOutReleased := p.lampOutReleased && !out
                    foreign := p.foreign && !foreign, foreignReleased := p.foreignReleased && !foreign }) s) := by
    intro out foreign
    refine steady_changeProving c _ ?_ (.inr (by exact fun _ => ⟨.inl rfl, .inl rfl⟩)) s
    rintro p ⟨well, well'⟩
    exact ⟨fun both => well ⟨Bool.and_elim_left both.1, both.2⟩, fun both => well' ⟨Bool.and_elim_left both.1, both.2⟩⟩
  unfold clearChannel
  dsimp only
  split <;> split
  · exact ((cleared _ _).trans (steady_reportEnd _ _ _)).trans (steady_reportEnd _ _ _)
  · exact (cleared _ _).trans (steady_reportEnd _ _ _)
  · exact (cleared _ _).trans (steady_reportEnd _ _ _)
  · exact cleared _ _

theorem steady_endChannelFaults (c : Nat) (s : State) : Steady a s (endChannelFaults c s) := by
  unfold endChannelFaults
  dsimp only
  split <;> split
  · exact (steady_reportEnd _ _ _).trans (steady_reportEnd _ _ _)
  · exact steady_reportEnd _ _ _
  · exact steady_reportEnd _ _ _
  · exact .refl a s

/-- Every record stands as after a reset (R125). -/
theorem proved_reset (x : Prover) : Proved a x Prover.reset := by
  refine ⟨fun _ p member => ?_, .inr (fun n => ?_)⟩
  · have : p = Proving.reset := List.eq_of_mem_replicate member
    rw [this]
    exact well_of_noRuns rfl rfl
  · have fresh : entryD Prover.reset.channels n Proving.reset = Proving.reset := by
      unfold entryD entry? Prover.reset
      split
      · rfl
      · rw [List.getElem?_replicate]
        split <;> rfl
    rw [fresh]
    exact noRuns_kept _

theorem steady_retableProver (s : State) : Steady a s (retableProver s) := by
  have ended : Steady a s (eachOf groupNumbers endRedFail (eachOf s.channelNumbers endChannelFaults s)) :=
    .trans (steady_eachOf steady_endChannelFaults _ s) (steady_eachOf steady_endRedFail _ _)
  unfold retableProver
  exact ended.trans { prover := proved_reset _ }

theorem judgeOn_well (r : ChannelRec) (current : Half) (now : Time) {x : Proving} (well : x.Well) : (judgeOn r current now x).1.Well := by
  unfold judgeOn
  dsimp only
  repeat' split
  all_goals simp_all [Proving.Well]

theorem judgeOff_well (r : ChannelRec) (current : Half) (now : Time) {x : Proving} (well : x.Well) : (judgeOff r current now x).1.Well := by
  unfold judgeOff
  dsimp only
  repeat' split
  all_goals simp_all [Proving.Well]

theorem judgeReading_well (r : ChannelRec) (current : Half) (now : Time) {x : Proving} (well : x.Well) : (judgeReading r current now x).1.Well := by
  unfold judgeReading
  split
  · exact judgeOn_well r current now well
  · exact judgeOff_well r current now well
  · exact well

theorem entryD_of_all {α : Type} {p : α → Prop} {l : List α} {d : α} (default : p d) (h : ∀ x ∈ l, p x) (n : Nat) : p (entryD l n d) := by
  unfold entryD
  cases found : entry? l n with
  | none => exact default
  | some x => exact h x (entry?_mem found)

theorem steady_judgeChannel (judging : a.judging = true) (currents : List Half) (c : Nat) (x : State × List Judged) :
    Steady a x.1 (judgeChannel currents c x).1 := by
  unfold judgeChannel
  dsimp only
  split
  · refine { Steady.refl _ _ with prover := ⟨fun well => changeEntry_all (fun _ _ => ?_) well, .inl judging⟩ }
    exact judgeReading_well _ _ _ (entryD_of_all (well_of_noRuns rfl rfl) well c)
  · exact .refl a _

theorem steady_judgeReport (judging : a.judging = true) (station : Nat) (currents : List Half) (s : State) :
    Steady a s (judgeReport station currents s).1 := by
  have each : ∀ (l : List Nat) (x : State × List Judged), Steady a x.1 (l.foldl (fun x c => judgeChannel currents c x) x).1 := by
    intro l
    induction l with
    | nil => exact fun x => .refl a _
    | cons c l ih => exact fun x => (steady_judgeChannel judging currents c x).trans (ih _)
  exact each _ (s, [])

/-! #### The detector conditioner -/

theorem sensed_change {l : List (Option Detector)} {c : Nat} {f : Detector → Detector} (sound : ∀ d, entry? l c = some (some d) → d.Well → (f d).Well)
    (kept : a.sensing = true ∨ ∀ d, (f d).raw = d.raw ∧ (f d).occupied = d.occupied) : Sensed a l (changeEntry l c (Option.map f)) := by
  refine ⟨fun well d member => ?_, kept.imp_right (fun kept n => ?_)⟩
  · rcases changeEntry_mem member with old | ⟨y, found, same⟩
    · exact well d old
    · cases y with
      | none => cases same
      | some x =>
        cases same
        exact sound x found (well x (entry?_mem found))
  · rcases entryD_changeEntry l c n (Option.map f) none with same | ⟨-, changed⟩
    · rw [same]; exact ⟨rfl, rfl⟩
    · rw [changed]
      cases entryD l n none with
      | none => exact ⟨rfl, rfl⟩
      | some d => exact ⟨congrArg some (kept d).1, congrArg some (kept d).2⟩

/-- A change of a detector's record that leaves its pending list, its states and its stuck deadline. -/
theorem steady_changeDetector (c : Nat) (f : Detector → Detector)
    (kept : ∀ d, (f d).raw = d.raw ∧ (f d).occupied = d.occupied ∧ (f d).pending = d.pending ∧ ((f d).stuckAt = d.stuckAt ∨ (f d).stuckAt = none))
    (s : State) : Steady a s (changeDetector c f s) := by
  refine { Steady.refl _ _ with detectors := sensed_change (fun d _ well => ?_) (.inr (fun d => ⟨(kept d).1, (kept d).2.1⟩)) }
  obtain ⟨-, occupied, pending, stuck⟩ := kept d
  refine ⟨pending ▸ well.1, ?_⟩
  rcases stuck with same | none
  · rw [occupied, same]; exact well.2
  · exact .inr none

/-- A change of a detector's record by what it is sensed to be. -/
theorem steady_senseDetector (sensing : a.sensing = true) {c : Nat} {f : Detector → Detector} {s : State}
    (sound : ∀ d, s.detector c = some d → d.Well → (f d).Well) : Steady a s (changeDetector c f s) :=
  { Steady.refl _ _ with detectors := sensed_change (fun d found well => sound d (by rw [State.detector, entryD, found]; rfl) well) (.inl sensing) }

theorem steady_report (c : Nat) (occupied fault : Bool) (time : Time) (s : State) : Steady a s (report c occupied fault time s) := by
  unfold report
  split
  · refine .trans (t := { s with event.reports := s.event.reports ++ [_] }) { Steady.refl _ _ with } (steady_changeDetector c _ (by exact fun d => ⟨rfl, rfl, rfl, .inl rfl⟩) _)
  · exact .refl a s

theorem steady_setReported (c : Nat) (state : Bool) (time : Time) (s : State) : Steady a s (setReported c state time s) :=
  steady_changeDetector c _ (by exact fun d => by split <;> exact ⟨rfl, rfl, rfl, .inl rfl⟩) s

theorem steady_reportChange (c : Nat) (time : Time) (s : State) : Steady a s (reportChange c time s) := by
  unfold reportChange
  split
  · dsimp only
    split
    · exact .refl a s
    · exact (steady_setReported _ _ _ s).trans (steady_report _ _ _ _ _)
  · exact .refl a s

theorem mark_kept (d : Detector) (active : Bool) (f : DetectorFault) :
    (d.mark active f).raw = d.raw ∧ (d.mark active f).occupied = d.occupied ∧ (d.mark active f).pending = d.pending
      ∧ ((d.mark active f).stuckAt = d.stuckAt ∨ (d.mark active f).stuckAt = none) := by
  cases f <;> exact ⟨rfl, rfl, rfl, .inl rfl⟩

theorem steady_raiseDetector (f : DetectorFault) (c : Nat) (s : State) : Steady a s (raiseDetector f c s) := by
  unfold raiseDetector
  split
  · split
    · exact .refl a s
    · exact (steady_changeDetector c _ (by exact fun d => mark_kept d true f) s).trans (steady_note _ _)
  · exact .refl a s

theorem steady_endDetector (f : DetectorFault) (c : Nat) (s : State) : Steady a s (endDetector f c s) := by
  unfold endDetector
  split
  · split
    · exact (steady_changeDetector c _ (by exact fun d => mark_kept d false f) s).trans (steady_reportEnd _ _ _)
    · exact .refl a s
  · exact .refl a s

theorem steady_setCall (c : Nat) (t : Time) (s : State) : Steady a s (setCall c t s) := by
  unfold setCall
  dsimp only
  split
  · exact steady_changeDetector c _ (by exact fun d => by split <;> exact ⟨rfl, rfl, rfl, .inl rfl⟩) s
  · exact .refl a s

theorem steady_takeOnset (sensing : a.sensing = true) (c : Nat) (t : Time) (s : State) : Steady a s (takeOnset c t s) := by
  have onset : Steady a s (changeDetector c (fun d => d.onset (s.tables.detector c) t s.clock.now) s) :=
    steady_senseDetector sensing (fun d _ well => ⟨well.1, .inl rfl⟩)
  have followed : ∀ u, Steady a s u → Steady a s (reportChange c t (setCall c t (endDetector .idle c u))) := fun u hu =>
    ((hu.trans (steady_endDetector _ _ u)).trans (steady_setCall _ _ _)).trans (steady_reportChange _ _ _)
  unfold takeOnset
  dsimp only
  split <;> split
  · exact followed _ (onset.trans (steady_raiseDetector _ _ _))
  · exact (followed _ (onset.trans (steady_raiseDetector _ _ _))).trans (steady_sourcesActive _ _ _)
  · exact followed _ onset
  · exact (followed _ onset).trans (steady_sourcesActive _ _ _)

theorem steady_takeOffset (sensing : a.sensing = true) (c : Nat) (t : Time) (s : State) : Steady a s (takeOffset c t s) := by
  have offset : Steady a s (changeDetector c (fun d => { d with occupied := false, since := t, stuckAt := none }) s) :=
    steady_senseDetector sensing (fun d _ well => ⟨well.1, .inr rfl⟩)
  have told := (offset.trans (steady_endDetector .stuck c _)).trans (steady_reportChange c t _)
  exact told.trans (steady_sourcesInactive _ _)

theorem steady_takeTransition (sensing : a.sensing = true) (c : Nat) (x : Transition) (s : State) : Steady a s (takeTransition c x s) := by
  unfold takeTransition
  split
  · exact steady_takeOnset sensing c _ s
  · exact steady_takeOffset sensing c _ s

theorem decideHead_length {r : DetectorRec} {now : Time} {l rest : List Transition} {x : Option Transition} (h : decideHead r now l = some (rest, x)) :
    rest.length ≤ l.length := by
  unfold decideHead at h
  repeat' split at h
  all_goals cases h
  all_goals simp only [List.length_cons, List.length_nil]
  all_goals omega

theorem steady_debounce (sensing : a.sensing = true) (c steps : Nat) (s : State) : Steady a s (debounce c steps s) := by
  induction steps generalizing s with
  | zero => exact .refl a s
  | succ n ih =>
    unfold debounce
    split
    · exact .refl a s
    · next d found =>
      split
      · exact .refl a s
      · next rest confirmed decided =>
        have shorter : Steady a s (changeDetector c (fun x => { x with pending := rest }) s) :=
          steady_senseDetector sensing (fun x same well => by
            obtain rfl := Option.some.inj (found.symm.trans same)
            exact ⟨le_trans (decideHead_length decided) well.1, well.2⟩)
        dsimp only
        split
        · exact (shorter.trans (steady_takeTransition sensing c _ _)).trans (ih _)
        · exact shorter.trans (ih _)

theorem steady_resynchronize (sensing : a.sensing = true) (c : Nat) (e : DsmInput) (s : State) : Steady a s (resynchronize c e s) := by
  have set : Steady a s (changeDetector c (fun x => { x with pending := [], raw := some e.occupied, resync := false }) s) :=
    steady_senseDetector sensing (fun _ _ well => ⟨Nat.zero_le _, well.2⟩)
  unfold resynchronize
  split
  · dsimp only
    split
    · exact set
    · exact set.trans (steady_takeTransition sensing c _ _)
  · exact .refl a s

theorem length_timedTransitions (now last : Time) (l : List (Bool × Half)) : (timedTransitions now last l).length = l.length := by
  induction l generalizing last with
  | nil => rfl
  | cons x l ih => simp [timedTransitions, ih]

theorem steady_takeEntry (sensing : a.sensing = true) (c : Nat) (e : DsmInput) (s : State) : Steady a s (takeEntry c e s) := by
  unfold takeEntry
  split
  · next d found =>
    split
    · exact steady_resynchronize sensing c e s
    · next taken =>
      simp only [continuous, Bool.or_eq_true, Bool.not_eq_true', not_or, Bool.not_eq_false, Bool.and_eq_true, decide_eq_true_eq] at taken
      refine .trans (steady_senseDetector sensing (fun x same well => ?_)) (steady_debounce sensing c _ _)
      obtain rfl := Option.some.inj (found.symm.trans same)
      refine ⟨?_, well.2⟩
      have room := taken.2.2
      simpa [listedTransitions, length_timedTransitions] using room
  · exact .refl a s

theorem steady_testHealth (c : Nat) (health : Health) (s : State) : Steady a s (testHealth c health s) := by
  have noted : Steady a s (changeDetector c (fun d => { d with health := health }) s) := steady_changeDetector c _ (by exact fun _ => ⟨rfl, rfl, rfl, .inl rfl⟩) s
  have dated : ∀ (u : State) (since : Option Time), Steady a u (changeDetector c (fun d => { d with okSince := since }) u) := fun u since =>
    steady_changeDetector c _ (by exact fun _ => ⟨rfl, rfl, rfl, .inl rfl⟩) u
  unfold testHealth
  dsimp only
  split
  · exact (noted.trans (dated _ _)).trans (steady_raiseDetector _ _ _)
  · exact (noted.trans (dated _ _)).trans (steady_raiseDetector _ _ _)
  · split
    · split
      · split
        · exact noted.trans (dated _ _)
        · split
          · exact ((noted.trans (dated _ _)).trans (steady_endDetector _ _ _)).trans (steady_endDetector _ _ _)
          · exact noted
      · exact noted
    · exact noted

theorem steady_testChatter (c : Nat) (s : State) : Steady a s (testChatter c s) := by
  unfold testChatter
  dsimp only
  repeat' split
  · exact .refl a s
  · exact steady_raiseDetector _ _ s
  · exact steady_endDetector _ _ s
  · exact .refl a s

theorem steady_takeInput (sensing : a.sensing = true) (inputs : List DsmInput) (c : Nat) (s : State) : Steady a s (takeInput inputs c s) := by
  unfold takeInput
  split
  · exact ((steady_takeEntry sensing c _ s).trans (steady_testHealth c _ _)).trans (steady_testChatter c _)
  · exact .refl a s

theorem steady_enterFault (c : Nat) (d : Detector) (s : State) : Steady a s (enterFault c d s) :=
  (((steady_changeDetector c _ (by exact fun _ => ⟨rfl, rfl, rfl, .inl rfl⟩) s).trans (steady_setReported _ _ _ _)).trans (steady_report _ _ _ _ _)).trans
    (steady_sourcesInactive _ _)

theorem steady_leaveFault (c : Nat) (d : Detector) (s : State) : Steady a s (leaveFault c d s) := by
  have left : Steady a s (changeDetector c (fun x => { x with inFault := false }) s) := steady_changeDetector c _ (by exact fun _ => ⟨rfl, rfl, rfl, .inl rfl⟩) s
  have told : ∀ u state, Steady a s u → Steady a s (report c state false s.clock.now (setReported c state s.clock.now u)) := fun u state hu =>
    (hu.trans (steady_setReported _ _ _ _)).trans (steady_report _ _ _ _ _)
  unfold leaveFault
  dsimp only
  split
  · exact (told _ _ (left.trans (steady_setCall _ _ _))).trans (steady_sourcesActive _ _ _)
  · exact told _ _ left

theorem steady_decideFault (c : Nat) (s : State) : Steady a s (decideFault c s) := by
  unfold decideFault
  repeat' split
  · exact steady_enterFault c _ s
  · exact steady_leaveFault c _ s
  · exact .refl a s
  · exact .refl a s

theorem steady_takeSample (sensing : a.sensing = true) (station : Nat) (inputs : List DsmInput) (s : State) : Steady a s (takeSample station inputs s) :=
  (steady_eachOf (fun c u => steady_takeInput sensing inputs c u) _ s).trans (steady_eachOf steady_decideFault _ _)

theorem steady_stationLost (sensing : a.sensing = true) (station : Nat) (s : State) : Steady a s (stationLost station s) := by
  have lost : ∀ (c : Nat) (u : State), Steady a u
      (changeDetector c (fun d => { d with stationAbsent := true, pending := [], raw := none, resync := true, okSince := none }) u) := fun c u =>
    steady_senseDetector sensing (fun d _ well => ⟨Nat.zero_le _, well.2⟩)
  exact (steady_eachOf lost _ s).trans (steady_eachOf steady_decideFault _ _)

theorem steady_stationBack (station : Nat) (s : State) : Steady a s (stationBack station s) :=
  steady_eachOf (fun c u => steady_changeDetector c _ (by exact fun _ => ⟨rfl, rfl, rfl, .inl rfl⟩) u) _ s

theorem steady_serveCalls (g : Nat) (s : State) : Steady a s (serveCalls g s) :=
  steady_eachOf (fun c u => (steady_changeDetector c _ (by exact fun _ => ⟨rfl, rfl, rfl, .inl rfl⟩) u).trans (steady_reportChange _ _ _)) _ s

theorem steady_loadDetectors (sensing : a.sensing = true) (s : State) : Steady a s (loadDetectors s) := by
  refine { Steady.refl _ _ with detectors := ⟨fun _ d member => ?_, .inl sensing⟩, pending := rfl, clock := .refl _ }
  obtain ⟨c, -, made⟩ := List.mem_map.mp member
  split at made
  · cases made
    exact ⟨Nat.zero_le _, .inr rfl⟩
  · cases made

theorem steady_retableDetectors (sensing : a.sensing = true) (s : State) : Steady a s (retableDetectors s) :=
  (steady_eachOf (fun c u => steady_eachOf (fun f v => steady_endDetector f c v) _ u) _ s).trans (steady_loadDetectors sensing _)

end Sys2Proof.Machine

namespace Sys2Proof.Machine

open Sys2Proof.Safety

variable {a : Allowed}

/-! #### Changes of mode and fault actions -/

theorem steady_announce (old : Mode) (s : State) : Steady a s (announce old s) := steady_alarm _ s

theorem steady_setMode (new : Mode) (cause : Cause) (s : State) : Steady a s (setMode new cause s) := { Steady.refl _ _ with }

theorem steady_showFlash (s : State) : Steady a s (showFlash s) := { Steady.refl _ _ with }

theorem steady_showStop (s : State) : Steady a s (showStop s) := { Steady.refl _ _ with }

theorem steady_resetWorking (s : State) : Steady a s (resetWorking s) :=
  { Steady.refl _ _ with store := ⟨.inr ⟨rfl, rfl, rfl, rfl⟩, .inr ⟨rfl, rfl, rfl, rfl, rfl⟩, .inr (.inr rfl)⟩ }

theorem steady_writeRecordOf (record : Option (FaultKind × Option Nat)) (s : State) : Steady a s (writeRecordOf record s) := by
  cases record with
  | none => exact .refl a s
  | some record =>
    show Steady a s (startRecordWrite record.1 record.2 s)
    exact { Steady.refl _ _ with store := ⟨.inr ⟨rfl, rfl, rfl, rfl⟩, .inr ⟨rfl, rfl, rfl, rfl, rfl⟩, .inr (.inr rfl)⟩ }

theorem steady_endLapse (s : State) : Steady a s (endLapse s) := by
  unfold endLapse
  split
  · refine .trans (t := { s with exchange.warning := none }) ?_ (steady_reportEnd _ _ _)
    exact { Steady.refl _ _ with exchange := ⟨.inr rfl, .inr ⟨rfl, rfl, .inl rfl⟩, .inr (.inr (.inl rfl))⟩ }
  · exact .refl a s

theorem steady_exchangeFlash (s : State) : Steady a s (exchangeFlash s) := by
  refine .trans (t := { s with exchange.expectedChain := none, exchange.accepted := none, exchange.supervision := none }) ?_ (steady_endLapse _)
  exact { Steady.refl _ _ with exchange := ⟨.inr rfl, .inr ⟨rfl, rfl, .inr rfl⟩, .inr (.inr (.inr rfl))⟩ }

theorem steady_leavePermit (new : Mode) (cause : Cause) (record : Option (FaultKind × Option Nat)) (s : State) : Steady a s (leavePermit new cause record s) := by
  have moded : Steady a s
      { setMode new cause s with
        control.closeTarget := none, control.closeCause := none, control.startTimer := none, control.firstImage := none } := { Steady.refl _ _ with }
  have flashed := (moded.trans (steady_showFlash _)).trans (steady_exchangeFlash _)
  have stopped := (flashed.trans (steady_plansFlash _)).trans (steady_stopProving _)
  exact ((stopped.trans (steady_resetWorking _)).trans (steady_writeRecordOf record _)).trans (steady_announce _ _)

theorem steady_changeFlashMode (new : Mode) (cause : Cause) (record : Option (FaultKind × Option Nat)) (s : State) :
    Steady a s (changeFlashMode new cause record s) :=
  (((steady_setMode new cause s).trans (steady_resetWorking _)).trans (steady_writeRecordOf record _)).trans (steady_announce _ _)

theorem steady_enterRunning (cause : Cause) (s : State) : Steady a s (enterRunning cause s) := by
  have moded : Steady a s { setMode .running cause s with control.startTimer := none, control.firstImage := none } := { Steady.refl _ _ with }
  exact ((moded.trans (steady_endLapse _)).trans (steady_considerTaking _)).trans (steady_announce _ _)

theorem steady_enterWarning (s : State) : Steady a s (enterWarning s) := by
  have timed : ∀ window, Steady a s { s with exchange.supervision := some .expired, exchange.warning := some window } := fun window =>
    { Steady.refl _ _ with exchange := ⟨.inr rfl, .inr ⟨rfl, rfl, .inl rfl⟩, .inr (.inr (.inl rfl))⟩ }
  exact ((((timed _).trans (steady_note _ _)).trans (steady_setMode _ _ _)).trans (steady_considerTaking _)).trans (steady_announce _ _)

theorem steady_enterClosing (target : CloseTarget) (cause : CloseCause) (s : State) : Steady a s (enterClosing target cause s) := by
  have moded : Steady a s
      { setMode .closing cause.cause s with
        control.closeTarget := some target, control.closeCause := some cause
        control.startTimer := none, control.firstImage := none, exchange.supervision := none } :=
    { Steady.refl _ _ with exchange := ⟨.inr rfl, .inr ⟨rfl, rfl, .inl rfl⟩, .inr (.inr (.inl rfl))⟩ }
  exact ((moded.trans (steady_endLapse _)).trans (steady_clearStack _)).trans (steady_announce _ _)

theorem steady_takeAction (r : Raise) (close : CloseTarget) (s : State) : Steady a s (takeAction r close s) := by
  unfold takeAction
  repeat' split
  all_goals
    simp only [steady_leavePermit, steady_changeFlashMode, steady_enterClosing, Steady.refl]
  all_goals exact { Steady.refl _ _ with }

theorem steady_raise (r : Raise) (s : State) : Steady a s (raise r s) := (steady_note r s).trans (steady_takeAction r .flash _)

theorem steady_handRed (change : Nat × Bool) (s : State) : Steady a s (handRed change s) := by
  have raised : Steady a s (raise (redFailRaise s.tables change.1) (setRedFail true change.1 s)) :=
    (steady_setRedFail _ _ s).trans (steady_raise _ _)
  unfold handRed
  split
  · dsimp only
    split
    · exact raised
    · exact raised.trans (steady_endRedFail _ _)
  · exact steady_endRedFail _ s

theorem steady_evaluateReds (s : State) : Steady a s (evaluateReds s) := steady_eachOf steady_handRed _ s

theorem steady_recurStations (br : BranchId) (s : State) : Steady a s (recurStations br s) :=
  (steady_eachOf (fun _ u => steady_raise _ u) _ s).trans (steady_eachOf (fun _ u => steady_raise _ u) _ _)

theorem steady_enterStart (run : a.run = true) (startChain : Half) (s : State) : Steady a s (enterStart startChain s) := by
  have entered : ∀ start supervision, Steady a s
      { showStop (setMode .start .modRun s) with
        control.startTimer := start, control.firstImage := some false
        exchange.expectedChain := some startChain, exchange.accepted := none
        exchange.supervision := supervision, exchange.warning := none } := fun start supervision =>
    { Steady.refl _ _ with exchange := ⟨.inr rfl, .inr ⟨rfl, rfl, .inr rfl⟩, .inr (.inl run)⟩ }
  exact (((entered _ _).trans (steady_announce _ _)).trans (steady_evaluateReds _)).trans (steady_eachOf steady_recurStations _ _)

/-! #### The conclusion of an event -/

theorem steady_evaluateConcerned (passes : Nat) (s : State) : Steady a s (evaluateConcerned passes s) := { }

theorem steady_rebuild (s : State) : Steady a s (rebuild s) := { }

theorem steady_settle (rounds : Nat) (s : State) : Steady a s (settle rounds s) := by
  induction rounds generalizing s with
  | zero => exact (steady_rebuild s).trans (steady_evaluateConcerned _ _)
  | succ n ih =>
    have settled := (steady_rebuild (a := a) s).trans (steady_evaluateConcerned passLimit _)
    unfold settle
    dsimp only
    split
    · exact (settled.trans (steady_advance _ _)).trans (ih _)
    · exact settled

theorem steady_closeIfDone (s : State) : Steady a s (closeIfDone s) := by
  unfold closeIfDone
  split
  · exact steady_leavePermit _ _ _ s
  · exact .refl a s

theorem steady_noticeGo (s : State) : Steady a s (noticeGo s) := steady_eachOf steady_serveCalls _ s

theorem steady_evaluateShown (s : State) : Steady a s (evaluateShown s) := by
  unfold evaluateShown
  split
  · exact .refl a s
  · exact steady_evaluateReds s

theorem steady_handReports (s : State) : Steady a s (handReports s) := steady_eachOf (fun _ u => steady_send _ u) _ s

/-- What comes before the numbering of the image, and after it. -/
theorem steady_beforeNumber (s : State) : Steady a s (evaluateShown (noticeGo (closeIfDone (settle roundLimit s)))) :=
  (((steady_settle _ s).trans (steady_closeIfDone _)).trans (steady_noticeGo _)).trans (steady_evaluateShown _)

theorem steady_afterNumber (s : State) : Steady a s (handReports (arbitrateAll (markIfDue s))) := by
  have marked : Steady a s (markIfDue s) := by
    unfold markIfDue
    split
    · exact steady_markAll s
    · exact .refl a s
  exact (marked.trans (steady_arbitrateAll _)).trans (steady_handReports _)

theorem steady_numberImage (number : a.number = true) (s : State) : Steady a s (numberImage s) := by
  unfold numberImage
  split
  · exact .refl a s
  · refine .trans (t := { s with engine.imageNumber := s.engine.imageNumber + 1, event.remark := true }) ?_ (steady_discardChanged _ _ _)
    exact { Steady.refl _ _ with number := .inl number }

theorem numberImage_number (s : State) :
    (numberImage s).engine.imageNumber = s.engine.imageNumber ∨ (numberImage s).engine.imageNumber = s.engine.imageNumber + 1 := by
  unfold numberImage
  split
  · exact .inl rfl
  · exact .inr (by simp)

/-- The same, for an event that numbers an image. -/
def Allowed.numbering (a : Allowed) : Allowed := { a with number := true }

theorem Steady.numbering {s t : State} (h : Steady a s t) : Steady a.numbering s t where
  pending := h.pending
  clock := h.clock
  exchange := h.exchange
  preempt := h.preempt
  store := h.store
  maint := h.maint
  number := .inl rfl
  link := h.link
  faults := h.faults
  branches := h.branches
  prover := h.prover
  detectors := h.detectors

/-- A whole command: what it may change, and at most one new image (R21). -/
def Passed (a : Allowed) (s t : State) : Prop :=
  Steady a.numbering s t ∧ (t.engine.imageNumber = s.engine.imageNumber ∨ t.engine.imageNumber = s.engine.imageNumber + 1)

theorem passed_of_steady (fixed : a.number = false) {s t : State} (h : Steady a s t) : Passed a s t :=
  ⟨h.numbering, .inl (h.number.resolve_left (by simp [fixed]))⟩

/-- An answer only hands frames to the link interface. -/
theorem steady_answer {answer : State → State} (only : onlyLink answer) {s : State} (link : Linked a s.link (answer s).link) :
    Steady a s (closeEvent (answer s)) := by
  have same := only s
  have kept : ∀ {α : Type} (part : State → α), (∀ (u : State) (l : Link), part { u with link := l } = part u) → part (answer s) = part s :=
    fun part blind => (blind (answer s) s.link).symm.trans (congrArg part same)
  exact
    { pending := kept State.pending (fun _ _ => rfl)
      clock := by rw [show (closeEvent (answer s)).clock = s.clock from kept State.clock (fun _ _ => rfl)]; exact .refl _
      exchange := by rw [show (closeEvent (answer s)).exchange = s.exchange from kept State.exchange (fun _ _ => rfl)]; exact .refl _ _
      preempt := by rw [show (closeEvent (answer s)).preempt = s.preempt from kept State.preempt (fun _ _ => rfl)]; exact .refl _ _
      store := by rw [show (closeEvent (answer s)).store = s.store from kept State.store (fun _ _ => rfl)]; exact .refl _ _
      maint := .inr (kept (fun u => u.control.maint) (fun _ _ => rfl))
      number := .inr (kept (fun u => u.engine.imageNumber) (fun _ _ => rfl))
      link := link
      faults := by rw [show (closeEvent (answer s)).faults = s.faults from kept State.faults (fun _ _ => rfl)]; exact .refl _
      branches := by rw [show (closeEvent (answer s)).branches = s.branches from kept State.branches (fun _ _ => rfl)]; exact .refl _
      prover := by rw [show (closeEvent (answer s)).prover = s.prover from kept State.prover (fun _ _ => rfl)]; exact .refl _ _
      detectors := by rw [show (closeEvent (answer s)).detectors = s.detectors from kept State.detectors (fun _ _ => rfl)]; exact .refl _ _ }

theorem passed_asEvent (fixed : a.number = false) {effect answer : State → State} {s : State} (only : onlyLink answer)
    (link : ∀ u : State, Linked a.numbering u.link (answer u).link) (own : Steady a (openEvent s) (effect (openEvent s))) :
    Passed a s (asEvent effect answer s) := by
  have opened : Steady a s (openEvent s) := { Steady.refl _ _ with }
  have before := (opened.trans own).trans (steady_beforeNumber _)
  have numbered := numberImage_number (evaluateShown (noticeGo (closeIfDone (settle roundLimit (effect (openEvent s))))))
  have after := (steady_afterNumber (a := a) (numberImage (evaluateShown (noticeGo (closeIfDone (settle roundLimit (effect (openEvent s))))))))
  refine ⟨((before.numbering.trans (steady_numberImage rfl _)).trans after.numbering).trans (steady_answer only (link _)), ?_⟩
  have start := before.number.resolve_left (by simp [fixed])
  have finish := after.number.resolve_left (by simp [fixed])
  have answered : (asEvent effect answer s).engine = (conclude (effect (openEvent s))).engine :=
    (congrArg State.engine (only (conclude (effect (openEvent s)))) :)
  rw [answered, conclude, finish, ← start]
  exact numbered

/-! ### The commands -/

/-- The command may change the strike count (R74, R77). -/
def changesStrikes : Instr → Bool
  | .warningWindowExpiry | .fcl => true
  | _ => false

/-- The command is a level of MAINT (R63). -/
def changesMaint : Instr → Bool
  | .maintStateChange _ _ => true
  | _ => false

/-- The command is a level of a preemption line (R86). -/
def changesLines : Instr → Bool
  | .peLineChange _ _ _ => true
  | _ => false

/-- The command may give new active tables (R168, R174). -/
def changesTables : Instr → Bool
  | .tableLoadEnd _ _ | .commitCompletion => true
  | _ => false

/-- The command may change the words of the store (R168, R174, R175). -/
def changesWords : Instr → Bool
  | .tableLoadEnd _ _ | .commitCompletion | .commitWriteFailure => true
  | _ => false

/-- The command is a commit request (R173). -/
def isCommit : Instr → Bool
  | .tcm => true
  | _ => false

/-- The command is the end of an outgoing transmission (R185). -/
def isSent : Instr → Bool
  | .outgoingFrameSent => true
  | _ => false

/-- What each command may change beside what every event may. -/
def allowed (s : State) (c : Instr) : Allowed where
  strikes := changesStrikes c
  image := isImage c
  run := isRun c
  maint := changesMaint c
  lines := changesLines c
  call := isCall c
  sensing := isSensing c || isLoadEnd c
  judging := isUsableReport s c
  tables := changesTables c
  words := changesWords c
  commit := isCommit c
  number := false
  sent := isSent c

theorem changesStrikes_false {c : Instr} (warning : c ≠ .warningWindowExpiry) (fcl : c ≠ .fcl) : changesStrikes c = false := by
  unfold changesStrikes
  split <;> simp_all

theorem changesMaint_false {c : Instr} (maint : ∀ active held, c ≠ .maintStateChange active held) : changesMaint c = false := by
  unfold changesMaint
  split <;> simp_all

theorem changesLines_false {c : Instr} (lines : ∀ line active held, c ≠ .peLineChange line active held) : changesLines c = false := by
  unfold changesLines
  split <;> simp_all

theorem changesTables_false {c : Instr} (load : isLoadEnd c = false) (completion : c ≠ .commitCompletion) : changesTables c = false := by
  unfold changesTables
  split
  · cases load
  · exact absurd rfl completion
  · rfl

theorem changesWords_false {c : Instr} (load : isLoadEnd c = false) (completion : c ≠ .commitCompletion) (failure : c ≠ .commitWriteFailure) :
    changesWords c = false := by
  unfold changesWords
  split
  · cases load
  · exact absurd rfl completion
  · exact absurd rfl failure
  · rfl

theorem isCommit_false {c : Instr} (tcm : c ≠ .tcm) : isCommit c = false := by
  unfold isCommit
  split
  · exact absurd rfl tcm
  · rfl

theorem isSent_false {c : Instr} (sent : c ≠ .outgoingFrameSent) : isSent c = false := by
  unfold isSent
  split
  · exact absurd rfl sent
  · rfl

/-- A command's outcome may change no more than is allowed. -/
def Keeps (a : Allowed) (s : State) (o : Host.Outcome State Fault Refusal) : Prop := ∀ t, o = .next t → Passed a s t

theorem keeps_whileUp (fixed : a.number = false) {s : State} {effect : State → State} (own : Passed a s (effect s)) : Keeps a s (.next (whileUp effect s)) := by
  rintro t ⟨⟩
  unfold whileUp
  split
  · exact own
  · exact passed_of_steady fixed (.refl a s)

theorem keeps_event (fixed : a.number = false) {s : State} {effect : State → State} (own : Steady a (openEvent s) (effect (openEvent s))) :
    Keeps a s (eventOutcome effect s) :=
  keeps_whileUp fixed (passed_asEvent fixed id_onlyLink (fun _ => .refl _ _) own)

/-- A frame to the controller, or none, is an answer that keeps the bounds of the queue. -/
structure Answers (answer : State → State) : Prop where
  only : onlyLink answer
  linked : ∀ (a : Allowed) (u : State), Linked a u.link (answer u).link

theorem answers_id : Answers id := ⟨id_onlyLink, fun _ _ => .refl _ _⟩

theorem answers_send (f : OutFrame) : Answers (send f) := ⟨send_onlyLink f, fun _ u => linked_accept _ u.link f⟩

theorem answers_reply (kind : Byte) (result : Result) (content : List Byte) : Answers (reply kind result content) := answers_send _

theorem answers_echo (result : Result) : Answers (echoAnswer result) := ⟨fun _ => rfl, fun _ u => linked_accept _ u.link _⟩

theorem keeps_frame (fixed : a.number = false) {s : State} {effect answer : State → State} (answers : Answers answer)
    (own : Steady a (openEvent s) (effect (openEvent s))) : Keeps a s (frameOutcome effect answer s) := by
  refine keeps_whileUp fixed ?_
  split
  · exact passed_asEvent fixed answers.only (fun u => answers.linked _ u) own
  · refine passed_of_steady fixed (t := received s) { Steady.refl _ _ with link := ⟨id, .inr (fun _ => rfl)⟩ }

end Sys2Proof.Machine

namespace Sys2Proof.Machine

open Sys2Proof.Safety

variable {a : Allowed}

/-! #### The effects of the commands -/

theorem steady_keepImage (image : a.image = true) (chain next : Half) (inhibit : Byte) (targets : BitVec 48) (s : State) :
    Steady a s (keepImage chain next inhibit targets s) := by
  unfold keepImage
  exact { Steady.refl _ _ with exchange := ⟨.inr rfl, .inl image, .inl image⟩, preempt := ⟨.inl image, .inr rfl, .inr (.inl rfl)⟩ }

theorem steady_acceptImage (image : a.image = true) (chain next : Half) (inhibit : Byte) (targets : BitVec 48) (s : State) :
    Steady a s (acceptImage chain next inhibit targets s) := by
  have kept : Steady a s (keepImage chain next inhibit targets s) := steady_keepImage image chain next inhibit targets s
  have noted : ∀ first, Steady a s { keepImage chain next inhibit targets s with control.firstImage := first } := fun _ => kept.trans { Steady.refl _ _ with }
  unfold acceptImage
  dsimp only
  split
  · exact kept.trans (steady_enterRunning _ _)
  · split
    · exact (noted _).trans (steady_enterRunning _ _)
    · exact noted _
  · split
    · exact kept
    · exact kept.trans (steady_considerTaking _)
  all_goals exact kept

theorem steady_refuseImage (image : a.image = true) (result : Result) (s : State) : Steady a s (refuseImage result s) := by
  have counted : Steady a s { s with exchange.imagesRefused := s.exchange.imagesRefused + 1 } :=
    { Steady.refl _ _ with exchange := ⟨.inr rfl, .inl image, .inl image⟩ }
  have repeated : ∀ u, Steady a s u →
      Steady a s (if u.control.mode = .warning then note { kind := .supervision, subject := none, action := .report, condition := true } u else u) := by
    intro u hu
    split
    · exact hu.trans (steady_note _ _)
    · exact hu
  unfold refuseImage
  dsimp only
  split
  · exact repeated _ (counted.trans (steady_noteOccurrence _ _ _))
  · exact repeated _ (counted.trans (steady_noteOccurrence _ _ _))
  · exact repeated _ counted

theorem steady_fillSlot (call : a.call = true) (p : Nat) (s : State) : Steady a s (fillSlot p s) := by
  have filled : Steady a s { s with preempt.slot := some { plan := p, called := true } } :=
    { Steady.refl _ _ with preempt := ⟨.inr (.inl rfl), .inr rfl, .inl call⟩ }
  exact filled.trans (steady_sourcesActive _ _ _)

theorem steady_callPlan (call : a.call = true) (p : Nat) (s t : State) : Steady a t ((callPlan p s).2 t) := by
  unfold callPlan
  repeat' split
  · exact steady_fillSlot call p t
  · exact .refl a t
  · exact .refl a t
  · exact (steady_emptySlot t).trans (steady_fillSlot call p _)

theorem steady_cancelPlan (call : a.call = true) (p : Nat) (s : State) : Steady a s (cancelPlan p s) := by
  have cancelled : ∀ slot, Steady a s { s with preempt.slot := slot } := fun slot => { Steady.refl _ _ with preempt := ⟨.inr (.inl rfl), .inr rfl, .inl call⟩ }
  unfold cancelPlan
  repeat' split
  · exact .refl a s
  · exact (cancelled _).trans (steady_sourcesInactive _ _)
  · exact steady_emptySlot s
  · exact .refl a s

theorem steady_clearLatched (s : State) : Steady a s (clearLatched s) := by
  have judged := (steady_eachOf (a := a) steady_clearChannel s.channelNumbers s).trans (steady_evaluateReds _)
  unfold clearLatched
  dsimp only
  split
  · exact judged.trans { }
  · exact judged

theorem steady_clearStrikes (strikes : a.strikes = true) (s : State) : Steady a s (clearStrikes s) := by
  have cleared : Steady a s { s with exchange.strikes := 0 } :=
    { Steady.refl _ _ with exchange := ⟨.inl strikes, .inr ⟨rfl, rfl, .inl rfl⟩, .inr (.inr (.inl rfl))⟩ }
  have erasing : ∀ u : State, Steady a u (startRecordErase u) := fun u =>
    { Steady.refl _ _ with store := ⟨.inr ⟨rfl, rfl, rfl, rfl⟩, .inr ⟨rfl, rfl, rfl, rfl, rfl⟩, .inr (.inr rfl)⟩, pending := rfl, clock := .refl _ }
  unfold clearStrikes
  dsimp only
  split
  · split
    · exact (cleared.trans (erasing _)).trans (steady_changeFlashMode _ _ _ _)
    · exact cleared
  · exact .refl a s

theorem steady_superviseClose (strikes : a.strikes = true) (s : State) : Steady a s (superviseClose s) := by
  have counted : ∀ n, Steady a s { s with exchange.strikes := n } := fun n =>
    { Steady.refl _ _ with exchange := ⟨.inl strikes, .inr ⟨rfl, rfl, .inl rfl⟩, .inr (.inr (.inl rfl))⟩ }
  have noted := ((counted (Nat.min 2 (s.exchange.strikes + 1))).trans (steady_endLapse _)).trans (steady_note supervisionCloseRaise _)
  unfold superviseClose
  dsimp only
  exact noted.trans (steady_takeAction _ _ _)

theorem steady_changeLine (lines : a.lines = true) (line : Nat) (active : Bool) (s : State) : Steady a s (changeLine line active s) := by
  have changed : Steady a s { s with preempt.lines := changeEntry s.preempt.lines line (fun _ => active) } :=
    { Steady.refl _ _ with preempt := ⟨.inr (.inl rfl), .inl lines, .inr (.inl rfl)⟩ }
  unfold changeLine
  dsimp only
  split
  · exact changed.trans (steady_sourcesActive _ _ _)
  · exact changed.trans (steady_sourcesInactive _ _)

theorem steady_timeOut (p : Nat) (s : State) : Steady a s (timeOut p s) :=
  ((steady_changePlan p _ s).trans (steady_unstack p _ _)).trans (steady_noteOccurrence _ _ _)

theorem steady_afterTimeOut (wasTop : Bool) (s : State) : Steady a s (afterTimeOut wasTop s) := by
  unfold afterTimeOut
  split
  · exact (steady_consider s).trans (steady_advance _ _)
  · exact steady_considerTaking s

theorem steady_concern (groups : List Nat) (s : State) : Steady a s (concern groups s) := { Steady.refl _ _ with }

theorem steady_handFindings (found : List Judged) (s : State) : Steady a s (handFindings found s) :=
  (steady_eachOf (fun _ u => steady_reportEnd _ _ u) _ s).trans (steady_eachOf (fun _ u => steady_note _ u) _ _)

theorem steady_takeReadings (judging : a.judging = true) (station : Nat) (currents : List Half) (s : State) :
    Steady a s (takeReadings station currents s) := by
  have judged := steady_judgeReport judging station currents s
  unfold takeReadings
  generalize judgeReport station currents s = x at judged ⊢
  obtain ⟨u, found⟩ := x
  have handed := (judged.trans (steady_handFindings found u)).trans (steady_eachOf steady_handRed (u.redChanges found) _)
  have reported := handed.trans (steady_eachOf (fun g v => steady_raise (fieldConflictRaise g) v) (u.fieldConflicts station currents) _)
  exact reported.trans (steady_concern _ _)

theorem steady_lagMatched (br : BranchId) (l : Liveness) (s : State) : Steady a s (lagMatched br l s) := by
  unfold lagMatched
  dsimp only
  split
  · exact (steady_changeLiveness _ _ _ s).trans (steady_reportEnd _ _ _)
  · exact steady_changeLiveness _ _ _ s

theorem steady_lagMissed (br : BranchId) (l : Liveness) (s : State) : Steady a s (lagMissed br l s) := by
  unfold lagMissed
  dsimp only
  split
  · exact (steady_changeLiveness _ _ _ s).trans (steady_raise _ _)
  · exact steady_changeLiveness _ _ _ s

theorem steady_countLag (br : BranchId) (station : Nat) (applied : Option Byte) (s : State) : Steady a s (countLag br station applied s) := by
  unfold countLag
  repeat' split
  · exact .refl a s
  · exact steady_lagMatched _ _ s
  · exact steady_lagMissed _ _ s
  · exact .refl a s

theorem steady_pollAnswered (br : BranchId) (station : Nat) (s : State) : Steady a s (pollAnswered br station s) := by
  have answered : ∀ f, Steady a s (changeLiveness br station f (endWait br s)) := fun f => (steady_endWait br s).trans (steady_changeLiveness _ _ f _)
  unfold pollAnswered
  dsimp only
  split
  · exact (answered _).trans (steady_reportEnd _ _ _)
  · exact answered _

theorem steady_becomeAbsent (sensing : a.sensing = true) (br : BranchId) (station : Nat) (s : State) : Steady a s (becomeAbsent br station s) := by
  have reported : ∀ f (r : State → Raise), Steady a s (raise (r (changeLiveness br station f s)) (changeLiveness br station f s)) := fun f r =>
    (steady_changeLiveness _ _ f s).trans (steady_raise _ _)
  unfold becomeAbsent
  dsimp only
  split
  · exact (reported _ (fun u => absentRaise (s.tables.roleOn br station) u.control.mode station)).trans (steady_stationLost sensing station _)
  · exact reported _ (fun u => absentRaise (s.tables.roleOn br station) u.control.mode station)

theorem steady_pollMissed (sensing : a.sensing = true) (br : BranchId) (station : Nat) (s : State) : Steady a s (pollMissed br station s) := by
  unfold pollMissed
  repeat' split
  · exact steady_changeLiveness _ _ _ s
  · exact steady_becomeAbsent sensing br station s
  · exact steady_changeLiveness _ _ _ s
  · exact .refl a s

theorem steady_endTransmission (br : BranchId) (f : BranchFrame) (s : State) : Steady a s (endTransmission br f s) := by
  have freed : Steady a s (changeBranch br (fun b => { b with sending := none }) s) :=
    steady_changeBranch br _ (by exact fun b well => ⟨fun both => absurd both.2 Bool.false_ne_true, well.2⟩) s
  have awaits : ∀ station tag ms, Steady a s (await br station tag ms (changeBranch br (fun b => { b with sending := none }) s)) := by
    intro station tag ms
    refine { Steady.refl _ _ with branches := ?_, pending := rfl, clock := .refl _ }
    show Branched s.branches (changeEntry (changeEntry s.branches (placeOf br) _) (placeOf br) _)
    rw [changeEntry_changeEntry]
    exact branched_change (fun b well => ⟨fun both => absurd both.2 Bool.false_ne_true, well.2⟩)
  unfold endTransmission
  dsimp only
  split
  · exact freed
  · exact (freed.trans (steady_changeBranch br _ (by exact fun _ => id) _)).trans (steady_takeApply _ _ _)
  · exact awaits _ _ _
  · exact awaits _ _ _

theorem steady_leaveLoading (s : State) : Steady a s (leaveLoading s) := by
  have released : Steady a s { s with control.heldLockout := none } := { Steady.refl _ _ with }
  unfold leaveLoading
  dsimp only
  repeat' split
  · exact (released.trans (steady_recordRaise _ _)).trans (steady_changeFlashMode _ _ _ _)
  all_goals exact released.trans (steady_changeFlashMode _ _ _ _)

theorem steady_reportLoad (s : State) : Steady a s (reportLoad s) := by
  have corrected : Steady a s (if 0 < s.store.corrected then noteOccurrence .tableCorrected none s else s) := by
    split
    · exact steady_noteOccurrence _ _ s
    · exact .refl a s
  unfold reportLoad
  dsimp only
  generalize (if 0 < s.store.corrected then noteOccurrence .tableCorrected none s else s) = u at corrected ⊢
  split
  · exact corrected
  · exact corrected.trans (steady_raise _ _)

theorem steady_retableGroups (s : State) : Steady a s (retableGroups s) := { Steady.refl _ _ with }

theorem steady_takeLoaded (sensing : a.sensing = true) (s : State) : Steady a s (takeLoaded s) :=
  (((steady_retableGroups s).trans (steady_loadBranches _)).trans (steady_loadDetectors sensing _)).trans (steady_retablePlans _)

theorem steady_takeCommitted (sensing : a.sensing = true) (s : State) : Steady a s (takeCommitted s) := by
  have remarked : Steady a s { s with event.remark := true } := { Steady.refl _ _ with }
  have retabled := ((remarked.trans (steady_retableGroups _)).trans (steady_retableBranches _)).trans (steady_retableProver _)
  exact (retabled.trans (steady_retableDetectors sensing _)).trans (steady_retablePlans _)

theorem steady_endInvalid (s : State) : Steady a s (endInvalid s) := by
  unfold endInvalid
  split
  · exact steady_reportEnd _ _ s
  · exact .refl a s

/-- The store takes what a load has found, or the commit. -/
theorem steady_stored (tables : a.tables = true) (words : a.words = true) {s t : State} (pending : t.pending = s.pending) (clock : Timed s.clock t.clock)
    (exchange : t.exchange = s.exchange) (preempt : t.preempt = s.preempt) (control : t.control = s.control) (engine : t.engine = s.engine)
    (link : t.link = s.link) (faults : t.faults = s.faults) (branches : t.branches = s.branches) (prover : t.prover = s.prover)
    (detectors : t.detectors = s.detectors) : Steady a s t where
  pending := pending
  clock := clock
  exchange := by rw [exchange]; exact .refl _ _
  preempt := by rw [preempt]; exact .refl _ _
  store := ⟨.inl tables, .inl words, .inl words⟩
  maint := .inr (by rw [control])
  number := .inr (by rw [engine])
  link := by rw [link]; exact .refl _ _
  faults := by rw [faults]; exact .refl _
  branches := by rw [branches]; exact .refl _
  prover := by rw [prover]; exact .refl _ _
  detectors := by rw [detectors]; exact .refl _ _

theorem steady_loadStore (tables : a.tables = true) (words : a.words = true) (nv : Nonvolatile) (s : State) : Steady a s (loadStore nv s) :=
  steady_stored tables words rfl (.refl _) rfl rfl rfl rfl rfl rfl rfl rfl rfl

theorem steady_activate (tables : a.tables = true) (words : a.words = true) (s : State) : Steady a s (activate s) :=
  steady_stored tables words rfl (.refl _) rfl rfl rfl rfl rfl rfl rfl rfl rfl

end Sys2Proof.Machine

/-! ### What each command does to each block -/

namespace Sys2Proof.Machine

open Sys2Proof.Safety

theorem branch_changeBranch (br other : BranchId) (f : Branch → Branch) (s : State) :
    (changeBranch br f s).branch other = s.branch other ∨ (changeBranch br f s).branch other = f (s.branch other) :=
  (entryD_changeEntry s.branches (placeOf br) (placeOf other) f Branch.reset).imp_right And.right

theorem lastApply_changeBranch (br other : BranchId) {f : Branch → Branch} (kept : ∀ b, (f b).lastApply = b.lastApply) (s : State) :
    ((changeBranch br f s).branch other).lastApply = (s.branch other).lastApply := by
  rcases branch_changeBranch br other f s with h | h
  · rw [h]
  · rw [h, kept]

theorem lastApply_changeLiveness (br other : BranchId) (station : Nat) (f : Liveness → Liveness) (s : State) :
    ((changeLiveness br station f s).branch other).lastApply = (s.branch other).lastApply :=
  lastApply_changeBranch br other (f := fun b => { b with liveness := b.liveness.map (fun l => if l.station = station then f l else l) }) (fun _ => rfl) s

theorem lastApply_endWait (br other : BranchId) (s : State) : ((endWait br s).branch other).lastApply = (s.branch other).lastApply :=
  lastApply_changeBranch br other (f := fun b => { b with awaited := none }) (fun _ => rfl) s

/-- Whether a report is usable is read from the mode, the time, the tables and the last apply sent (R128). -/
theorem usable_congr {s t : State} {br : BranchId} (control : t.control = s.control) (clock : t.clock = s.clock) (store : t.store = s.store)
    (apply : (t.branch br).lastApply = (s.branch br).lastApply) (applied : Option Byte) : t.usable br applied = s.usable br applied := by
  simp only [State.usable, State.settled, tables_congr (congrArg Store.active store), control, clock, apply]

theorem pollAnswered_lastApply (br other : BranchId) (station : Nat) (s : State) :
    ((pollAnswered br station s).branch other).lastApply = (s.branch other).lastApply := by
  have answered : ∀ f, ((changeLiveness br station f (endWait br s)).branch other).lastApply = (s.branch other).lastApply := fun f =>
    (lastApply_changeLiveness br other station f _).trans (lastApply_endWait br other s)
  unfold pollAnswered
  dsimp only
  split
  · have told : ∀ u, (reportEnd .stationAbsent (some station) u).branch other = u.branch other := fun u => by simp [State.branch]
    rw [told]
    exact answered _
  · exact answered _

variable {a : Allowed}

theorem steady_receivedOn (br : BranchId) (s : State) : Steady a s (receivedOn br s) := steady_changeBranch br _ (by exact fun _ => id) s

theorem steady_takeReport (br : BranchId) (station : Nat) (applied : Option Byte) (currents : List Half) (s : State)
    (judging : s.usable br applied = true → a.judging = true) :
    Steady a s (countLag br station applied
      (proveReport br station applied currents (changeLiveness br station (fun l => { l with lastApplied := applied }) (pollAnswered br station s)))) := by
  have told := (steady_pollAnswered (a := a) br station s).trans (steady_changeLiveness br station (fun l => { l with lastApplied := applied }) _)
  have same : (changeLiveness br station (fun l => { l with lastApplied := applied }) (pollAnswered br station s)).usable br applied
      = s.usable br applied :=
    usable_congr (by simp) (by simp) (by simp) ((lastApply_changeLiveness br br station _ _).trans (pollAnswered_lastApply br br station s)) applied
  refine .trans ?_ (steady_countLag _ _ _ _)
  unfold proveReport
  split
  · next usable => exact told.trans (steady_takeReadings (judging (same ▸ usable)) _ _ _)
  · exact told

/-- A forwarded frame that is taken finds room in the FIFO of its branch (R120). -/
theorem forwardCheck_room {station inner : Byte} {s : State} {br : BranchId} (passed : forwardCheck station inner s = .ok br) :
    (s.branch br).fifo.length < Config.fifoEntries := by
  unfold forwardCheck at passed
  repeat' split at passed
  all_goals cases passed
  assumption

theorem steady_forward (br : BranchId) (entry : Forward) {s : State} (room : (s.branch br).fifo.length < Config.fifoEntries) :
    Steady a s (changeBranch br (fun b => { b with fifo := b.fifo ++ [entry] }) s) := by
  refine { Steady.refl _ _ with branches := fun well b member => ?_ }
  rcases changeEntry_mem member with old | ⟨x, found, rfl⟩
  · exact well b old
  · have same : s.branch br = x := by simp [State.branch, entryD, found]
    have bounded := well x (entry?_mem found)
    refine ⟨bounded.1, ?_⟩
    simp only [List.length_append, List.length_singleton]
    rw [same] at room
    omega

theorem steady_control (s : State) (control : Control) (maint : control.maint = s.control.maint) : Steady a s { s with control := control } :=
  { Steady.refl _ _ with maint := .inr maint }

/-- What the nonvolatile record and the record operation do is no one else's. -/
theorem steady_record (s : State) (record : LockoutRecord) (drawn : Nat) :
    Steady a s { s with store.nv.record := record, clock.drawn := drawn, control.recordOp := .none, store.op := .idle } where
  pending := rfl
  clock := .refl _
  store := ⟨.inr ⟨rfl, rfl, rfl, rfl⟩, .inr ⟨rfl, rfl, rfl, rfl, rfl⟩, .inr (.inr rfl)⟩

theorem steady_commitFailed (words : a.words = true) (s : State) :
    Steady a s { tearCommit s with store.op := .idle, store.progress := none, store.lastCommit := .failed, store.valid := false } := by
  have same : ∀ u : State, u = tearCommit s → Steady a s { u with store.op := .idle, store.progress := none, store.lastCommit := .failed, store.valid := false } := by
    intro u h
    have parts : u.pending = s.pending ∧ Timed s.clock u.clock ∧ u.exchange = s.exchange ∧ u.preempt = s.preempt ∧ u.control = s.control
        ∧ u.engine = s.engine ∧ u.link = s.link ∧ u.faults = s.faults ∧ u.branches = s.branches ∧ u.prover = s.prover ∧ u.detectors = s.detectors
        ∧ u.store.active = s.store.active ∧ u.store.generation = s.store.generation ∧ u.store.corrected = s.store.corrected
        ∧ u.store.tablesCorrected = s.store.tablesCorrected := by
      rw [h]
      simp [tearCommit, Timed]
    obtain ⟨pending, clock, exchange, preempt, control, engine, link, faults, branches, prover, detectors, stored⟩ := parts
    exact
      { pending := pending
        clock := clock
        exchange := by simp [exchange]
        preempt := by simp [preempt]
        store := ⟨.inr stored, .inl words, .inl words⟩
        maint := by simp [control]
        number := by simp [engine]
        link := by simp [link]
        faults := by simp [faults]
        branches := by simp [branches]
        prover := by simp [prover]
        detectors := by simp [detectors] }
  exact same _ rfl

/-- Every command but those of the supply and of the NRESET line changes no more of a block than is its own to change. -/
theorem keeps_exec (c : Instr) (s : State) (reset : isReset c = false) (supply : c ≠ .supplyLoss) : Keeps (allowed s c) s (exec c s) := by
  cases c with
  | powerOnReset => cases reset
  | nreset lowMicros supplyRising => cases reset
  | supplyLoss => exact absurd rfl supply
  | tableLoadEnd upsets recordReadable =>
    refine keeps_event rfl ?_
    split
    · exact (((steady_loadStore rfl rfl _ _).trans (steady_reportLoad _)).trans (steady_leaveLoading _)).trans (steady_takeLoaded rfl _)
    · exact .refl _ _
  | img chain next inhibit targets =>
    refine keeps_frame rfl (answers_echo _) ?_
    dsimp only
    split
    · exact steady_acceptImage rfl _ _ _ _ _
    · exact steady_refuseImage rfl _ _
  | calCall plan =>
    refine keeps_frame rfl (answers_reply _ _ _) ?_
    dsimp only
    split
    · exact steady_callPlan rfl _ _ _
    · exact .refl _ _
  | calCancel plan request =>
    refine keeps_frame rfl (answers_reply _ _ _) ?_
    dsimp only
    split
    · exact steady_cancelPlan rfl _ _
    · exact .refl _ _
  | modRun cabinet generation startChain =>
    refine keeps_frame rfl (answers_reply _ _ _) ?_
    dsimp only
    split
    · exact steady_enterStart rfl _ _
    · exact .refl _ _
  | modFlash request =>
    refine keeps_frame rfl (answers_reply _ _ _) ?_
    dsimp only
    split
    · exact steady_enterClosing _ _ _
    · exact .refl _ _
  | twr table index content =>
    refine keeps_frame rfl (answers_reply _ _ _) ?_
    dsimp only
    split
    · exact { Steady.refl _ _ with store := ⟨.inr ⟨rfl, rfl, rfl, rfl⟩, .inr ⟨rfl, rfl, rfl, rfl, rfl⟩, .inr (.inr rfl)⟩ }
    · exact .refl _ _
  | trd table index copy => exact keeps_frame rfl (answers_reply _ _ _) (.refl _ _)
  | tcm =>
    refine keeps_frame rfl (answers_reply _ _ _) ?_
    dsimp only
    split
    · unfold startCommit
      exact { Steady.refl _ _ with store := ⟨.inr ⟨rfl, rfl, rfl, rfl⟩, .inr ⟨rfl, rfl, rfl, rfl, rfl⟩, .inr (.inl rfl)⟩ }
    · exact .refl _ _
  | tds =>
    refine keeps_frame rfl (answers_reply _ _ _) ?_
    dsimp only
    split
    · exact steady_resetWorking _
    · exact .refl _ _
  | sta part first => exact keeps_frame rfl ⟨fun _ => rfl, fun _ u => linked_accept _ u.link _⟩ (.refl _ _)
  | fcl =>
    unfold exec execFcl answeredOutcome
    dsimp only
    split
    · exact keeps_frame rfl (answers_reply _ _ _)
        (((steady_clearLatched _).trans (steady_pruneFaults _)).trans (steady_clearStrikes rfl _))
    · exact keeps_frame rfl (answers_reply _ _ _) (.refl _ _)
  | fwd tag station inner payload =>
    unfold exec execFwd answeredOutcome
    dsimp only
    split
    · exact keeps_frame rfl (answers_send _) (.refl _ _)
    · next br room => exact keeps_frame rfl answers_id (steady_forward br _ (forwardCheck_room room))
  | unknownKindFrame kind => exact keeps_frame rfl (answers_reply _ _ _) (.refl _ _)
  | damagedFrame cause => exact keeps_whileUp rfl (passed_of_steady rfl { Steady.refl _ _ with link := ⟨id, .inr fun _ => rfl⟩ })
  | outgoingFrameSent =>
    exact keeps_whileUp rfl (passed_of_steady rfl { Steady.refl _ _ with link := ⟨fun well => start_well well.1, .inl rfl⟩ })
  | commitCompletion =>
    refine keeps_event rfl ?_
    split
    · exact ((steady_activate rfl rfl _).trans (steady_endInvalid _)).trans (steady_takeCommitted rfl _)
    · exact .refl _ _
  | commitWriteFailure =>
    refine keeps_event rfl ?_
    split
    · exact (steady_commitFailed rfl _).trans (steady_noteOccurrence _ _ _)
    · exact .refl _ _
  | recordWriteCompletion =>
    refine keeps_event rfl ?_
    split
    · exact steady_record (openEvent s) _ (openEvent s).clock.drawn
    · exact .refl _ _
  | recordWriteFailure =>
    refine keeps_event rfl ?_
    split
    · exact (steady_record (openEvent s) (openEvent s).store.nv.record (openEvent s).clock.drawn).trans (steady_noteOccurrence _ _ _)
    · exact .refl _ _
  | recordEraseCompletion =>
    refine keeps_event rfl ?_
    split
    · exact steady_record (openEvent s) _ (openEvent s).clock.drawn
    · exact .refl _ _
  | recordEraseFailure =>
    refine keeps_event rfl ?_
    split
    · exact (steady_record (openEvent s) _ _).trans (steady_noteOccurrence _ _ _)
    · exact .refl _ _
  | maintStateChange active heldMs =>
    refine keeps_whileUp rfl (passed_of_steady rfl ?_)
    split
    · exact { Steady.refl _ _ with maint := .inl rfl }
    · exact .refl _ s
  | peLineChange line active heldMs =>
    refine keeps_event rfl ?_
    split
    · exact steady_changeLine rfl _ _ _
    · exact .refl _ _
  | startUpStopTimerExpiry =>
    refine keeps_event rfl ?_
    split
    · have expired : ∀ a, Steady a (openEvent s) { openEvent s with control.startTimer := some .expired } := fun _ => { Steady.refl _ _ with }
      dsimp only
      split
      · exact (expired _).trans (steady_enterRunning _ _)
      · exact expired _
    · exact .refl _ _
  | supervisionTimerExpiry =>
    refine keeps_event rfl ?_
    split
    · have expired : ∀ a, Steady a (openEvent s) { openEvent s with exchange.supervision := some .expired } := fun _ =>
        { Steady.refl _ _ with exchange := ⟨.inr rfl, .inr ⟨rfl, rfl, .inl rfl⟩, .inr (.inr (.inl rfl))⟩ }
      dsimp only
      split
      case h_1 => exact (expired _).trans (steady_raise _ _)
      case h_2 => exact (expired _).trans (steady_enterWarning _)
      all_goals exact expired _
    · exact .refl _ _
  | warningWindowExpiry =>
    refine keeps_event rfl ?_
    split
    · exact steady_superviseClose rfl _
    · exact .refl _ _
  | endOfPrepare group | endOfClear group | minimumGoReached group | minimumStopReached group | deferralTimerExpiry group =>
    refine keeps_event rfl ?_
    unfold groupExpiry
    split
    · exact steady_concern _ _
    · exact .refl _ _
  | planDelayEnd | planDwellEnd =>
    refine keeps_event rfl ?_
    split
    · exact steady_advance _ _
    · exact .refl _ _
  | planDurationExpiry plan =>
    refine keeps_event rfl ?_
    split
    · exact (steady_timeOut _ _).trans (steady_afterTimeOut _ _)
    · exact .refl _ _
  | branchTransmissionEnd branch =>
    refine keeps_event rfl ?_
    split
    · exact steady_endTransmission _ _ _
    · exact .refl _ _
  | lstReceived branch station applied currents =>
    refine keeps_event rfl ?_
    split
    · exact steady_takeReport _ _ _ _ _ id
    · exact steady_receivedOn _ _
  | dsmReceived branch station inputs =>
    refine keeps_event rfl ?_
    split
    · dsimp only
      refine .trans ?_ (steady_takeSample rfl _ _ _)
      split
      · exact (steady_pollAnswered _ _ _).trans (steady_stationBack _ _)
      · exact steady_pollAnswered _ _ _
    · exact steady_receivedOn _ _
  | sstReceived branch station status =>
    refine keeps_event rfl ?_
    split
    · exact (steady_pollAnswered _ _ _).trans (steady_changeLiveness _ _ _ _)
    · exact steady_receivedOn _ _
  | fwrReceived branch station payload =>
    refine keeps_whileUp rfl ?_
    split
    · exact passed_asEvent rfl (send_onlyLink _) (fun u => linked_accept _ u.link _) (steady_endWait _ _)
    · exact passed_asEvent rfl id_onlyLink (fun u => .refl _ _) (steady_receivedOn _ _)
  | branchFrameDiscarded branch cause => exact keeps_whileUp rfl (passed_of_steady rfl (steady_changeBranch branch _ (by exact fun _ => id) s))
  | pollAnswerTimeout branch =>
    refine keeps_event rfl ?_
    split
    · exact (steady_endWait _ _).trans (steady_pollMissed rfl _ _ _)
    · exact .refl _ _
  | forwardAnswerTimeout branch =>
    refine keeps_whileUp rfl ?_
    split
    · exact passed_asEvent rfl (send_onlyLink _) (fun u => linked_accept _ u.link _) (steady_endWait _ _)
    · exact passed_of_steady rfl (.refl _ s)
  | repollTimerExpiry station => exact keeps_event rfl (steady_eachOf (fun br u => steady_changeBranch br _ (by exact fun _ => id) u) _ _)
  | stuckDeadlineExpiry channel =>
    refine keeps_event rfl ?_
    split
    · exact ((steady_changeDetector _ _ (by exact fun _ => ⟨rfl, rfl, rfl, .inr rfl⟩) _).trans (steady_raiseDetector _ _ _)).trans (steady_decideFault _ _)
    · exact .refl _ _
  | idleDeadlineExpiry channel =>
    refine keeps_event rfl ?_
    split
    · exact ((steady_changeDetector _ _ (by exact fun _ => ⟨rfl, rfl, rfl, .inl rfl⟩) _).trans (steady_raiseDetector _ _ _)).trans (steady_decideFault _ _)
    · exact .refl _ _
  | idleGap line =>
    refine keeps_whileUp rfl (passed_of_steady rfl ?_)
    cases line with
    | controller => exact { Steady.refl _ _ with link := ⟨id, .inr fun _ => rfl⟩ }
    | branch br => exact steady_changeBranch br _ (by exact fun _ => id) s

end Sys2Proof.Machine

/-! ### Bounds of one block that every step keeps -/

namespace Sys2Proof.Machine

open Sys2Proof.Safety

theorem entryD_replicate {α : Type} (n k : Nat) (d : α) : entryD (List.replicate n d) k d = d := by
  unfold entryD entry?
  split
  · rfl
  · rw [List.getElem?_replicate]
    split <;> rfl

/-- A cut draws free values and changes the nonvolatile memory, and nothing else. -/
theorem cutWrites_eq (s : State) : ∃ drawn nv, cutWrites s = { s with clock.drawn := drawn, store.nv := nv } := by
  have commit : ∃ drawn nv, (if s.store.op = .commit then tearCommit s else s) = { s with clock.drawn := drawn, store.nv := nv } := by
    split
    · exact ⟨_, _, rfl⟩
    · exact ⟨s.clock.drawn, s.store.nv, rfl⟩
  obtain ⟨drawn, nv, cut⟩ := commit
  unfold cutWrites
  rw [cut]
  dsimp only
  split
  · exact ⟨_, _, rfl⟩
  · exact ⟨drawn, nv, rfl⟩

/-- A bound of the link, the fault list, the branches, the prover and the detectors that every event keeps, with the reset values in it. -/
structure Bound (P : Link → FaultList → List Branch → Prover → List (Option Detector) → Prop) : Prop where
  steady : ∀ {a s t}, Steady a s t → P s.link s.faults s.branches s.prover s.detectors → P t.link t.faults t.branches t.prover t.detectors
  reset : ∀ {l}, l.Well → P l { entries := [], changeNumber := 0, alarmNumber := 0 } (List.replicate 4 Branch.reset) Prover.reset
    (List.replicate Config.detectors none)
  loading : ∀ {l f b p d}, P l f b p d → P Link.loading f b p d
  counts : ∀ {l f b p d}, P l f b p d → P l f (b.map (fun x => { x with liveness := x.liveness.map Liveness.count })) p d

theorem loading_well : Link.loading.Well := ⟨by decide, .inl rfl⟩

theorem reset_link_well (lowFor : Nat) : (if lowFor = 0 then Link.loading else Link.reset).Well := by
  split
  · exact loading_well
  · exact ⟨by decide, .inr rfl⟩

/-- A bound holds of a state. -/
def Within (P : Link → FaultList → List Branch → Prover → List (Option Detector) → Prop) (s : State) : Prop :=
  P s.link s.faults s.branches s.prover s.detectors

theorem Bound.exec {P : Link → FaultList → List Branch → Prover → List (Option Detector) → Prop} (bound : Bound P) {c : Instr} {s t : State}
    (ran : Machine.exec c s = .next t) (h : Within P s) : Within P t := by
  by_cases reset : isReset c = true
  · cases c with
    | powerOnReset => cases ran; exact bound.reset (reset_link_well _)
    | nreset lowMicros supplyRising =>
      cases ran
      split
      · exact bound.reset (reset_link_well _)
      · exact h
    | _ => cases reset
  · by_cases supply : c = .supplyLoss
    · subst supply
      cases ran
      split
      · obtain ⟨drawn, nv, cut⟩ := cutWrites_eq s
        rw [cut]
        exact h
      · exact h
    · exact bound.steady (keeps_exec c s (Bool.eq_false_iff.mpr reset) supply t ran).1 h

theorem Bound.step {P : Link → FaultList → List Branch → Prover → List (Option Detector) → Prop} (bound : Bound P) {s t : State}
    (ran : Machine.step s = .next t) (h : Within P s) : Within P t := by
  unfold Machine.step at ran
  split at ran
  · exact bound.exec ran h
  · cases ran
    unfold tick
    split
    · unfold passLow
      dsimp only
      split
      · exact bound.loading h
      · exact h
    · unfold whileUp
      split
      · unfold passMillisecond
        dsimp only
        split
        · exact bound.counts h
        · exact h
      · exact h

theorem bound_faults : Bound (fun _ faults _ _ _ => faults.Well) where
  steady kept h := kept.faults h
  reset _ := ⟨by decide, .nil, nofun⟩
  loading := id
  counts := id

theorem bound_link : Bound (fun link _ _ _ _ => link.Well) where
  steady kept h := kept.link.1 h
  reset := id
  loading _ := loading_well
  counts := id

theorem bound_branches : Bound (fun _ _ branches _ _ => ∀ b ∈ branches, b.Well) where
  steady kept h := kept.branches h
  reset _ b member := by
    rw [List.eq_of_mem_replicate member]
    exact ⟨by decide, by decide⟩
  loading := id
  counts h b member := by
    obtain ⟨x, old, rfl⟩ := List.mem_map.mp member
    exact h x old

theorem bound_prover : Bound (fun _ _ _ prover _ => ∀ x ∈ prover.channels, x.Well) where
  steady kept h := kept.prover.1 h
  reset _ x member := by
    rw [List.eq_of_mem_replicate member]
    exact ⟨by decide, by decide⟩
  loading := id
  counts := id

theorem bound_detectors : Bound (fun _ _ _ _ detectors => ∀ d, some d ∈ detectors → d.Well) where
  steady kept h := kept.detectors.1 h
  reset _ _ member := nomatch List.eq_of_mem_replicate member
  loading := id
  counts := id

theorem faultLaw_iff {s : State} : faultLaw s = true ↔ s.faults.Well := by
  simp [faultLaw, FaultList.Well, within, and_assoc]

theorem branchLaw_iff {s : State} : branchLaw s = true ↔ ∀ b ∈ s.branches, b.Well := by
  simp only [branchLaw, List.all_eq_true, Branch.Well, Bool.and_eq_true, decide_eq_true_eq, Bool.not_eq_true', ← Bool.not_eq_true]

theorem queueLaw_iff {s : State} : queueLaw s = true ↔ s.link.Well := by
  simp only [queueLaw, Link.Well, Bool.and_eq_true, decide_eq_true_eq, Bool.or_eq_true, List.isEmpty_iff]

theorem detectorLaw_iff {s : State} : detectorLaw s = true ↔ ∀ d, some d ∈ s.detectors → d.Well := by
  have each : ∀ d : Detector, (decide (d.pending.length ≤ 16) && (d.occupied || d.stuckAt.isNone)) = true ↔ d.Well := fun d => by
    simp only [Detector.Well, Bool.and_eq_true, decide_eq_true_eq, Bool.or_eq_true, Option.isNone_iff_eq_none]
  simp only [detectorLaw, List.all_eq_true]
  refine ⟨fun all d member => (each d).mp (all _ member), fun all x member => ?_⟩
  cases x with
  | none => rfl
  | some d => exact (each d).mpr (all d member)

theorem provingLaw_iff {s : State} : provingLaw s = true ↔ ∀ x ∈ s.prover.channels, x.Well := by
  simp only [provingLaw, List.all_eq_true, Proving.Well, Bool.and_eq_true, Bool.not_eq_true', ← Bool.not_eq_true]

end Sys2Proof.Machine

namespace Sys2Proof.Proofs

open Sys2Proof Sys2Proof.Machine Sys2Proof.Safety

/-- Settles O16: the bounds of the list are kept by each recording of a report. -/
theorem stepKeepsFaultLaw : Obligations.StepKeepsFaultLaw := fun _ _ h ran => faultLaw_iff.mpr (bound_faults.step ran (faultLaw_iff.mp h))

/-- Settles O17. -/
theorem stepKeepsBranchLawAndBounds : Obligations.StepKeepsBranchLawAndBounds := fun _ _ ran =>
  ⟨fun h => branchLaw_iff.mpr (bound_branches.step ran (branchLaw_iff.mp h)),
    fun h => queueLaw_iff.mpr (bound_link.step ran (queueLaw_iff.mp h)),
    fun h => detectorLaw_iff.mpr (bound_detectors.step ran (detectorLaw_iff.mp h)),
    fun h => provingLaw_iff.mpr (bound_prover.step ran (provingLaw_iff.mp h)),
    fun h => kept_recordLaw.step ran h⟩

/-- Settles O18. -/
theorem tablesChangeOnlyWhereGiven : Obligations.TablesChangeOnlyWhereGiven := by
  intro c s t ran reset load
  by_cases supply : c = .supplyLoss
  · subst supply
    refine ⟨fun _ => ?_, fun _ _ other => absurd rfl other⟩
    cases ran
    split
    · obtain ⟨drawn, nv, cut⟩ := cutWrites_eq s
      rw [cut]
      exact ⟨rfl, rfl, rfl, rfl⟩
    · exact ⟨rfl, rfl, rfl, rfl⟩
  · have kept := (keeps_exec c s reset supply t ran).1.store
    refine ⟨fun completion => kept.1.resolve_left ?_, fun completion failure _ => ?_⟩
    · simp [allowed, Allowed.numbering, changesTables_false load completion]
    · have still : ¬(allowed s c).words = true := by simp [allowed, changesWords_false load completion failure]
      obtain ⟨words, generation, check, valid, last⟩ := kept.2.1.resolve_left still
      refine ⟨words, generation, check, valid, last, fun tcm => (kept.2.2.resolve_left still).resolve_left ?_⟩
      simp [allowed, Allowed.numbering, isCommit_false tcm]

/-- Settles O19. -/
theorem commandsPassNoTime : Obligations.CommandsPassNoTime := by
  intro c s t ran
  by_cases reset : isReset c = true
  · refine ⟨?_, fun other => absurd reset (by simp [other])⟩
    have queued : (cutWrites s).pending = s.pending := by
      obtain ⟨drawn, nv, cut⟩ := cutWrites_eq s
      rw [cut]
    cases c with
    | powerOnReset => cases ran; exact queued
    | nreset lowMicros supplyRising =>
      cases ran
      split
      · exact queued
      · rfl
    | _ => cases reset
  · by_cases supply : c = .supplyLoss
    · subst supply
      cases ran
      split
      · obtain ⟨drawn, nv, cut⟩ := cutWrites_eq s
        rw [cut]
        exact ⟨rfl, fun _ => ⟨rfl, rfl, rfl, fun other => absurd rfl other⟩⟩
      · exact ⟨rfl, fun _ => ⟨rfl, rfl, rfl, fun _ => ⟨rfl, rfl⟩⟩⟩
    · have kept := (keeps_exec c s (Bool.eq_false_iff.mpr reset) supply t ran).1
      obtain ⟨now, phase, awake, powered, low⟩ := kept.clock
      exact ⟨kept.pending, fun _ => ⟨now, phase, awake, fun _ => ⟨powered, low⟩⟩⟩

/-- Settles O20. -/
theorem inputsChangeOnlyWhereGiven : Obligations.InputsChangeOnlyWhereGiven := by
  intro c s t ran reset
  by_cases supply : c = .supplyLoss
  · subst supply
    cases ran
    split
    · obtain ⟨drawn, nv, cut⟩ := cutWrites_eq s
      rw [cut]
      simp [State.detector]
    · simp
  · obtain ⟨kept, number⟩ := keeps_exec c s reset supply t ran
    refine ⟨fun warning fcl => kept.exchange.1.resolve_left ?_, fun image => ?_, fun maint => kept.maint.resolve_left ?_,
      fun lines => kept.preempt.2.1.resolve_left ?_, fun call => kept.preempt.2.2.resolve_left ?_,
      fun sent => kept.link.2.resolve_left ?_, fun sensing load => kept.detectors.2.resolve_left ?_, number⟩
    · simp [allowed, Allowed.numbering, changesStrikes_false warning fcl]
    · have still : ¬(allowed s c).image = true := by simp [allowed, image]
      obtain ⟨accepted, refused, current⟩ := kept.exchange.2.1.resolve_left still
      exact ⟨accepted, refused, kept.preempt.1.resolve_left still, current, fun run =>
        (kept.exchange.2.2.resolve_left still).resolve_left (by simp [allowed, Allowed.numbering, run])⟩
    · simp [allowed, Allowed.numbering, changesMaint_false maint]
    · simp [allowed, Allowed.numbering, changesLines_false lines]
    · simp [allowed, Allowed.numbering, call]
    · simp [allowed, Allowed.numbering, isSent_false sent]
    · simp [allowed, Allowed.numbering, sensing, load]

/-- Settles O21: a reset and a loss of supply remove or keep every run too. -/
theorem runsAdvanceOnlyAtUsableReports : Obligations.RunsAdvanceOnlyAtUsableReports := by
  intro c s t ran usable n
  have gone : ∀ lowFor strikes, (s.proving n).RunsKept ((resetKeeping lowFor strikes s).proving n) := fun lowFor strikes => by
    have fresh : (resetKeeping lowFor strikes s).proving n = Proving.reset := entryD_replicate _ _ _
    rw [fresh]
    exact ⟨.inr rfl, .inr rfl⟩
  by_cases reset : isReset c = true
  · cases c with
    | powerOnReset => cases ran; exact gone _ _
    | nreset lowMicros supplyRising =>
      cases ran
      split
      · exact gone _ _
      · exact Proving.RunsKept.refl _
    | _ => cases reset
  · by_cases supply : c = .supplyLoss
    · subst supply
      cases ran
      split
      · obtain ⟨drawn, nv, cut⟩ := cutWrites_eq s
        rw [cut]
        exact Proving.RunsKept.refl (s.proving n)
      · exact Proving.RunsKept.refl _
    · have kept := (keeps_exec c s (Bool.eq_false_iff.mpr reset) supply t ran).1.prover.2
      exact kept.resolve_left (by simp [allowed, Allowed.numbering, usable]) n

end Sys2Proof.Proofs

/-! ### Resets, the supply, and the lines alone -/

namespace Sys2Proof.Machine

open Sys2Proof.Safety

theorem cutWrites_nv_kept {s : State} (commit : s.store.op ≠ .commit) (erase : s.control.recordOp ≠ .erasing) :
    (cutWrites s).store.nv = s.store.nv := by
  simp [cutWrites, commit, erase]

theorem cutWrites_nv_torn {s : State} (commit : s.store.op = .commit) : (cutWrites s).store.nv.complete = false := by
  unfold cutWrites
  simp only [if_pos commit]
  split <;> simp [tearCommit, spoilErase, Nonvolatile.torn]

theorem cutWrites_nv_spoiled {s : State} (erase : s.control.recordOp = .erasing) : (cutWrites s).store.nv.record.isSome = true := by
  have spoiled : ∀ u : State, (spoilErase u).store.nv.record.isSome = true := fun u => by
    unfold spoilErase unerased
    dsimp only
    split <;> rfl
  unfold cutWrites
  dsimp only
  split
  · rw [if_pos (by simp [tearCommit, erase])]
    exact spoiled _
  · exact spoiled s

theorem resetFrom_resetKeeping (lowFor strikes : Nat) (s : State) : resetFrom s lowFor strikes (resetKeeping lowFor strikes s) := by
  have queued : (cutWrites s).pending = s.pending := by
    obtain ⟨drawn, nv, cut⟩ := cutWrites_eq s
    rw [cut]
  exact ⟨queued, rfl, rfl, rfl, rfl, rfl, rfl, rfl, rfl, rfl, rfl, rfl, rfl, rfl, rfl, rfl, cutWrites_nv_kept, cutWrites_nv_torn,
    cutWrites_nv_spoiled⟩

/-- A supervisor that does not work takes nothing but the resets and the loss of supply (R186). -/
theorem exec_of_not_up {s : State} (down : s.up = false) (c : Instr) (reset : isReset c = false) (supply : c ≠ .supplyLoss) :
    exec c s = .next s := by
  have total : ∃ t, exec c s = .next t := by cases c <;> exact ⟨_, rfl⟩
  obtain ⟨t, ran⟩ := total
  rcases outcome_exec c s reset supply t ran with rfl | ⟨up, -⟩
  · exact ran
  · simp [down] at up

theorem exec_powerOnReset (s : State) : exec .powerOnReset s = .next (resetKeeping 0 0 s) := rfl

theorem lowAfterReset_eq {low : Nat} (long : 1000 ≤ low) : lowAfterReset low = (low - 1) / 1000 := by
  unfold lowAfterReset nresetMicros
  congr 1
  omega

theorem exec_nreset_long {low : Nat} {rising : Bool} {s : State} (long : 1000 ≤ low) (supplied : s.clock.powered = true ∨ rising = true) :
    exec (.nreset low rising) s = .next (resetKeeping ((low - 1) / 1000) (if rising then 0 else s.exchange.strikes) s) := by
  show Host.Outcome.next _ = _
  rw [if_pos ⟨long, supplied⟩, lowAfterReset_eq long]

theorem exec_nreset_ignored {low : Nat} {rising : Bool} {s : State} (ignored : low < 1000 ∨ s.clock.powered = false ∧ rising = false) :
    exec (.nreset low rising) s = .next s := by
  show Host.Outcome.next _ = _
  refine congrArg Host.Outcome.next (if_neg ?_)
  rintro ⟨long, supplied⟩
  rcases ignored with short | ⟨dead, still⟩
  · exact absurd long (Nat.not_le.mpr short)
  · simp [dead, still] at supplied

/-- What a supervisor that works makes of a command that is no event. -/
theorem whileUp_up {f : State → State} {s : State} (up : s.up = true) : whileUp f s = f s := if_pos up

theorem frameOutcome_unheard {effect answer : State → State} {s : State} (up : s.up = true) (waiting : s.link.assembler = .waiting) :
    frameOutcome effect answer s = .next { s with link.assembler := .receiving } := by
  have deaf : s.hears = false := by simp [State.hears, waiting]
  simp only [frameOutcome, whileUp_up up, deaf, received, Bool.false_eq_true, if_false]

/-- An event whose own effect only leaves a branch's assembler receiving, at rest. -/
theorem rest_receivedOn {br : BranchId} {s : State} (rest : resting s = true) :
    restFrame (receivedOn br s) (asEvent (receivedOn br) id s) ∧ (asEvent (receivedOn br) id s).link = s.link := by
  simp only [resting, Bool.and_eq_true, Bool.not_eq_true'] at rest
  obtain ⟨⟨-, flash⟩, law⟩ := rest
  have opened : receivedOn br (openEvent s) = openEvent (receivedOn br s) := rfl
  obtain ⟨frame, link, quiet⟩ := asEvent_rest (effect := receivedOn br) (s := s) id_onlyLink (by rw [opened]; exact flash)
    (by rw [opened]; exact law) (by rw [opened]; rfl) (by rw [opened]; rfl) (by rw [opened]; rfl) (by rw [opened]; rfl)
  rw [id] at link
  exact ⟨by rwa [opened] at frame, link.trans (quiet.trans rfl)⟩

theorem hearsOn_waiting {s : State} {br : BranchId} (waiting : (s.branch br).assembler = .waiting) : s.hearsOn br = false := by
  simp [State.hearsOn, waiting]

/-- An answer that began while the branch's assembler waited only leaves it receiving (log 19). -/
theorem exec_unheard_answer {s : State} (up : s.up = true) {br : BranchId} (waiting : (s.branch br).assembler = .waiting) (station : Nat)
    (applied : Option Byte) (currents : List Half) (inputs : List DsmInput) (bytes : List Byte) {c : Instr}
    (answer : c = .lstReceived br station applied currents ∨ c = .dsmReceived br station inputs ∨ c = .sstReceived br station bytes
      ∨ c = .fwrReceived br station bytes) : exec c s = .next (asEvent (receivedOn br) id s) := by
  have unheard : ∀ (take : State → State) (role : Role),
      answerOutcome br station role take s = .next (asEvent (receivedOn br) id s) := fun take role => by
    have deaf : (openEvent s).hearsOn br = false := hearsOn_waiting waiting
    simp [answerOutcome, eventOutcome, whileUp_up up, asEvent, State.answersPoll, deaf]
  rcases answer with rfl | rfl | rfl | rfl
  · exact unheard _ _
  · exact unheard _ _
  · exact unheard _ _
  · have deaf := hearsOn_waiting waiting
    have none : s.forwardTag br station = none := by
      unfold State.forwardTag
      split
      · simp [deaf]
      · rfl
    show Host.Outcome.next _ = _
    rw [whileUp_up up, none]

end Sys2Proof.Machine

namespace Sys2Proof.Proofs

open Sys2Proof Sys2Proof.Machine Sys2Proof.Safety

/-- Settles O1. -/
theorem stepRunsFrontCommand : Obligations.StepRunsFrontCommand := by
  intro c rest s pending
  unfold step
  rw [pending]

/-- Settles O3. -/
theorem resetsSetEveryBlock : Obligations.ResetsSetEveryBlock := by
  intro s
  refine ⟨⟨_, rfl, resetFrom_resetKeeping 0 0 s⟩, fun low rising => ⟨fun short => ?_, fun long rise => ?_, fun long still supplied => ?_⟩,
    fun supplied low => ⟨fun c reset supply => ?_, fun idle => ⟨fun longer => ?_, fun last => ?_⟩⟩⟩
  · exact exec_nreset_ignored (.inl short)
  · exact ⟨_, exec_nreset_long long (.inr rise), by simpa [rise] using resetFrom_resetKeeping _ _ s⟩
  · exact ⟨_, exec_nreset_long long (.inl supplied), by simpa [still] using resetFrom_resetKeeping _ _ s⟩
  · exact exec_of_not_up (by simp [State.up, low]) c reset supply
  · have more : s.clock.lowFor ≠ 1 := by omega
    simp [step, idle, tick, supplied, low, passLow, more]
  · have loading : State.reset.link = Link.loading := rfl
    simp [step, idle, tick, supplied, last, passLow, loading]

/-- Settles O4. -/
theorem supplyLossReleasesRunpermit : Obligations.SupplyLossReleasesRunpermit := by
  refine ⟨fun s supplied => ⟨_, congrArg Host.Outcome.next (if_pos supplied), ?_⟩, fun c s dead power rising => ?_⟩
  · have nv := cutWrites_nv_kept (s := s)
    have torn := cutWrites_nv_torn (s := s)
    have spoiled := cutWrites_nv_spoiled (s := s)
    obtain ⟨drawn, nvAfter, cut⟩ := cutWrites_eq s
    rw [cut] at nv torn spoiled ⊢
    exact ⟨rfl, rfl, rfl, rfl, rfl, rfl, rfl, rfl, rfl, rfl, rfl, rfl, rfl, rfl, nv, torn, spoiled⟩
  · by_cases supply : c = .supplyLoss
    · subst supply
      exact congrArg Host.Outcome.next (if_neg (by simp [dead]))
    · cases reset : isReset c with
      | false => exact exec_of_not_up (by simp [State.up, dead]) c reset supply
      | true =>
        cases c with
        | powerOnReset => exact absurd rfl power
        | nreset low rise =>
          have still : rise = false := by
            cases rise
            · rfl
            · exact absurd rfl (rising low)
          exact exec_nreset_ignored (.inr ⟨dead, still⟩)
        | _ => cases reset

/-- Settles O5: the values are read off the reset state; each law is evaluated there, but for the seventh, which no group in service meets. -/
theorem resetValuesAndLaws : Obligations.ResetValuesAndLaws := by
  have group : ∀ g, State.reset.group g = Group.reset := resetState_group _ _ _ _ _
  have proving : ∀ c, State.reset.proving c = Proving.reset := fun c => entryD_replicate _ c _
  have detector : ∀ c, State.reset.detector c = none := fun c => entryD_replicate _ c _
  have branch : ∀ br, State.reset.branch br = Branch.reset := fun br => entryD_replicate _ _ _
  have effective : effectiveLaw State.reset := by
    intro g service
    have dead : State.reset.tables.live g = false := emptySet_live g
    simp [inService, dead] at service
  refine ⟨rfl, rfl, rfl, rfl, rfl, rfl, rfl, rfl, rfl, rfl, rfl, rfl, rfl, rfl, rfl, rfl, fun g _ => group g, rfl,
    fun c _ => ?_, fun br _ => ?_, fun c _ => detector c, rfl, rfl, rfl, rfl, rfl, rfl, rfl, rfl, rfl, ?_, rfl, rfl, rfl, rfl, rfl, ?_⟩
  · rw [proving]
    exact ⟨rfl, rfl, rfl, rfl⟩
  · rw [branch]
    exact ⟨rfl, rfl, rfl, rfl, rfl⟩
  · decide +kernel
  · exact ⟨by decide +kernel, by decide +kernel, by decide, by decide +kernel, by decide +kernel, by decide, by decide, by decide +kernel, effective,
      by decide, by decide, by decide, by decide, by decide, by decide +kernel, by decide +kernel, by decide⟩

/-- Settles O44. -/
theorem lineEvents : Obligations.LineEvents := by
  intro s up
  have alone : ∀ f : State → State, Host.Outcome.next (whileUp f s) = (.next (f s) : Host.Outcome State Fault Refusal) := fun f => by
    rw [whileUp_up up]
  refine ⟨fun f rest queue => ?_, fun queue => ?_, fun cause => ⟨_, alone _, ?_⟩, fun br cause => ⟨_, alone _, ?_⟩, alone _, fun br => alone _,
    fun c frame waiting => ?_, fun br station applied currents inputs bytes c rest waiting answer => ?_, fun active held long awake => ?_,
    fun active held short => ?_⟩
  · refine (alone _).trans ?_
    simp [Link.start, queue]
  · refine (alone _).trans ?_
    simp [Link.start, queue]
  · rintro (rfl | rfl | rfl) <;> rfl
  · rintro (rfl | rfl | rfl) <;> rfl
  · cases c with
    | img | calCall | calCancel | modRun | modFlash | twr | trd | tcm | tds | sta | fcl | fwd | unknownKindFrame =>
      exact frameOutcome_unheard up waiting
    | _ => cases frame
  · obtain ⟨kept, link⟩ := rest_receivedOn (br := br) rest
    exact ⟨_, exec_unheard_answer up waiting station applied currents inputs bytes answer, link, kept⟩
  · refine (alone _).trans ?_
    simp [State.heldSince, maintFilterMs, long, awake]
  · refine (alone _).trans ?_
    have unheld : s.heldSince held maintFilterMs = false := by
      unfold State.heldSince maintFilterMs
      rcases short with short | short <;> simp [Nat.not_le.mpr short]
    rw [if_neg (by simp [unheld])]

end Sys2Proof.Proofs

/-! ### Events at rest: frames and reads (R164, R170 to R173) -/

namespace Sys2Proof.Machine

open Sys2Proof.Safety

theorem resting_iff {s : State} : resting s = true ↔ s.up = true ∧ s.control.mode.permit = false ∧ aspectLaw s = true := by
  simp only [resting, Bool.and_eq_true, Bool.not_eq_true', and_assoc]

/-- An event whose own effect leaves `v`, a state at rest, open: it ends in `v` as `restFrame` says, and hands on only its answer. -/
theorem rest_event {effect answer : State → State} {s v : State} {worst : Action} (only : onlyLink answer)
    (own : effect (openEvent s) = { openEvent v with event.worst := worst }) (flash : v.control.mode.permit = false) (law : aspectLaw v = true) :
    restFrame v (asEvent effect answer s) ∧ (asEvent effect answer s).link = (answer (conclude (effect (openEvent s)))).link
      ∧ (conclude (effect (openEvent s))).link = v.link := by
  obtain ⟨frame, link, quiet⟩ := asEvent_rest (effect := effect) (s := s) only (by rw [own]; exact flash) (by rw [own]; exact law)
    (by rw [own]; rfl) (by rw [own]; rfl) (by rw [own]; rfl) (by rw [own]; rfl)
  refine ⟨?_, link, quiet.trans (by rw [own]; rfl)⟩
  rw [own] at frame
  exact frame

theorem rest_sent {effect : State → State} {s v : State} {worst : Action} (f : OutFrame)
    (own : effect (openEvent s) = { openEvent v with event.worst := worst }) (flash : v.control.mode.permit = false) (law : aspectLaw v = true) :
    restFrame v (asEvent effect (send f) s) ∧ (asEvent effect (send f) s).link = v.link.accept f := by
  obtain ⟨frame, link, quiet⟩ := rest_event (send_onlyLink f) own flash law
  exact ⟨frame, by rw [link, send_link, quiet]⟩

theorem rest_unanswered {effect : State → State} {s v : State} {worst : Action}
    (own : effect (openEvent s) = { openEvent v with event.worst := worst }) (flash : v.control.mode.permit = false) (law : aspectLaw v = true) :
    restFrame v (asEvent effect id s) ∧ (asEvent effect id s).link = v.link := by
  obtain ⟨frame, link, quiet⟩ := rest_event id_onlyLink own flash law
  rw [id] at link
  exact ⟨frame, link.trans quiet⟩

/-- A frame that the supervisor hears is an event with its answer. -/
theorem frameOutcome_heard {effect answer : State → State} {s : State} (up : s.up = true) (hears : s.hears = true) :
    frameOutcome effect answer s = .next (asEvent effect answer s) := by
  simp only [frameOutcome, whileUp_up up, hears, if_true]

theorem eventOutcome_up {effect : State → State} {s : State} (up : s.up = true) : eventOutcome effect s = .next (asEvent effect id s) := by
  simp only [eventOutcome, whileUp_up up]

/-- A reply to a frame at rest whose own effect leaves everything as it is. -/
theorem rest_replied {s : State} (rest : resting s = true) (kind : Byte) (result : Result) (content : List Byte) :
    restFrame s (asEvent id (reply kind result content) s)
      ∧ (asEvent id (reply kind result content) s).link = s.link.accept (.rpl kind result content) := by
  obtain ⟨-, flash, law⟩ := resting_iff.mp rest
  exact rest_sent (effect := id) (s := s) (v := s) (worst := .none) _ rfl flash law

/-- A frame at rest whose own effect turns out to be none. -/
theorem rest_refused {effect : State → State} {s : State} (rest : resting s = true) (hears : s.hears = true) (none : effect = id) (kind : Byte)
    (result : Result) (content : List Byte) :
    ∃ t, frameOutcome effect (reply kind result content) s = .next t ∧ restFrame s t ∧ t.link = s.link.accept (.rpl kind result content) := by
  subst none
  exact ⟨_, frameOutcome_heard (resting_iff.mp rest).1 hears, rest_replied rest kind result content⟩

/-! #### Table writes, reads and commits -/

theorem writeResult_cases (table index : Byte) (content : List Byte) (s : State) :
    (s.control.mode.edits = false → writeResult table index content s = .mode)
      ∧ (s.control.mode.edits = true → s.store.op ≠ .idle → writeResult table index content s = .busy)
      ∧ (s.control.mode.edits = true → s.store.op = .idle → (recordExists table index = false ∨ content.length ≠ recordLength table.toNat) →
        writeResult table index content s = .range)
      ∧ (s.control.mode.edits = true → s.store.op = .idle → recordExists table index = true → content.length = recordLength table.toNat →
        writeResult table index content s = .ok) := by
  unfold writeResult
  refine ⟨fun edits => if_pos edits, fun edits busy => ?_, fun edits idle wrong => ?_, fun edits idle here long => ?_⟩
  · rw [if_neg (by simp [edits]), if_pos busy]
  · rw [if_neg (by simp [edits]), if_neg (not_not_intro idle), if_pos wrong]
  · rw [if_neg (by simp [edits]), if_neg (not_not_intro idle), if_neg (by simp [here, long])]

theorem exec_twr (table index : Byte) (content : List Byte) (s : State) :
    exec (.twr table index content) s
      = frameOutcome
          (if writeResult table index content s = .ok then
              fun s => { s with store.working := writeRecord s.store.working table.toNat index.toNat content }
            else id)
          (reply twrKind (writeResult table index content s) []) s := rfl

theorem exec_twr_taken {table index : Byte} {content : List Byte} {s : State} (up : s.up = true) (hears : s.hears = true)
    (ok : writeResult table index content s = .ok) :
    exec (.twr table index content) s
      = .next (asEvent (fun s => { s with store.working := writeRecord s.store.working table.toNat index.toNat content }) (reply twrKind .ok []) s) := by
  rw [exec_twr, ok]
  exact frameOutcome_heard up hears

theorem exec_twr_refused {table index : Byte} {content : List Byte} {s : State} (refused : writeResult table index content s ≠ .ok) :
    exec (.twr table index content) s = frameOutcome id (reply twrKind (writeResult table index content s) []) s := by
  rw [exec_twr, if_neg refused]

theorem exec_tcm (s : State) :
    exec .tcm s
      = frameOutcome (if (commitAnswer s).1 = .ok then startCommit else id) (reply tcmKind (commitAnswer s).1 (commitAnswer s).2) s := rfl

theorem exec_trd (table index copy : Byte) (s : State) :
    exec (.trd table index copy) s = frameOutcome id (reply trdKind (readAnswer table index copy s).1 (readAnswer table index copy s).2) s := rfl

/-- A table read at rest answers what stands (R171). -/
theorem rest_trd {table index copy : Byte} {s : State} (rest : resting s = true) (hears : s.hears = true) {result : Result} {content : List Byte}
    (answer : readAnswer table index copy s = (result, content)) :
    ∃ t, exec (.trd table index copy) s = .next t ∧ restFrame s t ∧ t.link = s.link.accept (.rpl 0x14 result content) := by
  rw [exec_trd, answer]
  exact rest_refused rest hears rfl trdKind result content

theorem readAnswer_found {table index : Byte} {s : State} (mode : s.control.mode ≠ .loading) (here : recordExists table index = true) :
    readAnswer table index 0 s
        = (match s.store.active with | some t => (.ok, recordBytes t table.toNat index.toNat) | none => (.invalid, []))
      ∧ readAnswer table index 1 s = (.ok, recordBytes s.store.working table.toNat index.toNat)
      ∧ readAnswer table index 2 s
        = (if s.store.op ≠ .idle then (.busy, [])
          else (.ok, eccStatus (s.store.nv.recordWordsOf table.toNat index.toNat) :: s.store.nv.recordContent table.toNat index.toNat)) := by
  unfold readAnswer
  simp only [mode, here, if_false, reduceCtorEq]
  exact ⟨rfl, rfl, rfl⟩

/-- What the status answer shows is no part of the link interface or of the scratch record. -/
theorem statusAnswer_closed (part : Byte) (first : Half) (w : State) (l : Link) (e : Event) :
    statusAnswer part first { w with link := l, event := e } = statusAnswer part first w := rfl

/-- The answer to an STA reads the state at the end of its event. -/
def statusReply (part : Byte) (first : Half) (s : State) : State := reply staKind (statusAnswer part first s).1 (statusAnswer part first s).2 s

theorem exec_sta (part : Byte) (first : Half) (s : State) : exec (.sta part first) s = frameOutcome id (statusReply part first) s := rfl

theorem rest_sta {s : State} (rest : resting s = true) (hears : s.hears = true) (part : Byte) (first : Half) :
    ∃ t, exec (.sta part first) s = .next t ∧ restFrame s t
      ∧ t.link = s.link.accept (.rpl 0x17 (statusAnswer part first t).1 (statusAnswer part first t).2) := by
  obtain ⟨up, flash, law⟩ := resting_iff.mp rest
  obtain ⟨frame, link, quiet⟩ := rest_event (effect := id) (s := s) (v := s) (worst := .none) (answer := statusReply part first) (fun _ => rfl) rfl flash law
  have shown : statusAnswer part first (asEvent id (statusReply part first) s) = statusAnswer part first (conclude (id (openEvent s))) := by
    unfold asEvent
    generalize conclude (id (openEvent s)) = w
    exact statusAnswer_closed part first w _ _
  rw [exec_sta]
  refine ⟨_, frameOutcome_heard up hears, frame, ?_⟩
  rw [link, shown]
  generalize conclude (id (openEvent s)) = w at quiet
  rw [statusReply, reply, send_link, quiet]
  rfl

/-- Whole items are taken up to one that does not fit any more (R184). -/
theorem wholeItems_spec (room : Nat) (items : List (List Byte)) :
    ∃ left, items = wholeItems room items ++ left ∧ (wholeItems room items).flatten.length ≤ room
      ∧ ∀ item rest, left = item :: rest → room < (wholeItems room items).flatten.length + item.length := by
  induction items generalizing room with
  | nil => exact ⟨[], rfl, Nat.zero_le _, nofun⟩
  | cons item rest ih =>
    unfold wholeItems
    split
    · next fits =>
      obtain ⟨left, cut, bounded, last⟩ := ih (room - item.length)
      refine ⟨left, congrArg (item :: ·) cut, ?_, fun x xs more => ?_⟩
      · simp only [List.flatten_cons, List.length_append]
        omega
      · have := last x xs more
        simp only [List.flatten_cons, List.length_append]
        omega
    · next full => exact ⟨item :: rest, rfl, Nat.zero_le _, fun x xs more => by cases more; simpa using full⟩

theorem statusAnswer_beyond {part : Byte} {first : Half} {s : State} {items : List (List Byte)} (found : statusItems s part.toNat = some items)
    (beyond : items.length < first.toNat) : statusAnswer part first s = (.range, []) := by
  simp only [statusAnswer, found, if_pos beyond]

theorem statusAnswer_within {part : Byte} {first : Half} {s : State} {items : List (List Byte)} (found : statusItems s part.toNat = some items)
    (inside : first.toNat ≤ items.length) :
    statusAnswer part first s
      = (.ok, [part] ++ halfBytes first
          ++ [byteOf (wholeItems itemRoom (items.drop first.toNat)).length,
            byteOf ((items.drop first.toNat).length - (wholeItems itemRoom (items.drop first.toNat)).length)]
          ++ halfBytes s.faults.changeNumber ++ (wholeItems itemRoom (items.drop first.toNat)).flatten) := by
  simp only [statusAnswer, found, if_neg (Nat.not_lt.mpr inside)]

theorem statusItems_outside {s : State} {part : Nat} (outside : 6 < part) : statusItems s part = none := by
  unfold statusItems
  split
  case h_8 => rfl
  all_goals omega

end Sys2Proof.Machine

namespace Sys2Proof.Proofs

open Sys2Proof Sys2Proof.Machine Sys2Proof.Safety

/-- Settles O29. -/
theorem tableWriteEditsWorkingCopy : Obligations.TableWriteEditsWorkingCopy := by
  intro table index content s rest hears
  obtain ⟨up, flash, law⟩ := resting_iff.mp rest
  obtain ⟨moded, busied, ranged, taken⟩ := writeResult_cases table index content s
  refine ⟨fun edits idle here long => ?_, fun wrong => ?_⟩
  · exact ⟨_, exec_twr_taken up hears (taken edits idle here long), rest_sent (worst := .none) (s := s)
      (v := { s with store.working := writeRecord s.store.working table.toNat index.toNat content }) _ rfl flash law⟩
  · have refused : writeResult table index content s ≠ .ok := by
      cases edits : s.control.mode.edits with
      | false => simp [moded edits]
      | true =>
        by_cases idle : s.store.op = .idle
        · simp [ranged edits idle ((wrong.resolve_left (by simp [edits])).resolve_left (not_not_intro idle))]
        · simp [busied edits idle]
    obtain ⟨t, ran, frame, link⟩ := rest_refused (effect := id) rest hears rfl twrKind (writeResult table index content s) []
    refine ⟨t, _, (exec_twr_refused refused).trans ran, frame, link, moded, busied, fun edits idle => ?_⟩
    exact ranged edits idle ((wrong.resolve_left (by simp [edits])).resolve_left (not_not_intro idle))

/-- Settles O32. -/
theorem readsChangeNothing : Obligations.ReadsChangeNothing := by
  intro s rest hears
  refine ⟨fun table index mode here => ?_, rest_sta rest hears, fun kind => rest_refused rest hears rfl kind .unknown []⟩
  obtain ⟨active, working, stored⟩ := readAnswer_found mode here
  refine ⟨fun a given => rest_trd rest hears ?_, fun empty => rest_trd rest hears ?_, rest_trd rest hears working, fun idle => rest_trd rest hears ?_,
    fun busy => rest_trd rest hears ?_⟩
  · rw [active, given]
  · rw [active, empty]
  · rw [stored, if_neg (not_not_intro idle)]
  · rw [stored, if_pos busy]

/-- Settles O33. -/
theorem statusReplyFits : Obligations.StatusReplyFits := by
  intro part first s
  refine ⟨?_, fun outside => by simp only [statusAnswer, statusItems_outside outside], fun items found => statusAnswer_beyond found,
    fun items found inside => ?_⟩
  · cases found : statusItems s part.toNat with
    | none => simp [statusAnswer, found]
    | some items =>
      by_cases beyond : items.length < first.toNat
      · simp [statusAnswer_beyond found beyond]
      · obtain ⟨left, -, bounded, -⟩ := wholeItems_spec itemRoom (items.drop first.toNat)
        rw [statusAnswer_within found (Nat.not_lt.mp beyond)]
        simp only [halfBytes, itemRoom, List.length_append, List.length_cons, List.length_nil] at bounded ⊢
        omega
  · obtain ⟨left, cut, bounded, last⟩ := wholeItems_spec itemRoom (items.drop first.toNat)
    rw [statusAnswer_within found inside]
    refine ⟨rfl, _, left, cut, ?_, bounded, last⟩
    have rest : (items.drop first.toNat).length - (wholeItems itemRoom (items.drop first.toNat)).length = left.length := by
      have := congrArg List.length cut
      rw [List.length_append] at this
      omega
    rw [rest]
    simp

/-- Settles O34. -/
theorem commitStartsOrIsRefused : Obligations.CommitStartsOrIsRefused := by
  intro s rest hears edits
  obtain ⟨up, flash, law⟩ := resting_iff.mp rest
  refine ⟨fun idle valid => ?_, fun idle check table index failure => tcm_refused rest hears ?_ (by decide),
    fun busy => tcm_refused rest hears ?_ (by decide)⟩
  · have passes : firstFailure s.store.working = none := by
      unfold TableSet.valid at valid
      exact Option.isNone_iff_eq_none.mp valid
    have answer : commitAnswer s = (.ok, halfBytes (nextGeneration s.store.generation)) := by simp [commitAnswer, edits, idle, passes]
    refine ⟨asEvent startCommit (reply tcmKind .ok (halfBytes (nextGeneration s.store.generation))) s, ?_, ?_⟩
    · rw [exec_tcm, answer]
      exact frameOutcome_heard up hears
    · exact rest_sent (worst := .none) (s := s) (v := startCommit s) _ rfl flash law
  · simp [commitAnswer, edits, idle, failure]
  · simp [commitAnswer, edits, busy]

end Sys2Proof.Proofs

/-! ### The encoding of records, and the words of the store (R183; 10, section 10.2) -/

namespace Sys2Proof.Machine

open Sys2Proof.Safety

/-! #### Bytes and what they spell -/

@[simp] theorem half_halfBytes (x : Half) : half (x.extractLsb' 8 8) (x.extractLsb' 0 8) = x :=
  BitVec.eq_of_getLsbD_eq fun i hi => by simp only [half, BitVec.getLsbD_append, BitVec.getLsbD_extractLsb']; grind

@[simp] theorem halfBytes_half (a b : Byte) : halfBytes (half a b) = [a, b] := by
  have high : (half a b).extractLsb' 8 8 = a :=
    BitVec.eq_of_getLsbD_eq fun i hi => by simp only [half, BitVec.getLsbD_append, BitVec.getLsbD_extractLsb']; grind
  have low : (half a b).extractLsb' 0 8 = b :=
    BitVec.eq_of_getLsbD_eq fun i hi => by simp only [half, BitVec.getLsbD_append, BitVec.getLsbD_extractLsb']; grind
  rw [halfBytes, high, low]

@[simp] theorem triple_tripleBytes (x : BitVec 24) : triple (x.extractLsb' 16 8) (x.extractLsb' 8 8) (x.extractLsb' 0 8) = x :=
  BitVec.eq_of_getLsbD_eq fun i hi => by simp only [triple, BitVec.getLsbD_append, BitVec.getLsbD_extractLsb']; grind

@[simp] theorem tripleBytes_triple (a b c : Byte) : tripleBytes (triple a b c) = [a, b, c] := by
  have high : (triple a b c).extractLsb' 16 8 = a :=
    BitVec.eq_of_getLsbD_eq fun i hi => by simp only [triple, BitVec.getLsbD_append, BitVec.getLsbD_extractLsb']; grind
  have middle : (triple a b c).extractLsb' 8 8 = b :=
    BitVec.eq_of_getLsbD_eq fun i hi => by simp only [triple, BitVec.getLsbD_append, BitVec.getLsbD_extractLsb']; grind
  have low : (triple a b c).extractLsb' 0 8 = c :=
    BitVec.eq_of_getLsbD_eq fun i hi => by simp only [triple, BitVec.getLsbD_append, BitVec.getLsbD_extractLsb']; grind
  rw [tripleBytes, high, middle, low]

@[simp] theorem wordBytes_word (a b c d : Byte) : wordBytes (word a b c d) = [a, b, c, d] := by
  have first : (word a b c d).extractLsb' 24 8 = a :=
    BitVec.eq_of_getLsbD_eq fun i hi => by simp only [word, BitVec.getLsbD_append, BitVec.getLsbD_extractLsb']; grind
  have second : (word a b c d).extractLsb' 16 8 = b :=
    BitVec.eq_of_getLsbD_eq fun i hi => by simp only [word, BitVec.getLsbD_append, BitVec.getLsbD_extractLsb']; grind
  have third : (word a b c d).extractLsb' 8 8 = c :=
    BitVec.eq_of_getLsbD_eq fun i hi => by simp only [word, BitVec.getLsbD_append, BitVec.getLsbD_extractLsb']; grind
  have fourth : (word a b c d).extractLsb' 0 8 = d :=
    BitVec.eq_of_getLsbD_eq fun i hi => by simp only [word, BitVec.getLsbD_append, BitVec.getLsbD_extractLsb']; grind
  rw [wordBytes, first, second, third, fourth]

/-! #### Records -/

theorem encodeCabinet_decode {b : List Byte} (length : b.length = 7) : encodeCabinet (decodeCabinet b) = b := by
  obtain ⟨b0, b1, b2, b3, b4, b5, b6, rfl⟩ : ∃ b0 b1 b2 b3 b4 b5 b6, b = [b0, b1, b2, b3, b4, b5, b6] := by
    match b, length with
    | [b0, b1, b2, b3, b4, b5, b6], _ => exact ⟨_, _, _, _, _, _, _, rfl⟩
  simp [encodeCabinet, decodeCabinet, halfAt, byteAt]

theorem encodeGroup_decode {b : List Byte} (length : b.length = 9) : encodeGroup (decodeGroup b) = b := by
  match b, length with
  | [b0, b1, b2, b3, b4, b5, b6, b7, b8], _ => simp [encodeGroup, decodeGroup, halfAt, byteAt]

theorem encodeConflicts_decode {n : Nat} {b : List Byte} (length : b.length = 2 * n) : encodeConflicts (decodeConflicts b) = b := by
  induction n generalizing b with
  | zero => rw [List.eq_nil_of_length_eq_zero length]; rfl
  | succ n ih =>
    match b, length with
    | c :: ig :: rest, length =>
      have shorter : rest.length = 2 * n := by simp only [List.length_cons] at length; omega
      exact congrArg (fun l => c :: ig :: l) (ih shorter)
    | [_], length => simp only [List.length_singleton] at length; omega

theorem decodeConflicts_encode (row : List ConflictEntry) : decodeConflicts (encodeConflicts row) = row := by
  induction row with
  | nil => rfl
  | cons e rest ih => exact congrArg (e :: ·) ih

theorem encodeChannel_decode {b : List Byte} (length : b.length = 14) : encodeChannel (decodeChannel b) = b := by
  match b, length with
  | [b0, b1, b2, b3, b4, b5, b6, b7, b8, b9, b10, b11, b12, b13], _ => simp [encodeChannel, decodeChannel, halfAt, byteAt]

theorem encodeDetector_decode {b : List Byte} (length : b.length = 10) : encodeDetector (decodeDetector b) = b := by
  match b, length with
  | [b0, b1, b2, b3, b4, b5, b6, b7, b8, b9], _ => simp [encodeDetector, decodeDetector, byteAt]

theorem encodePlan_decode {b : List Byte} (length : b.length = 13) : encodePlan (decodePlan b) = b := by
  match b, length with
  | [b0, b1, b2, b3, b4, b5, b6, b7, b8, b9, b10, b11, b12], _ => simp [encodePlan, decodePlan, halfAt, byteAt]

theorem encodeStation_decode {b : List Byte} (length : b.length = 3) : encodeStation (decodeStation b) = b := by
  match b, length with
  | [b0, b1, b2], _ => simp [encodeStation, decodeStation, byteAt]

theorem decodeCabinet_encode (r : CabinetRec) : decodeCabinet (encodeCabinet r) = r := by
  simp [encodeCabinet, decodeCabinet, halfAt, byteAt, halfBytes]

theorem decodeGroup_encode (r : GroupRec) : decodeGroup (encodeGroup r) = r := by
  simp [encodeGroup, decodeGroup, halfAt, byteAt, halfBytes]

theorem decodeChannel_encode (r : ChannelRec) : decodeChannel (encodeChannel r) = r := by
  simp [encodeChannel, decodeChannel, halfAt, byteAt, halfBytes]

theorem decodeDetector_encode (r : DetectorRec) : decodeDetector (encodeDetector r) = r := by
  simp [encodeDetector, decodeDetector, byteAt]

theorem decodePlan_encode (r : PlanRec) : decodePlan (encodePlan r) = r := by
  simp [encodePlan, decodePlan, halfAt, byteAt, halfBytes, tripleBytes]

theorem decodeStation_encode (r : StationRec) : decodeStation (encodeStation r) = r := by
  simp [encodeStation, decodeStation, byteAt]

/-! #### One record among the others -/

theorem entryD_changeEntry_same {α : Type} {l : List α} {n : Nat} (first : 1 ≤ n) (last : n ≤ l.length) (f : α → α) (d : α) :
    entryD (changeEntry l n f) n d = f (entryD l n d) := by
  have found : entry? l n = some l[n - 1] := by simp [entry?, Nat.ne_of_gt first, List.getElem?_eq_getElem (show n - 1 < l.length by omega)]
  simp only [entryD, entry?_changeEntry, found, if_true, Option.map_some, Option.getD_some]

theorem entryD_changeEntry_other {α : Type} {l : List α} {n k : Nat} (other : k ≠ n) (f : α → α) (d : α) :
    entryD (changeEntry l n f) k d = entryD l k d := by
  simp [entryD, entry?_changeEntry, other]

theorem fullSet_iff {t : TableSet} :
    fullSet t = true ↔ t.groups.length = 24 ∧ t.conflicts.length = 24 ∧ t.outputs.length = 96 ∧ t.detectors.length = 48 ∧ t.plans.length = 8
      ∧ t.stations.length = 32 := by
  simp [fullSet, recordCount, Config.groups, Config.channels, Config.detectors, Config.plans, Config.stations, and_assoc]

theorem recordBytes_writeRecord_same {t : TableSet} {table index : Nat} {content : List Byte} (full : fullSet t = true) (first : 1 ≤ index)
    (last : index ≤ recordCount table) (length : content.length = recordLength table) :
    recordBytes (writeRecord t table index content) table index = content := by
  obtain ⟨groups, conflicts, outputs, detectors, plans, stations⟩ := fullSet_iff.mp full
  match table, last, length with
  | 1, _, length => exact encodeCabinet_decode length
  | 2, last, length =>
    exact (congrArg encodeGroup (entryD_changeEntry_same first (groups ▸ last) _ _)).trans (encodeGroup_decode length)
  | 3, last, length =>
    exact (congrArg encodeConflicts (entryD_changeEntry_same first (conflicts ▸ last) _ _)).trans (encodeConflicts_decode (n := 24) length)
  | 4, last, length =>
    exact (congrArg encodeChannel (entryD_changeEntry_same first (outputs ▸ last) _ _)).trans (encodeChannel_decode length)
  | 5, last, length =>
    exact (congrArg encodeDetector (entryD_changeEntry_same first (detectors ▸ last) _ _)).trans (encodeDetector_decode length)
  | 6, last, length =>
    exact (congrArg encodePlan (entryD_changeEntry_same first (plans ▸ last) _ _)).trans (encodePlan_decode length)
  | 7, last, length =>
    exact (congrArg encodeStation (entryD_changeEntry_same first (stations ▸ last) _ _)).trans (encodeStation_decode length)
  | 0, last, _ | n + 8, last, _ =>
    have none : index ≤ 0 := last
    omega

theorem recordBytes_writeRecord_other {t : TableSet} {table index other place : Nat} (content : List Byte) (first : 1 ≤ place)
    (last : place ≤ recordCount other) (first' : 1 ≤ index) (last' : index ≤ recordCount table) (apart : other ≠ table ∨ place ≠ index) :
    recordBytes (writeRecord t table index content) other place = recordBytes t other place := by
  by_cases same : other = table
  · subst same
    have elsewhere : place ≠ index := apart.resolve_left (not_not_intro rfl)
    match other, last, last' with
    | 1, last, last' =>
      have one : place ≤ 1 ∧ index ≤ 1 := ⟨last, last'⟩
      omega
    | 2, _, _ => exact congrArg encodeGroup (entryD_changeEntry_other elsewhere _ _)
    | 3, _, _ => exact congrArg encodeConflicts (entryD_changeEntry_other elsewhere _ _)
    | 4, _, _ => exact congrArg encodeChannel (entryD_changeEntry_other elsewhere _ _)
    | 5, _, _ => exact congrArg encodeDetector (entryD_changeEntry_other elsewhere _ _)
    | 6, _, _ => exact congrArg encodePlan (entryD_changeEntry_other elsewhere _ _)
    | 7, _, _ => exact congrArg encodeStation (entryD_changeEntry_other elsewhere _ _)
    | 0, _, _ | n + 8, _, _ => rfl
  · unfold recordBytes
    split
    case h_8 => rfl
    all_goals
      unfold writeRecord
      split
      all_goals simp_all

/-! #### The words of a set -/

theorem packWords_length (b : List Byte) : (packWords b).length = (b.length + 3) / 4 := by
  induction b using packWords.induct with
  | case1 a b c d rest ih =>
    simp only [packWords, List.length_cons, ih]
    omega
  | _ => simp [packWords]

theorem packWords_spell (b : List Byte) : ((packWords b).flatMap wordBytes).take b.length = b := by
  induction b using packWords.induct with
  | case1 a b c d rest ih =>
    simp only [packWords, List.flatMap_cons, wordBytes_word, List.cons_append, List.nil_append, List.length_cons, List.take_succ_cons, ih]
  | _ => simp [packWords]

theorem numbers_split {n k : Nat} (first : 1 ≤ k) (last : k ≤ n) : ∃ tail, numbers n = numbers (k - 1) ++ k :: tail := by
  refine ⟨(numbers n).drop k, ?_⟩
  have cut : (numbers n).take (k - 1) = numbers (k - 1) := by
    simp only [numbers, ← List.map_take, List.take_range]
    congr 2
    omega
  have here : (numbers n)[k - 1]? = some k := by
    rw [numbers_getElem?, if_pos (by omega)]
    congr 1
    omega
  obtain ⟨within, value⟩ := List.getElem?_eq_some_iff.mp here
  have rest : (numbers n).drop (k - 1) = k :: (numbers n).drop k := by
    rw [List.drop_eq_getElem_cons within, value, Nat.sub_add_cancel first]
  rw [← cut, ← rest, List.take_append_drop]

/-- A member of a list of numbers, in its place among what each number makes. -/
theorem flatMap_numbers_split {β : Type} (f : Nat → List β) {n k : Nat} (first : 1 ≤ k) (last : k ≤ n) :
    ∃ tail, (numbers n).flatMap f = (numbers (k - 1)).flatMap f ++ (f k ++ tail) := by
  obtain ⟨tail, split⟩ := numbers_split first last
  exact ⟨tail.flatMap f, by rw [split, List.flatMap_append, List.flatMap_cons]⟩

theorem flatMap_length_of_const {α β : Type} {f : α → List β} {n : Nat} {l : List α} (each : ∀ x ∈ l, (f x).length = n) :
    (l.flatMap f).length = l.length * n := by
  induction l with
  | nil => simp
  | cons x xs ih =>
    rw [List.flatMap_cons, List.length_append, each x List.mem_cons_self, ih (fun y hy => each y (List.mem_cons_of_mem _ hy)), List.length_cons,
      Nat.succ_mul, Nat.add_comm]

theorem numbers_length (n : Nat) : (numbers n).length = n := by simp [numbers]

/-- A full set with whole rows has records of the lengths of R183. -/
theorem recordBytes_length {t : TableSet} {table index : Nat} (full : fullSet t = true) (rows : ∀ row ∈ t.conflicts, row.length = 24)
    (first : 1 ≤ index) (last : index ≤ recordCount table) : (recordBytes t table index).length = recordLength table := by
  obtain ⟨-, conflicts, -⟩ := fullSet_iff.mp full
  match table, last with
  | 1, _ | 2, _ | 4, _ | 5, _ | 6, _ | 7, _ => rfl
  | 3, last =>
    have found : index - 1 < t.conflicts.length := by
      have : index ≤ 24 := last
      omega
    have row : entryD t.conflicts index [] = t.conflicts[index - 1] := by
      simp [entryD, entry?, Nat.ne_of_gt first, List.getElem?_eq_getElem found]
    show (encodeConflicts _).length = 48
    rw [row, encodeConflicts, flatMap_length_of_const (n := 2) (fun _ _ => rfl), rows _ (List.getElem_mem found)]
  | 0, last | n + 8, last => rfl

/-- The words of one table. -/
def tableWords (t : TableSet) (table : Nat) : List Word := (numbers (recordCount table)).flatMap (fun i => packWords (recordBytes t table i))

theorem tableWords_length {t : TableSet} (full : fullSet t = true) (rows : ∀ row ∈ t.conflicts, row.length = 24) (table : Nat) :
    (tableWords t table).length = recordCount table * recordWords table := by
  have each : ∀ i ∈ numbers (recordCount table), (packWords (recordBytes t table i)).length = recordWords table := fun i member => by
    obtain ⟨first, last⟩ := mem_numbers.mp member
    rw [packWords_length, recordBytes_length full rows first last, recordWords]
  rw [tableWords, flatMap_length_of_const each, numbers_length]

theorem setWords_eq (t : TableSet) : setWords t = (numbers 7).flatMap (tableWords t) := rfl

theorem recordCount_table {table index : Nat} (first : 1 ≤ index) (last : index ≤ recordCount table) : 1 ≤ table ∧ table ≤ 7 := by
  unfold recordCount at last
  split at last
  all_goals omega

theorem bytesFromWords_setWords {t : TableSet} {table index : Nat} (full : fullSet t = true) (rows : ∀ row ∈ t.conflicts, row.length = 24)
    (first : 1 ≤ index) (last : index ≤ recordCount table) : bytesFromWords (setWords t) table index = recordBytes t table index := by
  obtain ⟨low, high⟩ := recordCount_table first last
  obtain ⟨tables, split⟩ := flatMap_numbers_split (tableWords t) low high
  obtain ⟨records, row⟩ := flatMap_numbers_split (fun i => packWords (recordBytes t table i)) first last
  have length := recordBytes_length full rows first last
  have packed : (packWords (recordBytes t table index)).length = recordWords table := by rw [packWords_length, length, recordWords]
  have before : ((numbers (index - 1)).flatMap (fun i => packWords (recordBytes t table i))).length = (index - 1) * recordWords table := by
    rw [flatMap_length_of_const (n := recordWords table), numbers_length]
    intro i member
    obtain ⟨first', last'⟩ := mem_numbers.mp member
    rw [packWords_length, recordBytes_length full rows first' (by omega), recordWords]
  have earlier : ((numbers (table - 1)).flatMap (tableWords t)).length
      = ((numbers (table - 1)).map (fun k => recordCount k * recordWords k)).sum := by
    rw [List.length_flatMap]
    simp only [tableWords_length full rows]
  have words : setWords t = ((numbers (table - 1)).flatMap (tableWords t) ++ (numbers (index - 1)).flatMap (fun i => packWords (recordBytes t table i)))
      ++ (packWords (recordBytes t table index) ++ (records ++ tables)) := by
    rw [setWords_eq, split]
    conv_lhs => rw [show tableWords t table = _ from row]
    simp only [List.append_assoc]
  have place : ((numbers (table - 1)).flatMap (tableWords t)
      ++ (numbers (index - 1)).flatMap (fun i => packWords (recordBytes t table i))).length = firstWord table index := by
    rw [List.length_append, earlier, before, firstWord]
  rw [bytesFromWords, words, ← place, List.drop_left, ← packed, List.take_left, ← length, packWords_spell]

theorem setWords_length {t : TableSet} (full : fullSet t = true) (rows : ∀ row ∈ t.conflicts, row.length = 24) :
    (setWords t).length = setWordCount := by
  rw [setWords_eq, List.length_flatMap]
  simp only [tableWords_length full rows]
  decide

theorem map_entryD_numbers {α : Type} (l : List α) (d : α) : (numbers l.length).map (fun i => entryD l i d) = l := by
  refine List.ext_getElem (by simp [numbers]) fun i here there => ?_
  simp [numbers, entryD, entry?, List.getElem?_eq_getElem there]

theorem setFromWords_setWords {t : TableSet} (full : fullSet t = true) (rows : ∀ row ∈ t.conflicts, row.length = 24) :
    setFromWords (setWords t) = t := by
  have each : ∀ {α : Type} {l : List α} {d : α} {table : Nat} {decode : List Byte → α}, l.length = recordCount table →
      (∀ i, decode (recordBytes t table i) = entryD l i d) →
      (numbers (recordCount table)).map (fun i => decode (bytesFromWords (setWords t) table i)) = l := by
    intro α l d table decode length spelt
    have same : ∀ i ∈ numbers (recordCount table), decode (bytesFromWords (setWords t) table i) = entryD l i d := fun i member => by
      obtain ⟨first, last⟩ := mem_numbers.mp member
      rw [bytesFromWords_setWords full rows first last, spelt]
    rw [List.map_congr_left same, ← length, map_entryD_numbers]
  obtain ⟨groups, conflicts, outputs, detectors, plans, stations⟩ := fullSet_iff.mp full
  have cabinet : decodeCabinet (bytesFromWords (setWords t) 1 1) = t.cabinet := by
    rw [bytesFromWords_setWords full rows (by decide) (by decide)]
    exact decodeCabinet_encode _
  unfold setFromWords
  rw [cabinet, each groups (fun i => decodeGroup_encode _), each conflicts (fun i => decodeConflicts_encode _),
    each outputs (fun i => decodeChannel_encode _), each detectors (fun i => decodeDetector_encode _), each plans (fun i => decodePlan_encode _),
    each stations (fun i => decodeStation_encode _)]

end Sys2Proof.Machine

namespace Sys2Proof.Proofs

open Sys2Proof Sys2Proof.Machine Sys2Proof.Safety

/-- Settles O30. -/
theorem recordWriteThenRead : Obligations.RecordWriteThenRead := fun _ _ _ content full first last length =>
  ⟨recordBytes_writeRecord_same full first last length,
    fun _ _ first' last' apart => recordBytes_writeRecord_other content first' last' first last apart⟩

/-- Settles O31. -/
theorem storedWordsSpellTheSet : Obligations.StoredWordsSpellTheSet := fun _ _ _ full rows first last =>
  ⟨bytesFromWords_setWords full rows first last, setWords_length full rows, setFromWords_setWords full rows⟩

end Sys2Proof.Proofs

/-! ### The outgoing queue (R185), and the frames of the controller (R178 to R182) -/

namespace Sys2Proof.Machine

open Sys2Proof.Safety

/-! #### Placement in the queue -/

/-- The most recently queued frame that satisfies `p` is the one behind which none does. -/
theorem replaceLast_eq {p : OutFrame → Bool} {x : OutFrame} (f : OutFrame) (before : List OutFrame) {after : List OutFrame} (here : p x = true)
    (last : ∀ g ∈ after, p g = false) : replaceLast p f (before ++ x :: after) = before ++ f :: after := by
  have reversed : (before ++ x :: after).reverse = after.reverse ++ x :: before.reverse := by simp
  have found : (before ++ x :: after).reverse.findIdx? p = some after.length := by
    rw [reversed, List.findIdx?_append, List.findIdx?_eq_none_iff.mpr (fun g member => last g (List.mem_reverse.mp member)), List.findIdx?_cons,
      if_pos here]
    simp
  have place : (before ++ x :: after).length - 1 - after.length = before.length := by
    simp only [List.length_append, List.length_cons]
    omega
  rw [replaceLast, found]
  simp only [place, List.set_append_right, Nat.le_refl, Nat.sub_self, List.set_cons_zero]

theorem exists_last {p : OutFrame → Bool} {l : List OutFrame} (any : l.any p = true) :
    ∃ before x after, l = before ++ x :: after ∧ p x = true ∧ ∀ g ∈ after, p g = false := by
  induction l with
  | nil => simp at any
  | cons y ys ih =>
    by_cases later : ys.any p = true
    · obtain ⟨before, x, after, split, here, last⟩ := ih later
      exact ⟨y :: before, x, after, congrArg (y :: ·) split, here, last⟩
    · refine ⟨[], y, ys, rfl, ?_, fun g member => ?_⟩
      · simpa [later] using any
      · simpa using fun hg => later (List.any_eq_true.mpr ⟨g, member, hg⟩)

theorem place_room {l : Link} {f : OutFrame} (room : l.queue.length < 32) :
    l.place f = { l with queue := l.queue ++ [f], reportsLost := l.reportsLost && !f.isEch } := if_pos room

theorem place_full_other {l : Link} {f : OutFrame} (full : ¬ l.queue.length < 32) (other : f.isDet = false) :
    l.place f = if l.queue.any OutFrame.isDet then { l with queue := l.queue.eraseP OutFrame.isDet ++ [f], reportsLost := true }
      else { l with reportsLost := true } := by
  refine (if_neg full).trans ?_
  cases f with
  | det => cases other
  | _ => rfl

theorem place_full_det {l : Link} {d : Det} (full : ¬ l.queue.length < 32) :
    l.place (.det d) = if l.queue.any (OutFrame.isDetOf d.channel) then { l with queue := replaceLast (OutFrame.isDetOf d.channel) (.det d) l.queue }
      else { l with reportsLost := true } := if_neg full

theorem isDet_of_isDetOf {g : OutFrame} {c : Nat} (h : g.isDetOf c = true) : g.isDet = true := by
  cases g with
  | det => rfl
  | _ => cases h

/-- The frames of other kinds than a detector report keep their order, and none is removed (R185). -/
theorem place_others (l : Link) (f : OutFrame) : l.queue.filter (fun g => !g.isDet) <+: (l.place f).queue.filter (fun g => !g.isDet) := by
  have erased : ∀ queue : List OutFrame, (queue.eraseP OutFrame.isDet).filter (fun g => !g.isDet) = queue.filter (fun g => !g.isDet) := fun queue => by
    induction queue with
    | nil => rfl
    | cons g rest ih =>
      by_cases det : g.isDet = true
      · simp [List.eraseP_cons_of_pos, det]
      · simp [List.eraseP_cons_of_neg, det, ih]
  by_cases room : l.queue.length < 32
  · simp [place_room room]
  · cases kind : f.isDet with
    | false =>
      rw [place_full_other room kind]
      split
      · simp only [List.filter_append, erased]
        exact List.prefix_append _ _
      · exact List.prefix_rfl
    | true =>
      cases f with
      | det d =>
        rw [place_full_det room]
        split
        · next any =>
          obtain ⟨before, x, after, split, here, last⟩ := exists_last any
          have report : (OutFrame.det d).isDet = true := rfl
          simp only [split, replaceLast_eq (.det d) before here last, List.filter_append, List.filter_cons, isDet_of_isDetOf here, report]
          exact List.prefix_rfl
        · exact List.prefix_rfl
      | _ => cases kind

theorem place_assembler (l : Link) (f : OutFrame) : (l.place f).assembler = l.assembler := by
  unfold Link.place
  repeat' split
  all_goals rfl

/-! #### Characters and frames -/

/-- The frame that the characters of a frame are, whatever its payload of up to 200 bytes (R178, R179). -/
theorem splitFrame_frameBytes (address kind : Byte) {payload : List Byte} (fits : payload.length ≤ 200) :
    splitFrame (frameBytes address kind payload) = .ok (address, kind, payload) := by
  have count : (byteOf payload.length).toNat = payload.length := by
    simp only [byteOf, BitVec.toNat_ofNat]
    omega
  have chars : frameBytes address kind payload
      = address :: kind :: byteOf payload.length
          :: (payload ++ halfBytes (crc16 ([address, kind, byteOf payload.length] ++ payload))) := rfl
  have taken : ∀ rest : List Byte, (payload ++ rest).take payload.length = payload := fun rest => List.take_left' rfl
  have checked : ∀ crc : Half, halfAt (payload ++ halfBytes crc) payload.length = crc := fun crc => by
    simp [halfAt, byteAt, halfBytes]
  have two : ∀ x : Half, (halfBytes x).length = 2 := fun _ => rfl
  rw [chars]
  simp only [splitFrame, count, List.length_append, two, taken, checked, Nat.not_lt.mpr fits, if_false, Nat.lt_irrefl, if_true]

theorem controllerFrame_frameBytes {kind : Byte} {payload : List Byte} {c : Instr} (fits : payload.length ≤ 200)
    (known : controllerKind kind = true) (command : commandOf kind payload = some c) : controllerFrame (frameBytes 0 kind payload) = c := by
  rw [controllerFrame, splitFrame_frameBytes 0 kind fits]
  simp [known, command]

theorem targets_spelt (targets : BitVec 48) :
    targets.extractLsb' 32 16 ++ (targets.extractLsb' 16 16 ++ targets.extractLsb' 0 16) = targets :=
  BitVec.eq_of_getLsbD_eq fun i hi => by simp only [BitVec.getLsbD_append, BitVec.getLsbD_extractLsb']; grind

/-- The frame by which the controller sends a command fits, is of a known kind, and is that command (R180; 11, section 11.2). -/
theorem commandOf_controllerPayload {c : Instr} {kind : Byte} {payload : List Byte} (formed : wellFormed c = true)
    (sent : controllerPayload c = some (kind, payload)) :
    payload.length ≤ 200 ∧ controllerKind kind = true ∧ commandOf kind payload = some c := by
  cases c with
  | img chain next inhibit targets =>
    cases sent
    refine ⟨by simp [halfBytes], rfl, ?_⟩
    have read : ∀ x y z v w : Half, commandOf 0x10 (halfBytes x ++ halfBytes y ++ [inhibit] ++ halfBytes z ++ halfBytes v ++ halfBytes w)
        = some (.img x y inhibit (z ++ (v ++ w))) := fun x y z v w => by
      simp [commandOf, halfBytes, halfAt, byteAt]
    rw [read, targets_spelt]
  | calCall plan => cases sent; exact ⟨by simp, rfl, rfl⟩
  | calCancel plan request =>
    cases sent
    refine ⟨by simp, rfl, ?_⟩
    have other : ¬request = 0#8 := by simpa [wellFormed] using formed
    simp [commandOf, byteAt, other]
  | modRun cabinet generation startChain =>
    cases sent
    exact ⟨by simp [halfBytes], rfl, by simp [commandOf, halfBytes, halfAt, byteAt]⟩
  | modFlash request =>
    cases sent
    refine ⟨by simp, rfl, ?_⟩
    have other : ¬request = 0#8 := by simpa [wellFormed] using formed
    simp [commandOf, byteAt, other]
  | twr table index content =>
    cases sent
    have short : content.length ≤ 198 := by simpa [wellFormed] using formed
    exact ⟨by simp only [List.length_append, List.length_cons, List.length_nil]; omega, rfl, by simp [commandOf, byteAt]⟩
  | trd table index copy => cases sent; exact ⟨by simp, rfl, rfl⟩
  | tcm => cases sent; exact ⟨by simp, rfl, rfl⟩
  | tds => cases sent; exact ⟨by simp, rfl, rfl⟩
  | sta part first =>
    cases sent
    exact ⟨by simp [halfBytes], rfl, by simp [commandOf, halfBytes, halfAt, byteAt]⟩
  | fcl => cases sent; exact ⟨by simp, rfl, rfl⟩
  | fwd tag station inner payload =>
    cases sent
    have short : payload.length ≤ 197 := by simpa [wellFormed] using formed
    exact ⟨by simp only [List.length_append, List.length_cons, List.length_nil]; omega, rfl, by simp [commandOf, byteAt]⟩
  | _ => cases sent

end Sys2Proof.Machine

namespace Sys2Proof.Proofs

open Sys2Proof Sys2Proof.Machine Sys2Proof.Safety

/-- Settles O45. -/
theorem queuePlacement : Obligations.QueuePlacement := by
  intro l f
  refine ⟨fun room => ?_, fun full other none => ?_, fun full other before d after split first => ?_,
    fun full d kind => ⟨fun before e after split channel last => ?_, fun none => ?_⟩, place_assembler l f, place_sending l f, place_others l f,
    fun sending => ?_, fun idle empty => ?_, fun g rest idle queue => ?_⟩
  · rw [place_room room]
    exact ⟨rfl, rfl⟩
  · have any : l.queue.any OutFrame.isDet = false := List.any_eq_false.mpr fun g member => by simp [none g member]
    rw [place_full_other (by omega) other, if_neg (by simp [any])]
    exact ⟨rfl, rfl⟩
  · have any : l.queue.any OutFrame.isDet = true := by simp [split, OutFrame.isDet]
    have erased : l.queue.eraseP OutFrame.isDet = before ++ after := by
      rw [split, List.eraseP_append_right _ (by simpa using first), List.eraseP_cons_of_pos rfl]
    rw [place_full_other (by omega) other, if_pos any, erased]
    exact ⟨rfl, rfl⟩
  · subst kind
    have here : OutFrame.isDetOf d.channel (.det e) = true := by simp [OutFrame.isDetOf, channel]
    have any : l.queue.any (OutFrame.isDetOf d.channel) = true := by simp [split, here]
    rw [place_full_det (by omega), if_pos any]
    exact ⟨by simp only [split, replaceLast_eq (.det d) before here last], rfl⟩
  · subst kind
    have any : l.queue.any (OutFrame.isDetOf d.channel) = false := List.any_eq_false.mpr fun g member => by simp [none g member]
    rw [place_full_det (by omega), if_neg (by simp [any])]
    exact ⟨rfl, rfl⟩
  · obtain ⟨x, busy⟩ := Option.isSome_iff_exists.mp sending
    unfold Link.accept Link.start
    simp [busy]
  · have room : l.queue.length < 32 := by simp [empty]
    simp [Link.accept, place_room room, Link.start, idle, empty]
  · simp [Link.start, idle, queue]

/-- Settles O46. -/
theorem controllerFramesReadBack : Obligations.ControllerFramesReadBack := by
  intro c kind payload formed sent
  obtain ⟨fits, known, command⟩ := commandOf_controllerPayload formed sent
  exact controllerFrame_frameBytes fits known command

end Sys2Proof.Proofs

/-! ### The fault list (R156 to R159), and the store's events at rest (R60, R61, R64, R175) -/

namespace Sys2Proof.Machine

open Sys2Proof.Safety

/-! #### One report on the list -/

/-- In a list of distinct kinds and subjects the entry of a kind and subject is the one found (R156). -/
theorem find_entry {f : FaultList} (well : f.Well) {kind : FaultKind} {subject : Option Nat} {e : Entry} (member : e ∈ f.entries)
    (is : e.is kind subject = true) : f.entries.find? (Entry.is kind subject) = some e := by
  obtain ⟨-, distinct, -⟩ := well
  generalize f.entries = l at member distinct
  induction l with
  | nil => cases member
  | cons x xs ih =>
    obtain ⟨others, rest⟩ := List.pairwise_cons.mp distinct
    rcases List.mem_cons.mp member with rfl | later
    · rw [List.find?_cons_of_pos is]
    · have apart : ¬ x.is kind subject = true := fun here => by
        obtain ⟨k, j⟩ := entry_is_iff.mp here
        obtain ⟨k', j'⟩ := entry_is_iff.mp is
        exact others e later ⟨k.trans k'.symm, j.trans j'.symm⟩
      rw [List.find?_cons_of_neg apart]
      exact ih later rest

theorem find_entry_none {l : List Entry} {kind : FaultKind} {subject : Option Nat} :
    l.find? (Entry.is kind subject) = none ↔ ∀ e ∈ l, e.is kind subject = false := by
  simp [List.find?_eq_none]

/-- The entries after a report against an entry (R157). -/
def againAll (r : Raise) (now : Time) (l : List Entry) : List Entry := l.map (fun o => if o.is r.kind r.subject then o.again r now else o)

theorem recordRaise_again {r : Raise} {s : State} {e : Entry} (found : s.faults.entries.find? (Entry.is r.kind r.subject) = some e) :
    recordRaise r s
      = (if r.condition && e.active then id else entryAlarm (e.again r s.clock.now))
          { s with
            faults.entries := againAll r s.clock.now s.faults.entries
            faults.changeNumber := s.faults.changeNumber + 1 } := by
  simp only [recordRaise, found]
  split <;> rfl

theorem recordRaise_appended {r : Raise} {s : State} {entries : List Entry} (fresh : s.faults.entries.find? (Entry.is r.kind r.subject) = none)
    (made : s.faults.append (r.entry s.clock.now) = some entries) :
    recordRaise r s
      = entryAlarm (r.entry s.clock.now) { s with faults.entries := entries, faults.changeNumber := s.faults.changeNumber + 1 } := by
  simp only [recordRaise, fresh, made]

theorem recordRaise_unlisted {r : Raise} {s : State} (fresh : s.faults.entries.find? (Entry.is r.kind r.subject) = none)
    (full : s.faults.append (r.entry s.clock.now) = none) :
    recordRaise r s
      = alarm (.fault r.kind r.subject r.condition (Config.unlistedCount (s.faults.alarmNumber + 1)).toNat r.action r.latched false) s := by
  simp only [recordRaise, fresh, full]

theorem append_room {f : FaultList} (e : Entry) (room : f.entries.length < 32) : f.append e = some (f.entries ++ [e]) := if_pos room

@[simp] theorem alarm_entries (body : AlarmBody) (s : State) : (alarm body s).faults.entries = s.faults.entries := rfl

@[simp] theorem alarm_changeNumber (body : AlarmBody) (s : State) : (alarm body s).faults.changeNumber = s.faults.changeNumber := rfl

/-- The entries after a report where there is room (R157, R158). -/
theorem recordRaise_entries {r : Raise} {s : State} (room : s.faults.entries.length < 32) :
    (recordRaise r s).faults.entries
      = if (s.faults.entries.find? (Entry.is r.kind r.subject)).isSome then againAll r s.clock.now s.faults.entries
        else s.faults.entries ++ [r.entry s.clock.now] := by
  cases found : s.faults.entries.find? (Entry.is r.kind r.subject) with
  | some e =>
    rw [recordRaise_again found]
    split <;> rfl
  | none =>
    rw [recordRaise_appended found (append_room _ room)]
    rfl

theorem againAll_length (r : Raise) (now : Time) (l : List Entry) : (againAll r now l).length = l.length := by simp [againAll]

theorem recordRaise_length {r : Raise} {s : State} (room : s.faults.entries.length < 32) :
    (recordRaise r s).faults.entries.length ≤ s.faults.entries.length + 1 := by
  rw [recordRaise_entries room]
  split
  · rw [againAll_length]
    exact Nat.le_succ _
  · simp

/-- A report where there is room leaves every entry of another kind or subject. -/
theorem recordRaise_other {r : Raise} {s : State} (room : s.faults.entries.length < 32) {o : Entry} (member : o ∈ s.faults.entries)
    (other : o.is r.kind r.subject = false) : o ∈ (recordRaise r s).faults.entries := by
  rw [recordRaise_entries room]
  split
  · exact List.mem_map.mpr ⟨o, member, by simp [other]⟩
  · exact List.mem_append_left _ member

/-- A report where there is room stands in the list with its time, its action and its state. -/
theorem recordRaise_lists {r : Raise} {s : State} (room : s.faults.entries.length < 32) :
    ∃ e ∈ (recordRaise r s).faults.entries, e.kind = r.kind ∧ e.subject = r.subject ∧ e.last = s.clock.now ∧ e.action = r.action
      ∧ (r.latched = true → e.latched = true) ∧ (r.condition = true → e.active = true)
      ∧ (notActive s r.kind r.subject → e.active = r.condition) := by
  rw [recordRaise_entries room]
  cases found : s.faults.entries.find? (Entry.is r.kind r.subject) with
  | some e =>
    have is := List.find?_some found
    have member := List.mem_of_find?_eq_some found
    obtain ⟨kind, subject⟩ := entry_is_iff.mp is
    refine ⟨e.again r s.clock.now, List.mem_map.mpr ⟨e, member, by simp [is]⟩, kind, subject, rfl, rfl, fun latched => ?_, fun condition => ?_,
      fun quiet => ?_⟩
    · simp [Entry.again, latched]
    · simp [Entry.again, condition]
    · simp [Entry.again, quiet e member kind subject]
  | none => exact ⟨r.entry s.clock.now, List.mem_append_right _ (List.mem_singleton_self _), rfl, rfl, rfl, rfl, id, id, fun _ => rfl⟩

/-- A report makes no entry of another kind or subject ACTIVE. -/
theorem recordRaise_notActive {r : Raise} {s : State} {kind : FaultKind} {subject : Option Nat}
    (other : r.kind ≠ kind ∨ r.subject ≠ subject) (quiet : notActive s kind subject) : notActive (recordRaise r s) kind subject := by
  have appended : ∀ l : List Entry, (∀ o ∈ l, o ∈ s.faults.entries) → ∀ e ∈ l ++ [r.entry s.clock.now], e.kind = kind → e.subject = subject →
      e.active = false := fun l old e member k j => by
    rcases List.mem_append.mp member with here | new
    · exact quiet e (old e here) k j
    · obtain rfl := List.mem_singleton.mp new
      exact absurd ⟨k, j⟩ (not_and_or.mpr other)
  cases found : s.faults.entries.find? (Entry.is r.kind r.subject) with
  | some x =>
    have entries : (recordRaise r s).faults.entries = againAll r s.clock.now s.faults.entries := by
      rw [recordRaise_again found]
      split <;> rfl
    intro e member k j
    rw [entries] at member
    obtain ⟨o, old, rfl⟩ := List.mem_map.mp member
    split at k
    · next is =>
      rw [if_pos is] at j
      obtain ⟨kind', subject'⟩ := entry_is_iff.mp is
      exact absurd ⟨kind'.symm.trans k, subject'.symm.trans j⟩ (not_and_or.mpr other)
    · next is =>
      rw [if_neg is] at j ⊢
      exact quiet o old k j
  | none =>
    cases made : s.faults.append (r.entry s.clock.now) with
    | none =>
      rw [recordRaise_unlisted found made]
      exact quiet
    | some entries =>
      have same : (recordRaise r s).faults.entries = entries := by rw [recordRaise_appended found made]; rfl
      intro e member
      rw [same] at member
      unfold FaultList.append at made
      split at made
      · cases made
        exact appended _ (fun _ h => h) e member
      · split at made
        · cases made
          exact appended _ (fun _ h => List.mem_of_mem_eraseP h) e member
        · cases made

/-- The entries after the end of a condition (R157). -/
theorem reportEnd_entries (kind : FaultKind) (subject : Option Nat) {s : State} (well : s.faults.Well) :
    (reportEnd kind subject s).faults.entries
      = s.faults.entries.map (fun o => if o.is kind subject then { o with active := false } else o) := by
  have untouched : (∀ e ∈ s.faults.entries, e.is kind subject = true → e.active = false) →
      s.faults.entries.map (fun o => if o.is kind subject then { o with active := false } else o) = s.faults.entries := fun quiet => by
    refine (List.map_congr_left fun e member => ?_).trans (List.map_id _)
    split
    · next is =>
      obtain ⟨kind, subject, first, last, count, active, latched, action⟩ := e
      cases quiet _ member is
      rfl
    · rfl
  unfold reportEnd
  split
  · next e found =>
    split
    · rfl
    · next ended =>
      refine (untouched fun o member is => ?_).symm
      cases (find_entry well member is).symm.trans found
      simpa using ended
  · next fresh => exact (untouched fun e member is => absurd is (by simp [find_entry_none.mp fresh e member])).symm

theorem reportEnd_length (kind : FaultKind) (subject : Option Nat) {s : State} (well : s.faults.Well) :
    (reportEnd kind subject s).faults.entries.length = s.faults.entries.length := by rw [reportEnd_entries kind subject well, List.length_map]

theorem reportEnd_notActive (kind : FaultKind) (subject : Option Nat) {s : State} (well : s.faults.Well) :
    notActive (reportEnd kind subject s) kind subject := by
  intro e member k j
  rw [reportEnd_entries kind subject well] at member
  obtain ⟨o, old, rfl⟩ := List.mem_map.mp member
  split at k
  · next is => simp [is]
  · next is =>
    rw [if_neg is] at j
    exact absurd (entry_is_iff.mpr ⟨k, j⟩) is

theorem reportEnd_other (kind : FaultKind) (subject : Option Nat) {s : State} (well : s.faults.Well) {o : Entry} (member : o ∈ s.faults.entries)
    (other : o.is kind subject = false) : o ∈ (reportEnd kind subject s).faults.entries := by
  rw [reportEnd_entries kind subject well]
  exact List.mem_map.mpr ⟨o, member, by simp [other]⟩

theorem note_event (r : Raise) (s : State) : (note r s).event = { s.event with worst := s.event.worst.max r.action } := by simp [note]

theorem note_faults (r : Raise) (s : State) : (note r s).faults = (recordRaise r { s with event.worst := s.event.worst.max r.action }).faults := rfl

theorem note_lists {r : Raise} {s : State} (room : s.faults.entries.length < 32) :
    ∃ e ∈ (note r s).faults.entries, e.kind = r.kind ∧ e.subject = r.subject ∧ e.last = s.clock.now ∧ e.action = r.action
      ∧ (r.latched = true → e.latched = true) ∧ (r.condition = true → e.active = true)
      ∧ (notActive s r.kind r.subject → e.active = r.condition) :=
  recordRaise_lists (s := { s with event.worst := s.event.worst.max r.action }) room

end Sys2Proof.Machine

/-! ### The store's events at rest (R60, R61, R64, R175) -/

namespace Sys2Proof.Machine

open Sys2Proof.Safety

theorem aspectLaw_congr {s t : State} (engine : t.engine = s.engine) (permit : t.control.mode.permit = s.control.mode.permit)
    (active : t.store.active = s.store.active) : aspectLaw t = aspectLaw s := by
  have tables : t.tables = s.tables := tables_congr active
  unfold aspectLaw State.shown State.group
  rw [engine, permit, tables]

/-- An event at rest whose own effect leaves the groups and the mode's kind as they are, and may have requested actions. -/
theorem rest_effect {effect answer : State → State} {s : State} (only : onlyLink answer) (rest : resting s = true)
    (event : ∃ w, (effect (openEvent s)).event = { before := s.shownImage, worst := w }) (engine : (effect (openEvent s)).engine = s.engine)
    (flash : (effect (openEvent s)).control.mode.permit = false) (active : (effect (openEvent s)).store.active = s.store.active) :
    restFrame (effect (openEvent s)) (asEvent effect answer s)
      ∧ (asEvent effect answer s).link = (answer (conclude (effect (openEvent s)))).link
      ∧ (conclude (effect (openEvent s))).link = (effect (openEvent s)).link := by
  obtain ⟨-, was, law⟩ := resting_iff.mp rest
  obtain ⟨w, event⟩ := event
  refine asEvent_rest only flash ?_ (by rw [event]) (by rw [event]) ?_ (by rw [event])
  · rw [aspectLaw_congr engine (flash.trans was.symm) active]
    exact law
  · rw [event]
    simp only [State.shownImage, engine]

theorem rest_effect_unanswered {effect : State → State} {s : State} (rest : resting s = true)
    (event : ∃ w, (effect (openEvent s)).event = { before := s.shownImage, worst := w }) (engine : (effect (openEvent s)).engine = s.engine)
    (flash : (effect (openEvent s)).control.mode.permit = false) (active : (effect (openEvent s)).store.active = s.store.active) :
    restFrame (effect (openEvent s)) (asEvent effect id s) ∧ (asEvent effect id s).link = (effect (openEvent s)).link := by
  obtain ⟨frame, link, quiet⟩ := rest_effect id_onlyLink rest event engine flash active
  rw [id] at link
  exact ⟨frame, link.trans quiet⟩

theorem rest_effect_sent {effect : State → State} {s : State} (f : OutFrame) (rest : resting s = true)
    (event : ∃ w, (effect (openEvent s)).event = { before := s.shownImage, worst := w }) (engine : (effect (openEvent s)).engine = s.engine)
    (flash : (effect (openEvent s)).control.mode.permit = false) (active : (effect (openEvent s)).store.active = s.store.active) :
    restFrame (effect (openEvent s)) (asEvent effect (send f) s) ∧ (asEvent effect (send f) s).link = (effect (openEvent s)).link.accept f := by
  obtain ⟨frame, link, quiet⟩ := rest_effect (send_onlyLink f) rest event engine flash active
  exact ⟨frame, by rw [link, send_link, quiet]⟩

theorem reportedOnly_noteOccurrence (kind : FaultKind) (subject : Option Nat) (s : State) : reportedOnly s (noteOccurrence kind subject s) :=
  reportedOnly_note _ s

theorem noteOccurrence_event (kind : FaultKind) (subject : Option Nat) (s : State) :
    (noteOccurrence kind subject s).event = { s.event with worst := s.event.worst.max .report } := note_event _ s

theorem noteOccurrence_lists {kind : FaultKind} {subject : Option Nat} {s : State} (room : s.faults.entries.length < 32) :
    ∃ e ∈ (noteOccurrence kind subject s).faults.entries, e.kind = kind ∧ e.subject = subject ∧ e.last = s.clock.now ∧ e.action = .report
      ∧ (notActive s kind subject → e.active = false) := by
  obtain ⟨e, member, is, about, last, action, -, -, active⟩ :=
    note_lists (r := { kind := kind, subject := subject, action := .report, condition := false }) room
  exact ⟨e, member, is, about, last, action, active⟩

/-- The report of a store operation that failed, at rest: STORE_WRITE is listed, and of everything else the event leaves what its effect made. -/
theorem rest_storeWrite {effect : State → State} {s v : State} (rest : resting s = true)
    (own : effect (openEvent s) = noteOccurrence .storeWrite none (openEvent v)) (engine : v.engine = s.engine) (mode : v.control.mode = s.control.mode)
    (active : v.store.active = s.store.active) (link : v.link = s.link) (now : v.clock.now = s.clock.now) (faults : v.faults = s.faults) :
    ∃ t, eventOutcome effect s = .next t ∧ restFrame { v with faults := t.faults } t ∧ reportedOnly s t
      ∧ (faultLaw s = true → s.faults.entries.length < 32 →
        ∃ e ∈ t.faults.entries, e.kind = .storeWrite ∧ e.subject = none ∧ e.last = s.clock.now ∧ e.action = .report) := by
  obtain ⟨up, flash, -⟩ := resting_iff.mp rest
  have image : v.shownImage = s.shownImage := by simp only [State.shownImage, engine]
  have event : (noteOccurrence .storeWrite none (openEvent v)).event = { before := s.shownImage, worst := Action.max .none .report } := by
    rw [noteOccurrence_event, ← image]
    rfl
  obtain ⟨frame, sent⟩ := rest_effect_unanswered (effect := effect) rest (by rw [own]; exact ⟨_, event⟩) (by rw [own]; simp [engine])
    (by rw [own]; simp [mode, flash]) (by rw [own]; simp [active])
  rw [own] at frame sent
  have ran := eventOutcome_up (effect := effect) up
  generalize asEvent effect id s = t at frame sent ran
  refine ⟨t, ran, ?_, ?_, fun _ room => ?_⟩
  · obtain ⟨pending, clock, event, exchange, preempt, control, prover, detectors, listed, store, branches, number, shown⟩ := frame
    simp only [noteOccurrence_frame, openEvent_frame] at pending clock exchange preempt control prover detectors store branches number
    refine ⟨pending, clock, event, exchange, preempt, control, prover, detectors, rfl, store, branches, number, fun g => ?_⟩
    have same : (noteOccurrence .storeWrite none (openEvent v)).group g = v.group g := by simp [State.group]
    have shown := shown g
    rw [same] at shown
    exact shown
  · have noted := reportedOnly_noteOccurrence .storeWrite none (openEvent v)
    obtain ⟨made, reports, noted⟩ := noted
    refine ⟨made, reports, ?_⟩
    rw [sent, noted, ← link]
    rfl
  · obtain ⟨-, -, -, -, -, -, -, -, listed, -⟩ := frame
    obtain ⟨e, member, kind, subject, last, action, -⟩ := noteOccurrence_lists (kind := .storeWrite) (subject := none) (s := openEvent v)
      (show v.faults.entries.length < 32 by rw [faults]; exact room)
    exact ⟨e, by rw [listed]; exact member, kind, subject, last.trans now, action⟩

/-- What a torn commit write leaves (R175). -/
theorem tearCommit_eq (s : State) : ∃ nv, tearCommit s = { s with store.nv := nv, clock.drawn := s.clock.drawn + 1 } ∧ nv.complete = false
    ∧ nv.record = s.store.nv.record :=
  ⟨s.store.nv.torn s.clock.drawn, by simp [tearCommit], by simp [Nonvolatile.torn], by simp [Nonvolatile.torn]⟩

/-- What a spoilt erase leaves (R61). -/
theorem spoilErase_eq (s : State) : ∃ record, spoilErase s = { s with store.nv.record := record, clock.drawn := s.clock.drawn + 1 }
    ∧ record.isSome = true := by
  refine ⟨_, rfl, ?_⟩
  unfold unerased
  split <;> rfl

theorem exec_commitWriteFailure {s : State} (commit : s.store.op = .commit) : exec .commitWriteFailure s = eventOutcome (fun s =>
    noteOccurrence .storeWrite none
      { tearCommit s with store.op := .idle, store.progress := none, store.lastCommit := .failed, store.valid := false }) s := by
  have here : (openEvent s).store.op = .commit := commit
  show Host.Outcome.next _ = Host.Outcome.next _
  simp only [whileUp, asEvent, here, if_true]

theorem exec_recordWriteCompletion {s : State} {kind : FaultKind} {subject : Option Nat} (writing : s.control.recordOp = .writing kind subject) :
    exec .recordWriteCompletion s = eventOutcome (fun s => { endRecordOp s with store.nv.record := some (kind, subject) }) s := by
  have here : (openEvent s).control.recordOp = .writing kind subject := writing
  show Host.Outcome.next _ = Host.Outcome.next _
  simp only [whileUp, asEvent, here]

theorem exec_recordWriteFailure {s : State} {kind : FaultKind} {subject : Option Nat} (writing : s.control.recordOp = .writing kind subject) :
    exec .recordWriteFailure s = eventOutcome (fun s => noteOccurrence .storeWrite none (endRecordOp s)) s := by
  have here : (openEvent s).control.recordOp = .writing kind subject := writing
  show Host.Outcome.next _ = Host.Outcome.next _
  simp only [whileUp, asEvent, here]

theorem exec_recordEraseCompletion {s : State} (erasing : s.control.recordOp = .erasing) :
    exec .recordEraseCompletion s = eventOutcome (fun s => { endRecordOp s with store.nv.record := none }) s := by
  have here : (openEvent s).control.recordOp = .erasing := erasing
  show Host.Outcome.next _ = Host.Outcome.next _
  simp only [whileUp, asEvent, here, if_true]

theorem exec_recordEraseFailure {s : State} (erasing : s.control.recordOp = .erasing) :
    exec .recordEraseFailure s = eventOutcome (fun s => noteOccurrence .storeWrite none (endRecordOp (spoilErase s))) s := by
  have here : (openEvent s).control.recordOp = .erasing := erasing
  show Host.Outcome.next _ = Host.Outcome.next _
  simp only [whileUp, asEvent, here, if_true]

/-- An event at rest without an answer, from its effect on the open state. -/
theorem rest_eventOutcome {effect : State → State} {s v : State} (rest : resting s = true) (own : effect (openEvent s) = openEvent v)
    (flash : v.control.mode.permit = false) (law : aspectLaw v = true) :
    ∃ t, eventOutcome effect s = .next t ∧ restFrame v t ∧ t.link = v.link :=
  ⟨_, eventOutcome_up (resting_iff.mp rest).1, rest_unanswered (worst := .none) (own.trans rfl) flash law⟩

end Sys2Proof.Machine

namespace Sys2Proof.Proofs

open Sys2Proof Sys2Proof.Machine Sys2Proof.Safety

/-- Settles O36. -/
theorem commitWriteFailureKeepsActive : Obligations.CommitWriteFailureKeepsActive := by
  intro s rest commit
  obtain ⟨nv, torn, incomplete, record⟩ := tearCommit_eq (openEvent s)
  obtain ⟨t, ran, frame, -, listed⟩ := rest_storeWrite (s := s) (effect := fun s =>
      noteOccurrence .storeWrite none
        { tearCommit s with store.op := .idle, store.progress := none, store.lastCommit := .failed, store.valid := false })
    (v := { s with
      clock.drawn := s.clock.drawn + 1, store.nv := nv, store.op := .idle, store.progress := none, store.lastCommit := .failed, store.valid := false })
    rest (by dsimp only; rw [torn]; rfl) rfl rfl rfl rfl rfl rfl
  obtain ⟨pending, clock, event, exchange, preempt, control, prover, detectors, -, store, branches, number, shown⟩ := frame
  refine ⟨t, (exec_commitWriteFailure commit).trans ran, by rw [clock],
    ⟨pending, rfl, event, exchange, preempt, control, prover, detectors, rfl, rfl, branches, number, shown⟩, ?_, ?_, ?_, listed⟩
  · rw [store]
  · rw [store]; exact incomplete
  · rw [store]; exact record

/-- Settles O39. -/
theorem recordOperationsEnd : Obligations.RecordOperationsEnd := by
  intro s rest law
  obtain ⟨-, flash, aspects⟩ := resting_iff.mp rest
  obtain ⟨writingIn, erasingIn, present, -⟩ := recordLaw_iff.mp law
  refine ⟨fun kind subject writing => ⟨?_, ?_⟩, fun erasing => ⟨?_, ?_⟩⟩
  · rw [exec_recordWriteCompletion writing]
    exact rest_eventOutcome rest rfl flash aspects
  · rw [exec_recordWriteFailure writing]
    obtain ⟨t, ran, frame, reports, listed⟩ := rest_storeWrite (s := s) (effect := fun s => noteOccurrence .storeWrite none (endRecordOp s))
      (v := { s with control.recordOp := .none, store.op := .idle }) rest rfl rfl rfl rfl rfl rfl rfl
    have store := frame.2.2.2.2.2.2.2.2.2.1
    refine ⟨t, ran, frame, ?_, reports, listed⟩
    rw [store]
    exact present (writingIn kind subject writing)
  · rw [exec_recordEraseCompletion erasing]
    exact rest_eventOutcome rest rfl flash aspects
  · rw [exec_recordEraseFailure erasing]
    obtain ⟨record, spoilt, still⟩ := spoilErase_eq (openEvent s)
    obtain ⟨t, ran, frame, reports, listed⟩ := rest_storeWrite (s := s)
      (effect := fun s => noteOccurrence .storeWrite none (endRecordOp (spoilErase s)))
      (v := { s with clock.drawn := s.clock.drawn + 1, store.nv.record := record, control.recordOp := .none, store.op := .idle })
      rest (by dsimp only; rw [spoilt]; rfl) rfl rfl rfl rfl rfl rfl
    obtain ⟨pending, clock, event, exchange, preempt, control, prover, detectors, -, store, branches, number, shown⟩ := frame
    refine ⟨t, ran, ?_, by rw [clock], reports,
      ⟨pending, rfl, event, exchange, preempt, control, prover, detectors, rfl, ?_, branches, number, shown⟩, listed⟩
    · rw [store]; exact still
    · rw [store]

end Sys2Proof.Proofs

/-! ### The passing of a millisecond and the expiries that are then due (logs 1 to 3) -/

namespace Sys2Proof.Machine

open Sys2Proof.Safety

/-! #### What is due joins the queue -/

theorem due_startUp {s : State} (mode : s.control.mode = .start) (timer : s.control.startTimer = some (.running 0)) :
    .startUpStopTimerExpiry ∈ dueCommands s := by
  simp [dueCommands, mode, timer]

theorem due_supervision {s : State} (timer : s.exchange.supervision = some (.running 0)) : .supervisionTimerExpiry ∈ dueCommands s := by
  simp [dueCommands, timer]

theorem due_window {s : State} (mode : s.control.mode = .warning) (window : s.exchange.warning = some 0) : .warningWindowExpiry ∈ dueCommands s := by
  simp [dueCommands, mode, window]

theorem mem_dueGroups {s : State} {due : State → Nat → Bool} {command : Nat → Instr} {g : Nat} (number : g ∈ groupNumbers) (is : due s g = true) :
    command g ∈ dueGroups s due command :=
  List.mem_map.mpr ⟨g, List.mem_filter.mpr ⟨number, is⟩, rfl⟩

theorem due_endOfPrepare {s : State} {g : Nat} (number : g ∈ groupNumbers) (is : s.prepareOver g = true) : .endOfPrepare g ∈ dueCommands s := by
  have := mem_dueGroups (command := .endOfPrepare) number is
  simp [dueCommands, this]

theorem due_endOfClear {s : State} {g : Nat} (number : g ∈ groupNumbers) (is : s.clearOver g = true) : .endOfClear g ∈ dueCommands s := by
  have := mem_dueGroups (command := .endOfClear) number is
  simp [dueCommands, this]

theorem due_minimumGo {s : State} {g : Nat} (number : g ∈ groupNumbers) (is : s.minGoOver g = true) : .minimumGoReached g ∈ dueCommands s := by
  have := mem_dueGroups (command := .minimumGoReached) number is
  simp [dueCommands, this]

theorem due_minimumStop {s : State} {g : Nat} (number : g ∈ groupNumbers) (is : s.minStopOver g = true) : .minimumStopReached g ∈ dueCommands s := by
  have := mem_dueGroups (command := .minimumStopReached) number is
  simp [dueCommands, this]

theorem due_deferral {s : State} {g : Nat} (number : g ∈ groupNumbers) (is : s.deferralOver g = true) : .deferralTimerExpiry g ∈ dueCommands s := by
  have := mem_dueGroups (command := .deferralTimerExpiry) number is
  simp [dueCommands, this]

theorem due_delay {s : State} (is : s.delayOver = true) : .planDelayEnd ∈ dueCommands s := by
  simp [dueCommands, is]

theorem due_dwell {s : State} (is : s.dwellOver = true) : .planDwellEnd ∈ dueCommands s := by
  simp [dueCommands, is]

theorem due_duration {s : State} {p : Nat} (first : 1 ≤ p) (last : p ≤ 8) (is : s.durationOver p = true) : .planDurationExpiry p ∈ dueCommands s := by
  have : .planDurationExpiry p ∈ (planNumbers.filter s.durationOver).map Instr.planDurationExpiry :=
    List.mem_map.mpr ⟨p, List.mem_filter.mpr ⟨mem_numbers.mpr ⟨first, last⟩, is⟩, rfl⟩
  simp only [dueCommands, List.mem_append]
  simp only [this, true_or, or_true]

theorem mem_branchIds (br : BranchId) : br ∈ branchIds := by cases br <;> simp [branchIds]

theorem due_pollAnswer {s : State} {br : BranchId} {w : Awaited} (awaited : (s.branch br).awaited = some w) (poll : w.tag = none)
    (over' : reached w.deadline s.clock.now = true) : .pollAnswerTimeout br ∈ dueCommands s := by
  have : .pollAnswerTimeout br ∈ branchIds.flatMap (dueWait s) :=
    List.mem_flatMap.mpr ⟨br, mem_branchIds br, by simp [dueWait, State.waitOver, awaited, poll, over', Option.filter]⟩
  simp only [dueCommands, List.mem_append]
  simp only [this, true_or, or_true]

theorem due_forwardAnswer {s : State} {br : BranchId} {w : Awaited} (awaited : (s.branch br).awaited = some w) (forwarded : w.tag.isSome = true)
    (over' : reached w.deadline s.clock.now = true) : .forwardAnswerTimeout br ∈ dueCommands s := by
  have : .forwardAnswerTimeout br ∈ branchIds.flatMap (dueWait s) :=
    List.mem_flatMap.mpr ⟨br, mem_branchIds br, by simp [dueWait, State.waitOver, awaited, forwarded, over', Option.filter]⟩
  simp only [dueCommands, List.mem_append]
  simp only [this, true_or, or_true]

theorem due_repoll {s : State} {br : BranchId} {l : Liveness} (member : l ∈ (s.branch br).liveness) (is : l.repoll = some 0) :
    .repollTimerExpiry l.station ∈ dueCommands s := by
  have : .repollTimerExpiry l.station ∈ branchIds.flatMap (dueRepolls s) :=
    List.mem_flatMap.mpr ⟨br, mem_branchIds br, List.mem_map.mpr ⟨l, List.mem_filter.mpr ⟨member, by simp [is]⟩, rfl⟩⟩
  simp only [dueCommands, List.mem_append]
  simp only [this, true_or, or_true]

theorem mem_detectorChannels {s : State} {c : Nat} {d : Detector} (has : s.detector c = some d) : c ∈ s.detectorChannels := by
  have number : 1 ≤ c ∧ c ≤ s.detectors.length := by
    unfold State.detector entryD entry? at has
    by_cases zero : c = 0
    · simp [zero] at has
    · refine ⟨Nat.one_le_iff_ne_zero.mpr zero, ?_⟩
      by_contra beyond
      rw [if_neg zero, List.getElem?_eq_none (by omega)] at has
      exact nomatch has
  exact List.mem_filter.mpr ⟨mem_numbers.mpr number, by rw [has]; rfl⟩

theorem due_stuck {s : State} {c : Nat} {d : Detector} {due : Time} (has : s.detector c = some d) (at' : d.stuckAt = some due)
    (over' : reached due s.clock.now = true) : .stuckDeadlineExpiry c ∈ dueCommands s := by
  have : .stuckDeadlineExpiry c ∈ (s.detectorChannels.filter s.stuckOver).map Instr.stuckDeadlineExpiry :=
    List.mem_map.mpr ⟨c, List.mem_filter.mpr ⟨mem_detectorChannels has, by simp [State.stuckOver, has, at', over']⟩, rfl⟩
  simp only [dueCommands, List.mem_append]
  simp only [this, true_or, or_true]

theorem due_idle {s : State} {c : Nat} {d : Detector} {due : Time} (has : s.detector c = some d) (at' : d.idleAt = some due)
    (over' : reached due s.clock.now = true) : .idleDeadlineExpiry c ∈ dueCommands s := by
  have : .idleDeadlineExpiry c ∈ (s.detectorChannels.filter s.idleOver).map Instr.idleDeadlineExpiry :=
    List.mem_map.mpr ⟨c, List.mem_filter.mpr ⟨mem_detectorChannels has, by simp [State.idleOver, has, at', over']⟩, rfl⟩
  simp only [dueCommands, List.mem_append]
  simp only [this, or_true]

/-! #### The counts -/

theorem prepareOver_iff {s : State} {g : Nat} :
    s.prepareOver g = true ↔ s.tables.live g = true ∧ s.shown g = .prepare ∧ (s.tables.group g).prepareUnits ≤ (s.group g).time := by
  simp [State.prepareOver, and_assoc]

theorem clearOver_iff {s : State} {g : Nat} :
    s.clearOver g = true ↔ s.tables.live g = true ∧ s.shown g = .clear ∧ (s.tables.group g).clearUnits ≤ (s.group g).time := by
  simp [State.clearOver, and_assoc]

theorem minGoOver_iff {s : State} {g : Nat} : s.minGoOver g = true
    ↔ s.tables.live g = true ∧ s.shown g = .go ∧ (s.group g).note = .held ∧ (s.tables.group g).minGoUnits ≤ (s.group g).time := by
  simp [State.minGoOver, and_assoc]

theorem minStopOver_iff {s : State} {g : Nat} : s.minStopOver g = true
    ↔ s.tables.live g = true ∧ s.shown g = .stop ∧ (s.group g).note = .held ∧ (s.tables.group g).minStopUnits ≤ (s.group g).time := by
  simp [State.minStopOver, and_assoc]

theorem deferralOver_iff {s : State} {g : Nat} : s.deferralOver g = true ↔ s.tables.live g = true ∧ (s.group g).deferral = some 0 := by
  simp [State.deferralOver]

theorem delayOver_iff {s : State} : s.delayOver = true ↔ ∃ x rest, s.preempt.stack = x :: rest ∧ x.phase = .delay ∧ x.delay = some 0 := by
  unfold State.delayOver
  cases s.preempt.stack <;> simp

theorem dwellOver_iff {s : State} : s.dwellOver = true ↔ ∃ x rest, s.preempt.stack = x :: rest ∧ x.phase = .dwell ∧ x.dwell = some 0 := by
  unfold State.dwellOver
  cases s.preempt.stack <;> simp

theorem durationOver_iff {s : State} {p : Nat} : s.durationOver p = true ↔ ∃ x ∈ s.preempt.stack, x.plan = p ∧ x.duration = some 0 := by
  simp [State.durationOver]

/-- What one move of the 10 ms counts does, count by count. -/
theorem countUnits_counts (s : State) :
    (∀ g, 1 ≤ g → g ≤ s.engine.groups.length →
        ((countUnits s).group g).time = min 65535 ((s.group g).time + 1)
          ∧ ((countUnits s).group g).clearance = min 65535 ((s.group g).clearance + 1)
          ∧ ((countUnits s).group g).deferral = (s.group g).deferral.map (· - 1))
      ∧ (∀ n, s.exchange.supervision = some (.running n) → (countUnits s).exchange.supervision = some (.running (n - 1)))
      ∧ (∀ n, s.exchange.warning = some n → (countUnits s).exchange.warning = some (n - 1))
      ∧ (∀ n, s.control.startTimer = some (.running n) → (countUnits s).control.startTimer = some (.running (n - 1)))
      ∧ (s.control.startTimer = some .expired → (countUnits s).control.startTimer = some .expired)
      ∧ (s.exchange.supervision = some .expired → (countUnits s).exchange.supervision = some .expired)
      ∧ (countUnits s).preempt = { s.preempt with stack := (countUnits s).preempt.stack }
      ∧ (s.preempt.stack = [] → (countUnits s).preempt.stack = [])
      ∧ (∀ x rest, s.preempt.stack = x :: rest → (countUnits s).preempt.stack
          = { x with delay := x.delay.map (· - 1), dwell := x.dwell.map (· - 1), duration := x.duration.map (· - 1) }
            :: rest.map (fun y => { y with duration := y.duration.map (· - 1) }))
      ∧ (countUnits s).branches
        = s.branches.map (fun b => { b with liveness := b.liveness.map (fun l => { l with repoll := l.repoll.map (· - 1) }) }) := by
  refine ⟨fun g first last => ?_, fun n is => ?_, fun n is => ?_, fun n is => ?_, fun is => ?_, fun is => ?_, rfl, fun is => ?_,
    fun x rest is => ?_, rfl⟩
  · rw [countUnits_group first last]
    exact ⟨rfl, rfl, rfl⟩
  all_goals simp only [countUnits, is]
  all_goals rfl

theorem passMillisecond_shown (s : State) (g : Nat) : (passMillisecond s).shown g = s.shown g := by
  unfold passMillisecond
  dsimp only
  split
  · unfold State.shown
    rcases countUnits_shown _ g with count | same
    · rw [count]; rfl
    · rw [same]; rfl
  · rfl

/-- A millisecond moves the clock and nothing else, and at each tenth the 10 ms counts too (log 2). -/
theorem passMillisecond_eq (s : State) : passMillisecond s
    = (if (s.clock.phase + 1) % 10 = 0 then countUnits else id)
        { s with
          clock.now := s.clock.now + 1, clock.phase := (s.clock.phase + 1) % 10, clock.awake := min 100 (s.clock.awake + 1) } := by
  unfold passMillisecond
  dsimp only
  split <;> rfl

theorem passMillisecond_frame (s : State) :
    (passMillisecond s).clock
        = { s.clock with now := s.clock.now + 1, phase := (s.clock.phase + 1) % 10, awake := min 100 (s.clock.awake + 1) }
      ∧ (passMillisecond s).pending = s.pending
      ∧ (passMillisecond s).link = s.link ∧ (passMillisecond s).prover = s.prover ∧ (passMillisecond s).detectors = s.detectors
      ∧ (passMillisecond s).faults = s.faults ∧ (passMillisecond s).store = s.store
      ∧ (passMillisecond s).control = { s.control with startTimer := (passMillisecond s).control.startTimer }
      ∧ (passMillisecond s).exchange.accepted = s.exchange.accepted ∧ (passMillisecond s).exchange.strikes = s.exchange.strikes := by
  rw [passMillisecond_eq]
  split <;> exact ⟨rfl, rfl, rfl, rfl, rfl, rfl, rfl, rfl, rfl, rfl⟩

/-- At a tenth millisecond every 10 ms count has moved by one, at any other none. -/
theorem passMillisecond_counts (s : State) :
    ((s.clock.phase + 1) % 10 ≠ 0 → (passMillisecond s).engine = s.engine ∧ (passMillisecond s).exchange = s.exchange
        ∧ (passMillisecond s).preempt = s.preempt ∧ (passMillisecond s).control = s.control ∧ (passMillisecond s).branches = s.branches)
      ∧ ((s.clock.phase + 1) % 10 = 0 → (passMillisecond s).engine = (countUnits s).engine
        ∧ (passMillisecond s).exchange = (countUnits s).exchange ∧ (passMillisecond s).preempt = (countUnits s).preempt
        ∧ (passMillisecond s).control = (countUnits s).control ∧ (passMillisecond s).branches = (countUnits s).branches) := by
  rw [passMillisecond_eq]
  refine ⟨fun no => ?_, fun yes => ?_⟩
  · rw [if_neg no]
    exact ⟨rfl, rfl, rfl, rfl, rfl⟩
  · rw [if_pos yes]
    exact ⟨rfl, rfl, rfl, rfl, rfl⟩

theorem dueCommands_pending (s : State) (queue : List Instr) : dueCommands { s with pending := queue } = dueCommands s := rfl

/-- An idle step of a working supervisor passes a millisecond and queues what is then due. -/
theorem tick_idle {s : State} (empty : s.pending = []) (up : s.up = true) :
    tick s = { passMillisecond s with pending := dueCommands (passMillisecond s) } := by
  obtain ⟨powered, low⟩ : s.clock.powered = true ∧ s.clock.lowFor = 0 := by simpa [State.up] using up
  have queue : (passMillisecond s).pending = [] := (passMillisecond_frame s).2.1.trans empty
  simp only [tick, whileUp, up, low, queue, ne_eq, not_true_eq_false, decide_false, Bool.and_false, Bool.false_eq_true, if_false, if_true,
    List.nil_append]

/-- The commands of the due expiries stand in the queue after an idle step. -/
theorem due_pending {t : State} (queue : t.pending = dueCommands t) :
    (t.control.mode = .start → t.control.startTimer = some (.running 0) → .startUpStopTimerExpiry ∈ t.pending)
      ∧ (t.exchange.supervision = some (.running 0) → .supervisionTimerExpiry ∈ t.pending)
      ∧ (t.control.mode = .warning → t.exchange.warning = some 0 → .warningWindowExpiry ∈ t.pending)
      ∧ (∀ g ∈ groupNumbers, t.tables.live g = true →
        (t.shown g = .prepare → (t.tables.group g).prepareUnits ≤ (t.group g).time → .endOfPrepare g ∈ t.pending)
          ∧ (t.shown g = .clear → (t.tables.group g).clearUnits ≤ (t.group g).time → .endOfClear g ∈ t.pending)
          ∧ (t.shown g = .go → (t.group g).note = .held → (t.tables.group g).minGoUnits ≤ (t.group g).time → .minimumGoReached g ∈ t.pending)
          ∧ (t.shown g = .stop → (t.group g).note = .held → (t.tables.group g).minStopUnits ≤ (t.group g).time → .minimumStopReached g ∈ t.pending)
          ∧ ((t.group g).deferral = some 0 → .deferralTimerExpiry g ∈ t.pending))
      ∧ (∀ x rest, t.preempt.stack = x :: rest →
        (x.phase = .delay → x.delay = some 0 → .planDelayEnd ∈ t.pending) ∧ (x.phase = .dwell → x.dwell = some 0 → .planDwellEnd ∈ t.pending))
      ∧ (∀ x ∈ t.preempt.stack, 1 ≤ x.plan → x.plan ≤ 8 → x.duration = some 0 → .planDurationExpiry x.plan ∈ t.pending)
      ∧ (∀ (br : BranchId) (w : Awaited), (t.branch br).awaited = some w → reached w.deadline t.clock.now = true →
        (w.tag = none → .pollAnswerTimeout br ∈ t.pending) ∧ (w.tag.isSome = true → .forwardAnswerTimeout br ∈ t.pending))
      ∧ (∀ br, ∀ l ∈ (t.branch br).liveness, l.repoll = some 0 → .repollTimerExpiry l.station ∈ t.pending)
      ∧ (∀ c d due, t.detector c = some d → reached due t.clock.now = true →
        (d.stuckAt = some due → .stuckDeadlineExpiry c ∈ t.pending) ∧ (d.idleAt = some due → .idleDeadlineExpiry c ∈ t.pending)) := by
  rw [queue]
  refine ⟨due_startUp, due_supervision, due_window, fun g number live => ?_, fun x rest stack => ?_,
    fun x member first last out => due_duration first last (durationOver_iff.mpr ⟨x, member, rfl, out⟩), fun br w awaited over' => ?_,
    fun br l member is => due_repoll member is, fun c d due has over' => ?_⟩
  · exact ⟨fun is out => due_endOfPrepare number (prepareOver_iff.mpr ⟨live, is, out⟩),
      fun is out => due_endOfClear number (clearOver_iff.mpr ⟨live, is, out⟩),
      fun is held out => due_minimumGo number (minGoOver_iff.mpr ⟨live, is, held, out⟩),
      fun is held out => due_minimumStop number (minStopOver_iff.mpr ⟨live, is, held, out⟩),
      fun out => due_deferral number (deferralOver_iff.mpr ⟨live, out⟩)⟩
  · exact ⟨fun phase out => due_delay (delayOver_iff.mpr ⟨x, rest, stack, phase, out⟩),
      fun phase out => due_dwell (dwellOver_iff.mpr ⟨x, rest, stack, phase, out⟩)⟩
  · exact ⟨fun poll => due_pollAnswer awaited poll over', fun forwarded => due_forwardAnswer awaited forwarded over'⟩
  · exact ⟨fun at' => due_stuck has at' over', fun at' => due_idle has at' over'⟩

end Sys2Proof.Machine

namespace Sys2Proof.Proofs

open Sys2Proof Sys2Proof.Machine Sys2Proof.Safety

/-- Settles O2: the millisecond is `passMillisecond`, its counts are those of `countUnits`, and what is due is read off `dueCommands`. -/
theorem idleStepPassesOneMillisecond : Obligations.IdleStepPassesOneMillisecond := by
  intro s empty up
  obtain ⟨powered, low⟩ : s.clock.powered = true ∧ s.clock.lowFor = 0 := by simpa [State.up] using up
  have ran : step s = .next (tick s) := by simp only [step, empty]
  have ticked := tick_idle empty up
  have shown := passMillisecond_shown s
  obtain ⟨clock, -, link, prover, detectors, faults, store, control, accepted, strikes⟩ := passMillisecond_frame s
  obtain ⟨off, tenth⟩ := passMillisecond_counts s
  generalize tick s = t at *
  generalize passMillisecond s = v at *
  have queue : t.pending = dueCommands t := by rw [ticked]; exact (dueCommands_pending v _).symm
  have engine : t.engine = v.engine := by rw [ticked]
  have exchange : t.exchange = v.exchange := by rw [ticked]
  have preempt : t.preempt = v.preempt := by rw [ticked]
  have mode : t.control = v.control := by rw [ticked]
  have branches : t.branches = v.branches := by rw [ticked]
  have group : ∀ g, t.group g = v.group g := fun g => by unfold State.group; rw [engine]
  rw [← exchange] at accepted strikes
  rw [← mode] at control
  rw [← engine, ← exchange, ← preempt, ← mode, ← branches] at off tenth
  have counts := countUnits_counts s
  have now : t.clock = v.clock := by rw [ticked]
  rw [← now] at clock
  have items : t.link = s.link ∧ t.prover = s.prover ∧ t.detectors = s.detectors ∧ t.faults = s.faults ∧ t.store = s.store := by
    rw [ticked]
    exact ⟨link, prover, detectors, faults, store⟩
  have seen : ∀ g, t.shown g = s.shown g := fun g => (congrArg Group.shown (group g)).trans (shown g)
  obtain ⟨link, prover, detectors, faults, store⟩ := items
  have pending : t.pending = dueCommands { t with pending := [] } := by rw [dueCommands_pending, queue]
  have due := due_pending queue
  refine ⟨t, ran, ?_, ?_, ?_, ?_, ?_, pending, seen, link, prover, detectors, faults, store, ?_, ?_, ?_, accepted, strikes, off, fun yes => ?_, due⟩
  · rw [clock]
  · rw [clock]
  · rw [clock]
  · rw [clock]; exact low
  · rw [clock]; exact powered
  · rw [control]
  · rw [control]
  · rw [control]
  · obtain ⟨engine, exchange, preempt, control, branches⟩ := tenth yes
    have group : ∀ g, t.group g = (countUnits s).group g := fun g => by unfold State.group; rw [engine]
    simp only [group, exchange, preempt, control, branches]
    exact counts

end Sys2Proof.Proofs

/-! ### Forwarded frames (R120, R121) -/

namespace Sys2Proof.Machine

open Sys2Proof.Safety

/-! #### What the conclusion of an event leaves of a branch -/

/-- What a branch lets see of its waits and of its FIFO when it has marked its slots. -/
def markedAs (b x : Branch) : Prop :=
  x.sending = b.sending ∧ x.awaited = b.awaited ∧ x.fifo = b.fifo

theorem markedAs_markBranch (br other : BranchId) (s : State) : markedAs (s.branch other) ((markBranch br s).branch other) := by
  rcases branch_changeBranch br other _ s with h | h
  · exact (show (markBranch br s).branch other = s.branch other from h) ▸ ⟨rfl, rfl, rfl⟩
  · rw [show (markBranch br s).branch other = _ from h]
    exact ⟨rfl, rfl, rfl⟩

theorem markedAs_markIfDue (br : BranchId) (s : State) : markedAs (s.branch br) ((markIfDue s).branch br) := by
  unfold markIfDue
  split
  · exact eachOf_holds (fun t => markedAs (s.branch br) (t.branch br)) markBranch
      (fun x t ⟨sending, awaited, fifo⟩ => by
        obtain ⟨sends, awaits, holds⟩ := markedAs_markBranch x br t
        exact ⟨sends.trans sending, awaits.trans awaited, holds.trans fifo⟩) branchIds s ⟨rfl, rfl, rfl⟩
  · exact ⟨rfl, rfl, rfl⟩

theorem arbitrateAll_branch (br : BranchId) (s : State) : (arbitrateAll s).branch br = (s.branch br).arbitrate := by
  simp only [State.branch, arbitrateAll, entryD, entry?_map]
  cases entry? s.branches (placeOf br) <;> rfl

theorem arbitrate_awaited (b : Branch) : b.arbitrate.awaited = b.awaited := by
  unfold Branch.arbitrate Branch.startNext Branch.startForward Branch.startPoll
  repeat' split
  all_goals rfl

theorem fifoKept_startForward {b : Branch} (free : b.free = true) : fifoKept b b.fifo b.startForward := by
  simp only [Branch.free, Bool.and_eq_true, Option.isNone_iff_eq_none] at free
  unfold Branch.startForward
  split
  · next entry rest holds => exact .inr ⟨free.1, free.2, entry, holds, rfl⟩
  · exact .inl rfl

theorem fifoKept_arbitrate (b : Branch) : fifoKept b b.fifo b.arbitrate := by
  unfold Branch.arbitrate
  split
  · next may =>
    have free : b.free = true := by
      rw [Bool.and_eq_true] at may
      exact may.1
    unfold Branch.startNext
    split
    · exact .inl rfl
    · split
      · exact .inl rfl
      · split
        · exact fifoKept_startForward free
        · split
          · unfold Branch.startPoll
            split <;> exact .inl rfl
          · exact fifoKept_startForward free
  · exact .inl rfl

theorem conclude_branch (s : State) (br : BranchId) : ∃ b, markedAs (s.branch br) b ∧ (conclude s).branch br = b.arbitrate := by
  refine ⟨(markIfDue (numberImage (evaluateShown (noticeGo (closeIfDone (settle roundLimit s)))))).branch br, ?_, ?_⟩
  · have before : (numberImage (evaluateShown (noticeGo (closeIfDone (settle roundLimit s))))).branches = s.branches := by simp
    generalize numberImage _ = v at before
    have marked := markedAs_markIfDue br v
    unfold State.branch at marked ⊢
    rwa [before] at marked
  · rw [← arbitrateAll_branch]
    simp only [conclude, State.branch, handReports_frame]

theorem conclude_fifo (s : State) (br : BranchId) : fifoKept (s.branch br) (s.branch br).fifo ((conclude s).branch br) := by
  obtain ⟨b, ⟨sending, awaited, fifo⟩, same⟩ := conclude_branch s br
  have kept := fifoKept_arbitrate b
  rw [same]
  unfold fifoKept at kept ⊢
  rwa [sending, awaited, fifo] at kept

theorem conclude_awaited (s : State) (br : BranchId) : ((conclude s).branch br).awaited = (s.branch br).awaited := by
  obtain ⟨b, ⟨-, awaited, -⟩, same⟩ := conclude_branch s br
  rw [same, arbitrate_awaited, awaited]

/-! #### What an event hands on -/

theorem asEvent_branch {effect answer : State → State} (only : onlyLink answer) (s : State) (br : BranchId) :
    (asEvent effect answer s).branch br = (conclude (effect (openEvent s))).branch br := by
  have same := only (conclude (effect (openEvent s)))
  exact (congrArg (fun t => entryD t.branches (placeOf br) Branch.reset) same :)

theorem asEvent_reportedOnly {effect : State → State} {s : State} (own : reportedOnly (openEvent s) (effect (openEvent s))) :
    reportedOnly s (asEvent effect id s) := by
  obtain ⟨made, reports, link⟩ := reportedOnly_trans own (reportedOnly_conclude _)
  refine ⟨made, reports, ?_⟩
  simp only [asEvent, closeEvent_frame, id, link, openEvent_frame]

theorem asEvent_replied {effect : State → State} {s : State} (own : reportedOnly (openEvent s) (effect (openEvent s))) (f : OutFrame) :
    replied s (asEvent effect (send f) s) f := by
  obtain ⟨made, reports, link⟩ := reportedOnly_trans own (reportedOnly_conclude _)
  refine ⟨made, [], reports, rfl, ?_⟩
  simp only [asEvent, closeEvent_frame, send_link, link, openEvent_frame, List.foldl_append, List.foldl_cons, List.foldl_nil]

/-- An event whose own effect concerns one branch and nothing else, at rest. -/
theorem rest_changeBranch {s : State} (rest : resting s = true) (br : BranchId) (f : Branch → Branch) :
    restFrame { s with branches := changeEntry s.branches (placeOf br) f } (asEvent (changeBranch br f) id s)
      ∧ (asEvent (changeBranch br f) id s).link = s.link := by
  obtain ⟨-, flash, law⟩ := resting_iff.mp rest
  exact rest_unanswered (worst := .none) (v := { s with branches := changeEntry s.branches (placeOf br) f }) rfl flash law

theorem rest_changeBranch_sent {s : State} (rest : resting s = true) (br : BranchId) (f : Branch → Branch) (frame : OutFrame) :
    restFrame { s with branches := changeEntry s.branches (placeOf br) f } (asEvent (changeBranch br f) (send frame) s)
      ∧ (asEvent (changeBranch br f) (send frame) s).link = s.link.accept frame := by
  obtain ⟨-, flash, law⟩ := resting_iff.mp rest
  exact rest_sent (worst := .none) (v := { s with branches := changeEntry s.branches (placeOf br) f }) frame rfl flash law

theorem branch_changeBranch_same {s : State} (four : s.branches.length = 4) (br : BranchId) (f : Branch → Branch) :
    (changeBranch br f s).branch br = f (s.branch br) := by
  refine entryD_changeEntry_same ?_ ?_ f Branch.reset
  · cases br <;> decide
  · rw [four]; cases br <;> decide

theorem branch_changeBranch_other {br other : BranchId} (is : other ≠ br) (f : Branch → Branch) (s : State) :
    (changeBranch br f s).branch other = s.branch other :=
  entryD_changeEntry_other (fun same => is (by cases br <;> cases other <;> cases same <;> rfl)) f Branch.reset

theorem calm_changeBranch {answer : State → State} {s : State} (only : onlyLink answer) (br : BranchId) (f : Branch → Branch)
    (calm : noLampOut s = true) (mode : s.control.mode ≠ .closing) : calmFrame s (asEvent (changeBranch br f) answer s) :=
  asEvent_calm (effect := changeBranch br f) only calm mode

/-! #### The checks of a forwarded frame -/

theorem forwardCheck_passes {station inner : Byte} {s : State} {br : BranchId} (mode : s.control.mode ≠ .loading)
    (open' : reservedInner inner = false) (at' : s.tables.branchOf station.toNat = some br) (room : (s.branch br).fifo.length < 4) :
    forwardCheck station inner s = .ok br := by
  simp [forwardCheck, mode, open', at', room, Config.fifoEntries]

/-- What the checks refuse, and with which result, in their order (R120, R180). -/
theorem forwardCheck_fails {station inner : Byte} {s : State}
    (fails : s.control.mode = .loading ∨ reservedInner inner = true ∨ s.tables.branchOf station.toNat = none
      ∨ ∃ br, s.tables.branchOf station.toNat = some br ∧ 4 ≤ (s.branch br).fifo.length) :
    ∃ r, forwardCheck station inner s = .error r ∧ (s.control.mode = .loading → r = .mode)
      ∧ (s.control.mode ≠ .loading → reservedInner inner = true → r = .range)
      ∧ (s.control.mode ≠ .loading → reservedInner inner = false → s.tables.branchOf station.toNat = none → r = .range)
      ∧ (s.control.mode ≠ .loading → reservedInner inner = false →
        (∃ br, s.tables.branchOf station.toNat = some br ∧ 4 ≤ (s.branch br).fifo.length) → r = .full) := by
  by_cases loading : s.control.mode = .loading
  · exact ⟨.mode, by simp [forwardCheck, loading], fun _ => rfl, fun no => absurd loading no, fun no => absurd loading no, fun no => absurd loading no⟩
  cases reserved : reservedInner inner with
  | true => exact ⟨.range, by simp [forwardCheck, loading, reserved], fun no => absurd no loading, fun _ _ => rfl, nofun, nofun⟩
  | false =>
    cases at' : s.tables.branchOf station.toNat with
    | none => exact ⟨.range, by simp [forwardCheck, loading, reserved, at'], fun no => absurd no loading, nofun, fun _ _ _ => rfl, by simp⟩
    | some br =>
      have full : 4 ≤ (s.branch br).fifo.length := by
        rcases fails with no | no | no | ⟨br', here, full⟩
        · exact absurd no loading
        · rw [reserved] at no; exact nomatch no
        · rw [at'] at no; exact nomatch no
        · rw [at'] at here; cases here; exact full
      exact ⟨.full, by simp [forwardCheck, loading, reserved, at', Config.fifoEntries, Nat.not_lt.mpr full], fun no => absurd no loading, nofun, nofun, fun _ _ _ => rfl⟩

theorem exec_fwd (tag station inner : Byte) (payload : List Byte) (s : State) :
    exec (.fwd tag station inner payload) s = execFwd tag station inner payload s := rfl

theorem exec_fwd_passes {s : State} (up : s.up = true) (hears : s.hears = true) {tag station inner : Byte} {payload : List Byte} {br : BranchId}
    (passes : forwardCheck station inner s = .ok br) :
    exec (.fwd tag station inner payload) s = .next (asEvent (changeBranch br (fun b =>
      { b with fifo := b.fifo ++ [{ tag := tag, station := station.toNat, kind := inner, payload := payload }] })) id s) := by
  rw [exec_fwd, execFwd, answeredOutcome, passes]
  exact frameOutcome_heard up hears

theorem exec_fwd_fails {s : State} (up : s.up = true) (hears : s.hears = true) {tag station inner : Byte} {payload : List Byte} {r : Result}
    (fails : forwardCheck station inner s = .error r) :
    exec (.fwd tag station inner payload) s = .next (asEvent id (send (.fwr tag station r [])) s) := by
  rw [exec_fwd, execFwd, answeredOutcome, fails]
  exact frameOutcome_heard up hears

theorem exec_fwrReceived_answered {s : State} (up : s.up = true) {br : BranchId} {station : Nat} {payload : List Byte} {tag : Byte}
    (awaited : s.forwardTag br station = some tag) :
    exec (.fwrReceived br station payload) s
      = .next (asEvent (endWait br) (send (forwardAnswer tag station payload)) s) := by
  show Host.Outcome.next _ = _
  simp only [whileUp_up up, awaited]

theorem exec_fwrReceived_stray {s : State} (up : s.up = true) {br : BranchId} {station : Nat} {payload : List Byte}
    (none : s.forwardTag br station = none) : exec (.fwrReceived br station payload) s = .next (asEvent (receivedOn br) id s) := by
  show Host.Outcome.next _ = _
  simp only [whileUp_up up, none]

theorem exec_forwardAnswerTimeout {s : State} (up : s.up = true) {br : BranchId} {station : Nat} {tag : Byte} {deadline : Time}
    (awaited : (s.branch br).awaited = some { station := station, tag := some tag, deadline := deadline })
    (over' : reached deadline s.clock.now = true) :
    exec (.forwardAnswerTimeout br) s = .next (asEvent (endWait br) (send (.fwr tag (byteOf station) .noAnswer [])) s) := by
  have wait : s.waitOver br true = some { station := station, tag := some tag, deadline := deadline } := by
    simp [State.waitOver, awaited, over', Option.filter]
  show Host.Outcome.next _ = _
  simp only [whileUp_up up, wait, Option.getD_some]

theorem forwardAnswer_short {tag : Byte} {station : Nat} {payload : List Byte} (short : payload.length ≤ 196) :
    forwardAnswer tag station payload = .fwr tag (byteOf station) .ok (0x22 :: payload) := if_neg (by omega)

theorem forwardAnswer_long {tag : Byte} {station : Nat} {payload : List Byte} (long : 196 < payload.length) :
    forwardAnswer tag station payload = .fwr tag (byteOf station) .range [] := if_pos long

theorem awaited_endWait {s : State} (four : s.branches.length = 4) (br : BranchId) (f : OutFrame) :
    ((asEvent (endWait br) (send f) s).branch br).awaited = none := by
  rw [asEvent_branch (send_onlyLink f), conclude_awaited, endWait, branch_changeBranch_same (by exact four)]

theorem fifoKept_asEvent {effect answer : State → State} (only : onlyLink answer) {s : State} (br : BranchId)
    (same : (effect (openEvent s)).branch br = s.branch br) :
    fifoKept (s.branch br) (s.branch br).fifo ((asEvent effect answer s).branch br) := by
  rw [asEvent_branch only, ← same]
  exact conclude_fifo _ br

theorem fifoKept_forward {s : State} (four : s.branches.length = 4) (br : BranchId) (entry : Forward) :
    fifoKept (s.branch br) ((s.branch br).fifo ++ [entry])
      ((asEvent (changeBranch br (fun b => { b with fifo := b.fifo ++ [entry] })) id s).branch br) := by
  have kept := conclude_fifo (changeBranch br (fun b => { b with fifo := b.fifo ++ [entry] }) (openEvent s)) br
  rw [branch_changeBranch_same (by exact four)] at kept
  rw [asEvent_branch id_onlyLink]
  exact kept

end Sys2Proof.Machine

namespace Sys2Proof.Proofs

open Sys2Proof Sys2Proof.Machine Sys2Proof.Safety

/-- Settles O43: the checks decide between the FIFO and the answer, and the conclusion of the event only lets the branches arbitrate. -/
theorem forwardedFrames : Obligations.ForwardedFrames := by
  refine ⟨fun s rest => ?_, fun s up four => ?_⟩
  · have up := (resting_iff.mp rest).1
    refine ⟨fun tag station inner payload br hears mode plain at' room => ?_, fun tag station inner payload hears fails => ?_,
      fun br station tag payload awaited => ?_, fun br station payload none => ?_, fun br station tag deadline awaited over' => ?_⟩
    · exact ⟨_, exec_fwd_passes up hears (forwardCheck_passes mode plain at' room), rest_changeBranch rest br _⟩
    · obtain ⟨r, refused, results⟩ := forwardCheck_fails fails
      obtain ⟨-, flash, law⟩ := resting_iff.mp rest
      obtain ⟨frame, link⟩ := rest_sent (effect := id) (s := s) (v := s) (worst := .none) (.fwr tag station r []) rfl flash law
      exact ⟨_, r, exec_fwd_fails up hears refused, frame, link, results⟩
    · obtain ⟨frame, link⟩ := rest_changeBranch_sent rest br (fun b => { b with awaited := none }) (forwardAnswer tag station payload)
      exact ⟨_, exec_fwrReceived_answered up awaited, frame, fun short => link.trans (by rw [forwardAnswer_short short]),
        fun long => link.trans (by rw [forwardAnswer_long long])⟩
    · exact ⟨_, exec_fwrReceived_stray up none, rest_changeBranch rest br _⟩
    · exact ⟨_, exec_forwardAnswerTimeout up awaited over', rest_changeBranch_sent rest br _ _⟩
  · refine ⟨fun tag station inner payload br hears mode plain at' room => ?_, fun tag station inner payload hears mode fails => ?_,
      fun br station tag payload awaited => ?_, fun br station tag deadline awaited over' => ?_⟩
    · exact ⟨_, exec_fwd_passes up hears (forwardCheck_passes mode plain at' room), asEvent_reportedOnly (reportedOnly_of_link rfl),
        fifoKept_forward four br _, fun other is => fifoKept_asEvent id_onlyLink other (branch_changeBranch_other is _ _),
        fun calm _ closing => calm_changeBranch id_onlyLink br _ calm closing⟩
    · obtain ⟨r, refused, -, reserved, unknown, full⟩ := forwardCheck_fails (.inr fails)
      refine ⟨_, r, exec_fwd_fails up hears refused, asEvent_replied (effect := id) (reportedOnly_of_link rfl) _,
        fun br => fifoKept_asEvent (send_onlyLink _) br rfl, ?_, full mode, fun calm _ closing => asEvent_calm (effect := id) (send_onlyLink _) calm closing⟩
      rintro (is | no)
      · exact reserved mode is
      · cases is : reservedInner inner with
        | true => exact reserved mode is
        | false => exact unknown mode is no
    · have made := asEvent_replied (effect := endWait br) (s := s) (reportedOnly_of_link rfl) (forwardAnswer tag station payload)
      exact ⟨_, exec_fwrReceived_answered up awaited, awaited_endWait four br _, fun short => by rwa [← forwardAnswer_short short],
        fun long => by rwa [← forwardAnswer_long long]⟩
    · exact ⟨_, exec_forwardAnswerTimeout up awaited over', awaited_endWait four br _,
        asEvent_replied (effect := endWait br) (s := s) (reportedOnly_of_link rfl) _⟩

end Sys2Proof.Proofs

/-! ### The fault clear (R160, R161): its checks and its reply -/

namespace Sys2Proof.Machine

open Sys2Proof.Safety

/-! #### What an event has gathered and handed on decides nothing else -/

/-- Two states that differ at most in what the event has gathered and in the link interface. -/
def Blind (s t : State) : Prop := ∃ e l, t = { s with event := e, link := l }

theorem Blind.of_eq {f : State → State} (same : ∀ s e l, ∃ e' l', f { s with event := e, link := l } = { f s with event := e', link := l' })
    {s t : State} (h : Blind s t) : Blind (f s) (f t) := by
  obtain ⟨e, l, rfl⟩ := h
  exact same s e l

theorem Blind.eachOf {α : Type} {f : α → State → State} (each : ∀ x {s t : State}, Blind s t → Blind (f x s) (f x t)) (l : List α) {s t : State}
    (h : Blind s t) : Blind (Machine.eachOf l f s) (Machine.eachOf l f t) := by
  induction l generalizing s t with
  | nil => exact h
  | cons x rest ih => exact ih (each x h)

theorem Blind.entryAlarm (e : Entry) {s t : State} (h : Blind s t) : Blind (Machine.entryAlarm e s) (Machine.entryAlarm e t) :=
  h.of_eq fun _ _ _ => ⟨_, _, rfl⟩

theorem Blind.recordRaise (r : Raise) {s t : State} (h : Blind s t) : Blind (Machine.recordRaise r s) (Machine.recordRaise r t) := by
  refine h.of_eq fun s e l => ?_
  unfold Machine.recordRaise
  dsimp only
  split
  · split
    · exact ⟨_, _, rfl⟩
    · exact ⟨_, _, rfl⟩
  · split <;> exact ⟨_, _, rfl⟩

theorem Blind.reportEnd (kind : FaultKind) (subject : Option Nat) {s t : State} (h : Blind s t) :
    Blind (Machine.reportEnd kind subject s) (Machine.reportEnd kind subject t) := by
  refine h.of_eq fun s e l => ?_
  unfold Machine.reportEnd
  dsimp only
  split
  · split
    · exact ⟨_, _, rfl⟩
    · exact ⟨_, _, rfl⟩
  · exact ⟨_, _, rfl⟩

theorem Blind.note (r : Raise) {s t : State} (h : Blind s t) : Blind (Machine.note r s) (Machine.note r t) := by
  obtain ⟨e, l, rfl⟩ := h
  exact Blind.recordRaise r ⟨_, _, rfl⟩

theorem Blind.changeProving (c : Nat) (f : Proving → Proving) {s t : State} (h : Blind s t) :
    Blind (Machine.changeProving c f s) (Machine.changeProving c f t) := h.of_eq fun _ _ _ => ⟨_, _, rfl⟩

theorem Blind.setRedFail (active : Bool) (g : Nat) {s t : State} (h : Blind s t) :
    Blind (Machine.setRedFail active g s) (Machine.setRedFail active g t) := h.of_eq fun _ _ _ => ⟨_, _, rfl⟩

theorem Blind.announce (old : Mode) {s t : State} (h : Blind s t) : Blind (Machine.announce old s) (Machine.announce old t) :=
  h.of_eq fun _ _ _ => ⟨_, _, rfl⟩

theorem Blind.reportEnd_if {c : Prop} [Decidable c] (kind : FaultKind) (subject : Option Nat) {s t : State} (h : Blind s t) :
    Blind (if c then Machine.reportEnd kind subject s else s) (if c then Machine.reportEnd kind subject t else t) := by
  split
  · exact h.reportEnd kind subject
  · exact h

theorem Blind.clearChannel (c : Nat) {s t : State} (h : Blind s t) : Blind (Machine.clearChannel c s) (Machine.clearChannel c t) := by
  obtain ⟨e, l, rfl⟩ := h
  exact (((show Blind s { s with event := e, link := l } from ⟨_, _, rfl⟩).changeProving c _).reportEnd_if .lampOut (some c)).reportEnd_if
    .foreignCurrent (some c)

theorem Blind.stopChannel (c : Nat) {s t : State} (h : Blind s t) : Blind (Machine.stopChannel c s) (Machine.stopChannel c t) := by
  obtain ⟨e, l, rfl⟩ := h
  exact (((show Blind s { s with event := e, link := l } from ⟨_, _, rfl⟩).changeProving c _).reportEnd_if .lampOut (some c)).reportEnd_if
    .foreignCurrent (some c)

theorem Blind.endRedFail (g : Nat) {s t : State} (h : Blind s t) : Blind (Machine.endRedFail g s) (Machine.endRedFail g t) := by
  obtain ⟨e, l, rfl⟩ := h
  have h : Blind s { s with event := e, link := l } := ⟨_, _, rfl⟩
  unfold Machine.endRedFail
  have same : State.redFail { s with event := e, link := l } g = s.redFail g := rfl
  rw [same]
  split
  · exact (h.setRedFail false g).reportEnd .redFail (some g)
  · exact h

theorem Blind.stopProving {s t : State} (h : Blind s t) : Blind (Machine.stopProving s) (Machine.stopProving t) := by
  obtain ⟨e, l, rfl⟩ := h
  exact Blind.eachOf Blind.endRedFail _ (Blind.eachOf Blind.stopChannel s.channelNumbers ⟨e, l, rfl⟩)

theorem Blind.endLapse {s t : State} (h : Blind s t) : Blind (Machine.endLapse s) (Machine.endLapse t) := by
  obtain ⟨e, l, rfl⟩ := h
  unfold Machine.endLapse
  dsimp only
  split
  · exact Blind.reportEnd .supervision none ⟨_, _, rfl⟩
  · exact ⟨_, _, rfl⟩

theorem Blind.exchangeFlash {s t : State} (h : Blind s t) : Blind (Machine.exchangeFlash s) (Machine.exchangeFlash t) := by
  obtain ⟨e, l, rfl⟩ := h
  exact Blind.endLapse ⟨_, _, rfl⟩

theorem Blind.changePlan (p : Nat) (f : PlanState → PlanState) {s t : State} (h : Blind s t) :
    Blind (Machine.changePlan p f s) (Machine.changePlan p f t) := h.of_eq fun _ _ _ => ⟨_, _, rfl⟩

theorem Blind.refreshRequest (p : Nat) {s t : State} (h : Blind s t) : Blind (Machine.refreshRequest p s) (Machine.refreshRequest p t) := by
  obtain ⟨e, l, rfl⟩ := h
  have h : Blind s { s with event := e, link := l } := ⟨_, _, rfl⟩
  have same : (State.tables { s with event := e, link := l }).plan p = s.tables.plan p ∧ State.stacked { s with event := e, link := l } p = s.stacked p :=
    ⟨rfl, rfl⟩
  unfold Machine.refreshRequest
  simp only [same]
  split
  · exact h.changePlan p _
  · exact h

theorem Blind.setSource (active : Bool) (p : Nat) {s t : State} (h : Blind s t) :
    Blind (Machine.setSource active p s) (Machine.setSource active p t) := (h.changePlan p _).refreshRequest p

theorem Blind.emptySlot {s t : State} (h : Blind s t) : Blind (Machine.emptySlot s) (Machine.emptySlot t) := by
  obtain ⟨e, l, rfl⟩ := h
  unfold Machine.emptySlot
  dsimp only
  split
  · exact Blind.setSource false _ ⟨_, _, rfl⟩
  · exact ⟨_, _, rfl⟩

theorem Blind.emptySlot_if {c : Prop} [Decidable c] {s t : State} (h : Blind s t) :
    Blind (if c then Machine.emptySlot s else s) (if c then Machine.emptySlot t else t) := by
  split
  · exact h.emptySlot
  · exact h

theorem Blind.unstack (p : Nat) (outcome : PlanOutcome) {s t : State} (h : Blind s t) :
    Blind (Machine.unstack p outcome s) (Machine.unstack p outcome t) := by
  obtain ⟨e, l, rfl⟩ := h
  unfold Machine.unstack
  refine Blind.refreshRequest p ?_
  exact Blind.emptySlot_if ⟨_, _, rfl⟩

theorem Blind.clearStack {s t : State} (h : Blind s t) : Blind (Machine.clearStack s) (Machine.clearStack t) := by
  obtain ⟨e, l, rfl⟩ := h
  exact Blind.eachOf (fun p _ _ h => h.unstack p .cleared) (s.preempt.stack.map Stacked.plan) ⟨e, l, rfl⟩

theorem Blind.plansFlash {s t : State} (h : Blind s t) : Blind (Machine.plansFlash s) (Machine.plansFlash t) := by
  refine Blind.eachOf (fun p s t h => ?_) planNumbers ?_
  · obtain ⟨e, l, rfl⟩ := h
    exact ⟨_, _, rfl⟩
  · exact h.clearStack.emptySlot.of_eq (f := fun s => { s with preempt.inhibit := 0 }) fun _ _ _ => ⟨_, _, rfl⟩

theorem Blind.showFlash {s t : State} (h : Blind s t) : Blind (Machine.showFlash s) (Machine.showFlash t) := h.of_eq fun _ _ _ => ⟨_, _, rfl⟩

theorem Blind.resetWorking {s t : State} (h : Blind s t) : Blind (Machine.resetWorking s) (Machine.resetWorking t) :=
  h.of_eq fun _ _ _ => ⟨_, _, rfl⟩

theorem Blind.writeRecordOf (record : Option (FaultKind × Option Nat)) {s t : State} (h : Blind s t) :
    Blind (Machine.writeRecordOf record s) (Machine.writeRecordOf record t) := by
  cases record with
  | none => exact h
  | some r => exact h.of_eq fun _ _ _ => ⟨_, _, rfl⟩

theorem Blind.leavePermit (new : Mode) (cause : Cause) (record : Option (FaultKind × Option Nat)) {s t : State} (h : Blind s t) :
    Blind (Machine.leavePermit new cause record s) (Machine.leavePermit new cause record t) := by
  obtain ⟨e, l, rfl⟩ := h
  unfold Machine.leavePermit
  refine Blind.announce _ (Blind.writeRecordOf _ (Blind.resetWorking (Blind.stopProving (Blind.plansFlash (Blind.exchangeFlash (Blind.showFlash ?_))))))
  exact ⟨_, _, rfl⟩

theorem Blind.changeFlashMode (new : Mode) (cause : Cause) (record : Option (FaultKind × Option Nat)) {s t : State} (h : Blind s t) :
    Blind (Machine.changeFlashMode new cause record s) (Machine.changeFlashMode new cause record t) := by
  obtain ⟨e, l, rfl⟩ := h
  unfold Machine.changeFlashMode
  exact Blind.announce _ (Blind.writeRecordOf _ (Blind.resetWorking ⟨_, _, rfl⟩))

theorem Blind.enterClosing (target : CloseTarget) (cause : CloseCause) {s t : State} (h : Blind s t) :
    Blind (Machine.enterClosing target cause s) (Machine.enterClosing target cause t) := by
  obtain ⟨e, l, rfl⟩ := h
  unfold Machine.enterClosing
  exact Blind.announce _ (Blind.clearStack (Blind.endLapse ⟨_, _, rfl⟩))

/-- What an action does is decided by the mode and the target of a close. -/
theorem Blind.takeAction (r : Raise) (close : CloseTarget) {s t : State} (h : Blind s t) :
    Blind (Machine.takeAction r close s) (Machine.takeAction r close t) := by
  have mode : t.control.mode = s.control.mode := by obtain ⟨e, l, rfl⟩ := h; rfl
  have target : t.control.closeTarget = s.control.closeTarget := by obtain ⟨e, l, rfl⟩ := h; rfl
  unfold Machine.takeAction
  rw [mode, target]
  cases r.action with
  | none | report | noRun => exact h
  | flash =>
    cases s.control.mode with
    | start | running | warning => exact h.leavePermit _ _ _
    | closing =>
      dsimp only
      split <;> exact h.leavePermit _ _ _
    | loading | flash | lockout => exact h
  | close =>
    cases s.control.mode with
    | start | running | warning => exact h.enterClosing _ _
    | closing =>
      cases close with
      | lockout => obtain ⟨e, l, rfl⟩ := h; exact ⟨_, _, rfl⟩
      | flash => exact h
    | loading | flash | lockout => exact h
  | lockout =>
    cases s.control.mode with
    | start | running | warning | closing => exact h.leavePermit _ _ _
    | flash => exact h.changeFlashMode _ _ _
    | loading => obtain ⟨e, l, rfl⟩ := h; exact ⟨_, _, rfl⟩
    | lockout => exact h

theorem Blind.raise (r : Raise) {s t : State} (h : Blind s t) : Blind (Machine.raise r s) (Machine.raise r t) := (h.note r).takeAction r .flash

theorem Blind.handRed (change : Nat × Bool) {s t : State} (h : Blind s t) : Blind (Machine.handRed change s) (Machine.handRed change t) := by
  unfold Machine.handRed
  split
  · obtain ⟨e, l, rfl⟩ := h
    have raised := ((show Blind s { s with event := e, link := l } from ⟨_, _, rfl⟩).setRedFail true change.1).raise (redFailRaise s.tables change.1)
    have same : State.redOut (Machine.raise (redFailRaise s.tables change.1) (Machine.setRedFail true change.1 { s with event := e, link := l }))
        change.1 = State.redOut (Machine.raise (redFailRaise s.tables change.1) (Machine.setRedFail true change.1 s)) change.1 := by
      obtain ⟨e', l', same⟩ := raised
      rw [same]
      rfl
    dsimp only
    rw [show State.tables { s with event := e, link := l } = s.tables from rfl, same]
    split
    · exact raised
    · exact raised.endRedFail _
  · exact h.endRedFail _

theorem Blind.evaluateReds {s t : State} (h : Blind s t) : Blind (Machine.evaluateReds s) (Machine.evaluateReds t) := by
  obtain ⟨e, l, rfl⟩ := h
  exact Blind.eachOf (fun change _ _ h => h.handRed change) s.redDue ⟨e, l, rfl⟩

theorem Blind.clearLatched {s t : State} (h : Blind s t) : Blind (Machine.clearLatched s) (Machine.clearLatched t) := by
  have judged : Blind (Machine.evaluateReds (Machine.eachOf s.channelNumbers Machine.clearChannel s))
      (Machine.evaluateReds (Machine.eachOf t.channelNumbers Machine.clearChannel t)) := by
    obtain ⟨e, l, rfl⟩ := h
    exact Blind.evaluateReds (Blind.eachOf (fun c _ _ h => h.clearChannel c) s.channelNumbers ⟨e, l, rfl⟩)
  have permit : t.control.mode.permit = s.control.mode.permit := by
    obtain ⟨e, l, rfl⟩ := h
    rfl
  unfold Machine.clearLatched
  dsimp only
  rw [permit]
  split
  · obtain ⟨e, l, same⟩ := judged
    rw [same]
    exact ⟨_, _, rfl⟩
  · exact judged

end Sys2Proof.Machine

namespace Sys2Proof.Machine

open Sys2Proof.Safety

/-! #### The reply -/

theorem clearResult_iff (s : State) :
    (s.control.mode = .loading → clearResult s = .mode)
      ∧ (s.control.mode ≠ .loading → s.store.op ≠ .idle ∨ s.control.recordOp ≠ .none → clearResult s = .busy)
      ∧ (s.control.mode = .lockout → s.control.maint = false → s.store.op = .idle → s.control.recordOp = .none → clearResult s = .maint)
      ∧ (s.control.mode ≠ .loading → s.store.op = .idle → s.control.recordOp = .none → (s.control.mode ≠ .lockout ∨ s.control.maint = true) →
        clearResult s = .ok) := by
  unfold clearResult State.storeBusy
  refine ⟨fun loading => ?_, fun mode busy => ?_, fun lockout maint idle none => ?_, fun mode idle none may => ?_⟩
  · simp [loading]
  · simp only [mode, if_false]
    rw [if_pos]
    simpa using busy
  · simp [lockout, maint, idle, none]
  · rcases may with other | active
    · simp [mode, idle, none, other]
    · simp [mode, idle, none, active]

theorem reportedOnly_clearChannel (c : Nat) (s : State) : reportedOnly s (clearChannel c s) := by
  unfold clearChannel
  dsimp only
  exact reportedOnly_trans (reportedOnly_trans (reportedOnly_of_link (by simp)) (reportedOnly_reportEnd_if _ _ _ _)) (reportedOnly_reportEnd_if _ _ _ _)

theorem reportedOnly_evaluateReds (s : State) : reportedOnly s (evaluateReds s) := reportedOnly_eachOf reportedOnly_handRed s.redDue s

theorem reportedOnly_clearLatched (s : State) : reportedOnly s (clearLatched s) := by
  have judged := reportedOnly_trans (reportedOnly_eachOf reportedOnly_clearChannel s.channelNumbers s) (reportedOnly_evaluateReds _)
  unfold clearLatched
  dsimp only
  split
  · exact reportedOnly_congr judged rfl
  · exact judged

theorem reportedOnly_clearStrikes (s : State) : reportedOnly s (clearStrikes s) := by
  unfold clearStrikes
  dsimp only
  split
  · split
    · exact reportedOnly_trans (reportedOnly_of_link rfl) (reportedOnly_changeFlashMode _ _ _ _)
    · exact reportedOnly_of_link rfl
  · exact reportedOnly_of_link rfl

/-- What an accepted fault clear does before the conclusion of its event (R161). -/
def clearEffect (s : State) : State := clearStrikes (pruneFaults (clearLatched s))

theorem reportedOnly_clearEffect (s : State) : reportedOnly s (clearEffect s) :=
  reportedOnly_trans (reportedOnly_congr (reportedOnly_clearLatched s) rfl) (reportedOnly_clearStrikes _)

/-- The count of the entries to remove is the same before and after the event is opened. -/
theorem removedCount_openEvent (s : State) : removedCount (openEvent s) = removedCount s := by
  obtain ⟨e, l, same⟩ := Blind.clearLatched (s := s) (t := openEvent s) ⟨_, _, rfl⟩
  unfold removedCount
  rw [same]

theorem exec_fcl (s : State) : exec .fcl s = execFcl s := rfl

theorem exec_fcl_ok {s : State} (up : s.up = true) (hears : s.hears = true) (passes : clearResult s = .ok) :
    exec .fcl s = .next (asEvent clearEffect (reply fclKind .ok [byteOf (removedCount s)]) s) := by
  rw [exec_fcl, execFcl, answeredOutcome]
  simp only [passes, if_true]
  exact frameOutcome_heard up hears

theorem exec_fcl_refused {s : State} (up : s.up = true) (hears : s.hears = true) (fails : clearResult s ≠ .ok) :
    exec .fcl s = .next (asEvent id (reply fclKind (clearResult s) []) s) := by
  rw [exec_fcl, execFcl, answeredOutcome]
  simp only [fails, if_false]
  exact frameOutcome_heard up hears

end Sys2Proof.Machine

namespace Sys2Proof.Proofs

open Sys2Proof Sys2Proof.Machine Sys2Proof.Safety

/-- Settles O40: the reply is `clearResult`, and the count it carries does not depend on the opening of the event. -/
theorem faultClearChecks : Obligations.FaultClearChecks := by
  intro s listens
  obtain ⟨up, hears⟩ : s.up = true ∧ s.hears = true := by simpa [listening] using listens
  obtain ⟨mode, busy, maint, ok⟩ := clearResult_iff s
  by_cases passes : clearResult s = .ok
  · have replies := replied_asEvent (effect := clearEffect) (s := s) (reportedOnly_clearEffect _) fclKind .ok [byteOf (removedCount s)]
    refine ⟨_, .ok, _, exec_fcl_ok up hears passes, replies, fun is => passes.symm.trans (mode is), fun no is => passes.symm.trans (busy no is),
      fun is off idle none => passes.symm.trans (maint is off idle none), fun _ _ _ _ => ⟨rfl, ?_⟩, fun _ no => absurd rfl no⟩
    rw [← removedCount_openEvent]
    rfl
  · refine ⟨_, clearResult s, [], exec_fcl_refused up hears passes, replied_asEvent (effect := id) (s := s) (reportedOnly_of_link rfl) _ _ _, mode, busy,
      maint, fun no idle none may => absurd (ok no idle none may) passes, fun rest _ => rest_replied rest _ _ _⟩

end Sys2Proof.Proofs

/-! ### What a free branch starts, and the ends of its transmissions (R111 to R114, R127) -/

namespace Sys2Proof.Machine

open Sys2Proof.Safety

/-! #### Lists -/

/-- The entry that alone satisfies a test is changed in its place. -/
theorem map_at {α : Type} {p : α → Prop} [DecidablePred p] {f : α → α} {before after : List α} {x : α} (is : p x)
    (others : ∀ y ∈ before ++ after, ¬ p y) :
    (before ++ x :: after).map (fun y => if p y then f y else y) = before ++ f x :: after := by
  have same : ∀ l : List α, (∀ y ∈ l, y ∈ before ++ after) → l.map (fun y => if p y then f y else y) = l := fun l sub =>
    (List.map_congr_left fun y member => if_neg (others y (sub y member))).trans l.map_id
  rw [List.map_append, List.map_cons, if_pos is, same before fun y member => List.mem_append_left _ member,
    same after fun y member => List.mem_append_right _ member]

/-- The first entry that satisfies a test. -/
theorem find?_at {α : Type} {p : α → Bool} {before after : List α} {x : α} (is : p x = true) (others : ∀ y ∈ before, p y = false) :
    (before ++ x :: after).find? p = some x := by
  refine List.find?_eq_some_iff_append.mpr ⟨is, before, after, rfl, fun y member => ?_⟩
  rw [others y member]; rfl

/-! #### What a free branch starts (R111, R113) -/

theorem arbitrate_idle {b : Branch} (idle : b.sending.isSome = true ∨ b.awaited.isSome = true ∨ b.liveness = []) : b.arbitrate = b := by
  unfold Branch.arbitrate
  rw [if_neg]
  simp only [Branch.free, Branch.stationless, Bool.and_eq_true, Option.isNone_iff_eq_none, Bool.not_eq_true', List.isEmpty_eq_false_iff]
  rintro ⟨⟨sending, awaited⟩, stations⟩
  rcases idle with h | h | h
  · rw [sending] at h; exact nomatch h
  · rw [awaited] at h; exact nomatch h
  · exact stations h

theorem arbitrate_start {b : Branch} (sending : b.sending = none) (awaited : b.awaited = none) (stations : b.liveness ≠ []) :
    b.arbitrate = b.startNext := by
  unfold Branch.arbitrate
  rw [if_pos]
  simp [Branch.free, Branch.stationless, sending, awaited, stations]

theorem startNext_slot {b : Branch} {before : List DriveSlot} {slot : DriveSlot} {after : List DriveSlot} (slots : b.slots = before ++ slot :: after)
    (pending : slot.pending = true) (first : ∀ x ∈ before, x.pending = false) (alone : ∀ x ∈ before ++ after, x.station ≠ slot.station) :
    b.startNext = { b with
      sending := some (.drv slot.station slot.image slot.states), slots := before ++ { slot with pending := false } :: after } := by
  have choice : b.pendingSlot = some slot := by
    unfold Branch.pendingSlot
    rw [slots]
    exact find?_at pending first
  have marked := map_at (p := fun x => x.station = slot.station) (f := fun x : DriveSlot => { x with pending := false }) rfl alone
  unfold Branch.startNext
  rw [choice]
  dsimp only
  rw [slots, marked]

theorem pendingSlot_none {b : Branch} (none' : ∀ x ∈ b.slots, x.pending = false) : b.pendingSlot = none :=
  List.find?_eq_none.mpr fun x member => by rw [none' x member]; exact Bool.false_ne_true

theorem startNext_apply {b : Branch} {image : Byte} (slots : b.pendingSlot = none) (pending : b.applyPending = some image) :
    b.startNext = { b with sending := some (.apl image (b.slots.map (fun x => (x.station, x.states)))), applyPending := none } := by
  unfold Branch.startNext
  rw [slots]
  dsimp only
  rw [pending]

theorem startNext_turn {b : Branch} {e : Forward} {rest : List Forward} (slots : b.pendingSlot = none) (apply : b.applyPending = none)
    (turn : b.turn = .fwd) (fifo : b.fifo = e :: rest) : b.startNext = { b with sending := some (.fwd e), turn := .pol, fifo := rest } := by
  unfold Branch.startNext Branch.startForward
  rw [slots]
  dsimp only
  rw [apply]
  simp [turn, fifo]

theorem startNext_poll {b : Branch} (slots : b.pendingSlot = none) (apply : b.applyPending = none) (turn : b.turn = .pol ∨ b.fifo = []) :
    b.startNext = b.pollChoice.elim b.startForward b.startPoll := by
  have other : ¬ (b.turn = .fwd ∧ b.fifo ≠ []) := by
    rintro ⟨is, some'⟩
    rcases turn with poll | empty
    · rw [poll] at is; exact nomatch is
    · exact some' empty
  unfold Branch.startNext
  rw [slots]
  dsimp only
  rw [apply]
  dsimp only
  rw [if_neg other]
  cases b.pollChoice <;> rfl

theorem pollChoice_due {b : Branch} {before : List Liveness} {l : Liveness} {after : List Liveness} (liveness : b.liveness = before ++ l :: after)
    (absent : l.present = false) (due : l.repollDue = true) (first : ∀ x ∈ before, x.present = true ∨ x.repollDue = false) :
    b.pollChoice = some (l.station, true) := by
  unfold Branch.pollChoice
  rw [liveness, find?_at (by simp [absent, due]) fun x member => by rcases first x member with h | h <;> simp [h]]

/-- A station stands behind the poll pointer; any does where there is none. -/
def Branch.behindPointer (b : Branch) (l : Liveness) : Bool := b.pointer.all (fun p => decide (p < l.station))

theorem pollChoice_next {b : Branch} (none' : ∀ x ∈ b.liveness, x.present = true ∨ x.repollDue = false) :
    b.pollChoice = (((b.liveness.filter Liveness.present).find? b.behindPointer).or (b.liveness.filter Liveness.present).head?).map
      (fun l => (l.station, false)) := by
  have no : b.liveness.find? (fun l => !l.present && l.repollDue) = none :=
    List.find?_eq_none.mpr fun x member => by rcases none' x member with h | h <;> simp [h]
  have behind : b.behindPointer = fun l => b.pointer.all (fun p => decide (p < l.station)) := rfl
  rw [behind]
  unfold Branch.pollChoice
  rw [no]
  dsimp only
  cases b.pointer with
  | none => cases found : (b.liveness.filter Liveness.present).find? (fun _ => true) <;> simp [found]
  | some p => cases found : (b.liveness.filter Liveness.present).find? (fun l => decide (p < l.station)) <;> simp [found]

theorem filter_none {before : List Liveness} (absent : ∀ x ∈ before, x.present = false) : before.filter Liveness.present = [] :=
  List.filter_eq_nil_iff.mpr fun x member => by rw [absent x member]; exact Bool.false_ne_true

theorem pollChoice_behind {b : Branch} {before : List Liveness} {l : Liveness} {after : List Liveness} (liveness : b.liveness = before ++ l :: after)
    (none' : ∀ x ∈ b.liveness, x.present = true ∨ x.repollDue = false) (present : l.present = true)
    (behind : ∀ p, b.pointer = some p → p < l.station ∧ ∀ x ∈ before, x.present = true → x.station ≤ p)
    (first : b.pointer = none → ∀ x ∈ before, x.present = false) : b.pollChoice = some (l.station, false) := by
  rw [pollChoice_next none', liveness, List.filter_append, List.filter_cons, if_pos present]
  cases at' : b.pointer with
  | none =>
    rw [filter_none (first at'), List.nil_append, List.find?_cons_of_pos (by simp [Branch.behindPointer, at'])]
    rfl
  | some p =>
    obtain ⟨next, passed⟩ := behind p at'
    rw [find?_at (by simpa [Branch.behindPointer, at'] using next) fun x member => by
      obtain ⟨member, present⟩ := List.mem_filter.mp member
      simpa [Branch.behindPointer, at'] using passed x member present]
    rfl

theorem pollChoice_wraps {b : Branch} {before : List Liveness} {l : Liveness} {after : List Liveness} {p : Nat}
    (liveness : b.liveness = before ++ l :: after) (none' : ∀ x ∈ b.liveness, x.present = true ∨ x.repollDue = false) (present : l.present = true)
    (pointer : b.pointer = some p) (last : ∀ x ∈ b.liveness, x.present = true → x.station ≤ p) (first : ∀ x ∈ before, x.present = false) :
    b.pollChoice = some (l.station, false) := by
  have no : (b.liveness.filter Liveness.present).find? b.behindPointer = none := List.find?_eq_none.mpr fun x member => by
    obtain ⟨member, present⟩ := List.mem_filter.mp member
    simpa [Branch.behindPointer, pointer] using last x member present
  rw [pollChoice_next none', no, liveness, List.filter_append, List.filter_cons, if_pos present, filter_none first]
  rfl

theorem pollChoice_none {b : Branch} (none' : ∀ x ∈ b.liveness, x.present = true ∨ x.repollDue = false) (absent : ∀ x ∈ b.liveness, x.present = false) :
    b.pollChoice = none := by
  rw [pollChoice_next none', filter_none absent]
  rfl

/-! #### The end of a transmission (R112, R114, R127) -/

theorem exec_branchTransmissionEnd (br : BranchId) (s : State) : exec (.branchTransmissionEnd br) s = execBranchTransmissionEnd br s := rfl

/-- The end of a transmission at rest, from what it makes of the open state. -/
theorem rest_transmissionEnd {br : BranchId} {s v : State} {f : BranchFrame} (rest : resting s = true) (sending : (s.branch br).sending = some f)
    (own : endTransmission br f (openEvent s) = openEvent v) (flash : v.control.mode.permit = false) (law : aspectLaw v = true) :
    ∃ t, exec (.branchTransmissionEnd br) s = .next t ∧ restFrame v t ∧ t.link = v.link := by
  have here : ((openEvent s).branch br).sending = some f := sending
  rw [exec_branchTransmissionEnd, execBranchTransmissionEnd]
  exact rest_eventOutcome rest (by simp only [here]; exact own) flash law

theorem rest_transmissionEnd_branch {br : BranchId} {s : State} {f : BranchFrame} (rest : resting s = true) (sending : (s.branch br).sending = some f)
    {g : Branch → Branch} (own : endTransmission br f (openEvent s) = changeBranch br g (openEvent s)) :
    ∃ t, exec (.branchTransmissionEnd br) s = .next t ∧ t.link = s.link
      ∧ restFrame { s with branches := changeEntry s.branches (placeOf br) g } t := by
  obtain ⟨-, flash, law⟩ := resting_iff.mp rest
  obtain ⟨t, ran, frame, link⟩ := rest_transmissionEnd (v := { s with branches := changeEntry s.branches (placeOf br) g }) rest sending (own.trans rfl)
    flash law
  exact ⟨t, ran, link, frame⟩

theorem changeBranch_changeBranch (br : BranchId) (f g : Branch → Branch) (s : State) :
    changeBranch br g (changeBranch br f s) = changeBranch br (g ∘ f) s := by
  unfold changeBranch
  dsimp only
  rw [changeEntry_changeEntry]

/-! #### The proved states that an apply frame carries (R127) -/

theorem proving_changeProving_same {s : State} {c : Nat} (first : 1 ≤ c) (last : c ≤ s.prover.channels.length) (f : Proving → Proving) :
    (changeProving c f s).proving c = f (s.proving c) := entryD_changeEntry_same first last f Proving.reset

theorem proving_changeProving_other {c n : Nat} (other : n ≠ c) (f : Proving → Proving) (s : State) : (changeProving c f s).proving n = s.proving n :=
  entryD_changeEntry_other other f Proving.reset

theorem length_changeProving (c : Nat) (f : Proving → Proving) (s : State) :
    (changeProving c f s).prover.channels.length = s.prover.channels.length := by
  simp only [changeProving]
  unfold changeEntry
  split <;> simp

/-- In a pass over distinct entries, what the pass makes of one of them stands at the end: the entries before it keep its premises, the entries behind it
what it made. -/
theorem eachOf_once {α : Type} {good done : State → Prop} {f : α → State → State} {x : α} (keeps : ∀ y s, y ≠ x → good s → good (f y s))
    (makes : ∀ s, good s → done (f x s)) (stays : ∀ y s, y ≠ x → done s → done (f y s)) {l : List α} (member : x ∈ l) (distinct : l.Nodup) {s : State}
    (start : good s) : done (eachOf l f s) := by
  induction l generalizing s with
  | nil => exact nomatch member
  | cons y rest ih =>
    obtain ⟨out, distinct⟩ := List.nodup_cons.mp distinct
    rcases List.mem_cons.mp member with rfl | member
    · have later : ∀ l : List α, x ∉ l → ∀ s, done s → done (eachOf l f s) := fun l => by
        induction l with
        | nil => exact fun _ _ h => h
        | cons y rest ih =>
          intro out s h
          obtain ⟨other, out⟩ := not_or.mp (mt List.mem_cons.mpr out)
          exact ih out _ (stays y s (Ne.symm other) h)
      exact later rest out _ (makes s start)
    · exact ih member distinct (keeps y s (fun same => out (same ▸ member)) start)

theorem numbers_nodup (n : Nat) : (numbers n).Nodup := by
  unfold numbers
  exact List.nodup_range.map (fun _ _ same => Nat.succ.inj same)

theorem mem_provedChannels {s : State} {c : Nat} (first : 1 ≤ c) (last : c ≤ s.tables.outputs.length) (proved : s.tables.proved c = true) :
    c ∈ s.provedChannels := List.mem_filter.mpr ⟨mem_numbers.mpr ⟨first, last⟩, proved⟩

theorem provedChannels_nodup (s : State) : s.provedChannels.Nodup := (numbers_nodup _).filter _

theorem takeApply_prover (br : BranchId) (carried : List (Nat × List Lamp)) (s : State) :
    takeApply br carried s = { s with prover := (takeApply br carried s).prover } := by
  obtain ⟨pending, clock, event, link, exchange, preempt, engine, control, branches, detectors, faults, store⟩ := takeApply_frame br carried s
  generalize takeApply br carried s = t at *
  obtain ⟨⟩ := t
  simp_all

theorem endTransmission_apply (br : BranchId) (image : Byte) (carried : List (Nat × List Lamp)) (s : State) :
    ∃ u, endTransmission br (.apl image carried) s = takeApply br carried u
      ∧ u = { s with
        branches := changeEntry s.branches (placeOf br) (fun b => { b with sending := none, lastApply := some (image, s.clock.now) }) } :=
  ⟨_, congrArg (takeApply br carried) (changeBranch_changeBranch br _ _ _), rfl⟩

/-- What the pass over the proved channels does with one channel at the end of an apply frame. -/
def takeCarried (br : BranchId) (carried : List (Nat × List Lamp)) (c : Nat) (s : State) : State :=
  let r := s.tables.output c
  if (s.tables.roleOn br r.station.toNat).isSome then
    match carried.find? (fun x => decide (x.1 = r.station.toNat)) with
    | some x => changeProving c (fun p => if p.proved = entry? x.2 r.output.toNat then p else { p.noRuns with proved := entry? x.2 r.output.toNat }) s
    | none => s
  else s

theorem takeApply_eq (br : BranchId) (carried : List (Nat × List Lamp)) (s : State) :
    takeApply br carried s = eachOf s.provedChannels (takeCarried br carried) s := rfl

theorem takeCarried_other {br : BranchId} {carried : List (Nat × List Lamp)} {c n : Nat} (other : n ≠ c) (s : State) :
    (takeCarried br carried n s).proving c = s.proving c := by
  unfold takeCarried
  dsimp only
  split
  · split
    · exact proving_changeProving_other (Ne.symm other) _ s
    · rfl
  · rfl

theorem takeCarried_frame (br : BranchId) (carried : List (Nat × List Lamp)) (n : Nat) (s : State) :
    (takeCarried br carried n s).tables = s.tables ∧ (takeCarried br carried n s).prover.channels.length = s.prover.channels.length := by
  unfold takeCarried
  dsimp only
  split
  · split
    · exact ⟨rfl, length_changeProving _ _ _⟩
    · exact ⟨rfl, rfl⟩
  · exact ⟨rfl, rfl⟩

theorem takeApply_proved {br : BranchId} {carried : List (Nat × List Lamp)} {s : State} {c : Nat} {states : List Lamp} (first : 1 ≤ c)
    (last : c ≤ s.prover.channels.length) (proved : s.tables.proved c = true) (records : c ≤ s.tables.outputs.length)
    (role : (s.tables.roleOn br (s.tables.output c).station.toNat).isSome = true)
    (found : carried.find? (fun x => decide (x.1 = (s.tables.output c).station.toNat)) = some ((s.tables.output c).station.toNat, states)) :
    ((takeApply br carried s).proving c).proved = entry? states (s.tables.output c).output.toNat := by
  rw [takeApply_eq]
  refine eachOf_once (x := c) (good := fun t => t.tables = s.tables ∧ t.prover.channels.length = s.prover.channels.length)
    (done := fun t => (t.proving c).proved = entry? states (s.tables.output c).output.toNat)
    (fun n t _ ⟨tables, length⟩ => ?_) (fun t ⟨tables, length⟩ => ?_) (fun n t other h => ?_) (mem_provedChannels first records proved)
    (provedChannels_nodup s) ⟨rfl, rfl⟩
  · obtain ⟨sameTables, sameLength⟩ := takeCarried_frame br carried n t
    exact ⟨sameTables.trans tables, sameLength.trans length⟩
  · unfold takeCarried
    simp only [tables, role, found, if_true]
    rw [proving_changeProving_same first (by rw [length]; exact last)]
    split
    · assumption
    · rfl
  · rw [takeCarried_other other]
    exact h

end Sys2Proof.Machine

namespace Sys2Proof.Proofs

open Sys2Proof Sys2Proof.Machine Sys2Proof.Safety

/-- Settles O55: the ends of the four kinds of frame, and `Branch.arbitrate` line by line. -/
theorem branchTransmissionEnds : Obligations.BranchTransmissionEnds := by
  refine ⟨fun br s rest => ⟨fun station sending => ?_, fun e sending => ?_, fun station image states sending => ?_, fun image carried sending => ?_⟩,
    fun b => ⟨arbitrate_idle, fun sending awaited stations => ?_⟩⟩
  · exact rest_transmissionEnd_branch rest sending (changeBranch_changeBranch br _ _ _)
  · exact rest_transmissionEnd_branch rest sending (changeBranch_changeBranch br _ _ _)
  · exact rest_transmissionEnd_branch rest sending rfl
  · obtain ⟨-, flash, law⟩ := resting_iff.mp rest
    obtain ⟨u, made, same⟩ := endTransmission_apply br image carried (openEvent s)
    obtain ⟨t, ran, frame, link⟩ := rest_transmissionEnd rest sending (v := { s with
      branches := changeEntry s.branches (placeOf br) (fun b => { b with sending := none, lastApply := some (image, s.clock.now) })
      prover := (takeApply br carried u).prover }) (by rw [made, takeApply_prover, same]; rfl) flash law
    obtain ⟨pending, clock, event, exchange, preempt, control, prover, rest'⟩ := frame
    refine ⟨t, ran, link, ⟨pending, clock, event, exchange, preempt, control, rfl, rest'⟩,
      fun c states first last proved records role found => ?_⟩
    have carries := takeApply_proved (br := br) (carried := carried) (s := u) (c := c) (states := states) first (by rw [same]; exact last)
      (by rw [same]; exact proved) (by rw [same]; exact records) (by rw [same]; exact role) (by rw [same]; exact found)
    unfold State.proving at carries ⊢
    rw [prover]
    rw [same] at carries
    rw [same]
    exact carries
  · rw [arbitrate_start sending awaited stations]
    refine ⟨fun before slot after slots pending first alone => startNext_slot slots pending first alone, fun none' => ?_⟩
    have slots := pendingSlot_none none'
    refine ⟨fun image pending => startNext_apply slots pending, fun apply => ⟨fun e rest turn fifo => startNext_turn slots apply turn fifo, fun turn => ?_⟩⟩
    rw [startNext_poll slots apply turn]
    refine ⟨fun before l after liveness absent due first alone => ?_, fun none' => ⟨?_, ?_, fun absent => ⟨?_, ?_⟩⟩⟩
    · rw [pollChoice_due liveness absent due first]
      have marked := map_at (p := fun x => x.station = l.station) (f := fun x : Liveness => { x with repollDue := false }) rfl alone
      simp only [Option.elim, Branch.startPoll, if_true]
      rw [liveness, marked]
    · intro before l after liveness present behind first
      rw [pollChoice_behind liveness none' present behind first]
      rfl
    · intro before l after p liveness present pointer last first
      rw [pollChoice_wraps liveness none' present pointer last first]
      rfl
    · intro e rest fifo
      rw [pollChoice_none none' absent]
      simp only [Option.elim, Branch.startForward, fifo]
    · intro fifo
      rw [pollChoice_none none' absent]
      simp only [Option.elim, Branch.startForward, fifo]

end Sys2Proof.Proofs

/-! ### The detector conditioner and the plans in the flash modes (R145, R147, R149, R151, R153) -/

namespace Sys2Proof.Machine

open Sys2Proof.Safety

/-! #### Without RUNNING and WARNING the plans take nothing and report nothing (R94) -/

theorem consider_unadmitted {s : State} (mode : s.control.mode.admits = false) : consider s = s := by
  unfold consider
  rw [mode]
  rfl

/-- Two states that differ at most in the preemption unit. -/
def PlansOnly (s t : State) : Prop := ∃ p, t = { s with preempt := p }

theorem PlansOnly.refl (s : State) : PlansOnly s s := ⟨_, rfl⟩

theorem PlansOnly.trans {s t u : State} (first : PlansOnly s t) (second : PlansOnly t u) : PlansOnly s u := by
  obtain ⟨p, rfl⟩ := first
  obtain ⟨q, rfl⟩ := second
  exact ⟨q, rfl⟩

theorem PlansOnly.eachOf {α : Type} {f : α → State → State} (each : ∀ x s, PlansOnly s (f x s)) (l : List α) (s : State) :
    PlansOnly s (Machine.eachOf l f s) := eachOf_holds (PlansOnly s) f (fun x t h => h.trans (each x t)) l s (.refl s)

theorem PlansOnly.mode {s t : State} (h : PlansOnly s t) : t.control.mode = s.control.mode := by
  obtain ⟨p, rfl⟩ := h
  rfl

theorem plansOnly_changePlan (p : Nat) (f : PlanState → PlanState) (s : State) : PlansOnly s (changePlan p f s) := ⟨_, rfl⟩

theorem plansOnly_refreshRequest (p : Nat) (s : State) : PlansOnly s (refreshRequest p s) := by
  unfold refreshRequest
  dsimp only
  split
  · exact plansOnly_changePlan _ _ s
  · exact .refl s

theorem plansOnly_setSource (active : Bool) (p : Nat) (s : State) : PlansOnly s (setSource active p s) :=
  (plansOnly_changePlan p _ s).trans (plansOnly_refreshRequest p _)

theorem plansOnly_emptySlot (s : State) : PlansOnly s (emptySlot s) := by
  unfold emptySlot
  split
  · exact .trans ⟨_, rfl⟩ (plansOnly_setSource false _ _)
  · exact .refl s

theorem plansOnly_unstack (p : Nat) (outcome : PlanOutcome) (s : State) : PlansOnly s (unstack p outcome s) := by
  unfold unstack
  dsimp only
  refine .trans (t := changePlan p (fun x => { x with outcome := outcome })
    { s with preempt.stack := s.preempt.stack.filter (fun x => decide (x.plan ≠ p)) }) ⟨_, rfl⟩ ?_
  split
  · exact (plansOnly_emptySlot _).trans (plansOnly_refreshRequest p _)
  · exact plansOnly_refreshRequest p _

theorem plansOnly_changeTop (f : Stacked → Stacked) (s : State) : PlansOnly s (changeTop f s) := by
  unfold changeTop
  split
  · exact ⟨_, rfl⟩
  · exact .refl s

theorem plansOnly_topStep {s t : State} (mode : s.control.mode.admits = false) (step : topStep s = some t) : PlansOnly s t := by
  have ends : ∀ p outcome, PlansOnly s (consider (unstack p outcome s)) := fun p outcome => by
    have left := plansOnly_unstack p outcome s
    rwa [consider_unadmitted (by rw [left.mode]; exact mode)]
  unfold topStep at step
  dsimp only at step
  repeat' split at step
  all_goals cases step
  · exact ends _ _
  · exact plansOnly_changeTop _ s
  · exact plansOnly_changeTop _ s
  · exact plansOnly_changeTop _ s
  · exact ends _ _
  · exact ends _ _

theorem plansOnly_advance (steps : Nat) {s : State} (mode : s.control.mode.admits = false) : PlansOnly s (advance steps s) := by
  induction steps generalizing s with
  | zero => exact .refl s
  | succ n ih =>
    unfold advance
    split
    · next t step =>
      have moved := plansOnly_topStep mode step
      exact moved.trans (ih (by rw [moved.mode]; exact mode))
    · exact .refl s

theorem plansOnly_sourceActive (edge : Bool) (p : Nat) (s : State) : PlansOnly s (sourceActive edge p s) := by
  unfold sourceActive
  dsimp only
  split
  · exact (plansOnly_setSource true p s).trans (plansOnly_changePlan _ _ _)
  · exact plansOnly_setSource true p s

theorem plansOnly_sourcesActive (edge : Bool) (plans : List Nat) {s : State} (mode : s.control.mode.admits = false) :
    PlansOnly s (sourcesActive edge plans s) := by
  have set := PlansOnly.eachOf (plansOnly_sourceActive edge) plans s
  have unadmitted : (eachOf plans (sourceActive edge) s).control.mode.admits = false := by rw [set.mode]; exact mode
  unfold sourcesActive
  dsimp only
  split
  · unfold considerTaking
    rw [consider_unadmitted unadmitted]
    simpa using set
  · exact set

theorem plansOnly_sourcesInactive (plans : List Nat) {s : State} (mode : s.control.mode.admits = false) : PlansOnly s (sourcesInactive plans s) := by
  have set := PlansOnly.eachOf (plansOnly_setSource false) plans s
  unfold sourcesInactive
  dsimp only
  split
  · exact set.trans (plansOnly_advance _ (by rw [set.mode]; exact mode))
  · exact set

theorem admits_of_not_permit {mode : Mode} (flash : mode.permit = false) : mode.admits = false := by
  cases mode <;> simp_all [Mode.permit, Mode.admits]

/-! #### The records -/

theorem entry_of_detector {s : State} {c : Nat} {d : Detector} (has : s.detector c = some d) : entry? s.detectors c = some (some d) := by
  unfold State.detector entryD at has
  cases found : entry? s.detectors c with
  | none => rw [found] at has; exact nomatch has
  | some x => rw [found] at has; exact congrArg some has

theorem detector_changeDetector_same {s : State} {c : Nat} {d : Detector} (has : s.detector c = some d) (f : Detector → Detector) :
    (changeDetector c f s).detector c = some (f d) := by
  obtain ⟨first, last⟩ := mem_numbers.mp (List.mem_filter.mp (mem_detectorChannels has)).1
  exact (entryD_changeEntry_same first last (Option.map f) none).trans (congrArg (Option.map f) has)

theorem detector_changeDetector_other {c n : Nat} (other : n ≠ c) (f : Detector → Detector) (s : State) :
    (changeDetector c f s).detector n = s.detector n := entryD_changeEntry_other other (Option.map f) none

theorem raiseDetector_new {f : DetectorFault} {c : Nat} {s : State} {d : Detector} (has : s.detector c = some d) (none' : d.has f = false) :
    raiseDetector f c s = note { kind := f.kind, subject := some c, action := .report, condition := true } (changeDetector c (fun x => x.mark true f) s) := by
  unfold raiseDetector
  rw [has]
  simp only [none', Bool.false_eq_true, if_false]

theorem note_detectors (r : Raise) (s : State) : (note r s).detectors = s.detectors := by simp

theorem detector_congr {s t : State} (same : t.detectors = s.detectors) (c : Nat) : t.detector c = s.detector c := by
  unfold State.detector
  rw [same]

theorem decideFault_enters {c : Nat} {s : State} {d : Detector} (has : s.detector c = some d) (faulty : d.faulty = true) (out : d.inFault = false) :
    decideFault c s = enterFault c d s := by
  unfold decideFault
  rw [has]
  simp [faulty, out]

theorem decideFault_stays {c : Nat} {s : State} {d : Detector} (has : s.detector c = some d) (same : d.inFault = d.faulty) : decideFault c s = s := by
  unfold decideFault
  rw [has]
  simp [same]

theorem decideFault_leaves {c : Nat} {s : State} {d : Detector} (has : s.detector c = some d) (faulty : d.faulty = false) (in' : d.inFault = true) :
    decideFault c s = leaveFault c d s := by
  unfold decideFault
  rw [has]
  simp [faulty, in']

/-- The record of a channel that has made a detector report. -/
def Detector.reporting (d : Detector) (state fault : Bool) (date now : Time) : Detector :=
  { (if d.reported = state then d else { d with reported := state, reportedSince := date }) with lastDet := some (state, fault, now) }

/-- The report of a channel, with what its own record makes of it. -/
def Detector.det (d : Detector) (c : Nat) (state fault : Bool) (time : Time) : Det :=
  { channel := c, occupied := state, fault := fault, time := time, occupancy := occupancyOf d state fault time }

theorem report_eq {c : Nat} {s : State} {d : Detector} (has : s.detector c = some d) (state fault : Bool) (date : Time) :
    report c state fault date (setReported c state date s)
      = { s with
        detectors := changeEntry s.detectors c (Option.map (fun x => x.reporting state fault date date))
        event.reports := s.event.reports ++ [d.det c state fault date] } := by
  have now : (setReported c state date s).detector c = some (if d.reported = state then d else { d with reported := state, reportedSince := date }) :=
    detector_changeDetector_same has _
  have occupancy : occupancyOf (if d.reported = state then d else { d with reported := state, reportedSince := date }) state fault date
      = occupancyOf d state fault date := by
    split <;> rfl
  unfold report
  rw [now]
  dsimp only
  rw [occupancy]
  unfold setReported changeDetector
  dsimp only
  rw [changeEntry_changeEntry, Option.map_comp_map]
  rfl

/-- The entry of a channel into fault in a flash mode: its record, its report, and what the plans it calls make of it. -/
theorem enterFault_rest {c : Nat} {s : State} {d : Detector} (has : s.detector c = some d) (mode : s.control.mode.permit = false) :
    ∃ p, enterFault c d s = { s with
      preempt := p
      detectors := changeEntry s.detectors c
        (Option.map (fun x => { x with inFault := true }.reporting (faultState (s.tables.detector c) d) true s.clock.now s.clock.now))
      event.reports := s.event.reports ++ [d.det c (faultState (s.tables.detector c) d) true s.clock.now] } := by
  have entered := detector_changeDetector_same has (fun x => { x with inFault := true })
  have told := report_eq entered (faultState (s.tables.detector c) d) true s.clock.now
  unfold enterFault
  dsimp only
  rw [told]
  obtain ⟨p, same⟩ := plansOnly_sourcesInactive (State.plansOnDetector
    { changeDetector c (fun x => { x with inFault := true }) s with
      detectors := changeEntry (changeDetector c (fun x => { x with inFault := true }) s).detectors c
        (Option.map (fun x => x.reporting (faultState (s.tables.detector c) d) true s.clock.now s.clock.now))
      event.reports := s.event.reports ++ [d.det c (faultState (s.tables.detector c) d) true s.clock.now] } c)
    (s := { changeDetector c (fun x => { x with inFault := true }) s with
      detectors := changeEntry (changeDetector c (fun x => { x with inFault := true }) s).detectors c
        (Option.map (fun x => x.reporting (faultState (s.tables.detector c) d) true s.clock.now s.clock.now))
      event.reports := s.event.reports ++ [d.det c (faultState (s.tables.detector c) d) true s.clock.now] }) (admits_of_not_permit mode)
  refine ⟨p, same.trans ?_⟩
  unfold changeDetector
  dsimp only
  rw [changeEntry_changeEntry, Option.map_comp_map]
  rfl

/-! #### The conclusion of an event at rest that has made detector reports (log 18) -/

theorem handReports_link (s : State) : (handReports s).link = ((sortByKey Det.channel s.event.reports).map OutFrame.det).foldl Link.accept s.link := by
  have each : ∀ (l : List Det) (t : State), (eachOf l (fun d => send (.det d)) t).link = (l.map OutFrame.det).foldl Link.accept t.link := by
    intro l
    induction l with
    | nil => exact fun _ => rfl
    | cons d l ih => exact fun t => ih _
  exact each _ s

theorem conclude_rest_link {s : State} (flash : s.control.mode.permit = false) (law : aspectLaw s = true) (entered : s.event.enteredGo = [])
    (before : s.event.before = s.shownImage) :
    (conclude s).link = ((sortByKey Det.channel s.event.reports).map OutFrame.det).foldl Link.accept s.link := by
  obtain ⟨⟨faces, -, enteredGo, reports, image, -, -, control, -⟩, -, link, -⟩ := settle_rest flash law entered roundLimit
  have closing : closeIfDone (settle roundLimit s) = settle roundLimit s := by
    unfold closeIfDone
    rw [if_neg]
    rw [control]
    intro close
    rw [close.1] at flash
    exact nomatch flash
  have going : noticeGo (settle roundLimit s) = settle roundLimit s := by
    unfold noticeGo
    rw [enteredGo, entered]
    simp [eachOf]
  have same : (settle roundLimit s).shownImage = (settle roundLimit s).event.before := by rw [shownImage_of_faces faces, image, before]
  have shown : evaluateShown (settle roundLimit s) = settle roundLimit s := if_pos same
  have numbered : numberImage (settle roundLimit s) = settle roundLimit s := if_pos same
  unfold conclude
  rw [closing, going, shown, numbered, handReports_link]
  simp only [arbitrateAll_frame, markIfDue_frame, reports, link]

/-- The end of an event at rest whose own effect `u` moves no group and stays in the mode: what the conclusion leaves, and the reports it hands on. -/
theorem rest_closed {s u : State} (rest : resting s = true) (engine : u.engine = s.engine) (control : u.control = s.control)
    (store : u.store = s.store) (entered : u.event.enteredGo = []) (before : u.event.before = s.shownImage) :
    (conclude u).clock = u.clock ∧ (conclude u).control = s.control ∧ (conclude u).store = s.store
      ∧ (conclude u).exchange = u.exchange ∧ (conclude u).preempt = u.preempt
      ∧ (conclude u).prover = u.prover ∧ (conclude u).detectors = u.detectors ∧ (conclude u).faults = u.faults
      ∧ (conclude u).link = ((sortByKey Det.channel u.event.reports).map OutFrame.det).foldl Link.accept u.link
      ∧ (∀ g, (conclude u).shown g = s.shown g)
      ∧ (u.event.remark = false → (conclude u).branches = u.branches.map Branch.arbitrate) := by
  obtain ⟨-, flash, law⟩ := resting_iff.mp rest
  have aspects : aspectLaw u = true := by
    rw [aspectLaw_congr engine (by rw [control]) (by rw [store])]
    exact law
  have image : u.event.before = u.shownImage := by rw [before]; simp only [State.shownImage, engine]
  have flash' : u.control.mode.permit = false := by rw [control]; exact flash
  have link := conclude_rest_link flash' aspects entered image
  obtain ⟨controlled, stored, exchange, preempt, prover, detectors, faults, -, faces, -, -, branches⟩ := conclude_rest flash' aspects entered image
  have clock : (conclude u).clock = u.clock := by simp
  have group : ∀ g, u.shown g = s.shown g := fun g => by unfold State.shown State.group; rw [engine]
  exact ⟨clock, controlled.trans control, stored.trans store, exchange, preempt, prover, detectors, faults, link,
    fun g => ((group_of_faces faces g).1).trans (group g), branches⟩

theorem rest_concluded {effect : State → State} {s : State} (rest : resting s = true) (engine : (effect (openEvent s)).engine = s.engine)
    (control : (effect (openEvent s)).control = s.control) (store : (effect (openEvent s)).store = s.store)
    (entered : (effect (openEvent s)).event.enteredGo = []) (before : (effect (openEvent s)).event.before = s.shownImage) :
    (asEvent effect id s).clock = (effect (openEvent s)).clock ∧ (asEvent effect id s).control = s.control ∧ (asEvent effect id s).store = s.store
      ∧ (asEvent effect id s).exchange = (effect (openEvent s)).exchange ∧ (asEvent effect id s).preempt = (effect (openEvent s)).preempt
      ∧ (asEvent effect id s).prover = (effect (openEvent s)).prover ∧ (asEvent effect id s).detectors = (effect (openEvent s)).detectors
      ∧ (asEvent effect id s).faults = (effect (openEvent s)).faults
      ∧ (asEvent effect id s).link
        = ((sortByKey Det.channel (effect (openEvent s)).event.reports).map OutFrame.det).foldl Link.accept (effect (openEvent s)).link
      ∧ (∀ g, (asEvent effect id s).shown g = s.shown g)
      ∧ ((effect (openEvent s)).event.remark = false → (asEvent effect id s).branches = (effect (openEvent s)).branches.map Branch.arbitrate) := by
  have closed := rest_closed rest engine control store entered before
  have same : asEvent effect id s = closeEvent (conclude (effect (openEvent s))) := by simp only [asEvent, id]
  rw [same]
  generalize conclude (effect (openEvent s)) = v at closed ⊢
  exact closed

/-! #### The deadlines (R147) -/

theorem faulty_mark (d : Detector) (f : DetectorFault) : (d.mark true f).faulty = true := by
  cases f <;> simp [Detector.faulty, detectorFaults, Detector.mark, Detector.has]

theorem inFault_mark (d : Detector) (active : Bool) (f : DetectorFault) : (d.mark active f).inFault = d.inFault := by cases f <;> rfl

theorem entered_already {d : Detector} (in' : d.inFault = true) :
    d = { d with inFault := true, reported := d.reported, reportedSince := d.reportedSince, lastDet := d.lastDet } := by
  rw [← in']

/-- What the expiry of a deadline does to its channel before the conclusion of its event. -/
def deadlineEffect (f : DetectorFault) (clear : Detector → Detector) (c : Nat) (s : State) : State :=
  decideFault c (raiseDetector f c (changeDetector c clear s))

/-- The expiry of a deadline in a flash mode, channel `c` having no such fault yet. -/
theorem rest_deadline {f : DetectorFault} {clear : Detector → Detector} {c : Nat} {d : Detector} {s : State} (rest : resting s = true)
    (has : s.detector c = some d) (none' : (clear d).has f = false) (same : (clear d).inFault = d.inFault) :
    ∃ d' : Detector, (asEvent (deadlineEffect f clear c) id s).detector c = some d'
      ∧ d' = { (clear d).mark true f with inFault := true, reported := d'.reported, reportedSince := d'.reportedSince, lastDet := d'.lastDet }
      ∧ (asEvent (deadlineEffect f clear c) id s).control = s.control ∧ (asEvent (deadlineEffect f clear c) id s).exchange = s.exchange
      ∧ (asEvent (deadlineEffect f clear c) id s).store = s.store ∧ (asEvent (deadlineEffect f clear c) id s).prover = s.prover
      ∧ (∀ n, n ≠ c → (asEvent (deadlineEffect f clear c) id s).detector n = s.detector n)
      ∧ (d.inFault = false → ∃ r, replied s (asEvent (deadlineEffect f clear c) id s) (.det r) ∧ r.channel = c ∧ r.fault = true
        ∧ r.time = s.clock.now)
      ∧ (faultLaw s = true → s.faults.entries.length < 32 → listed (asEvent (deadlineEffect f clear c) id s) f.kind (some c) true .report) := by
  obtain ⟨-, flash, -⟩ := resting_iff.mp rest
  have cleared := detector_changeDetector_same (s := openEvent s) has clear
  have raised := raiseDetector_new cleared none'
  have marked : (raiseDetector f c (changeDetector c clear (openEvent s))).detector c = some ((clear d).mark true f) := by
    rw [raised, detector_congr (note_detectors _ _)]
    exact detector_changeDetector_same cleared _
  have others : ∀ n, n ≠ c → (raiseDetector f c (changeDetector c clear (openEvent s))).detector n = s.detector n := fun n other => by
    rw [raised, detector_congr (note_detectors _ _), detector_changeDetector_other other, detector_changeDetector_other other]
    rfl
  have noted : reportedOnly s (raiseDetector f c (changeDetector c clear (openEvent s))) := by
    rw [raised]
    exact reportedOnly_note _ _
  have lists : s.faults.entries.length < 32 → listed (raiseDetector f c (changeDetector c clear (openEvent s))) f.kind (some c) true .report := by
    intro room
    rw [raised]
    obtain ⟨e, member, kind, subject, -, action, -, active, -⟩ := note_lists
      (r := { kind := f.kind, subject := some c, action := .report, condition := true })
      (s := changeDetector c (fun x => x.mark true f) (changeDetector c clear (openEvent s))) room
    exact ⟨e, member, kind, subject, active rfl, action⟩
  have event : (raiseDetector f c (changeDetector c clear (openEvent s))).event = { before := s.shownImage, worst := Action.max .none .report } := by
    rw [raised, note_event]
    rfl
  obtain ⟨-, clock, exchange, -, engine, control, -, prover, store⟩ := raiseDetector_frame f c (changeDetector c clear (openEvent s))
  have effect : deadlineEffect f clear c (openEvent s) = decideFault c (raiseDetector f c (changeDetector c clear (openEvent s))) := rfl
  have tail := rest_concluded (effect := deadlineEffect f clear c) rest
  rw [effect] at tail
  generalize asEvent (deadlineEffect f clear c) id s = t at tail ⊢
  generalize raiseDetector f c (changeDetector c clear (openEvent s)) = u at *
  have faulty := faulty_mark (clear d) f
  have out := (inFault_mark (clear d) true f).trans same
  cases already : d.inFault with
  | true =>
    rw [decideFault_stays marked ((out.trans already).trans faulty.symm)] at tail
    obtain ⟨-, controlled, stored, exchanged, -, proved, sensed, faults, -⟩ := tail engine control store (by rw [event]) (by rw [event])
    refine ⟨(clear d).mark true f, (detector_congr sensed c).trans marked, ?_, controlled, exchanged.trans exchange, stored, proved.trans prover,
      fun n other => (detector_congr sensed n).trans (others n other), nofun, fun _ room => ?_⟩
    · exact entered_already (out.trans already)
    · unfold listed
      rw [faults]
      exact lists room
  | false =>
    obtain ⟨p, entered⟩ := enterFault_rest marked (by rw [control]; exact flash)
    rw [decideFault_enters marked faulty (out.trans already), entered] at tail
    obtain ⟨-, controlled, stored, exchanged, -, proved, sensed, faults, link, -⟩ := tail engine control store (by rw [event]) (by rw [event])
    refine ⟨_, (detector_congr sensed c).trans (detector_changeDetector_same marked _), ?_, controlled, exchanged.trans exchange, stored,
      proved.trans prover, fun n other => ((detector_congr sensed n).trans (detector_changeDetector_other other _ u)).trans (others n other),
      fun _ => ⟨((clear d).mark true f).det c (faultState (u.tables.detector c) ((clear d).mark true f)) true u.clock.now, ?_, rfl, rfl, ?_⟩,
      fun _ room => ?_⟩
    · unfold Detector.reporting
      split <;> rfl
    · obtain ⟨made, reports, handed⟩ := noted
      refine ⟨made, [], reports, rfl, ?_⟩
      rw [link, event, handed, List.foldl_append]
      rfl
    · exact congrArg Clock.now clock
    · unfold listed
      rw [faults]
      exact lists room

theorem exec_stuckDeadlineExpiry {c : Nat} {d : Detector} {due : Time} {s : State} (has : s.detector c = some d) (stuck : d.stuckAt = some due)
    (over' : reached due s.clock.now = true) :
    exec (.stuckDeadlineExpiry c) s = eventOutcome (deadlineEffect .stuck (fun d => { d with stuckAt := none }) c) s := by
  have is : (openEvent s).stuckOver c = true := by
    show s.stuckOver c = true
    simp [State.stuckOver, has, stuck, over']
  show Host.Outcome.next _ = Host.Outcome.next _
  simp only [whileUp, asEvent, is, if_true, deadlineEffect]

theorem exec_idleDeadlineExpiry {c : Nat} {d : Detector} {due : Time} {s : State} (has : s.detector c = some d) (idle : d.idleAt = some due)
    (over' : reached due s.clock.now = true) :
    exec (.idleDeadlineExpiry c) s = eventOutcome (deadlineEffect .idle (fun d => { d with idleAt := none }) c) s := by
  have is : (openEvent s).idleOver c = true := by
    show s.idleOver c = true
    simp [State.idleOver, has, idle, over']
  show Host.Outcome.next _ = Host.Outcome.next _
  simp only [whileUp, asEvent, is, if_true, deadlineEffect]

end Sys2Proof.Machine

namespace Sys2Proof.Proofs

open Sys2Proof Sys2Proof.Machine Sys2Proof.Safety

/-- Settles O59: both deadlines raise their fault and enter fault as `rest_deadline` says. -/
theorem detectorDeadlines : Obligations.DetectorDeadlines := by
  intro c d due s rest has over'
  have up := (resting_iff.mp rest).1
  refine ⟨fun stuck none' => ?_, fun idle none' => ?_⟩
  · obtain ⟨d', record, made, control, exchange, store, prover, others, reports, lists⟩ :=
      rest_deadline (f := .stuck) (clear := fun d => { d with stuckAt := none }) rest has none' rfl
    refine ⟨_, d', (exec_stuckDeadlineExpiry has stuck over').trans (eventOutcome_up up), record, (congrArg Detector.stuckFault made :), (congrArg Detector.stuckAt made :), (congrArg Detector.inFault made :), (congrArg Detector.occupied made :), (congrArg Detector.idleFault made :),
      control, exchange, store, prover,
      others, reports, lists⟩
  · obtain ⟨d', record, made, control, exchange, store, prover, others, reports, lists⟩ :=
      rest_deadline (f := .idle) (clear := fun d => { d with idleAt := none }) rest has none' rfl
    refine ⟨_, d', (exec_idleDeadlineExpiry has idle over').trans (eventOutcome_up up), record, (congrArg Detector.idleFault made :), (congrArg Detector.idleAt made :), (congrArg Detector.inFault made :), (congrArg Detector.occupied made :), (congrArg Detector.stuckFault made :),
      control, exchange, store, prover,
      others, reports, lists⟩

end Sys2Proof.Proofs

/-! ### What the detector conditioner and the plans leave of an event (log 18), and what they report -/

namespace Sys2Proof.Machine

open Sys2Proof.Safety

/-! #### Reports of some kinds and subjects -/

/-- The entries after a report: those of the list, and the one it is against. -/
theorem recordRaise_subset {r : Raise} {s : State} {e : Entry} (member : e ∈ (recordRaise r s).faults.entries) :
    e.is r.kind r.subject = true ∨ e ∈ s.faults.entries := by
  cases found : s.faults.entries.find? (Entry.is r.kind r.subject) with
  | some x =>
    have entries : (recordRaise r s).faults.entries = againAll r s.clock.now s.faults.entries := by
      rw [recordRaise_again found]
      split <;> rfl
    rw [entries] at member
    obtain ⟨o, old, rfl⟩ := List.mem_map.mp member
    split
    · next is => exact .inl is
    · exact .inr old
  | none =>
    have new : (r.entry s.clock.now).is r.kind r.subject = true := entry_is_iff.mpr ⟨rfl, rfl⟩
    cases made : s.faults.append (r.entry s.clock.now) with
    | none =>
      rw [recordRaise_unlisted found made] at member
      exact .inr member
    | some entries =>
      have same : (recordRaise r s).faults.entries = entries := by rw [recordRaise_appended found made]; rfl
      rw [same] at member
      unfold FaultList.append at made
      split at made
      · cases made
        rcases List.mem_append.mp member with old | here
        · exact .inr old
        · exact .inl (List.mem_singleton.mp here ▸ new)
      · split at made
        · cases made
          rcases List.mem_append.mp member with old | here
          · exact .inr (List.mem_of_mem_eraseP old)
          · exact .inl (List.mem_singleton.mp here ▸ new)
        · cases made

/-- A report leaves the ACTIVE entries of other kinds and subjects, also in a full list (R158). -/
theorem recordRaise_active {r : Raise} {s : State} {o : Entry} (member : o ∈ s.faults.entries) (active : o.active = true)
    (other : o.is r.kind r.subject = false) : o ∈ (recordRaise r s).faults.entries := by
  cases found : s.faults.entries.find? (Entry.is r.kind r.subject) with
  | some x =>
    have entries : (recordRaise r s).faults.entries = againAll r s.clock.now s.faults.entries := by
      rw [recordRaise_again found]
      split <;> rfl
    rw [entries]
    exact List.mem_map.mpr ⟨o, member, by simp [other]⟩
  | none =>
    cases made : s.faults.append (r.entry s.clock.now) with
    | none =>
      rw [recordRaise_unlisted found made]
      exact member
    | some entries =>
      have same : (recordRaise r s).faults.entries = entries := by rw [recordRaise_appended found made]; rfl
      rw [same]
      unfold FaultList.append at made
      split at made
      · cases made
        exact List.mem_append_left _ member
      · split at made
        · cases made
          exact List.mem_append_left _ ((List.mem_eraseP_of_neg (by simp [active])).mpr member)
        · cases made

/-- The reports about some kinds and subjects have been recorded, and nothing else has happened to a fault list that holds its bounds. -/
structure Recorded (K : FaultKind → Option Nat → Prop) (x y : FaultList) : Prop where
  well : x.Well → y.Well
  keys : x.Well → ∀ e ∈ y.entries, K e.kind e.subject ∨ ∃ o ∈ x.entries, o.kind = e.kind ∧ o.subject = e.subject
  quiet : x.Well → ∀ kind subject, ¬ K kind subject → (∀ e ∈ x.entries, e.kind = kind → e.subject = subject → e.active = false) →
    ∀ e ∈ y.entries, e.kind = kind → e.subject = subject → e.active = false
  stays : x.Well → ∀ o ∈ x.entries, o.active = true → ¬ K o.kind o.subject → o ∈ y.entries

theorem Recorded.refl (K : FaultKind → Option Nat → Prop) (x : FaultList) : Recorded K x x :=
  ⟨id, fun _ e member => .inr ⟨e, member, rfl, rfl⟩, fun _ _ _ _ h => h, fun _ _ member _ _ => member⟩

theorem Recorded.trans {K : FaultKind → Option Nat → Prop} {x y z : FaultList} (first : Recorded K x y) (second : Recorded K y z) : Recorded K x z := by
  refine ⟨fun h => second.well (first.well h), fun h e member => ?_, fun h kind subject out quiet => ?_, fun h o member active out => ?_⟩
  · rcases second.keys (first.well h) e member with is | ⟨o, old, kind, subject⟩
    · exact .inl is
    · rcases first.keys h o old with is | ⟨o', old', kind', subject'⟩
      · exact .inl (kind ▸ subject ▸ is)
      · exact .inr ⟨o', old', kind'.trans kind, subject'.trans subject⟩
  · exact second.quiet (first.well h) kind subject out (first.quiet h kind subject out quiet)
  · exact second.stays (first.well h) o (first.stays h o member active out) active out

theorem Recorded.mono {K K' : FaultKind → Option Nat → Prop} {x y : FaultList} (sub : ∀ kind subject, K kind subject → K' kind subject)
    (h : Recorded K x y) : Recorded K' x y :=
  ⟨h.well, fun w e member => (h.keys w e member).imp_left (sub _ _), fun w kind subject out => h.quiet w kind subject (fun is => out (sub _ _ is)),
    fun w o member active out => h.stays w o member active (fun is => out (sub _ _ is))⟩

theorem recorded_recordRaise {K : FaultKind → Option Nat → Prop} {r : Raise} (is : K r.kind r.subject) (s : State) :
    Recorded K s.faults (recordRaise r s).faults := by
  refine ⟨?_, fun _ e member => ?_, fun _ kind subject out quiet => ?_, fun _ o member active out => ?_⟩
  · exact (steady_recordRaise (a := ⟨true, true, true, true, true, true, true, true, true, true, true, true, true⟩) r s).faults
  · rcases recordRaise_subset member with here | old
    · obtain ⟨kind, subject⟩ := entry_is_iff.mp here
      exact .inl (kind ▸ subject ▸ is)
    · exact .inr ⟨e, old, rfl, rfl⟩
  · intro e member k j
    rcases recordRaise_subset member with here | old
    · obtain ⟨k', j'⟩ := entry_is_iff.mp here
      exact absurd (k ▸ k' ▸ j ▸ j' ▸ is) out
    · exact quiet e old k j
  · refine recordRaise_active member active (Bool.eq_false_iff.mpr fun here => ?_)
    obtain ⟨kind, subject⟩ := entry_is_iff.mp here
    exact out (kind ▸ subject ▸ is)

theorem recorded_reportEnd {K : FaultKind → Option Nat → Prop} {kind : FaultKind} {subject : Option Nat} (is : K kind subject) (s : State) :
    Recorded K s.faults (reportEnd kind subject s).faults := by
  refine ⟨?_, fun well e member => ?_, fun well k j out quiet => ?_, fun well o member active out => ?_⟩
  · exact (steady_reportEnd (a := ⟨true, true, true, true, true, true, true, true, true, true, true, true, true⟩) kind subject s).faults
  · rw [reportEnd_entries kind subject well] at member
    obtain ⟨o, old, rfl⟩ := List.mem_map.mp member
    exact .inr ⟨o, old, by split <;> rfl, by split <;> rfl⟩
  · intro e member k' j'
    rw [reportEnd_entries kind subject well] at member
    obtain ⟨o, old, rfl⟩ := List.mem_map.mp member
    split at k'
    · next here => rw [if_pos here]
    · next here =>
      rw [if_neg here] at j' ⊢
      exact quiet o old k' j'
  · refine reportEnd_other kind subject well member (Bool.eq_false_iff.mpr fun here => ?_)
    obtain ⟨k, j⟩ := entry_is_iff.mp here
    exact out (k ▸ j ▸ is)

/-- The list grows at most by the kinds and subjects reported. -/
theorem Recorded.length {K : FaultKind → Option Nat → Prop} {x y : FaultList} (h : Recorded K x y) (well : x.Well) (l : List (FaultKind × Option Nat))
    (all : ∀ kind subject, K kind subject → (kind, subject) ∈ l) : y.entries.length ≤ x.entries.length + l.length := by
  have key : Entry → FaultKind × Option Nat := fun e => (e.kind, e.subject)
  have distinct : (y.entries.map (fun e => (e.kind, e.subject))).Nodup :=
    List.pairwise_map.mpr ((h.well well).2.1.imp fun apart same => apart (Prod.mk.injEq .. ▸ same))
  have sub : ∀ k ∈ y.entries.map (fun e => (e.kind, e.subject)), k ∈ x.entries.map (fun e => (e.kind, e.subject)) ++ l := by
    intro k member
    obtain ⟨e, here, rfl⟩ := List.mem_map.mp member
    rcases h.keys well e here with is | ⟨o, old, kind, subject⟩
    · exact List.mem_append_right _ (all _ _ is)
    · exact List.mem_append_left _ (List.mem_map.mpr ⟨o, old, by rw [kind, subject]⟩)
  simpa using (List.subperm_of_subset distinct sub).length_le

/-! #### The relation -/

/-- What the conditioner and the plans do to the parts of the state that the conclusion of an event looks at: reports join those of the event, alarms are
handed on and none tells of a mode, and reports about some kinds and subjects are recorded. -/
structure Reporting (K : FaultKind → Option Nat → Prop) (s t : State) : Prop where
  control : t.control = s.control := by rfl
  store : t.store = s.store := by rfl
  engine : t.engine = s.engine := by rfl
  clock : t.clock = s.clock := by rfl
  scope : t.event = { s.event with worst := t.event.worst, concerned := t.event.concerned, reports := t.event.reports } := by rfl
  reports : ∃ more, t.event.reports = s.event.reports ++ more := by exact ⟨[], (List.append_nil _).symm⟩
  alarms : ∃ made : List OutFrame, made.all (fun f => isReport f && !f.isDet) = true ∧ t.link = made.foldl Link.accept s.link := by
    exact ⟨[], rfl, rfl⟩
  told : ∀ p, Told p s p t := by exact fun p => told_of_same rfl rfl rfl
  faults : Recorded K s.faults t.faults := by exact Recorded.refl _ _

variable {K : FaultKind → Option Nat → Prop}

theorem Reporting.refl (K : FaultKind → Option Nat → Prop) (s : State) : Reporting K s s := { }

theorem Reporting.trans {s t u : State} (first : Reporting K s t) (second : Reporting K t u) : Reporting K s u where
  control := second.control.trans first.control
  store := second.store.trans first.store
  engine := second.engine.trans first.engine
  clock := second.clock.trans first.clock
  scope := by
    have scope := second.scope
    rw [first.scope] at scope
    exact scope
  reports := by
    obtain ⟨more, made⟩ := first.reports
    obtain ⟨more', made'⟩ := second.reports
    exact ⟨more ++ more', by rw [made', made, List.append_assoc]⟩
  alarms := by
    obtain ⟨made, quiet, link⟩ := first.alarms
    obtain ⟨made', quiet', link'⟩ := second.alarms
    exact ⟨made ++ made', by rw [List.all_append, quiet, quiet']; rfl, by rw [link', link, List.foldl_append]⟩
  told p := told_trans (first.told p) (second.told p)
  faults := first.faults.trans second.faults

theorem Reporting.mono {K' : FaultKind → Option Nat → Prop} {s t : State} (sub : ∀ kind subject, K kind subject → K' kind subject)
    (h : Reporting K s t) : Reporting K' s t := { h with faults := h.faults.mono sub }

theorem Reporting.eachOf {α : Type} {f : α → State → State} {l : List α} (each : ∀ x ∈ l, ∀ s, Reporting K s (f x s)) (s : State) :
    Reporting K s (Machine.eachOf l f s) := by
  induction l generalizing s with
  | nil => exact .refl K s
  | cons x l ih =>
    exact (each x (List.mem_cons_self ..) s).trans (ih (fun y member => each y (List.mem_cons_of_mem _ member)) _)

theorem alarm_alarms (body : AlarmBody) (s : State) :
    ∃ made : List OutFrame, made.all (fun f => isReport f && !f.isDet) = true ∧ (alarm body s).link = made.foldl Link.accept s.link := ⟨[_], rfl, rfl⟩

theorem recordRaise_alarms (r : Raise) (s : State) :
    ∃ made : List OutFrame, made.all (fun f => isReport f && !f.isDet) = true ∧ (recordRaise r s).link = made.foldl Link.accept s.link := by
  unfold recordRaise
  dsimp only
  repeat' split
  · exact ⟨[], rfl, rfl⟩
  · exact alarm_alarms _ _
  · exact alarm_alarms _ _
  · exact alarm_alarms _ _

theorem reportEnd_alarms (kind : FaultKind) (subject : Option Nat) (s : State) :
    ∃ made : List OutFrame, made.all (fun f => isReport f && !f.isDet) = true ∧ (reportEnd kind subject s).link = made.foldl Link.accept s.link := by
  unfold reportEnd
  dsimp only
  repeat' split
  · exact alarm_alarms _ _
  · exact ⟨[], rfl, rfl⟩
  · exact alarm_alarms _ _

theorem reporting_note {r : Raise} (is : K r.kind r.subject) (s : State) : Reporting K s (note r s) where
  control := by simp
  store := by simp
  engine := by simp
  clock := by simp
  scope := by rw [note_event]
  reports := ⟨[], by rw [note_event, List.append_nil]⟩
  alarms := recordRaise_alarms r { s with event.worst := s.event.worst.max r.action }
  told p := told_note r p s
  faults := recorded_recordRaise is { s with event.worst := s.event.worst.max r.action }

theorem reporting_reportEnd {kind : FaultKind} {subject : Option Nat} (is : K kind subject) (s : State) : Reporting K s (reportEnd kind subject s) where
  control := by simp
  store := by simp
  engine := by simp
  clock := by simp
  scope := by simp
  reports := ⟨[], by simp⟩
  alarms := reportEnd_alarms kind subject s
  told p := told_reportEnd kind subject p s
  faults := recorded_reportEnd is s

theorem reporting_changeDetector (c : Nat) (f : Detector → Detector) (s : State) : Reporting K s (changeDetector c f s) := { }

theorem reporting_plansOnly {s t : State} (h : PlansOnly s t) : Reporting K s t := by
  obtain ⟨p, rfl⟩ := h
  exact { }

/-! #### The plans -/

/-- The plans may report NESTING_LIMIT, where the mode admits taking. -/
def MayTake (K : FaultKind → Option Nat → Prop) (s : State) : Prop := s.control.mode.admits = true → ∀ p, K .nestingLimit (some p)

theorem MayTake.of_control {s t : State} (h : MayTake K s) (same : t.control = s.control) : MayTake K t := fun admits => h (by rwa [← same])

theorem reporting_reportLimit (p : Nat) {s : State} (limit : K .nestingLimit (some p)) : Reporting K s (reportLimit p s) := by
  unfold reportLimit
  dsimp only
  split
  · exact reporting_plansOnly ⟨_, rfl⟩
  · exact .trans (t := changePlan p (fun x => { x with limitReported := true }) { s with preempt.nestingLimit := true })
      (reporting_plansOnly ⟨_, rfl⟩) (reporting_note limit _)

theorem reporting_consider {s : State} (limit : MayTake K s) : Reporting K s (consider s) := by
  unfold consider
  dsimp only
  split
  · next admits =>
    split
    · split
      · exact reporting_plansOnly ⟨_, rfl⟩
      · exact .refl K s
    · exact .eachOf (fun p _ t => reporting_reportLimit p (limit admits p)) s
  · exact .refl K s

theorem reporting_topStep {s t : State} (limit : MayTake K s) (step : topStep s = some t) : Reporting K s t := by
  have ended : ∀ p outcome, Reporting K s (consider (unstack p outcome s)) := fun p outcome =>
    (reporting_plansOnly (plansOnly_unstack p outcome s)).trans (reporting_consider (limit.of_control (by simp)))
  have top : ∀ f, Reporting K s (changeTop f s) := fun f => reporting_plansOnly (plansOnly_changeTop f s)
  unfold topStep at step
  dsimp only at step
  repeat' split at step
  all_goals cases step
  · exact ended _ _
  · exact top _
  · exact top _
  · exact top _
  · exact ended _ _
  · exact ended _ _

theorem reporting_advance (steps : Nat) {s : State} (limit : MayTake K s) : Reporting K s (advance steps s) := by
  induction steps generalizing s with
  | zero => exact .refl K s
  | succ n ih =>
    unfold advance
    split
    · next t step =>
      have moved := reporting_topStep limit step
      exact moved.trans (ih (limit.of_control moved.control))
    · exact .refl K s

theorem reporting_considerTaking {s : State} (limit : MayTake K s) : Reporting K s (considerTaking s) := by
  have considered := reporting_consider limit
  unfold considerTaking
  dsimp only
  split
  · exact considered
  · exact considered.trans (reporting_advance _ (limit.of_control considered.control))

theorem reporting_sourcesActive (edge : Bool) (plans : List Nat) {s : State} (limit : MayTake K s) : Reporting K s (sourcesActive edge plans s) := by
  have set : Reporting K s (eachOf plans (sourceActive edge) s) := reporting_plansOnly (.eachOf (plansOnly_sourceActive edge) plans s)
  unfold sourcesActive
  dsimp only
  split
  · exact set.trans (reporting_considerTaking (limit.of_control set.control))
  · exact set

theorem reporting_sourcesInactive (plans : List Nat) {s : State} (limit : MayTake K s) : Reporting K s (sourcesInactive plans s) := by
  have set : Reporting K s (eachOf plans (setSource false) s) := reporting_plansOnly (.eachOf (plansOnly_setSource false) plans s)
  unfold sourcesInactive
  dsimp only
  split
  · exact set.trans (reporting_advance _ (limit.of_control set.control))
  · exact set

/-! #### The conditioner -/

theorem reporting_report (c : Nat) (occupied fault : Bool) (time : Time) (s : State) : Reporting K s (report c occupied fault time s) := by
  unfold report
  split
  · exact { reports := ⟨[_], rfl⟩ }
  · exact .refl K s

theorem reporting_setReported (c : Nat) (state : Bool) (time : Time) (s : State) : Reporting K s (setReported c state time s) := { }

theorem reporting_reportChange (c : Nat) (time : Time) (s : State) : Reporting K s (reportChange c time s) := by
  unfold reportChange
  split
  · dsimp only
    split
    · exact .refl K s
    · exact (reporting_setReported c _ time s).trans (reporting_report _ _ _ _ _)
  · exact .refl K s

theorem reporting_raiseDetector {f : DetectorFault} {c : Nat} (is : K f.kind (some c)) (s : State) : Reporting K s (raiseDetector f c s) := by
  unfold raiseDetector
  split
  · split
    · exact .refl K s
    · exact (reporting_changeDetector c (fun x => x.mark true f) s).trans (reporting_note is _)
  · exact .refl K s

theorem reporting_endDetector {f : DetectorFault} {c : Nat} (is : K f.kind (some c)) (s : State) : Reporting K s (endDetector f c s) := by
  unfold endDetector
  split
  · split
    · exact (reporting_changeDetector c (fun x => x.mark false f) s).trans (reporting_reportEnd is _)
    · exact .refl K s
  · exact .refl K s

theorem reporting_setCall (c : Nat) (t : Time) (s : State) : Reporting K s (setCall c t s) := by
  unfold setCall
  dsimp only
  split
  · exact reporting_changeDetector c _ s
  · exact .refl K s

theorem reporting_takeOnset {c : Nat} (stuck : K .detectorStuck (some c)) (idle : K .detectorIdle (some c)) (t : Time) {s : State} (limit : MayTake K s) :
    Reporting K s (takeOnset c t s) := by
  have onset : Reporting K s (changeDetector c (fun d => d.onset (s.tables.detector c) t s.clock.now) s) := reporting_changeDetector c _ s
  have called : ∀ u, Reporting K s u → Reporting K s (if u.inFault c then u else sourcesActive true (u.plansOnDetector c) u) := fun u hu => by
    split
    · exact hu
    · exact hu.trans (reporting_sourcesActive true _ (limit.of_control hu.control))
  have followed : ∀ u, Reporting K s u → Reporting K s (reportChange c t (setCall c t (endDetector .idle c u))) := fun u hu =>
    ((hu.trans (reporting_endDetector idle u)).trans (reporting_setCall c t _)).trans (reporting_reportChange c t _)
  have late : Reporting K s
      (if (decide ((s.tables.detector c).presenceMs ≠ 0) && decide ((s.tables.detector c).presenceMs ≤ (s.clock.now - t).toNat)) = true
        then raiseDetector .stuck c (changeDetector c (fun d => d.onset (s.tables.detector c) t s.clock.now) s)
        else changeDetector c (fun d => d.onset (s.tables.detector c) t s.clock.now) s) := by
    split
    · exact onset.trans (reporting_raiseDetector (f := .stuck) stuck _)
    · exact onset
  exact called _ (followed _ late)

theorem reporting_takeOffset {c : Nat} (stuck : K .detectorStuck (some c)) (t : Time) {s : State} (limit : MayTake K s) :
    Reporting K s (takeOffset c t s) := by
  have told : Reporting K s (reportChange c t (endDetector .stuck c (changeDetector c (fun d => { d with occupied := false, since := t, stuckAt := none }) s))) :=
    ((reporting_changeDetector c _ s).trans (reporting_endDetector stuck _)).trans (reporting_reportChange c t _)
  exact told.trans (reporting_sourcesInactive _ (limit.of_control told.control))

theorem reporting_takeTransition {c : Nat} (stuck : K .detectorStuck (some c)) (idle : K .detectorIdle (some c)) (x : Transition) {s : State}
    (limit : MayTake K s) : Reporting K s (takeTransition c x s) := by
  unfold takeTransition
  split
  · exact reporting_takeOnset stuck idle x.time limit
  · exact reporting_takeOffset stuck x.time limit

theorem reporting_debounce {c : Nat} (stuck : K .detectorStuck (some c)) (idle : K .detectorIdle (some c)) (steps : Nat) {s : State}
    (limit : MayTake K s) : Reporting K s (debounce c steps s) := by
  induction steps generalizing s with
  | zero => exact .refl K s
  | succ n ih =>
    unfold debounce
    split
    · exact .refl K s
    · split
      · exact .refl K s
      · next rest confirmed decided =>
        have shorter : Reporting K s (changeDetector c (fun x => { x with pending := rest }) s) := reporting_changeDetector c _ s
        dsimp only
        split
        · next x =>
          have taken := shorter.trans (reporting_takeTransition stuck idle x (limit.of_control shorter.control))
          exact taken.trans (ih (limit.of_control taken.control))
        · exact shorter.trans (ih (limit.of_control shorter.control))

theorem reporting_resynchronize {c : Nat} (stuck : K .detectorStuck (some c)) (idle : K .detectorIdle (some c)) (e : DsmInput) {s : State}
    (limit : MayTake K s) : Reporting K s (resynchronize c e s) := by
  unfold resynchronize
  split
  · dsimp only
    split
    · exact reporting_changeDetector c _ s
    · exact (reporting_changeDetector c _ s).trans (reporting_takeTransition stuck idle _ limit)
  · exact .refl K s

theorem reporting_takeEntry {c : Nat} (stuck : K .detectorStuck (some c)) (idle : K .detectorIdle (some c)) (e : DsmInput) {s : State}
    (limit : MayTake K s) : Reporting K s (takeEntry c e s) := by
  unfold takeEntry
  split
  · split
    · exact reporting_resynchronize stuck idle e limit
    · exact (reporting_changeDetector c _ s).trans (reporting_debounce stuck idle _ limit)
  · exact .refl K s

theorem reporting_testHealth {c : Nat} (open' : K .detectorOpen (some c)) (short : K .detectorShort (some c)) (health : Health) (s : State) :
    Reporting K s (testHealth c health s) := by
  have noted : Reporting K s (changeDetector c (fun d => { d with health := health }) s) := reporting_changeDetector c _ s
  have dated : ∀ (u : State) (since : Option Time), Reporting K u (changeDetector c (fun d => { d with okSince := since }) u) := fun u since =>
    reporting_changeDetector c _ u
  unfold testHealth
  dsimp only
  split
  · exact (noted.trans (dated _ _)).trans (reporting_raiseDetector open' _)
  · exact (noted.trans (dated _ _)).trans (reporting_raiseDetector short _)
  · split
    · split
      · split
        · exact noted.trans (dated _ _)
        · split
          · exact ((noted.trans (dated _ _)).trans (reporting_endDetector open' _)).trans (reporting_endDetector short _)
          · exact noted
      · exact noted
    · exact noted

theorem reporting_testChatter {c : Nat} (chatter : K .detectorChatter (some c)) (s : State) : Reporting K s (testChatter c s) := by
  unfold testChatter
  dsimp only
  repeat' split
  · exact .refl K s
  · exact reporting_raiseDetector chatter s
  · exact reporting_endDetector chatter s
  · exact .refl K s

/-- The five kinds that a channel's faults are reported with (R145). -/
def OfChannel (c : Nat) (kind : FaultKind) (subject : Option Nat) : Prop := subject = some c ∧ ∃ f : DetectorFault, kind = f.kind

theorem reporting_takeInput (inputs : List DsmInput) {c : Nat} (all : ∀ f : DetectorFault, K f.kind (some c)) {s : State} (limit : MayTake K s) :
    Reporting K s (takeInput inputs c s) := by
  unfold takeInput
  split
  · exact ((reporting_takeEntry (all .stuck) (all .idle) _ limit).trans (reporting_testHealth (all .openCircuit) (all .shortCircuit) _ _)).trans
      (reporting_testChatter (all .chatter) _)
  · exact .refl K s

theorem reporting_enterFault (c : Nat) (d : Detector) {s : State} (limit : MayTake K s) : Reporting K s (enterFault c d s) := by
  have told := ((reporting_changeDetector (K := K) c (fun x => { x with inFault := true }) s).trans
    (reporting_setReported c (faultState (s.tables.detector c) d) s.clock.now _)).trans
    (reporting_report c (faultState (s.tables.detector c) d) true s.clock.now _)
  exact told.trans (reporting_sourcesInactive _ (limit.of_control told.control))

theorem reporting_leaveFault (c : Nat) (d : Detector) {s : State} (limit : MayTake K s) : Reporting K s (leaveFault c d s) := by
  have left : Reporting K s (changeDetector c (fun x => { x with inFault := false }) s) := reporting_changeDetector c _ s
  have told : ∀ u state, Reporting K s u → Reporting K s (report c state false s.clock.now (setReported c state s.clock.now u)) := fun u state hu =>
    (hu.trans (reporting_setReported _ _ _ _)).trans (reporting_report _ _ _ _ _)
  unfold leaveFault
  dsimp only
  split
  · have all := told _ (((setCall c s.clock.now (changeDetector c (fun x => { x with inFault := false }) s)).detector c).any
      (fun x => x.plain ((setCall c s.clock.now (changeDetector c (fun x => { x with inFault := false }) s)).tables.detector c)))
      (left.trans (reporting_setCall c s.clock.now _))
    exact all.trans (reporting_sourcesActive false _ (limit.of_control all.control))
  · exact told _ _ left

theorem reporting_decideFault (c : Nat) {s : State} (limit : MayTake K s) : Reporting K s (decideFault c s) := by
  unfold decideFault
  repeat' split
  · exact reporting_enterFault c _ limit
  · exact reporting_leaveFault c _ limit
  · exact .refl K s
  · exact .refl K s

/-- A pass over some channels, of operations that the mode may let take plans. -/
theorem Reporting.pass {α : Type} {f : α → State → State} {l : List α} (each : ∀ x ∈ l, ∀ s, MayTake K s → Reporting K s (f x s)) {s : State}
    (limit : MayTake K s) : Reporting K s (Machine.eachOf l f s) := by
  induction l generalizing s with
  | nil => exact .refl K s
  | cons x l ih =>
    have first := each x (List.mem_cons_self ..) s limit
    exact first.trans (ih (fun y member => each y (List.mem_cons_of_mem _ member)) (limit.of_control first.control))

theorem reporting_takeSample (station : Nat) (inputs : List DsmInput) {s : State} (all : ∀ c ∈ s.channelsOf station, ∀ f : DetectorFault, K f.kind (some c))
    (limit : MayTake K s) : Reporting K s (takeSample station inputs s) := by
  have taken : Reporting K s (eachOf (s.channelsOf station) (takeInput inputs) s) :=
    .pass (fun c member t limit => reporting_takeInput inputs (all c member) limit) limit
  exact taken.trans (.pass (fun c _ t limit => reporting_decideFault c limit) (limit.of_control taken.control))

theorem reporting_stationLost (station : Nat) {s : State} (limit : MayTake K s) : Reporting K s (stationLost station s) := by
  have lost : Reporting K s (eachOf (s.channelsOf station)
      (fun c => changeDetector c (fun d => { d with stationAbsent := true, pending := [], raw := none, resync := true, okSince := none })) s) :=
    .eachOf (fun c _ t => reporting_changeDetector c _ t) s
  exact lost.trans (.pass (fun c _ t limit => reporting_decideFault c limit) (limit.of_control lost.control))

theorem reporting_stationBack (station : Nat) (s : State) : Reporting K s (stationBack station s) :=
  .eachOf (fun c _ t => reporting_changeDetector c _ t) s

end Sys2Proof.Machine

/-! ### The record of a detector channel (08, section 8.2): what each operation makes of it, and that it leaves the others -/

namespace Sys2Proof.Machine

open Sys2Proof.Safety

/-! #### Other channels -/

/-- The records of all channels but one are as they were. -/
def OnlyChannel (c : Nat) (s t : State) : Prop := ∀ n, n ≠ c → t.detector n = s.detector n

theorem OnlyChannel.refl (c : Nat) (s : State) : OnlyChannel c s s := fun _ _ => rfl

theorem OnlyChannel.trans {c : Nat} {s t u : State} (first : OnlyChannel c s t) (second : OnlyChannel c t u) : OnlyChannel c s u :=
  fun n other => (second n other).trans (first n other)

theorem onlyChannel_of_detectors {c : Nat} {s t : State} (same : t.detectors = s.detectors) : OnlyChannel c s t := fun n _ => detector_congr same n

theorem detectors_sourcesActive (edge : Bool) (plans : List Nat) (s : State) : (sourcesActive edge plans s).detectors = s.detectors := by simp

theorem detectors_sourcesInactive (plans : List Nat) (s : State) : (sourcesInactive plans s).detectors = s.detectors := by simp

theorem onlyChannel_changeDetector (c : Nat) (f : Detector → Detector) (s : State) : OnlyChannel c s (changeDetector c f s) :=
  fun _ other => detector_changeDetector_other other f s

theorem onlyChannel_report (c : Nat) (occupied fault : Bool) (time : Time) (s : State) : OnlyChannel c s (report c occupied fault time s) := by
  unfold report
  split
  · exact .trans (t := { s with event.reports := s.event.reports ++ [_] }) (onlyChannel_of_detectors rfl) (onlyChannel_changeDetector c _ _)
  · exact .refl c s

theorem onlyChannel_reportChange (c : Nat) (time : Time) (s : State) : OnlyChannel c s (reportChange c time s) := by
  unfold reportChange
  split
  · dsimp only
    split
    · exact .refl c s
    · exact (onlyChannel_changeDetector c _ s).trans (onlyChannel_report _ _ _ _ _)
  · exact .refl c s

theorem onlyChannel_raiseDetector (f : DetectorFault) (c : Nat) (s : State) : OnlyChannel c s (raiseDetector f c s) := by
  unfold raiseDetector
  split
  · split
    · exact .refl c s
    · exact (onlyChannel_changeDetector c (fun x => x.mark true f) s).trans (onlyChannel_of_detectors (note_detectors _ _))
  · exact .refl c s

theorem onlyChannel_endDetector (f : DetectorFault) (c : Nat) (s : State) : OnlyChannel c s (endDetector f c s) := by
  unfold endDetector
  split
  · split
    · exact (onlyChannel_changeDetector c (fun x => x.mark false f) s).trans (onlyChannel_of_detectors (by simp))
    · exact .refl c s
  · exact .refl c s

theorem onlyChannel_setCall (c : Nat) (t : Time) (s : State) : OnlyChannel c s (setCall c t s) := by
  unfold setCall
  dsimp only
  split
  · exact onlyChannel_changeDetector c _ s
  · exact .refl c s

theorem onlyChannel_takeOnset (c : Nat) (t : Time) (s : State) : OnlyChannel c s (takeOnset c t s) := by
  have onset : OnlyChannel c s (changeDetector c (fun d => d.onset (s.tables.detector c) t s.clock.now) s) := onlyChannel_changeDetector c _ s
  have called : ∀ u, OnlyChannel c s u → OnlyChannel c s (if u.inFault c then u else sourcesActive true (u.plansOnDetector c) u) := fun u hu => by
    split
    · exact hu
    · exact hu.trans (onlyChannel_of_detectors (by simp))
  have followed : ∀ u, OnlyChannel c s u → OnlyChannel c s (reportChange c t (setCall c t (endDetector .idle c u))) := fun u hu =>
    ((hu.trans (onlyChannel_endDetector .idle c u)).trans (onlyChannel_setCall c t _)).trans (onlyChannel_reportChange c t _)
  have late : OnlyChannel c s
      (if (decide ((s.tables.detector c).presenceMs ≠ 0) && decide ((s.tables.detector c).presenceMs ≤ (s.clock.now - t).toNat)) = true
        then raiseDetector .stuck c (changeDetector c (fun d => d.onset (s.tables.detector c) t s.clock.now) s)
        else changeDetector c (fun d => d.onset (s.tables.detector c) t s.clock.now) s) := by
    split
    · exact onset.trans (onlyChannel_raiseDetector .stuck c _)
    · exact onset
  exact called _ (followed _ late)

theorem onlyChannel_takeOffset (c : Nat) (t : Time) (s : State) : OnlyChannel c s (takeOffset c t s) := by
  unfold takeOffset
  exact (((onlyChannel_changeDetector c _ s).trans (onlyChannel_endDetector .stuck c _)).trans (onlyChannel_reportChange c t _)).trans
    (onlyChannel_of_detectors (detectors_sourcesInactive _ _))

theorem onlyChannel_takeTransition (c : Nat) (x : Transition) (s : State) : OnlyChannel c s (takeTransition c x s) := by
  unfold takeTransition
  split
  · exact onlyChannel_takeOnset c _ s
  · exact onlyChannel_takeOffset c _ s

theorem onlyChannel_debounce (c steps : Nat) (s : State) : OnlyChannel c s (debounce c steps s) := by
  induction steps generalizing s with
  | zero => exact .refl c s
  | succ n ih =>
    unfold debounce
    split
    · exact .refl c s
    · split
      · exact .refl c s
      · dsimp only
        split
        · exact ((onlyChannel_changeDetector c _ s).trans (onlyChannel_takeTransition c _ _)).trans (ih _)
        · exact (onlyChannel_changeDetector c _ s).trans (ih _)

theorem onlyChannel_takeEntry (c : Nat) (e : DsmInput) (s : State) : OnlyChannel c s (takeEntry c e s) := by
  have resynchronized : OnlyChannel c s (resynchronize c e s) := by
    unfold resynchronize
    split
    · dsimp only
      split
      · exact onlyChannel_changeDetector c _ s
      · exact (onlyChannel_changeDetector c _ s).trans (onlyChannel_takeTransition c _ _)
    · exact .refl c s
  unfold takeEntry
  split
  · split
    · exact resynchronized
    · exact (onlyChannel_changeDetector c _ s).trans (onlyChannel_debounce c _ _)
  · exact .refl c s

theorem onlyChannel_testHealth (c : Nat) (health : Health) (s : State) : OnlyChannel c s (testHealth c health s) := by
  have noted : OnlyChannel c s (changeDetector c (fun d => { d with health := health }) s) := onlyChannel_changeDetector c _ s
  have dated : ∀ (u : State) (since : Option Time), OnlyChannel c u (changeDetector c (fun d => { d with okSince := since }) u) := fun u since =>
    onlyChannel_changeDetector c _ u
  unfold testHealth
  dsimp only
  split
  · exact (noted.trans (dated _ _)).trans (onlyChannel_raiseDetector _ c _)
  · exact (noted.trans (dated _ _)).trans (onlyChannel_raiseDetector _ c _)
  · split
    · split
      · split
        · exact noted.trans (dated _ _)
        · split
          · exact ((noted.trans (dated _ _)).trans (onlyChannel_endDetector _ c _)).trans (onlyChannel_endDetector _ c _)
          · exact noted
      · exact noted
    · exact noted

theorem onlyChannel_testChatter (c : Nat) (s : State) : OnlyChannel c s (testChatter c s) := by
  unfold testChatter
  dsimp only
  repeat' split
  · exact .refl c s
  · exact onlyChannel_raiseDetector _ c s
  · exact onlyChannel_endDetector _ c s
  · exact .refl c s

theorem onlyChannel_takeInput (inputs : List DsmInput) (c : Nat) (s : State) : OnlyChannel c s (takeInput inputs c s) := by
  unfold takeInput
  split
  · exact ((onlyChannel_takeEntry c _ s).trans (onlyChannel_testHealth c _ _)).trans (onlyChannel_testChatter c _)
  · exact .refl c s

theorem onlyChannel_decideFault (c : Nat) (s : State) : OnlyChannel c s (decideFault c s) := by
  have told : ∀ u state, OnlyChannel c s u → OnlyChannel c s (report c state false s.clock.now (setReported c state s.clock.now u)) := fun u state hu =>
    (hu.trans (onlyChannel_changeDetector c _ _)).trans (onlyChannel_report _ _ _ _ _)
  have left : ∀ d, OnlyChannel c s (leaveFault c d s) := fun d => by
    unfold leaveFault
    dsimp only
    split
    · exact (told _ _ ((onlyChannel_changeDetector c _ s).trans (onlyChannel_setCall c _ _))).trans
        (onlyChannel_of_detectors (detectors_sourcesActive _ _ _))
    · exact told _ _ (onlyChannel_changeDetector c _ s)
  have entered : ∀ d, OnlyChannel c s (enterFault c d s) := fun d => by
    unfold enterFault setReported
    exact (((onlyChannel_changeDetector c _ s).trans (onlyChannel_changeDetector c _ _)).trans (onlyChannel_report c _ true s.clock.now _)).trans
      (onlyChannel_of_detectors (detectors_sourcesInactive _ _))
  unfold decideFault
  repeat' split
  · exact entered _
  · exact left _
  · exact .refl c s
  · exact .refl c s

/-! #### The channel's own record -/

theorem mark_of_has {d : Detector} {active : Bool} {f : DetectorFault} (is : d.has f = active) : d.mark active f = d := by
  cases f <;> (cases d; simp_all [Detector.has, Detector.mark])

theorem raiseDetector_record {f : DetectorFault} {c : Nat} {s : State} {d : Detector} (has : s.detector c = some d) :
    (raiseDetector f c s).detector c = some (d.mark true f) := by
  cases is : d.has f with
  | false =>
    rw [raiseDetector_new has is, detector_congr (note_detectors _ _)]
    exact detector_changeDetector_same has _
  | true =>
    rw [mark_of_has is]
    unfold raiseDetector
    rw [has]
    simp only [is, if_true, has]

theorem endDetector_record {f : DetectorFault} {c : Nat} {s : State} {d : Detector} (has : s.detector c = some d) :
    (endDetector f c s).detector c = some (d.mark false f) := by
  unfold endDetector
  rw [has]
  dsimp only
  split
  · rw [detector_congr (s := changeDetector c (fun x => x.mark false f) s) (by simp)]
    exact detector_changeDetector_same has _
  · next no => rw [mark_of_has (Bool.eq_false_iff.mpr no), has]

theorem setCall_record {c : Nat} {t : Time} {s : State} {d : Detector} (has : s.detector c = some d) :
    (setCall c t s).detector c = some
      (if (s.tables.detector c).demand && decide (s.shown (s.tables.detector c).served.toNat ≠ .go) && !d.inFault then { d with call := some t } else d) := by
  unfold setCall
  dsimp only
  generalize ((s.tables.detector c).demand && decide (s.shown (s.tables.detector c).served.toNat ≠ .go)) = may
  cases may with
  | true =>
    refine (detector_changeDetector_same has _).trans ?_
    cases d.inFault <;> rfl
  | false => exact has

/-- The record after a change of the reported state has been told (R151). -/
def Detector.told (r : DetectorRec) (t : Time) (d : Detector) : Detector :=
  if d.inFault || d.reported == d.plain r then d else d.reporting (d.plain r) false t t

theorem reportChange_record {c : Nat} {t : Time} {s : State} {d : Detector} (has : s.detector c = some d) :
    (reportChange c t s).detector c = some (d.told (s.tables.detector c) t) := by
  unfold reportChange Detector.told
  rw [has]
  dsimp only
  split
  · exact has
  · rw [report_eq has]
    exact detector_changeDetector_same has _

theorem told_fields (r : DetectorRec) (t : Time) (d : Detector) :
    d.told r t = { d with reported := (d.told r t).reported, reportedSince := (d.told r t).reportedSince, lastDet := (d.told r t).lastDet } := by
  unfold Detector.told Detector.reporting
  repeat' split
  all_goals rfl

/-- The record after a conditioned onset (R143, R147, R148, R150); `free` is that the served group is not shown GO. -/
def Detector.onsetTaken (r : DetectorRec) (free : Bool) (t now : Time) (d : Detector) : Detector :=
  let onset := d.onset r t now
  let late := decide (r.presenceMs ≠ 0) && decide (r.presenceMs ≤ (now - t).toNat)
  let judged := (if late then onset.mark true .stuck else onset).mark false .idle
  (if r.demand && free && !judged.inFault then { judged with call := some t } else judged).told r t

theorem takeOnset_record {c : Nat} {t : Time} {s : State} {d : Detector} (has : s.detector c = some d) :
    (takeOnset c t s).detector c
      = some (d.onsetTaken (s.tables.detector c) (decide (s.shown (s.tables.detector c).served.toNat ≠ .go)) t s.clock.now) := by
  have onset := detector_changeDetector_same has (fun d => d.onset (s.tables.detector c) t s.clock.now)
  have called : ∀ (u : State) (d' : Detector), u.detector c = some d' →
      (if u.inFault c then u else sourcesActive true (u.plansOnDetector c) u).detector c = some d' := fun u d' hu => by
    split
    · exact hu
    · exact (detector_congr (by simp) c).trans hu
  have followed : ∀ (u : State) (d' : Detector), u.detector c = some d' → u.store = s.store → u.engine = s.engine →
      (reportChange c t (setCall c t (endDetector .idle c u))).detector c
        = some ((if (s.tables.detector c).demand && decide (s.shown (s.tables.detector c).served.toNat ≠ .go) && !(d'.mark false .idle).inFault
          then { d'.mark false .idle with call := some t } else d'.mark false .idle).told (s.tables.detector c) t) := fun u d' hu store engine => by
    have tables : u.tables = s.tables := tables_congr (by rw [store])
    have shown : ∀ g, u.shown g = s.shown g := fun g => by unfold State.shown State.group; rw [engine]
    have ended := endDetector_record (f := .idle) hu
    have tables' : (endDetector .idle c u).tables = s.tables := (tables_congr (by simp)).trans tables
    have shown' : ∀ g, (endDetector .idle c u).shown g = s.shown g := fun g => by
      rw [← shown]; unfold State.shown State.group; simp
    have set := setCall_record (t := t) ended
    rw [tables', shown'] at set
    have told := reportChange_record (t := t) set
    rwa [show (setCall c t (endDetector .idle c u)).tables = s.tables from (tables_congr (by simp)).trans tables'] at told
  have late : (if (decide ((s.tables.detector c).presenceMs ≠ 0) && decide ((s.tables.detector c).presenceMs ≤ (s.clock.now - t).toNat)) = true
        then raiseDetector .stuck c (changeDetector c (fun d => d.onset (s.tables.detector c) t s.clock.now) s)
        else changeDetector c (fun d => d.onset (s.tables.detector c) t s.clock.now) s).detector c
      = some (if (decide ((s.tables.detector c).presenceMs ≠ 0) && decide ((s.tables.detector c).presenceMs ≤ (s.clock.now - t).toNat)) = true
        then (d.onset (s.tables.detector c) t s.clock.now).mark true .stuck else d.onset (s.tables.detector c) t s.clock.now) := by
    split
    · exact raiseDetector_record onset
    · exact onset
  refine called _ _ (followed _ _ late ?_ ?_)
  · split <;> simp
  · split <;> simp

/-- The record after a conditioned offset (R143, R147). -/
def Detector.offsetTaken (r : DetectorRec) (t : Time) (d : Detector) : Detector :=
  ({ d with occupied := false, since := t, stuckAt := none }.mark false .stuck).told r t

theorem takeOffset_record {c : Nat} {t : Time} {s : State} {d : Detector} (has : s.detector c = some d) :
    (takeOffset c t s).detector c = some (d.offsetTaken (s.tables.detector c) t) := by
  have offset := detector_changeDetector_same has (fun d => { d with occupied := false, since := t, stuckAt := none })
  have told := reportChange_record (t := t) (endDetector_record (f := .stuck) offset)
  rw [show (endDetector .stuck c (changeDetector c (fun d => { d with occupied := false, since := t, stuckAt := none }) s)).tables = s.tables from
    tables_congr (by simp)] at told
  unfold takeOffset
  dsimp only
  exact (detector_congr (by simp) c).trans told

/-- The record after a conditioned transition (R143). -/
def Detector.taken (r : DetectorRec) (free : Bool) (now : Time) (x : Transition) (d : Detector) : Detector :=
  if x.onset then d.onsetTaken r free x.time now else d.offsetTaken r x.time

theorem takeTransition_record {c : Nat} {x : Transition} {s : State} {d : Detector} (has : s.detector c = some d) :
    (takeTransition c x s).detector c
      = some (d.taken (s.tables.detector c) (decide (s.shown (s.tables.detector c).served.toNat ≠ .go)) s.clock.now x) := by
  unfold takeTransition Detector.taken
  split
  · exact takeOnset_record has
  · exact takeOffset_record has

/-- What a conditioned transition leaves of a record. -/
structure Detector.Transited (d d' : Detector) : Prop where
  raw : d'.raw = d.raw
  pending : d'.pending = d.pending
  resync : d'.resync = d.resync
  health : d'.health = d.health
  okSince : d'.okSince = d.okSince
  openFault : d'.openFault = d.openFault
  shortFault : d'.shortFault = d.shortFault
  chatterFault : d'.chatterFault = d.chatterFault
  stationAbsent : d'.stationAbsent = d.stationAbsent
  inFault : d'.inFault = d.inFault

theorem told_transited (r : DetectorRec) (t : Time) (d : Detector) : d.Transited (d.told r t) := by
  rw [told_fields]
  exact ⟨rfl, rfl, rfl, rfl, rfl, rfl, rfl, rfl, rfl, rfl⟩

theorem Detector.Transited.trans {a b c : Detector} (first : a.Transited b) (second : b.Transited c) : a.Transited c :=
  ⟨second.raw.trans first.raw, second.pending.trans first.pending, second.resync.trans first.resync, second.health.trans first.health,
    second.okSince.trans first.okSince, second.openFault.trans first.openFault, second.shortFault.trans first.shortFault,
    second.chatterFault.trans first.chatterFault, second.stationAbsent.trans first.stationAbsent, second.inFault.trans first.inFault⟩

theorem onsetTaken_transited (r : DetectorRec) (free : Bool) (t now : Time) (d : Detector) : d.Transited (d.onsetTaken r free t now) := by
  unfold Detector.onsetTaken
  dsimp only
  refine .trans ?_ (told_transited r t _)
  repeat' split
  all_goals exact ⟨rfl, rfl, rfl, rfl, rfl, rfl, rfl, rfl, rfl, rfl⟩

theorem offsetTaken_transited (r : DetectorRec) (t : Time) (d : Detector) : d.Transited (d.offsetTaken r t) := by
  unfold Detector.offsetTaken
  refine .trans (b := { d with occupied := false, since := t, stuckAt := none }.mark false .stuck) ?_ (told_transited r t _)
  exact ⟨rfl, rfl, rfl, rfl, rfl, rfl, rfl, rfl, rfl, rfl⟩

theorem taken_transited (r : DetectorRec) (free : Bool) (now : Time) (x : Transition) (d : Detector) : d.Transited (d.taken r free now x) := by
  unfold Detector.taken
  split
  · exact onsetTaken_transited r free _ now d
  · exact offsetTaken_transited r _ d

theorem taken_state (r : DetectorRec) (free : Bool) (now : Time) (x : Transition) (d : Detector) :
    (d.taken r free now x).occupied = x.onset ∧ (d.taken r free now x).since = x.time := by
  unfold Detector.taken
  cases x.onset with
  | true =>
    simp only [if_true]
    unfold Detector.onsetTaken
    dsimp only
    rw [told_fields]
    dsimp only
    repeat' split
    all_goals exact ⟨rfl, rfl⟩
  | false =>
    simp only [Bool.false_eq_true, if_false]
    unfold Detector.offsetTaken
    rw [told_fields]
    exact ⟨rfl, rfl⟩

/-! #### The tests and the decision about fault -/

/-- The record after the health test (R146). -/
def Detector.healthTaken (health : Health) (now : Time) (d : Detector) : Detector :=
  let d := { d with health := health }
  match health with
  | .openCircuit => { d with okSince := none }.mark true .openCircuit
  | .shortCircuit => { d with okSince := none }.mark true .shortCircuit
  | .ok =>
    if d.openFault || d.shortFault then
      match d.okSince with
      | none => { d with okSince := some now }
      | some since =>
        if 10000 ≤ (now - since).toNat then ({ d with okSince := none }.mark false .openCircuit).mark false .shortCircuit else d
    else d

theorem testHealth_record {c : Nat} {health : Health} {s : State} {d : Detector} (has : s.detector c = some d) :
    (testHealth c health s).detector c = some (d.healthTaken health s.clock.now) := by
  have noted := detector_changeDetector_same has (fun d => { d with health := health })
  unfold testHealth Detector.healthTaken
  dsimp only
  cases health with
  | openCircuit => exact raiseDetector_record (detector_changeDetector_same noted _)
  | shortCircuit => exact raiseDetector_record (detector_changeDetector_same noted _)
  | ok =>
    dsimp only
    rw [noted]
    dsimp only
    split
    · revert noted
      cases d.okSince with
      | none => exact fun noted => detector_changeDetector_same noted _
      | some since =>
        intro noted
        dsimp only
        have now : (changeDetector c (fun d => { d with health := Health.ok }) s).clock.now = s.clock.now := rfl
        rw [now]
        split
        · exact endDetector_record (endDetector_record (detector_changeDetector_same noted _))
        · exact noted
    · exact noted

/-- More onsets stand within the last minute than the chatter limit allows (R148). -/
def Detector.chatters (r : DetectorRec) (now : Time) (d : Detector) : Bool :=
  decide (r.chatterLimit.toNat < (d.onsets.filter (fun u => decide ((now - u).toNat < 60000))).length)

/-- The record after the chatter test (R148). -/
def Detector.chatterTaken (r : DetectorRec) (now : Time) (d : Detector) : Detector :=
  if r.chatterLimit.toNat = 0 then d else d.mark (d.chatters r now) .chatter

theorem testChatter_record {c : Nat} {s : State} {d : Detector} (has : s.detector c = some d) :
    (testChatter c s).detector c = some (d.chatterTaken (s.tables.detector c) s.clock.now) := by
  unfold testChatter Detector.chatterTaken Detector.chatters
  rw [has]
  dsimp only
  split
  · exact has
  · split
    · next many => rw [decide_eq_true many]; exact raiseDetector_record has
    · next few => rw [decide_eq_false few]; exact endDetector_record has

/-- The record after the decision about fault (R149): in fault as its faults say, and the rest but the reported state and the call as it was. -/
theorem decideFault_record {c : Nat} {s : State} {d : Detector} (has : s.detector c = some d) :
    ∃ d' : Detector, (decideFault c s).detector c = some d'
      ∧ d' = { d with
        inFault := d.faulty, reported := d'.reported, reportedSince := d'.reportedSince, lastDet := d'.lastDet, call := d'.call }
      ∧ (d.faulty = d.inFault → d' = d) := by
  by_cases same : d.faulty = d.inFault
  · refine ⟨d, ?_, ?_, fun _ => rfl⟩
    · rw [decideFault_stays has same.symm, has]
    · rw [same]
  cases faulty : d.faulty with
  | true =>
    have out : d.inFault = false := by
      cases is : d.inFault with
      | false => rfl
      | true => exact absurd (faulty.trans is.symm) same
    have entered := detector_changeDetector_same has (fun x => { x with inFault := true })
    have told := report_eq entered (faultState (s.tables.detector c) d) true s.clock.now
    refine ⟨{ d with inFault := true }.reporting (faultState (s.tables.detector c) d) true s.clock.now s.clock.now, ?_, ?_, fun is => ?_⟩
    · rw [decideFault_enters has faulty out]
      unfold enterFault
      dsimp only
      refine (detector_congr (detectors_sourcesInactive _ _) c).trans ?_
      rw [told]
      exact detector_changeDetector_same entered _
    · unfold Detector.reporting
      split <;> rfl
    · rw [out] at is; exact nomatch is
  | false =>
    have in' : d.inFault = true := by
      cases is : d.inFault with
      | true => rfl
      | false => exact absurd (faulty.trans is.symm) same
    have left := detector_changeDetector_same has (fun x => { x with inFault := false })
    have told : ∀ (u : State) (x : Detector) (state : Bool), u.detector c = some x →
        (report c state false s.clock.now (setReported c state s.clock.now u)).detector c = some (x.reporting state false s.clock.now s.clock.now) :=
      fun u x state hu => by
        rw [report_eq hu]
        exact detector_changeDetector_same hu _
    rw [decideFault_leaves has faulty in']
    unfold leaveFault
    dsimp only
    by_cases occupied : d.occupied = true
    · simp only [if_pos occupied]
      obtain ⟨call, set⟩ : ∃ call, (setCall c s.clock.now (changeDetector c (fun x => { x with inFault := false }) s)).detector c
          = some { d with inFault := false, call := call } := by
        rw [setCall_record (t := s.clock.now) left]
        split <;> exact ⟨_, rfl⟩
      have record := told _ _ (((setCall c s.clock.now (changeDetector c (fun x => { x with inFault := false }) s)).detector c).any
        (fun x => x.plain ((setCall c s.clock.now (changeDetector c (fun x => { x with inFault := false }) s)).tables.detector c))) set
      refine ⟨_, (detector_congr (detectors_sourcesActive _ _ _) c).trans record, ?_, fun is => ?_⟩
      · unfold Detector.reporting
        split <;> rfl
      · rw [in'] at is; exact nomatch is
    · simp only [if_neg occupied]
      refine ⟨_, told _ _ _ left, ?_, fun is => ?_⟩
      · unfold Detector.reporting
        split <;> rfl
      · rw [in'] at is; exact nomatch is

end Sys2Proof.Machine

/-! ### The answers of the stations, at rest (R115, R117, R118, R144) -/

namespace Sys2Proof.Machine

open Sys2Proof.Safety

variable {K : FaultKind → Option Nat → Prop}

/-! #### Liveness records -/

/-- The record of a station is found where it was, changed. -/
theorem record_map {l : List Liveness} {station : Nat} {x : Liveness} {f : Liveness → Liveness} (same : ∀ y, (f y).station = y.station)
    (found : l.find? (fun y => decide (y.station = station)) = some x) :
    (l.map f).find? (fun y => decide (y.station = station)) = some (f x) := by
  rw [List.find?_map]
  have keeps : (fun y : Liveness => decide (y.station = station)) ∘ f = fun y => decide (y.station = station) := by
    funext y
    simp only [Function.comp, same]
  rw [keeps, found]
  rfl

theorem record_changeLiveness {br : BranchId} {station : Nat} {f : Liveness → Liveness} {s : State} {l : Liveness} (four : s.branches.length = 4)
    (same : ∀ y, (f y).station = y.station) (found : (s.branch br).record station = some l) :
    ((changeLiveness br station f s).branch br).record station = some (f l) := by
  have is : l.station = station := by simpa using List.find?_some found
  unfold changeLiveness
  rw [branch_changeBranch_same four]
  refine (record_map (fun y => ?_) found).trans (by simp [is])
  split
  · exact same y
  · rfl

theorem awaited_changeLiveness {br : BranchId} {station : Nat} {f : Liveness → Liveness} {s : State} (four : s.branches.length = 4) :
    ((changeLiveness br station f s).branch br).awaited = (s.branch br).awaited := by
  unfold changeLiveness
  rw [branch_changeBranch_same four]

theorem length_changeEntry {α : Type} (l : List α) (n : Nat) (f : α → α) : (changeEntry l n f).length = l.length := by
  unfold changeEntry
  split <;> simp

/-- What the arbitration of a branch leaves of a liveness record: all but that a due re-poll may have been begun. -/
theorem record_arbitrate {b : Branch} {station : Nat} {l : Liveness} (found : b.record station = some l) :
    ∃ due, b.arbitrate.record station = some { l with repollDue := due } := by
  have kept : ∀ b' : Branch, b'.liveness = b.liveness → ∃ due, b'.record station = some { l with repollDue := due } := fun b' same =>
    ⟨l.repollDue, by unfold Branch.record at found ⊢; rw [same]; exact found⟩
  have begun : ∀ n : Nat, ∃ due, (b.liveness.map (fun y => if y.station = n then { y with repollDue := false } else y)).find?
      (fun y => decide (y.station = station)) = some { l with repollDue := due } := fun n => by
    rw [record_map (fun y => by split <;> rfl) found]
    split <;> exact ⟨_, rfl⟩
  have forward : ∃ due, b.startForward.record station = some { l with repollDue := due } := by
    unfold Branch.startForward
    split <;> exact kept _ rfl
  unfold Branch.arbitrate
  split
  · unfold Branch.startNext
    split
    · exact kept _ rfl
    · split
      · exact kept _ rfl
      · split
        · exact forward
        · split
          · unfold Branch.startPoll
            split
            · exact begun _
            · exact kept _ rfl
          · exact forward
  · exact kept _ rfl

/-! #### The branch of an answer -/

theorem reporting_branches {s t : State} (branches : ∃ b, t = { s with branches := b }) : Reporting K s t := by
  obtain ⟨b, rfl⟩ := branches
  exact { }

theorem reporting_changeBranch (br : BranchId) (f : Branch → Branch) (s : State) : Reporting K s (changeBranch br f s) := { }

theorem reporting_changeLiveness (br : BranchId) (station : Nat) (f : Liveness → Liveness) (s : State) :
    Reporting K s (changeLiveness br station f s) := { }

theorem branch_congr {s t : State} (same : t.branches = s.branches) (br : BranchId) : t.branch br = s.branch br := by
  unfold State.branch
  rw [same]

/-- What the receipt of an answer does to the record of the station (R115, R117). -/
def Liveness.answered (l : Liveness) : Liveness :=
  { l with timeouts := 0, present := true, repoll := if l.present then l.repoll else none, repollDue := l.repollDue && l.present }

theorem absent_of_record {s : State} {br : BranchId} {station : Nat} {l : Liveness} (found : (s.branch br).record station = some l) :
    s.absent br station = !l.present := by
  unfold State.absent
  rw [found]
  rfl

/-- The receipt of an answer (R115, R117): the wait ends, the record is that of a PRESENT station, and STATION_ABSENT ends. -/
theorem pollAnswered_eq {br : BranchId} {station : Nat} {s : State} {l : Liveness} (four : s.branches.length = 4)
    (found : (s.branch br).record station = some l) :
    (pollAnswered br station s).branches.length = 4 ∧ ((pollAnswered br station s).branch br).awaited = none
      ∧ ((pollAnswered br station s).branch br).record station = some l.answered
      ∧ ((pollAnswered br station s).branch br).lastApply = (s.branch br).lastApply
      ∧ (l.present = true → (pollAnswered br station s).faults = s.faults ∧ (pollAnswered br station s).link = s.link)
      ∧ (l.present = false → s.faults.Well → notActive (pollAnswered br station s) .stationAbsent (some station)) := by
  have answered : ∀ f : Liveness → Liveness, (∀ y, (f y).station = y.station) → f l = l.answered →
      ((changeLiveness br station f (changeBranch br (fun b => { b with awaited := none }) s)).branch br).record station = some l.answered :=
    fun f same is => is ▸ record_changeLiveness (by exact (length_changeEntry _ _ _).trans four) same
      (by rw [branch_changeBranch_same four]; exact found)
  have ended : ∀ f : Liveness → Liveness,
      ((changeLiveness br station f (changeBranch br (fun b => { b with awaited := none }) s)).branch br).awaited = none := fun f => by
    rw [awaited_changeLiveness (by exact (length_changeEntry _ _ _).trans four), branch_changeBranch_same four]
  have length : ∀ f : Liveness → Liveness,
      (changeLiveness br station f (changeBranch br (fun b => { b with awaited := none }) s)).branches.length = 4 := fun f =>
    (length_changeEntry _ _ _).trans ((length_changeEntry _ _ _).trans four)
  have applied := pollAnswered_lastApply br br station s
  unfold pollAnswered at applied ⊢
  rw [absent_of_record found] at applied ⊢
  dsimp only at applied ⊢
  cases present : l.present with
  | true =>
    simp only [present, Bool.not_true, Bool.false_eq_true, if_false] at applied ⊢
    exact ⟨length _, ended _, answered _ (by exact fun _ => rfl) (by simp [Liveness.answered, present]), applied, fun _ => ⟨rfl, rfl⟩, nofun⟩
  | false =>
    simp only [present, Bool.not_false, if_true] at applied ⊢
    have same : ∀ u : State, (reportEnd .stationAbsent (some station) u).branches = u.branches := fun u => by simp
    simp only [same, branch_congr (same _)] at applied ⊢
    exact ⟨length _, ended _, answered _ (by exact fun _ => rfl) (by simp [Liveness.answered, present]), applied, nofun,
      fun _ well => reportEnd_notActive _ _ (by exact well)⟩

theorem reporting_pollAnswered {br : BranchId} {station : Nat} (absent : K .stationAbsent (some station)) (s : State) :
    Reporting K s (pollAnswered br station s) := by
  unfold pollAnswered
  dsimp only
  split
  · exact ((reporting_changeBranch br _ s).trans (reporting_changeLiveness br station _ _)).trans (reporting_reportEnd absent _)
  · exact (reporting_changeBranch br _ s).trans (reporting_changeLiveness br station _ _)

/-! #### Lag (R118) -/

/-- A report with the action FLASH moves no mode in a flash mode (R54). -/
theorem raise_flash_rest {r : Raise} (action : r.action = .flash) {s : State} (mode : s.control.mode.permit = false) : raise r s = note r s := by
  have same : (note r s).control.mode = s.control.mode := by simp
  unfold raise takeAction
  rw [action, same]
  cases is : s.control.mode with
  | loading | flash | lockout => rfl
  | start | running | warning | closing => rw [is] at mode; exact nomatch mode

/-- What an answer counted for lag does to the record of its station (R118). -/
def Liveness.counted (matched : Bool) (l : Liveness) : Liveness :=
  if matched then { l with lagCount := 0, lagging := false }
  else { l with lagCount := min 3 (l.lagCount + 1), lagging := l.lagging || decide (2 ≤ l.lagCount) }

theorem countLag_unsettled {br : BranchId} {station : Nat} {applied : Option Byte} {s : State} (settled : s.settled br = false) :
    countLag br station applied s = s := by
  unfold countLag
  split
  · rw [if_pos settled]
  · rfl

theorem countLag_matched {br : BranchId} {station : Nat} {s : State} {image : Byte} {sent : Time} {l : Liveness} (settled : s.settled br = true)
    (last : (s.branch br).lastApply = some (image, sent)) (found : (s.branch br).record station = some l) :
    countLag br station (some image) s = lagMatched br l s := by
  unfold countLag
  rw [last, found]
  simp [settled]

theorem countLag_missed {br : BranchId} {station : Nat} {applied : Option Byte} {s : State} {image : Byte} {sent : Time} {l : Liveness}
    (settled : s.settled br = true) (last : (s.branch br).lastApply = some (image, sent)) (found : (s.branch br).record station = some l)
    (other : applied ≠ some image) : countLag br station applied s = lagMissed br l s := by
  unfold countLag
  rw [last, found]
  simp [settled, other]

theorem lagMatched_eq {br : BranchId} {station : Nat} {s : State} {l : Liveness} (four : s.branches.length = 4)
    (found : (s.branch br).record station = some l) :
    ((lagMatched br l s).branch br).awaited = (s.branch br).awaited ∧ ((lagMatched br l s).branch br).record station = some (l.counted true)
      ∧ (l.lagging = true → s.faults.Well → notActive (lagMatched br l s) .stationLag (some station)) := by
  have is : l.station = station := by simpa using List.find?_some found
  unfold lagMatched
  rw [is]
  dsimp only
  have record := record_changeLiveness (f := fun x => { x with lagCount := 0, lagging := false }) four (by exact fun _ => rfl) found
  have awaited := awaited_changeLiveness (br := br) (station := station) (f := fun x => { x with lagCount := 0, lagging := false }) four
  split
  · rw [branch_congr (s := changeLiveness br station (fun x => { x with lagCount := 0, lagging := false }) s) (by simp)]
    exact ⟨awaited, record, fun _ well => reportEnd_notActive _ _ (by exact well)⟩
  · next no => exact ⟨awaited, record, fun yes => absurd yes no⟩

theorem lagMissed_eq {br : BranchId} {station : Nat} {s : State} {l : Liveness} (four : s.branches.length = 4) (flash : s.control.mode.permit = false)
    (found : (s.branch br).record station = some l) :
    ((lagMissed br l s).branch br).awaited = (s.branch br).awaited ∧ ((lagMissed br l s).branch br).record station = some (l.counted false)
      ∧ (2 ≤ l.lagCount → l.lagging = false → s.faults.entries.length < 32 → listed (lagMissed br l s) .stationLag (some station) true .flash) := by
  have is : l.station = station := by simpa using List.find?_some found
  unfold lagMissed
  rw [is]
  dsimp only
  by_cases third : 2 ≤ l.lagCount
  · have count : Nat.min 3 (l.lagCount + 1) = 3 := Nat.min_eq_left (by omega)
    cases lagging : l.lagging with
    | false =>
      rw [if_pos ⟨count, rfl⟩, raise_flash_rest rfl (by exact flash)]
      have record := record_changeLiveness (f := fun x => { x with lagCount := Nat.min 3 (l.lagCount + 1), lagging := true }) four
        (by exact fun _ => rfl) found
      rw [branch_congr (s := changeLiveness br station (fun x => { x with lagCount := Nat.min 3 (l.lagCount + 1), lagging := true }) s) (by simp)]
      refine ⟨awaited_changeLiveness four, record.trans ?_, fun _ _ room => ?_⟩
      · simp [Liveness.counted, third, lagging]
      · obtain ⟨e, member, kind, subject, -, action, -, active, -⟩ := note_lists (r := lagRaise station)
          (s := changeLiveness br station (fun x => { x with lagCount := Nat.min 3 (l.lagCount + 1), lagging := true }) s) room
        exact ⟨e, member, kind, subject, active rfl, action⟩
    | true =>
      rw [if_neg (by simp)]
      have record := record_changeLiveness (f := fun x => { x with lagCount := Nat.min 3 (l.lagCount + 1) }) four (by exact fun _ => rfl) found
      refine ⟨awaited_changeLiveness four, record.trans ?_, nofun⟩
      simp [Liveness.counted, lagging]
  · have count : Nat.min 3 (l.lagCount + 1) ≠ 3 := by
      rw [show Nat.min 3 (l.lagCount + 1) = l.lagCount + 1 from Nat.min_eq_right (by omega)]
      omega
    rw [if_neg (fun both => count both.1)]
    have record := record_changeLiveness (f := fun x => { x with lagCount := Nat.min 3 (l.lagCount + 1) }) four (by exact fun _ => rfl) found
    refine ⟨awaited_changeLiveness four, record.trans ?_, fun no => absurd no third⟩
    simp [Liveness.counted, third]

theorem reporting_lag {br : BranchId} {l : Liveness} (lag : K .stationLag (some l.station)) {s : State} (flash : s.control.mode.permit = false) :
    Reporting K s (lagMatched br l s) ∧ Reporting K s (lagMissed br l s) := by
  refine ⟨?_, ?_⟩
  · unfold lagMatched
    dsimp only
    split
    · exact (reporting_changeLiveness br l.station _ s).trans (reporting_reportEnd lag _)
    · exact reporting_changeLiveness br l.station _ s
  · unfold lagMissed
    dsimp only
    split
    · rw [raise_flash_rest rfl (by exact flash)]
      exact (reporting_changeLiveness br l.station _ s).trans (reporting_note lag _)
    · exact reporting_changeLiveness br l.station _ s

theorem lag_frame (br : BranchId) (l : Liveness) {s : State} (flash : s.control.mode.permit = false) :
    ((lagMatched br l s).exchange = s.exchange ∧ (lagMatched br l s).prover = s.prover ∧ (lagMatched br l s).detectors = s.detectors)
      ∧ (lagMissed br l s).exchange = s.exchange ∧ (lagMissed br l s).prover = s.prover ∧ (lagMissed br l s).detectors = s.detectors := by
  refine ⟨?_, ?_⟩
  · unfold lagMatched
    dsimp only
    split <;> simp
  · unfold lagMissed
    dsimp only
    split
    · rw [raise_flash_rest rfl (by exact flash)]
      simp
    · simp

end Sys2Proof.Machine

namespace Sys2Proof.Machine

open Sys2Proof.Safety

/-! #### The end of an event at rest that has reported -/

theorem all_isReport_of_alarms {made : List OutFrame} (alarms : made.all (fun f => isReport f && !f.isDet) = true) : made.all isReport = true := by
  rw [List.all_eq_true] at alarms ⊢
  intro f member
  have both := alarms f member
  rw [Bool.and_eq_true] at both
  exact both.1

theorem reportedOnly_of_reporting {K : FaultKind → Option Nat → Prop} {s t : State} (did : Reporting K s t) : reportedOnly s t := by
  obtain ⟨made, alarms, link⟩ := did.alarms
  exact ⟨made, all_isReport_of_alarms alarms, link⟩

/-- An event at rest whose own effect has reported to the fault list and made detector reports. -/
structure RestEnd (s u t : State) : Prop where
  control : t.control = s.control
  store : t.store = s.store
  exchange : t.exchange = u.exchange
  preempt : t.preempt = u.preempt
  prover : t.prover = u.prover
  detectors : t.detectors = u.detectors
  faults : t.faults = u.faults
  link : t.link = ((sortByKey Det.channel u.event.reports).map OutFrame.det).foldl Link.accept u.link
  shown : ∀ g, t.shown g = s.shown g
  branches : t.branches = u.branches.map Branch.arbitrate
  reported : reportedOnly s t

theorem rest_reporting {K : FaultKind → Option Nat → Prop} {effect : State → State} {s : State} (rest : resting s = true)
    (did : Reporting K (openEvent s) (effect (openEvent s))) : RestEnd s (effect (openEvent s)) (asEvent effect id s) := by
  have scope := did.scope
  obtain ⟨-, control, store, exchange, preempt, prover, detectors, faults, link, shown, branches⟩ :=
    rest_concluded rest did.engine did.control did.store (by rw [scope]; rfl) (by rw [scope]; rfl)
  exact ⟨control, store, exchange, preempt, prover, detectors, faults, link, shown, branches (by rw [scope]; rfl),
    asEvent_reportedOnly (reportedOnly_of_reporting did)⟩

theorem RestEnd.branch {s u t : State} (h : RestEnd s u t) (br : BranchId) : t.branch br = (u.branch br).arbitrate := by
  rw [← arbitrateAll_branch]
  exact branch_congr h.branches br

theorem RestEnd.awaited {s u t : State} (h : RestEnd s u t) (br : BranchId) : (t.branch br).awaited = (u.branch br).awaited := by
  rw [h.branch, arbitrate_awaited]

theorem RestEnd.record {s u t : State} (h : RestEnd s u t) {br : BranchId} {station : Nat} {l : Liveness}
    (found : (u.branch br).record station = some l) : ∃ due, (t.branch br).record station = some { l with repollDue := due } := by
  rw [h.branch]
  exact record_arbitrate found

theorem answerOutcome_awaited {br : BranchId} {station : Nat} {role : Role} {take : State → State} {s : State} (up : s.up = true)
    (answers : s.answersPoll br station role = true) : answerOutcome br station role take s = .next (asEvent take id s) := by
  have here : (openEvent s).answersPoll br station role = true := answers
  unfold answerOutcome
  rw [eventOutcome_up up]
  simp only [asEvent, here, if_true]

/-- What an LST does before the conclusion of its event (R115, R118, R132). -/
def lstEffect (br : BranchId) (station : Nat) (applied : Option Byte) (currents : List Half) (s : State) : State :=
  countLag br station applied
    (proveReport br station applied currents
      (changeLiveness br station (fun l => { l with lastApplied := applied }) (pollAnswered br station s)))

def sstEffect (br : BranchId) (station : Nat) (status : List Byte) (s : State) : State :=
  changeLiveness br station (fun l => { l with lastSign := some status }) (pollAnswered br station s)

def dsmEffect (br : BranchId) (station : Nat) (inputs : List DsmInput) (s : State) : State :=
  takeSample station inputs (if s.absent br station then stationBack station (pollAnswered br station s) else pollAnswered br station s)

theorem exec_lstReceived {br : BranchId} {station : Nat} {applied : Option Byte} {currents : List Half} {s : State} (up : s.up = true)
    (answers : s.answersPoll br station .output = true) :
    exec (.lstReceived br station applied currents) s = .next (asEvent (lstEffect br station applied currents) id s) :=
  answerOutcome_awaited up answers

theorem exec_sstReceived {br : BranchId} {station : Nat} {status : List Byte} {s : State} (up : s.up = true)
    (answers : s.answersPoll br station .sign = true) :
    exec (.sstReceived br station status) s = .next (asEvent (sstEffect br station status) id s) := answerOutcome_awaited up answers

theorem exec_dsmReceived {br : BranchId} {station : Nat} {inputs : List DsmInput} {s : State} (up : s.up = true)
    (answers : s.answersPoll br station .detector = true) :
    exec (.dsmReceived br station inputs) s = .next (asEvent (dsmEffect br station inputs) id s) := answerOutcome_awaited up answers

theorem proveReport_rest {br : BranchId} {station : Nat} {applied : Option Byte} {currents : List Half} {s : State}
    (flash : s.control.mode.permit = false) : proveReport br station applied currents s = s := by
  unfold proveReport State.usable
  simp [flash]

/-- The state in which an LST at rest is counted for lag. -/
def lstKept (br : BranchId) (station : Nat) (applied : Option Byte) (s : State) : State :=
  changeLiveness br station (fun l => { l with lastApplied := applied }) (pollAnswered br station s)

theorem lstEffect_rest {br : BranchId} {station : Nat} {applied : Option Byte} {currents : List Half} {s : State}
    (flash : s.control.mode.permit = false) : lstEffect br station applied currents s = countLag br station applied (lstKept br station applied s) := by
  unfold lstEffect lstKept
  rw [proveReport_rest]
  simpa using flash

theorem lstKept_eq {br : BranchId} {station : Nat} {s : State} {l : Liveness} (four : s.branches.length = 4)
    (found : (s.branch br).record station = some l) (applied : Option Byte) :
    (lstKept br station applied s).branches.length = 4 ∧ ((lstKept br station applied s).branch br).awaited = none
      ∧ ((lstKept br station applied s).branch br).record station = some { l.answered with lastApplied := applied }
      ∧ ((lstKept br station applied s).branch br).lastApply = (s.branch br).lastApply := by
  obtain ⟨length, awaited, record, last, -⟩ := pollAnswered_eq four found
  unfold lstKept
  exact ⟨(length_changeEntry _ _ _).trans length, (awaited_changeLiveness length).trans awaited, record_changeLiveness length (by exact fun _ => rfl) record,
    (lastApply_changeLiveness br br station _ _).trans last⟩

theorem settled_congr {s t : State} {br : BranchId} (last : (t.branch br).lastApply = (s.branch br).lastApply) (clock : t.clock = s.clock)
    (store : t.store = s.store) : t.settled br = s.settled br := by
  unfold State.settled
  rw [last, clock, show t.tables = s.tables from tables_congr (by rw [store])]

/-- The faults of the stations. -/
def OfStation (kind : FaultKind) (_ : Option Nat) : Prop := kind = .stationAbsent ∨ kind = .stationLag

theorem reporting_lstKept (br : BranchId) (station : Nat) (applied : Option Byte) (s : State) : Reporting OfStation s (lstKept br station applied s) :=
  (reporting_pollAnswered (.inl rfl) s).trans (reporting_changeLiveness br station _ _)

end Sys2Proof.Machine

/-! ### Detector samples: a channel that needs resynchronization (R144), and the settlement of the stations' answers -/

namespace Sys2Proof.Machine

open Sys2Proof.Safety

theorem healthTaken_fields (health : Health) (now : Time) (d : Detector) :
    d.healthTaken health now = { d with
      health := health, okSince := (d.healthTaken health now).okSince, openFault := (d.healthTaken health now).openFault
      shortFault := (d.healthTaken health now).shortFault } := by
  unfold Detector.healthTaken
  cases health with
  | openCircuit | shortCircuit => rfl
  | ok =>
    dsimp only
    split
    · split
      · rfl
      · split <;> rfl
    · rfl

theorem chatterTaken_fields (r : DetectorRec) (now : Time) (d : Detector) :
    d.chatterTaken r now = { d with chatterFault := (d.chatterTaken r now).chatterFault } := by
  unfold Detector.chatterTaken
  split <;> rfl

/-- The record of a channel that needs resynchronization, after the entry (R144). -/
def Detector.resynchronized (r : DetectorRec) (free : Bool) (now : Time) (occupied : Bool) (d : Detector) : Detector :=
  let set := { d with pending := [], raw := some occupied, resync := false }
  if d.occupied = occupied then set else set.taken r free now { onset := occupied, time := now }

theorem resynchronize_record {c : Nat} {e : DsmInput} {s : State} {d : Detector} (has : s.detector c = some d) :
    (resynchronize c e s).detector c = some
      (d.resynchronized (s.tables.detector c) (decide (s.shown (s.tables.detector c).served.toNat ≠ .go)) s.clock.now e.occupied) := by
  have set := detector_changeDetector_same has (fun x => { x with pending := [], raw := some e.occupied, resync := false })
  unfold resynchronize Detector.resynchronized
  rw [has]
  dsimp only
  split
  · exact set
  · exact takeTransition_record set

theorem takeEntry_resync {c : Nat} {e : DsmInput} {s : State} {d : Detector} (has : s.detector c = some d) (resync : d.resync = true) :
    takeEntry c e s = resynchronize c e s := by
  unfold takeEntry
  rw [has]
  simp [resync]

theorem takeInput_record {inputs : List DsmInput} {c : Nat} {e : DsmInput} {s : State} {d' : Detector}
    (entry : entry? inputs (s.tables.detector c).input.toNat = some e) (taken : (takeEntry c e s).detector c = some d') :
    (takeInput inputs c s).detector c = some ((d'.healthTaken e.health s.clock.now).chatterTaken (s.tables.detector c) s.clock.now) := by
  unfold takeInput
  rw [entry]
  dsimp only
  have health := testHealth_record (health := e.health) taken
  rw [show (takeEntry c e s).clock.now = s.clock.now by simp] at health
  have chatter := testChatter_record health
  rwa [show (testHealth c e.health (takeEntry c e s)).clock.now = s.clock.now by simp,
    show (testHealth c e.health (takeEntry c e s)).tables = s.tables from tables_congr (by simp)] at chatter

/-- What a sample makes of the channel's own states, when it needs resynchronization (R144). -/
structure Detector.Resynced (d : Detector) (e : DsmInput) (now : Time) (d' : Detector) : Prop where
  raw : d'.raw = some e.occupied
  occupied : d'.occupied = e.occupied
  pending : d'.pending = []
  resync : d'.resync = false
  health : d'.health = e.health
  since : d.occupied ≠ e.occupied → d'.since = now

theorem takeInput_resync {inputs : List DsmInput} {c : Nat} {e : DsmInput} {s : State} {d : Detector} (has : s.detector c = some d)
    (resync : d.resync = true) (entry : entry? inputs (s.tables.detector c).input.toNat = some e) :
    ∃ d', (takeInput inputs c s).detector c = some d' ∧ d.Resynced e s.clock.now d' := by
  have taken := resynchronize_record (e := e) has
  rw [← takeEntry_resync has resync] at taken
  refine ⟨_, takeInput_record entry taken, ?_⟩
  rw [chatterTaken_fields, healthTaken_fields]
  unfold Detector.resynchronized
  dsimp only
  split
  · next same => exact ⟨rfl, same, rfl, rfl, rfl, fun other => absurd same other⟩
  · have kept := taken_transited (s.tables.detector c) (decide (s.shown (s.tables.detector c).served.toNat ≠ .go)) s.clock.now
      { onset := e.occupied, time := s.clock.now } { d with pending := [], raw := some e.occupied, resync := false }
    have state := taken_state (s.tables.detector c) (decide (s.shown (s.tables.detector c).served.toNat ≠ .go)) s.clock.now
      { onset := e.occupied, time := s.clock.now } { d with pending := [], raw := some e.occupied, resync := false }
    exact ⟨kept.raw, state.1, kept.pending, kept.resync, rfl, fun _ => state.2⟩

theorem decideFault_resynced {c : Nat} {s : State} {d d' : Detector} {e : DsmInput} {now : Time} (has : s.detector c = some d')
    (synced : d.Resynced e now d') : ∃ d'', (decideFault c s).detector c = some d'' ∧ d.Resynced e now d'' := by
  obtain ⟨d'', record, made, -⟩ := decideFault_record has
  refine ⟨d'', record, ?_⟩
  rw [made]
  exact ⟨synced.raw, synced.occupied, synced.pending, synced.resync, synced.health, synced.since⟩

theorem channelsOf_nodup (s : State) (station : Nat) : (s.channelsOf station).Nodup := ((numbers_nodup _).filter _).filter _

theorem mem_channelsOf {s : State} {c station : Nat} {d : Detector} (has : s.detector c = some d)
    (at' : (s.tables.detector c).station.toNat = station) : c ∈ s.channelsOf station :=
  List.mem_filter.mpr ⟨mem_detectorChannels has, by simp [at']⟩

/-- What a sample makes of each channel of its station that needs resynchronization. -/
theorem takeSample_resync {station : Nat} {inputs : List DsmInput} {c : Nat} {e : DsmInput} {s : State} {d : Detector} (has : s.detector c = some d)
    (at' : (s.tables.detector c).station.toNat = station) (resync : d.resync = true)
    (entry : entry? inputs (s.tables.detector c).input.toNat = some e) :
    ∃ d', (takeSample station inputs s).detector c = some d' ∧ d.Resynced e s.clock.now d' := by
  have taken : ∃ d', (eachOf (s.channelsOf station) (takeInput inputs) s).detector c = some d' ∧ d.Resynced e s.clock.now d' := by
    refine eachOf_once (x := c) (good := fun t => t.detector c = some d ∧ t.store = s.store ∧ t.clock = s.clock)
      (done := fun t => ∃ d', t.detector c = some d' ∧ d.Resynced e s.clock.now d')
      (fun n t other ⟨record, store, clock⟩ => ?_) (fun t ⟨record, store, clock⟩ => ?_) (fun n t other ⟨d', record, synced⟩ => ?_)
      (mem_channelsOf has at') (channelsOf_nodup s station) ⟨has, rfl, rfl⟩
    · exact ⟨(onlyChannel_takeInput inputs n t c (Ne.symm other)).trans record, by simpa using store, by simpa using clock⟩
    · have tables : t.tables = s.tables := tables_congr (by rw [store])
      rw [← tables] at entry
      obtain ⟨d', record', synced⟩ := takeInput_resync record resync entry
      exact ⟨d', record', clock ▸ synced⟩
    · exact ⟨d', (onlyChannel_takeInput inputs n t c (Ne.symm other)).trans record, synced⟩
  unfold takeSample
  dsimp only
  refine eachOf_holds (fun t => ∃ d', t.detector c = some d' ∧ d.Resynced e s.clock.now d') decideFault (fun n t ⟨d', record, synced⟩ => ?_) _ _ taken
  by_cases here : n = c
  · subst here
    exact decideFault_resynced record synced
  · exact ⟨d', (onlyChannel_decideFault n t c (Ne.symm here)).trans record, synced⟩

/-- The return of a station leaves what its channels were sensed to be. -/
theorem stationBack_record {station c : Nat} {s : State} {d : Detector} (has : s.detector c = some d) :
    ∃ absent, (stationBack station s).detector c = some { d with stationAbsent := absent } := by
  unfold stationBack
  refine eachOf_holds (fun t => ∃ absent, t.detector c = some { d with stationAbsent := absent }) _ (fun n t ⟨absent, record⟩ => ?_) _ s
    ⟨d.stationAbsent, has⟩
  by_cases here : n = c
  · subst here
    exact ⟨false, detector_changeDetector_same record _⟩
  · exact ⟨absent, (detector_changeDetector_other (Ne.symm here) _ t).trans record⟩

/-- Where a sample finds its channels: the station back, where it was ABSENT (R149). -/
def dsmKept (br : BranchId) (station : Nat) (s : State) : State :=
  if s.absent br station then stationBack station (pollAnswered br station s) else pollAnswered br station s

theorem dsmEffect_eq (br : BranchId) (station : Nat) (inputs : List DsmInput) (s : State) :
    dsmEffect br station inputs s = takeSample station inputs (dsmKept br station s) := rfl

theorem dsmKept_frame (br : BranchId) (station : Nat) (s : State) :
    (dsmKept br station s).control = s.control ∧ (dsmKept br station s).store = s.store ∧ (dsmKept br station s).clock = s.clock
      ∧ (dsmKept br station s).exchange = s.exchange ∧ (dsmKept br station s).prover = s.prover ∧ (dsmKept br station s).engine = s.engine
      ∧ (dsmKept br station s).preempt = s.preempt ∧ (dsmKept br station s).branches = (pollAnswered br station s).branches
      ∧ (dsmKept br station s).faults = (pollAnswered br station s).faults ∧ (dsmKept br station s).event = s.event := by
  unfold dsmKept
  split <;> simp

theorem dsmKept_record {br : BranchId} {station c : Nat} {s : State} {d : Detector} (has : s.detector c = some d) :
    ∃ absent, (dsmKept br station s).detector c = some { d with stationAbsent := absent } := by
  have here : (pollAnswered br station s).detector c = some d := (detector_congr (by simp) c).trans has
  unfold dsmKept
  split
  · exact stationBack_record here
  · exact ⟨d.stationAbsent, here⟩

theorem reporting_dsmKept {K : FaultKind → Option Nat → Prop} (br : BranchId) (station : Nat) (absent : K .stationAbsent (some station)) (s : State) :
    Reporting K s (dsmKept br station s) := by
  unfold dsmKept
  split
  · exact (reporting_pollAnswered absent s).trans (reporting_stationBack station _)
  · exact reporting_pollAnswered absent s

theorem pollAnswered_faults_length {br : BranchId} {station : Nat} {s : State} (well : s.faults.Well) :
    (pollAnswered br station s).faults.entries.length = s.faults.entries.length := by
  unfold pollAnswered
  dsimp only
  split
  · exact reportEnd_length _ _ (by exact well)
  · rfl

theorem Liveness.counted_lagging (l : Liveness) : (l.counted false).lagging = true ↔ l.lagging = true ∨ 2 ≤ l.lagCount := by
  unfold Liveness.counted
  rw [if_neg (by simp)]
  by_cases many : 2 ≤ l.lagCount <;> simp [many]

theorem mayTake_rest {K : FaultKind → Option Nat → Prop} {s : State} (flash : s.control.mode.permit = false) : MayTake K s := fun admits => by
  rw [admits_of_not_permit flash] at admits
  exact nomatch admits

end Sys2Proof.Machine

namespace Sys2Proof.Proofs

open Sys2Proof Sys2Proof.Machine Sys2Proof.Safety

/-- Settles O56: what the answer leaves of the branch is read off `pollAnswered` and the count of lag, and each channel of a sample off its record. -/
theorem stationAnswers : Obligations.StationAnswers := by
  intro br station s rest four l found
  obtain ⟨up, flash, -⟩ := resting_iff.mp rest
  have flash' : (openEvent s).control.mode.permit = false := flash
  have found' : ((openEvent s).branch br).record station = some l := found
  refine ⟨fun applied currents answers unsettled => ?_, fun applied currents image sent answers settled last => ?_, fun status answers => ?_,
    fun inputs answers => ?_⟩
  · obtain ⟨length, awaited, record, same⟩ := lstKept_eq (s := openEvent s) four found' applied
    have unsettled' : (lstKept br station applied (openEvent s)).settled br = false :=
      (settled_congr same (by simp [lstKept]) (by simp [lstKept])).trans unsettled
    have effect : lstEffect br station applied currents (openEvent s) = lstKept br station applied (openEvent s) := by
      rw [lstEffect_rest flash', countLag_unsettled unsettled']
    have closed := rest_reporting (effect := lstEffect br station applied currents) rest (by rw [effect]; exact reporting_lstKept br station applied _)
    have ran := exec_lstReceived (applied := applied) (currents := currents) up answers
    rw [effect] at closed
    generalize asEvent (lstEffect br station applied currents) id s = t at ran closed
    obtain ⟨due, record'⟩ := closed.record record
    obtain ⟨-, -, -, -, quiet, ended⟩ := pollAnswered_eq (s := openEvent s) four found'
    refine ⟨t, _, ran, (closed.awaited br).trans awaited, record', rfl, rfl, rfl, rfl, closed.control, ?_, closed.store, ?_, ?_, fun present => ⟨?_, ?_⟩,
      fun absent law => ?_⟩
    · rw [closed.exchange]; simp [lstKept]
    · rw [closed.prover]; simp [lstKept]
    · rw [closed.detectors]; simp [lstKept]
    · rw [closed.faults]; exact (quiet present).1
    · rw [closed.link, show (lstKept br station applied (openEvent s)).event.reports = [] from (by simp [lstKept] : _ = (openEvent s).event.reports)]
      exact (quiet present).2
    · unfold notActive
      rw [closed.faults]
      exact ended absent (faultLaw_iff.mp law)
  · obtain ⟨length, awaited, record, same⟩ := lstKept_eq (s := openEvent s) four found' applied
    have settled' : (lstKept br station applied (openEvent s)).settled br = true :=
      (settled_congr same (by simp [lstKept]) (by simp [lstKept])).trans settled
    have kept : (lstKept br station applied (openEvent s)).control.mode.permit = false := by simpa [lstKept] using flash
    have kepts : (lstKept br station applied (openEvent s)).exchange = s.exchange ∧ (lstKept br station applied (openEvent s)).prover = s.prover
        ∧ (lstKept br station applied (openEvent s)).detectors = s.detectors := by simp [lstKept]
    have reports := reporting_lstKept br station applied (openEvent s)
    have ran := exec_lstReceived (applied := applied) (currents := currents) up answers
    have start := lstEffect_rest (br := br) (station := station) (applied := applied) (currents := currents) flash'
    obtain ⟨lags, misses⟩ := reporting_lag (K := OfStation) (br := br) (l := { l.answered with lastApplied := applied }) (.inr rfl) kept
    obtain ⟨⟨exchange, prover, detectors⟩, exchange', prover', detectors'⟩ := lag_frame br { l.answered with lastApplied := applied } kept
    obtain ⟨matchedAwaited, matchedRecord, ended⟩ := lagMatched_eq length record
    obtain ⟨missedAwaited, missedRecord, raised⟩ := lagMissed_eq length kept record
    have room : s.faults.Well → s.faults.entries.length < 32 → (lstKept br station applied (openEvent s)).faults.entries.length < 32 :=
      fun well room => (pollAnswered_faults_length (s := openEvent s) well).symm ▸ room
    by_cases names : applied = some image
    · subst names
      rw [countLag_matched settled' (same.trans last) record] at start
      have closed := rest_reporting (effect := lstEffect br station (some image) currents) rest (by rw [start]; exact reports.trans lags)
      rw [start] at closed
      generalize asEvent (lstEffect br station (some image) currents) id s = t at ran closed
      obtain ⟨due, record'⟩ := closed.record matchedRecord
      refine ⟨t, _, ran, (closed.awaited br).trans (matchedAwaited.trans awaited), record', rfl, rfl, rfl, closed.control, ?_, closed.store, ?_, ?_,
        closed.reported, fun _ => ⟨rfl, rfl, fun lagging law => ?_⟩, fun no => absurd rfl no⟩
      · exact closed.exchange.trans (exchange.trans kepts.1)
      · exact closed.prover.trans (prover.trans kepts.2.1)
      · exact closed.detectors.trans (detectors.trans kepts.2.2)
      · unfold notActive
        rw [closed.faults]
        exact ended lagging (reports.faults.well (faultLaw_iff.mp law))
    · rw [countLag_missed settled' (same.trans last) record names] at start
      have closed := rest_reporting (effect := lstEffect br station applied currents) rest (by rw [start]; exact reports.trans misses)
      rw [start] at closed
      generalize asEvent (lstEffect br station applied currents) id s = t at ran closed
      obtain ⟨due, record'⟩ := closed.record missedRecord
      refine ⟨t, _, ran, (closed.awaited br).trans (missedAwaited.trans awaited), record', rfl, rfl, rfl, closed.control, ?_, closed.store, ?_, ?_,
        closed.reported, fun no => absurd no names, fun _ => ⟨rfl, ?_, fun many lagging law few => ?_⟩⟩
      · exact closed.exchange.trans (exchange'.trans kepts.1)
      · exact closed.prover.trans (prover'.trans kepts.2.1)
      · exact closed.detectors.trans (detectors'.trans kepts.2.2)
      · exact Liveness.counted_lagging _
      · unfold listed
        rw [closed.faults]
        exact raised many lagging (room (faultLaw_iff.mp law) few)
  · obtain ⟨length, awaited, record, -, quiet, -⟩ := pollAnswered_eq (s := openEvent s) four found'
    have closed := rest_reporting (effect := sstEffect br station status) rest
      ((reporting_pollAnswered (K := OfStation) (.inl rfl) _).trans (reporting_changeLiveness br station _ _))
    have ran := exec_sstReceived (status := status) up answers
    have record' := record_changeLiveness (f := fun l => { l with lastSign := some status }) length (by exact fun _ => rfl) record
    have awaited' := (awaited_changeLiveness (br := br) (station := station) (f := fun l => { l with lastSign := some status }) length).trans awaited
    have effect : sstEffect br station status (openEvent s) = changeLiveness br station (fun l => { l with lastSign := some status })
      (pollAnswered br station (openEvent s)) := rfl
    rw [effect] at closed
    generalize asEvent (sstEffect br station status) id s = t at ran closed
    obtain ⟨due, record''⟩ := closed.record record'
    refine ⟨t, _, ran, (closed.awaited br).trans awaited', record'', rfl, rfl, rfl, closed.control, ?_, closed.store, ?_, ?_, fun present => ⟨?_, ?_⟩⟩
    · rw [closed.exchange]; simp
    · rw [closed.prover]; simp
    · rw [closed.detectors]; simp
    · rw [closed.faults]; exact (quiet present).1
    · rw [closed.link, show (changeLiveness br station (fun l => { l with lastSign := some status }) (pollAnswered br station (openEvent s))).event.reports
        = [] from (by simp : _ = (openEvent s).event.reports)]
      exact (quiet present).2
  · obtain ⟨length, awaited, record, -, -, -⟩ := pollAnswered_eq (s := openEvent s) four found'
    obtain ⟨control, store, clock, exchange, prover, -, -, branches, -⟩ := dsmKept_frame br station (openEvent s)
    have sampled : Reporting (fun _ _ => True) (openEvent s) (dsmEffect br station inputs (openEvent s)) :=
      (reporting_dsmKept br station trivial (openEvent s)).trans
        (reporting_takeSample station inputs (fun _ _ _ => trivial) (mayTake_rest (by rw [control]; exact flash)))
    have closed := rest_reporting rest sampled
    have ran := exec_dsmReceived (inputs := inputs) up answers
    rw [dsmEffect_eq] at closed
    generalize asEvent (dsmEffect br station inputs) id s = t at ran closed
    have same : (takeSample station inputs (dsmKept br station (openEvent s))).branches = (pollAnswered br station (openEvent s)).branches := by
      simp [branches]
    rw [← branch_congr same] at record awaited
    obtain ⟨due, record'⟩ := closed.record record
    refine ⟨t, _, ran, (closed.awaited br).trans awaited, record', rfl, rfl, closed.control, ?_, closed.store, ?_, closed.shown, fun c d e has at' entry resync => ?_⟩
    · rw [closed.exchange]; simp [exchange]
    · rw [closed.prover]; simp [prover]
    · obtain ⟨absent, kept⟩ := dsmKept_record (br := br) (station := station) (s := openEvent s) has
      have tables : (dsmKept br station (openEvent s)).tables = s.tables := tables_congr (congrArg Store.active store)
      obtain ⟨d', sampled, synced⟩ := takeSample_resync (station := station) kept (by rw [tables]; exact at') resync (by rw [tables]; exact entry)
      exact ⟨d', (detector_congr closed.detectors c).trans sampled, synced.raw, synced.occupied, synced.pending, synced.resync, synced.health,
        fun other => (synced.since other).trans (congrArg Clock.now clock)⟩

end Sys2Proof.Proofs

/-! ### What a detector sample makes of one channel (08, sections 8.3 to 8.8) -/

namespace Sys2Proof.Machine

open Sys2Proof.Safety

/-! #### What stays listed, and what stays ended -/

theorem Reporting.keeps_listed {K : FaultKind → Option Nat → Prop} {s t : State} (did : Reporting K s t) (well : s.faults.Well) {kind : FaultKind}
    {subject : Option Nat} {action : Action} (out : ¬ K kind subject) (lists : listed s kind subject true action) : listed t kind subject true action := by
  obtain ⟨e, member, is, of, active, asks⟩ := lists
  exact ⟨e, did.faults.stays well e member active (by rw [is, of]; exact out), is, of, active, asks⟩

theorem Reporting.keeps_notActive {K : FaultKind → Option Nat → Prop} {s t : State} (did : Reporting K s t) (well : s.faults.Well) {kind : FaultKind}
    {subject : Option Nat} (out : ¬ K kind subject) (ended : notActive s kind subject) : notActive t kind subject :=
  did.faults.quiet well kind subject out ended

theorem raiseDetector_lists {f : DetectorFault} {c : Nat} {s : State} {d : Detector} (has : s.detector c = some d) (none' : d.has f = false)
    (room : s.faults.entries.length < 32) : listed (raiseDetector f c s) f.kind (some c) true .report := by
  rw [raiseDetector_new has none']
  obtain ⟨e, member, kind, subject, -, action, -, active, -⟩ := note_lists
    (r := { kind := f.kind, subject := some c, action := .report, condition := true }) (s := changeDetector c (fun x => x.mark true f) s) room
  exact ⟨e, member, kind, subject, active rfl, action⟩

theorem endDetector_notActive {f : DetectorFault} {c : Nat} {s : State} {d : Detector} (has : s.detector c = some d) (is : d.has f = true)
    (well : s.faults.Well) : notActive (endDetector f c s) f.kind (some c) := by
  unfold endDetector
  rw [has]
  dsimp only
  rw [if_pos is]
  exact reportEnd_notActive _ _ (by exact well)

/-! #### The entry -/

/-- What the transitions of an entry leave of a channel's record (R142 to R144). -/
structure Detector.Entered (d d' : Detector) : Prop where
  okSince : d'.okSince = d.okSince
  openFault : d'.openFault = d.openFault
  shortFault : d'.shortFault = d.shortFault
  chatterFault : d'.chatterFault = d.chatterFault
  stationAbsent : d'.stationAbsent = d.stationAbsent
  inFault : d'.inFault = d.inFault

theorem Detector.Entered.trans {a b c : Detector} (first : a.Entered b) (second : b.Entered c) : a.Entered c :=
  ⟨second.okSince.trans first.okSince, second.openFault.trans first.openFault, second.shortFault.trans first.shortFault,
    second.chatterFault.trans first.chatterFault, second.stationAbsent.trans first.stationAbsent, second.inFault.trans first.inFault⟩

theorem Detector.Transited.entered {d d' : Detector} (h : d.Transited d') : d.Entered d' :=
  ⟨h.okSince, h.openFault, h.shortFault, h.chatterFault, h.stationAbsent, h.inFault⟩

theorem debounce_entered {c : Nat} (steps : Nat) {s : State} {d : Detector} (has : s.detector c = some d) :
    ∃ d', (debounce c steps s).detector c = some d' ∧ d.Entered d' := by
  induction steps generalizing s d with
  | zero => exact ⟨d, has, rfl, rfl, rfl, rfl, rfl, rfl⟩
  | succ n ih =>
    unfold debounce
    rw [has]
    dsimp only
    split
    · exact ⟨d, has, rfl, rfl, rfl, rfl, rfl, rfl⟩
    · next rest confirmed decided =>
      have shorter := detector_changeDetector_same has (fun x => { x with pending := rest })
      have same : d.Entered { d with pending := rest } := ⟨rfl, rfl, rfl, rfl, rfl, rfl⟩
      cases confirmed with
      | some x =>
        obtain ⟨d', record, entered⟩ := ih (takeTransition_record (x := x) shorter)
        exact ⟨d', record, (same.trans (taken_transited _ _ _ x _).entered).trans entered⟩
      | none =>
        obtain ⟨d', record, entered⟩ := ih shorter
        exact ⟨d', record, same.trans entered⟩

theorem takeEntry_entered {c : Nat} (e : DsmInput) {s : State} {d : Detector} (has : s.detector c = some d) :
    ∃ d', (takeEntry c e s).detector c = some d' ∧ d.Entered d' := by
  unfold takeEntry
  rw [has]
  dsimp only
  split
  · refine ⟨_, resynchronize_record has, ?_⟩
    unfold Detector.resynchronized
    have set : d.Entered { d with pending := [], raw := some e.occupied, resync := false } := ⟨rfl, rfl, rfl, rfl, rfl, rfl⟩
    dsimp only
    split
    · exact set
    · exact set.trans (taken_transited _ _ _ _ _).entered
  · obtain ⟨d', record, entered⟩ := debounce_entered _ (detector_changeDetector_same has _)
    exact ⟨d', record, ⟨entered.okSince, entered.openFault, entered.shortFault, entered.chatterFault, entered.stationAbsent, entered.inFault⟩⟩

/-! #### An entry of one transition, and of two -/

/-- A cabinet time before the present one is as long ago as was subtracted. -/
theorem ago_toNat (now : Time) {ms : Nat} (short : ms < 2 ^ 32) : (now - (now - BitVec.ofNat 32 ms)).toNat = ms := by
  rw [show now - (now - BitVec.ofNat 32 ms) = BitVec.ofNat 32 ms by bv_omega, BitVec.toNat_ofNat]
  omega

theorem half_short (age : Half) : age.toNat < 2 ^ 32 := by have := age.isLt; omega

theorem raisedTo_within {now last : Time} {ms : Nat} (short : ms < 2 ^ 32) (within : ms ≤ (now - last).toNat) :
    raisedTo now last (now - BitVec.ofNat 32 ms) = now - BitVec.ofNat 32 ms := by
  unfold raisedTo
  rw [ago_toNat now short, if_neg (by omega)]

/-- The state of a channel whose samples have been continuous and are all decided. -/
structure Detector.Settled (d : Detector) (e : DsmInput) : Prop where
  resync : d.resync = false
  pending : d.pending = []
  complete : e.overrun = false
  raw : d.raw = some d.occupied

/-- The state of a continuous entry's channel before its pending list is decided. -/
theorem takeEntry_continuous {c : Nat} {e : DsmInput} {s : State} {d : Detector} (has : s.detector c = some d) (settled : d.Settled e)
    (passes : continuous d e = true) (listed : (listedTransitions e s.clock.now d.since).isEmpty = false) :
    ∃ l, takeEntry c e s = debounce c (listedTransitions e s.clock.now d.since).length { s with detectors := l }
      ∧ ({ s with detectors := l } : State).detector c
        = some { d with pending := listedTransitions e s.clock.now d.since, raw := some e.occupied } := by
  have last : d.lastTime = d.since := by simp [Detector.lastTime, settled.pending]
  have joined : takeEntry c e s = debounce c (listedTransitions e s.clock.now d.since).length (changeDetector c
      (fun x => { x with
        pending := x.pending ++ listedTransitions e s.clock.now d.since
        raw := if (listedTransitions e s.clock.now d.since).isEmpty then x.raw else some e.occupied }) s) := by
    unfold takeEntry
    rw [has]
    simp only [settled.resync, passes, Bool.not_true, Bool.or_self, Bool.false_eq_true, if_false, last, settled.pending, List.length_nil, Nat.zero_add]
  refine ⟨_, joined, (detector_changeDetector_same has _).trans ?_⟩
  rw [settled.pending, listed]
  rfl

/-- An entry of one transition that leads from the conditioned state. -/
theorem takeEntry_single {c : Nat} {e : DsmInput} {s : State} {d : Detector} {age : Half} (has : s.detector c = some d) (settled : d.Settled e)
    (known : age ≠ 65535) (ages : e.ages = [age]) (flips : e.occupied = !d.occupied) (since : age.toNat ≤ (s.clock.now - d.since).toNat) :
    ∃ l, takeEntry c e s = debounce c 1 { s with detectors := l }
      ∧ ({ s with detectors := l } : State).detector c
        = some { d with pending := [{ onset := e.occupied, time := s.clock.now - BitVec.ofNat 32 age.toNat }], raw := some e.occupied } := by
  have listed : listedTransitions e s.clock.now d.since = [{ onset := e.occupied, time := s.clock.now - BitVec.ofNat 32 age.toNat }] := by
    unfold listedTransitions
    rw [ages]
    simp [-BitVec.ofNat_toNat, timedTransitions, onsetAt, raisedTo_within (half_short age) since]
  have passes : continuous d e = true := by
    unfold continuous
    simp [settled.complete, settled.raw, settled.pending, ages, show ¬ age = 65535#16 from known, onsetAt, flips]
  obtain ⟨l, joined, record⟩ := takeEntry_continuous has settled passes (by rw [listed]; rfl)
  rw [listed] at joined record
  exact ⟨l, joined, record⟩

theorem decideHead_single {r : DetectorRec} {now : Time} {ms : Nat} (short : ms < 2 ^ 32) (onset : Bool) :
    decideHead r now [{ onset := onset, time := now - BitVec.ofNat 32 ms }]
      = if r.debounceMs onset ≤ ms then some ([], some { onset := onset, time := now - BitVec.ofNat 32 ms }) else none := by
  dsimp only [decideHead]
  rw [ago_toNat now short]

/-- A transition younger than its debounce waits (R143). -/
theorem takeEntry_waits {c : Nat} {e : DsmInput} {s : State} {d : Detector} {age : Half} (has : s.detector c = some d) (settled : d.Settled e)
    (known : age ≠ 65535) (ages : e.ages = [age]) (flips : e.occupied = !d.occupied) (since : age.toNat ≤ (s.clock.now - d.since).toNat)
    (young : age.toNat < (s.tables.detector c).debounceMs e.occupied) :
    (takeEntry c e s).detector c
      = some { d with pending := [{ onset := e.occupied, time := s.clock.now - BitVec.ofNat 32 age.toNat }], raw := some e.occupied } := by
  obtain ⟨l, joined, record⟩ := takeEntry_single has settled known ages flips since
  have waits : debounce c 1 { s with detectors := l } = { s with detectors := l } := by
    unfold debounce
    rw [record]
    dsimp only
    rw [decideHead_single (half_short age), if_neg (by exact not_le.mpr young)]
  rw [joined, waits, record]

/-- A transition past its debounce is confirmed (R143). -/
theorem takeEntry_confirms {c : Nat} {e : DsmInput} {s : State} {d : Detector} {age : Half} (has : s.detector c = some d) (settled : d.Settled e)
    (known : age ≠ 65535) (ages : e.ages = [age]) (flips : e.occupied = !d.occupied) (since : age.toNat ≤ (s.clock.now - d.since).toNat)
    (past : (s.tables.detector c).debounceMs e.occupied ≤ age.toNat) :
    ∃ l, takeEntry c e s = takeTransition c { onset := e.occupied, time := s.clock.now - BitVec.ofNat 32 age.toNat } { s with detectors := l }
      ∧ ({ s with detectors := l } : State).detector c = some { d with pending := [], raw := some e.occupied } := by
  obtain ⟨l, joined, record⟩ := takeEntry_single has settled known ages flips since
  refine ⟨changeEntry l c (Option.map (fun x => { x with pending := [] })), ?_, detector_changeDetector_same record (fun x => { x with pending := [] })⟩
  rw [joined]
  unfold debounce
  rw [record]
  dsimp only
  rw [decideHead_single (half_short age), if_pos (by exact past)]
  rfl

/-- Two transitions within the debounce of the first leave no trace (R143). -/
theorem takeEntry_cancels {c : Nat} {e : DsmInput} {s : State} {d : Detector} {first second : Half} (has : s.detector c = some d)
    (settled : d.Settled e) (known : first ≠ 65535) (known' : second ≠ 65535) (ages : e.ages = [first, second]) (back : e.occupied = d.occupied)
    (order : second.toNat ≤ first.toNat) (since : first.toNat ≤ (s.clock.now - d.since).toNat)
    (close : first.toNat - second.toNat ≤ (s.tables.detector c).debounceMs (!d.occupied)) :
    (takeEntry c e s).detector c = some { d with pending := [], raw := some e.occupied } := by
  have second_at : raisedTo s.clock.now (s.clock.now - BitVec.ofNat 32 first.toNat) (s.clock.now - BitVec.ofNat 32 second.toNat)
      = s.clock.now - BitVec.ofNat 32 second.toNat := raisedTo_within (half_short second) (by rw [ago_toNat _ (half_short first)]; exact order)
  have listed : listedTransitions e s.clock.now d.since
      = [{ onset := !e.occupied, time := s.clock.now - BitVec.ofNat 32 first.toNat },
        { onset := e.occupied, time := s.clock.now - BitVec.ofNat 32 second.toNat }] := by
    unfold listedTransitions
    rw [ages]
    simp [-BitVec.ofNat_toNat, timedTransitions, onsetAt, raisedTo_within (half_short first) since, second_at, List.range, List.range.loop]
  have passes : continuous d e = true := by
    unfold continuous
    simp [settled.complete, settled.raw, settled.pending, ages, show ¬ first = 65535#16 from known, show ¬ second = 65535#16 from known', onsetAt, back]
  have apart : (s.clock.now - BitVec.ofNat 32 second.toNat - (s.clock.now - BitVec.ofNat 32 first.toNat)).toNat = first.toNat - second.toNat := by
    have := half_short first
    rw [show s.clock.now - BitVec.ofNat 32 second.toNat - (s.clock.now - BitVec.ofNat 32 first.toNat)
      = BitVec.ofNat 32 (first.toNat - second.toNat) by bv_omega, BitVec.toNat_ofNat]
    omega
  obtain ⟨l, joined, record⟩ := takeEntry_continuous has settled passes (by rw [listed]; rfl)
  rw [listed] at joined record
  have gone := detector_changeDetector_same record (fun x => { x with pending := [] })
  rw [joined]
  simp only [List.length_cons, List.length_nil]
  unfold debounce
  rw [record]
  simp only [decideHead]
  rw [apart, if_pos (by rw [back]; exact close)]
  unfold debounce
  dsimp only
  rw [gone]
  simp only [decideHead]
  exact gone

end Sys2Proof.Machine

/-! ### The reports and the preemption sources that follow from a conditioned transition (R150, R151, R153) -/

namespace Sys2Proof.Machine

open Sys2Proof.Safety

theorem plan_congr {s t : State} (same : t.preempt = s.preempt) (p : Nat) : t.plan p = s.plan p := by
  unfold State.plan
  rw [same]

theorem active_changePlan {f : PlanState → PlanState} (keeps : ∀ x, (f x).active = x.active) (q p : Nat) (s : State) :
    ((changePlan q f s).plan p).active = (s.plan p).active := by
  rcases entryD_changeEntry s.preempt.plans q p f PlanState.reset with same | ⟨-, changed⟩
  · exact congrArg PlanState.active same
  · exact (congrArg PlanState.active changed).trans (keeps _)

theorem active_refreshRequest (q p : Nat) (s : State) : ((refreshRequest q s).plan p).active = (s.plan p).active := by
  unfold refreshRequest
  dsimp only
  split
  · exact active_changePlan (by exact fun _ => rfl) q p s
  · rfl

/-- Setting a source sets it, and no other plan's source to another state. -/
theorem active_setSource (b : Bool) (q p : Nat) (s : State) :
    ((setSource b q s).plan p).active = (s.plan p).active ∨ ((setSource b q s).plan p).active = b := by
  unfold setSource
  rw [active_refreshRequest]
  rcases entryD_changeEntry s.preempt.plans q p (fun x => { x with active := b, spent := x.spent && b }) PlanState.reset with same | ⟨-, changed⟩
  · exact .inl (congrArg PlanState.active same)
  · exact .inr (congrArg PlanState.active changed)

theorem active_setSource_same (b : Bool) {p : Nat} {s : State} (first : 1 ≤ p) (last : p ≤ s.preempt.plans.length) :
    ((setSource b p s).plan p).active = b := by
  unfold setSource
  rw [active_refreshRequest]
  exact congrArg PlanState.active (entryD_changeEntry_same first last _ _)

/-- Operations of which one sets the source of each plan of a list, and none sets it back. -/
theorem active_eachOf {b : Bool} {f : Nat → State → State} (sets : ∀ p s, 1 ≤ p → p ≤ s.preempt.plans.length → ((f p s).plan p).active = b)
    (keeps : ∀ q p s, (s.plan p).active = b → ((f q s).plan p).active = b) (length : ∀ q s, (f q s).preempt.plans.length = s.preempt.plans.length)
    {plans : List Nat} {p : Nat} (member : p ∈ plans) {s : State} (first : 1 ≤ p) (last : p ≤ s.preempt.plans.length) :
    ((eachOf plans f s).plan p).active = b := by
  induction plans generalizing s with
  | nil => cases member
  | cons q plans ih =>
    rcases List.mem_cons.mp member with here | later
    · subst here
      exact eachOf_holds (fun t => (t.plan p).active = b) f (fun q t h => keeps q p t h) plans _ (sets p s first last)
    · exact ih later (by rw [length]; exact last)

theorem length_changePlan (q : Nat) (f : PlanState → PlanState) (s : State) : (changePlan q f s).preempt.plans.length = s.preempt.plans.length :=
  length_changeEntry _ _ _

theorem length_setSource (b : Bool) (q : Nat) (s : State) : (setSource b q s).preempt.plans.length = s.preempt.plans.length := by
  unfold setSource refreshRequest
  dsimp only
  split
  · rw [length_changePlan, length_changePlan]
  · rw [length_changePlan]

theorem sourceActive_active (edge : Bool) (q p : Nat) (s : State) : ((sourceActive edge q s).plan p).active = ((setSource true q s).plan p).active := by
  unfold sourceActive
  dsimp only
  split
  · exact active_changePlan (by exact fun _ => rfl) q p _
  · rfl

theorem length_sourceActive (edge : Bool) (q : Nat) (s : State) : (sourceActive edge q s).preempt.plans.length = s.preempt.plans.length := by
  unfold sourceActive
  dsimp only
  split
  · rw [length_changePlan, length_setSource]
  · rw [length_setSource]

theorem sourcesActive_rest (edge : Bool) (plans : List Nat) {s : State} (mode : s.control.mode.admits = false) :
    sourcesActive edge plans s = eachOf plans (sourceActive edge) s := by
  have set := PlansOnly.eachOf (plansOnly_sourceActive edge) plans s
  unfold sourcesActive considerTaking
  dsimp only
  rw [consider_unadmitted (by rw [set.mode]; exact mode)]
  simp

theorem sourcesActive_active (edge : Bool) {plans : List Nat} {s : State} (mode : s.control.mode.admits = false) {p : Nat} (member : p ∈ plans)
    (first : 1 ≤ p) (last : p ≤ s.preempt.plans.length) : ((sourcesActive edge plans s).plan p).active = true := by
  rw [sourcesActive_rest edge plans mode]
  refine active_eachOf (fun p s first last => ?_) (fun q p s is => ?_) (length_sourceActive edge) member first last
  · rw [sourceActive_active, active_setSource_same true first last]
  · rw [sourceActive_active]
    exact (active_setSource true q p s).elim (fun same => same.trans is) id

/-- In a flash mode the plans' own steps set no source. -/
theorem topStep_inactive {s t : State} (mode : s.control.mode.admits = false) (step : topStep s = some t) {p : Nat}
    (off : (s.plan p).active = false) : (t.plan p).active = false := by
  have emptied : ∀ u : State, (u.plan p).active = false → ((emptySlot u).plan p).active = false := fun u hu => by
    unfold emptySlot
    split
    · next slot _ => exact (active_setSource false slot.plan p { u with preempt.slot := none }).elim (fun same => same.trans hu) id
    · exact hu
  have ends : ∀ q outcome, ((consider (unstack q outcome s)).plan p).active = false := fun q outcome => by
    rw [consider_unadmitted (by rw [(plansOnly_unstack q outcome s).mode]; exact mode)]
    unfold unstack
    dsimp only
    rw [active_refreshRequest]
    have marked : ((changePlan q (fun x => { x with outcome := outcome })
        { s with preempt.stack := s.preempt.stack.filter (fun x => decide (x.plan ≠ q)) }).plan p).active = false :=
      (active_changePlan (by exact fun _ => rfl) q p _).trans off
    split
    · exact emptied _ marked
    · exact marked
  have top : ∀ f, ((changeTop f s).plan p).active = false := fun f => by
    unfold changeTop
    split <;> exact off
  unfold topStep at step
  dsimp only at step
  repeat' split at step
  all_goals cases step
  · exact ends _ _
  · exact top _
  · exact top _
  · exact top _
  · exact ends _ _
  · exact ends _ _

theorem advance_inactive (steps : Nat) {s : State} (mode : s.control.mode.admits = false) {p : Nat} (off : (s.plan p).active = false) :
    ((advance steps s).plan p).active = false := by
  induction steps generalizing s with
  | zero => exact off
  | succ n ih =>
    unfold advance
    split
    · next t step => exact ih (by rw [(plansOnly_topStep mode step).mode]; exact mode) (topStep_inactive mode step off)
    · exact off

theorem sourcesInactive_inactive {plans : List Nat} {s : State} (mode : s.control.mode.admits = false) {p : Nat} (member : p ∈ plans)
    (first : 1 ≤ p) (last : p ≤ s.preempt.plans.length) : ((sourcesInactive plans s).plan p).active = false := by
  have set : ((eachOf plans (setSource false) s).plan p).active = false :=
    active_eachOf (fun p s first last => active_setSource_same false first last)
      (fun q p s is => (active_setSource false q p s).elim (fun same => same.trans is) id) (length_setSource false) member first last
  unfold sourcesInactive
  dsimp only
  split
  · exact advance_inactive _ (by rw [(PlansOnly.eachOf (plansOnly_setSource false) plans s).mode]; exact mode) set
  · exact set

theorem mem_plansOnDetector {s : State} {c p : Nat} (first : 1 ≤ p) (last : p ≤ 8) (on : (s.tables.plan p).on = true)
    (of : (s.tables.plan p).onDetector c = true) : p ∈ s.plansOnDetector c := by
  refine List.mem_filter.mpr ⟨?_, by simp [on, of]⟩
  simp only [planNumbers, mem_numbers]
  exact ⟨first, last⟩

/-! #### The report of a change (R151) -/

theorem reportChange_reports {c : Nat} {t : Time} {s : State} {d : Detector} (has : s.detector c = some d) (out : d.inFault = false)
    (changes : d.reported ≠ d.plain (s.tables.detector c)) :
    d.det c (d.plain (s.tables.detector c)) false t ∈ (reportChange c t s).event.reports := by
  unfold reportChange
  rw [has]
  dsimp only
  rw [out, if_neg (by simp [changes]), report_eq has]
  simp

/-- What a conditioned transition makes of its channel before a change is reported. -/
structure Detector.Judged (d : Detector) (x : Transition) (r : DetectorRec) (free : Bool) (d' : Detector) : Prop where
  occupied : d'.occupied = x.onset
  inFault : d'.inFault = d.inFault
  reported : d'.reported = d.reported
  lastDet : d'.lastDet = d.lastDet
  called : x.onset = true → r.demand = true → free = true → d.inFault = false → d'.call = some x.time

/-- What follows a change that has been reported (R153). -/
def calledOn (c : Nat) (onset : Bool) (u : State) : State :=
  if onset then (if u.inFault c then u else sourcesActive true (u.plansOnDetector c) u) else sourcesInactive (u.plansOnDetector c) u

theorem takeTransition_reported {c : Nat} (x : Transition) {s : State} {d : Detector} (has : s.detector c = some d) :
    ∃ u d', takeTransition c x s = calledOn c x.onset (reportChange c x.time u) ∧ u.detector c = some d' ∧ u.tables = s.tables
      ∧ u.control = s.control ∧ u.preempt = s.preempt
      ∧ d.Judged x (s.tables.detector c) (decide (s.shown (s.tables.detector c).served.toNat ≠ .go)) d' := by
  obtain ⟨onset, t⟩ := x
  cases onset with
  | true =>
    have onset := detector_changeDetector_same has (fun d => d.onset (s.tables.detector c) t s.clock.now)
    obtain ⟨w, d', made, record, frame, inFault, occupied, reported, lastDet⟩ : ∃ w d',
        (if (decide ((s.tables.detector c).presenceMs ≠ 0) && decide ((s.tables.detector c).presenceMs ≤ (s.clock.now - t).toNat)) = true
          then raiseDetector .stuck c (changeDetector c (fun d => d.onset (s.tables.detector c) t s.clock.now) s)
          else changeDetector c (fun d => d.onset (s.tables.detector c) t s.clock.now) s) = w
        ∧ w.detector c = some d' ∧ (w.store = s.store ∧ w.engine = s.engine ∧ w.control = s.control ∧ w.preempt = s.preempt)
        ∧ d'.inFault = d.inFault ∧ d'.occupied = true ∧ d'.reported = d.reported ∧ d'.lastDet = d.lastDet := by
      split
      · exact ⟨_, _, rfl, raiseDetector_record onset, by simp, rfl, rfl, rfl, rfl⟩
      · exact ⟨_, _, rfl, onset, by simp, rfl, rfl, rfl, rfl⟩
    obtain ⟨store, engine, control, preempt⟩ := frame
    have ended := endDetector_record (f := .idle) record
    have tables : (endDetector .idle c w).tables = s.tables := tables_congr (by simp [store])
    have shown : ∀ g, (endDetector .idle c w).shown g = s.shown g := fun g => by unfold State.shown State.group; simp [engine]
    have set := setCall_record (t := t) ended
    rw [tables, shown] at set
    refine ⟨_, _, ?_, set, (tables_congr (by simp)).trans tables, by simp [control], by simp [preempt], ⟨?_, ?_, ?_, ?_, fun _ demand free out => ?_⟩⟩
    · subst made; rfl
    · split <;> exact occupied
    · split <;> exact inFault
    · split <;> exact reported
    · split <;> exact lastDet
    · rw [demand, free, show (d'.mark false .idle).inFault = false from inFault.trans out]
      rfl
  | false =>
    have offset := detector_changeDetector_same has (fun d => { d with occupied := false, since := t, stuckAt := none })
    exact ⟨_, _, rfl, endDetector_record (f := .stuck) offset, tables_congr (by simp), by simp, by simp, ⟨rfl, rfl, rfl, rfl, nofun⟩⟩

theorem calledOn_reporting {K : FaultKind → Option Nat → Prop} (c : Nat) (onset : Bool) {u : State} (limit : MayTake K u) :
    Reporting K u (calledOn c onset u) := by
  unfold calledOn
  repeat' split
  · exact .refl K u
  · exact reporting_sourcesActive true _ limit
  · exact reporting_sourcesInactive _ limit

/-- The report that a conditioned transition makes when it changes the reported state. -/
theorem takeTransition_reports {c : Nat} (x : Transition) {s : State} {d : Detector} (has : s.detector c = some d) (out : d.inFault = false)
    (flash : s.control.mode.permit = false)
    (changes : ∀ d' : Detector, d.Judged x (s.tables.detector c) (decide (s.shown (s.tables.detector c).served.toNat ≠ .go)) d' →
      d'.plain (s.tables.detector c) = x.onset ∧ d.reported ≠ x.onset) :
    { channel := c, occupied := x.onset, fault := false, time := x.time, occupancy := occupancyOf d x.onset false x.time }
      ∈ (takeTransition c x s).event.reports := by
  obtain ⟨u, d', made, record, tables, control, -, judged⟩ := takeTransition_reported x has
  obtain ⟨plain, apart⟩ := changes d' judged
  have told := reportChange_reports (t := x.time) record (judged.inFault.trans out) (by rw [tables, plain, judged.reported]; exact apart)
  obtain ⟨more, kept⟩ := (calledOn_reporting (K := fun _ _ => False) c x.onset (u := reportChange c x.time u)
    (mayTake_rest (by simpa [control] using flash))).reports
  rw [made, kept]
  refine List.mem_append_left _ ?_
  rw [tables, plain] at told
  rwa [show d'.det c x.onset false x.time
    = { channel := c, occupied := x.onset, fault := false, time := x.time, occupancy := occupancyOf d x.onset false x.time } by
      unfold Detector.det occupancyOf; rw [judged.lastDet]] at told

/-- The sources of the plans that a conditioned transition calls (R153). -/
theorem takeTransition_active {c : Nat} (x : Transition) {s : State} {d : Detector} (has : s.detector c = some d) (out : d.inFault = false)
    (flash : s.control.mode.permit = false) {p : Nat} (first : 1 ≤ p) (last : p ≤ 8) (eight : s.preempt.plans.length = 8)
    (on : (s.tables.plan p).on = true) (of : (s.tables.plan p).onDetector c = true) :
    ((takeTransition c x s).plan p).active = x.onset := by
  obtain ⟨u, d', made, record, tables, control, preempt, judged⟩ := takeTransition_reported x has
  have told := reportChange_record (t := x.time) record
  have free : (reportChange c x.time u).inFault c = false := by
    unfold State.inFault
    rw [told, told_fields]
    exact judged.inFault.trans out
  have mode : (reportChange c x.time u).control.mode.admits = false := by
    simpa [control] using admits_of_not_permit flash
  have tables' : (reportChange c x.time u).tables = s.tables := (tables_congr (by simp)).trans tables
  have member : p ∈ (reportChange c x.time u).plansOnDetector c :=
    mem_plansOnDetector first last (by rw [tables']; exact on) (by rw [tables']; exact of)
  have length : p ≤ (reportChange c x.time u).preempt.plans.length := by
    simpa [preempt, eight] using last
  rw [made]
  unfold calledOn
  cases x.onset with
  | true =>
    simp only [if_true, free, Bool.false_eq_true, if_false]
    exact sourcesActive_active true mode member first length
  | false =>
    simp only [Bool.false_eq_true, if_false]
    exact sourcesInactive_inactive mode member first length

end Sys2Proof.Machine

/-! ### The settlement of the debounce and of a detector sample (R143 to R151) -/

namespace Sys2Proof.Machine

open Sys2Proof.Safety

/-! #### The record of a channel at the end of a sample -/

/-- What the tests and the decision about fault leave of a record that its entry has made. -/
structure Detector.Sampled (d : Detector) (h : Health) (r : DetectorRec) (now : Time) (d' : Detector) : Prop where
  health : d'.health = h
  faulty : d'.inFault = true ↔ d'.stationAbsent = true ∨ d'.openFault = true ∨ d'.shortFault = true ∨ d'.stuckFault = true
    ∨ d'.idleFault = true ∨ d'.chatterFault = true
  okSince : d'.okSince = (d.healthTaken h now).okSince
  openFault : d'.openFault = (d.healthTaken h now).openFault
  shortFault : d'.shortFault = (d.healthTaken h now).shortFault
  chatterFault : d'.chatterFault = (d.chatterTaken r now).chatterFault
  raw : d'.raw = d.raw
  pending : d'.pending = d.pending
  occupied : d'.occupied = d.occupied
  since : d'.since = d.since
  onsets : d'.onsets = d.onsets
  stuckAt : d'.stuckAt = d.stuckAt
  idleAt : d'.idleAt = d.idleAt
  stuckFault : d'.stuckFault = d.stuckFault
  idleFault : d'.idleFault = d.idleFault
  call : d'.inFault = d.inFault → d'.call = d.call
  called : d.inFault = false → d'.call = d.call

theorem chatterTaken_health (h : Health) (r : DetectorRec) (now : Time) (d : Detector) :
    ((d.healthTaken h now).chatterTaken r now).chatterFault = (d.chatterTaken r now).chatterFault := by
  rw [healthTaken_fields]
  unfold Detector.chatterTaken Detector.chatters
  split <;> rfl

theorem faulty_iff (d : Detector) : d.faulty = true ↔ d.stationAbsent = true ∨ d.openFault = true ∨ d.shortFault = true ∨ d.stuckFault = true
    ∨ d.idleFault = true ∨ d.chatterFault = true := by
  simp [Detector.faulty, detectorFaults, Detector.has]

/-- The entry into fault leaves the call (R149, R150). -/
theorem decideFault_call {c : Nat} {s : State} {d d' : Detector} (has : s.detector c = some d) (out : d.inFault = false)
    (record : (decideFault c s).detector c = some d') : d'.call = d.call := by
  cases faulty : d.faulty with
  | true =>
    have entered := detector_changeDetector_same has (fun x => { x with inFault := true })
    have told : (enterFault c d s).detector c = some ({ d with inFault := true }.reporting (faultState (s.tables.detector c) d) true s.clock.now s.clock.now) := by
      unfold enterFault
      dsimp only
      refine (detector_congr (detectors_sourcesInactive _ _) c).trans ?_
      rw [report_eq entered (faultState (s.tables.detector c) d) true s.clock.now]
      exact detector_changeDetector_same entered _
    rw [decideFault_enters has faulty out, told] at record
    cases record
    unfold Detector.reporting
    split <;> rfl
  | false =>
    rw [decideFault_stays has (out.trans faulty.symm), has] at record
    cases record
    rfl

theorem decided_sampled {c : Nat} {h : Health} {r : DetectorRec} {now : Time} {s : State} {d : Detector}
    (has : s.detector c = some ((d.healthTaken h now).chatterTaken r now)) :
    ∃ d', (decideFault c s).detector c = some d' ∧ d.Sampled h r now d' := by
  obtain ⟨d', record, made, same⟩ := decideFault_record has
  have called := fun out => decideFault_call (d' := d') has out record
  have kept : ((d.healthTaken h now).chatterTaken r now) = { d with
      health := h, okSince := (d.healthTaken h now).okSince, openFault := (d.healthTaken h now).openFault
      shortFault := (d.healthTaken h now).shortFault, chatterFault := (d.chatterTaken r now).chatterFault } := by
    rw [← chatterTaken_health h r now d, chatterTaken_fields, healthTaken_fields]
  have faulty : d'.inFault = d'.faulty := by rw [made]; rfl
  generalize ((d.healthTaken h now).chatterTaken r now) = d₃ at *
  have out : d₃.inFault = d.inFault := by rw [kept]
  have call : d₃.call = d.call := by rw [kept]
  refine ⟨d', record, ?_, by rw [faulty]; exact faulty_iff d', ?_, ?_, ?_, ?_, ?_, ?_, ?_, ?_, ?_, ?_, ?_, ?_, ?_, fun is => ?_, fun is => ?_⟩
  · rw [made, kept]
  · rw [made, kept]
  · rw [made, kept]
  · rw [made, kept]
  · rw [made, kept]
  · rw [made, kept]
  · rw [made, kept]
  · rw [made, kept]
  · rw [made, kept]
  · rw [made, kept]
  · rw [made, kept]
  · rw [made, kept]
  · rw [made, kept]
  · rw [made, kept]
  · rw [same (by rw [out, ← is, made]), call]
  · rw [called (out.trans is), call]

theorem healthTaken_ok {now : Time} {d : Detector} (fault : d.openFault = true ∨ d.shortFault = true) :
    (d.okSince = none → (d.healthTaken .ok now).okSince = some now ∧ (d.healthTaken .ok now).openFault = d.openFault
        ∧ (d.healthTaken .ok now).shortFault = d.shortFault)
      ∧ ∀ since, d.okSince = some since →
        ((now - since).toNat < 10000 → (d.healthTaken .ok now).okSince = some since ∧ (d.healthTaken .ok now).openFault = d.openFault
          ∧ (d.healthTaken .ok now).shortFault = d.shortFault)
        ∧ (10000 ≤ (now - since).toNat → (d.healthTaken .ok now).okSince = none ∧ (d.healthTaken .ok now).openFault = false
          ∧ (d.healthTaken .ok now).shortFault = false) := by
  have any : (d.openFault || d.shortFault) = true := by simpa using fault
  unfold Detector.healthTaken
  dsimp only
  rw [if_pos any]
  refine ⟨fun never => ?_, fun since at' => ⟨fun short => ?_, fun long => ?_⟩⟩
  · rw [never]
    exact ⟨rfl, rfl, rfl⟩
  · rw [at']
    dsimp only
    rw [if_neg (by omega)]
    exact ⟨rfl, rfl, rfl⟩
  · rw [at']
    dsimp only
    rw [if_pos long]
    exact ⟨rfl, rfl, rfl⟩

theorem onsetTaken_fields (r : DetectorRec) (free : Bool) (t now : Time) (d : Detector) :
    (d.onsetTaken r free t now).onsets = (d.onset r t now).onsets ∧ (d.onsetTaken r free t now).stuckAt = (d.onset r t now).stuckAt
      ∧ (d.onsetTaken r free t now).idleAt = (d.onset r t now).idleAt ∧ (d.onsetTaken r free t now).idleFault = false
      ∧ (r.demand = true → free = true → d.inFault = false → (d.onsetTaken r free t now).call = some t) := by
  unfold Detector.onsetTaken
  dsimp only
  rw [told_fields]
  dsimp only
  generalize (decide (r.presenceMs ≠ 0) && decide (r.presenceMs ≤ (now - t).toNat)) = late
  refine ⟨?_, ?_, ?_, ?_, fun demand free out => ?_⟩
  · repeat' split
    all_goals rfl
  · repeat' split
    all_goals rfl
  · repeat' split
    all_goals rfl
  · repeat' split
    all_goals rfl
  · rw [demand, free]
    cases late <;> simp [Detector.mark, Detector.onset, out]

theorem offsetTaken_fields (r : DetectorRec) (t : Time) (d : Detector) : (d.offsetTaken r t).stuckAt = none ∧ (d.offsetTaken r t).stuckFault = false := by
  unfold Detector.offsetTaken
  rw [told_fields]
  exact ⟨rfl, rfl⟩

/-! #### The served group of a DEMAND channel -/

/-- Under tables that pass their checks the served group of a DEMAND channel is live (V8), and a live group at rest is not shown GO. -/
theorem served_not_go {s : State} (rest : resting s = true) (tables : tableLaw s = true) {c : Nat} (first : 1 ≤ c) (last : c ≤ 48)
    (used : (s.tables.detector c).used = true) (demand : (s.tables.detector c).demand = true) : s.shown (s.tables.detector c).served.toNat ≠ .go := by
  have valid : s.tables.valid = true := by
    obtain ⟨valid, -, -⟩ := tableLaw_iff.mp tables
    cases active : s.store.active with
    | none =>
      have none' : (emptySet.detector c).used = false := by simp [TableSet.detector, emptySet, entryD, entry?, DetectorRec.used]
      rw [State.tables, active] at used
      exact absurd (used.symm.trans none') (by decide)
    | some t => simpa [State.tables, active] using valid t active
  have served : demandValid s.tables c = true := checkRecord_of_valid (check := 8) valid (by decide) (by
    rw [mem_numbers]
    exact ⟨first, last⟩)
  have live : s.tables.live (s.tables.detector c).served.toNat = true := by
    simpa [demandValid, used, demand] using served
  obtain ⟨-, flash, law⟩ := resting_iff.mp rest
  have shown := (((faced_iff (orderly_of_active (tableLaw_iff.mp tables).1)).mpr law).2 _ live).mpr flash
  rw [shown]
  nofun

end Sys2Proof.Machine

/-! ### A sample of a PRESENT station with one channel in use, in a flash mode -/

namespace Sys2Proof.Machine

open Sys2Proof.Safety

theorem eq_singleton_of_nodup {α : Type} {l : List α} {x : α} (distinct : l.Nodup) (member : x ∈ l) (all : ∀ y ∈ l, y = x) : l = [x] := by
  cases l with
  | nil => cases member
  | cons a l =>
    have first := all a (List.mem_cons_self ..)
    subst first
    cases l with
    | nil => rfl
    | cons b l =>
      have second := all b (List.mem_cons_of_mem _ (List.mem_cons_self ..))
      subst second
      simp at distinct

theorem mem_insertByKey {α : Type} {key : α → Nat} {x y : α} {l : List α} : y ∈ insertByKey key x l ↔ y = x ∨ y ∈ l := by
  induction l with
  | nil => simp [insertByKey]
  | cons z l ih =>
    unfold insertByKey
    split
    · rw [List.mem_cons]
    · rw [List.mem_cons, List.mem_cons, ih, or_left_comm]

theorem mem_sortByKey {α : Type} {key : α → Nat} {y : α} {l : List α} : y ∈ sortByKey key l ↔ y ∈ l := by
  have inserted : ∀ acc : List α, y ∈ l.foldl (fun acc x => insertByKey key x acc) acc ↔ y ∈ acc ∨ y ∈ l := by
    induction l with
    | nil => simp
    | cons x l ih =>
      intro acc
      rw [List.foldl_cons, ih, mem_insertByKey, List.mem_cons, or_comm (a := y = x), or_assoc]
  unfold sortByKey
  rw [inserted]
  simp

theorem channelsOf_single {s : State} {station c : Nat} {d : Detector} (has : s.detector c = some d)
    (at' : (s.tables.detector c).station.toNat = station)
    (only : ∀ n, (s.detector n).isSome = true → (s.tables.detector n).station.toNat = station → n = c) : s.channelsOf station = [c] := by
  refine eq_singleton_of_nodup (channelsOf_nodup s station) (mem_channelsOf has at') fun n member => ?_
  obtain ⟨numbered, of⟩ := List.mem_filter.mp member
  exact only n (List.mem_filter.mp numbered).2 (by simpa using of)

theorem pollAnswered_present {br : BranchId} {station : Nat} {s : State} (present : s.absent br station = false) :
    ∃ b, pollAnswered br station s = { s with branches := b } := by
  unfold pollAnswered
  rw [present]
  exact ⟨_, rfl⟩

theorem dsmEffect_single {br : BranchId} {station c : Nat} {inputs : List DsmInput} {s : State} {d : Detector} {e : DsmInput}
    (present : s.absent br station = false) (has : s.detector c = some d) (at' : (s.tables.detector c).station.toNat = station)
    (only : ∀ n, (s.detector n).isSome = true → (s.tables.detector n).station.toNat = station → n = c)
    (entry : entry? inputs (s.tables.detector c).input.toNat = some e) :
    ∃ b, dsmEffect br station inputs s = decideFault c (testChatter c (testHealth c e.health (takeEntry c e { s with branches := b }))) := by
  obtain ⟨b, answered⟩ := pollAnswered_present present
  refine ⟨b, ?_⟩
  have single : ({ s with branches := b } : State).channelsOf station = [c] := channelsOf_single has at' only
  have took : takeInput inputs c { s with branches := b } = testChatter c (testHealth c e.health (takeEntry c e { s with branches := b })) := by
    unfold takeInput
    rw [show ({ s with branches := b } : State).tables = s.tables from rfl, entry]
  rw [dsmEffect_eq]
  unfold dsmKept
  rw [present, answered]
  unfold takeSample
  dsimp only
  rw [if_neg (by simp), single]
  exact congrArg (decideFault c) took

/-- The stages of a sample: the states after the entry, the health test, the chatter test and the decision about fault. -/
structure Stages (c : Nat) (e : DsmInput) (s u v w x y : State) : Prop where
  start : ∃ b, u = { openEvent s with branches := b }
  entered : takeEntry c e u = v
  health : testHealth c e.health v = w
  chatter : testChatter c w = x
  decided : decideFault c x = y

/-- The kinds that an entry, a health test and a chatter test of channel `c` report. -/
def OfEntry (c : Nat) (kind : FaultKind) (subject : Option Nat) : Prop := subject = some c ∧ (kind = .detectorStuck ∨ kind = .detectorIdle)
def OfHealth (c : Nat) (kind : FaultKind) (subject : Option Nat) : Prop := subject = some c ∧ (kind = .detectorOpen ∨ kind = .detectorShort)
def OfChatter (c : Nat) (kind : FaultKind) (subject : Option Nat) : Prop := subject = some c ∧ kind = .detectorChatter

section
variable {c : Nat} {e : DsmInput} {s u v w x y : State}

theorem Stages.reporting (h : Stages c e s u v w x y) (flash : s.control.mode.permit = false) :
    Reporting (OfEntry c) (openEvent s) v ∧ Reporting (OfHealth c) v w ∧ Reporting (OfChatter c) w x ∧ Reporting (fun _ _ => False) x y := by
  obtain ⟨⟨b, rfl⟩, rfl, rfl, rfl, rfl⟩ := h
  have entered : Reporting (OfEntry c) (openEvent s) (takeEntry c e { openEvent s with branches := b }) :=
    .trans (reporting_branches ⟨b, rfl⟩) (reporting_takeEntry ⟨rfl, .inl rfl⟩ ⟨rfl, .inr rfl⟩ e (mayTake_rest (by exact flash)))
  have health := reporting_testHealth (K := OfHealth c) (c := c) ⟨rfl, .inl rfl⟩ ⟨rfl, .inr rfl⟩ e.health (takeEntry c e { openEvent s with branches := b })
  have chatter := reporting_testChatter (K := OfChatter c) (c := c) ⟨rfl, rfl⟩ (testHealth c e.health (takeEntry c e { openEvent s with branches := b }))
  refine ⟨entered, health, chatter, reporting_decideFault c (mayTake_rest ?_)⟩
  rw [chatter.control, health.control, entered.control]
  exact flash

theorem Stages.all (h : Stages c e s u v w x y) (flash : s.control.mode.permit = false) : Reporting (fun _ _ => True) (openEvent s) y := by
  obtain ⟨entered, health, chatter, decided⟩ := h.reporting flash
  exact (((entered.mono fun _ _ _ => trivial).trans (health.mono fun _ _ _ => trivial)).trans (chatter.mono fun _ _ _ => trivial)).trans
    (decided.mono fun _ _ _ => trivial)

theorem Stages.well (h : Stages c e s u v w x y) (flash : s.control.mode.permit = false) (well : s.faults.Well) :
    v.faults.Well ∧ w.faults.Well ∧ x.faults.Well ∧ y.faults.Well := by
  obtain ⟨entered, health, chatter, decided⟩ := h.reporting flash
  have v := entered.faults.well (by exact well)
  have w := health.faults.well v
  have x := chatter.faults.well w
  exact ⟨v, w, x, decided.faults.well x⟩

theorem Stages.room (h : Stages c e s u v w x y) (flash : s.control.mode.permit = false) (well : s.faults.Well)
    (room : s.faults.entries.length < 28) : v.faults.entries.length < 32 ∧ w.faults.entries.length < 32 := by
  obtain ⟨entered, health, -, -⟩ := h.reporting flash
  have first := entered.faults.length (by exact well) [(.detectorStuck, some c), (.detectorIdle, some c)] (fun kind subject is => by
    obtain ⟨rfl, rfl | rfl⟩ := is <;> simp)
  have second := health.faults.length (h.well flash well).1 [(.detectorOpen, some c), (.detectorShort, some c)] (fun kind subject is => by
    obtain ⟨rfl, rfl | rfl⟩ := is <;> simp)
  have same : (openEvent s).faults.entries.length = s.faults.entries.length := rfl
  simp only [List.length_cons, List.length_nil] at first second
  omega

/-- The records at the stages. -/
theorem Stages.records (h : Stages c e s u v w x y) {d : Detector} (has : s.detector c = some d) :
    ∃ d₁ d', v.detector c = some d₁ ∧ d.Entered d₁
      ∧ w.detector c = some (d₁.healthTaken e.health s.clock.now)
      ∧ x.detector c = some ((d₁.healthTaken e.health s.clock.now).chatterTaken (s.tables.detector c) s.clock.now)
      ∧ y.detector c = some d' ∧ d₁.Sampled e.health (s.tables.detector c) s.clock.now d' := by
  obtain ⟨⟨b, rfl⟩, rfl, rfl, rfl, rfl⟩ := h
  obtain ⟨d₁, record, entered⟩ := takeEntry_entered e (s := { openEvent s with branches := b }) (d := d) has
  have health := testHealth_record (health := e.health) record
  rw [show (takeEntry c e { openEvent s with branches := b }).clock.now = s.clock.now by simp] at health
  have chatter := testChatter_record health
  rw [show (testHealth c e.health (takeEntry c e { openEvent s with branches := b })).clock.now = s.clock.now by simp,
    show (testHealth c e.health (takeEntry c e { openEvent s with branches := b })).tables = s.tables from tables_congr (by simp)] at chatter
  obtain ⟨d', decided, sampled⟩ := decided_sampled chatter
  exact ⟨d₁, d', record, entered, health, chatter, decided, sampled⟩

/-- A detector report of an event is handed to the link interface at its end. -/
theorem RestEnd.det_handed {K : FaultKind → Option Nat → Prop} {s u t : State} (h : RestEnd s u t) (did : Reporting K (openEvent s) u) {r : Det}
    (member : r ∈ u.event.reports) :
    ∃ made : List OutFrame, made.all isReport = true ∧ t.link = made.foldl Link.accept s.link ∧ OutFrame.det r ∈ made := by
  obtain ⟨made, alarms, link⟩ := did.alarms
  refine ⟨made ++ (sortByKey Det.channel u.event.reports).map OutFrame.det, ?_, ?_, List.mem_append_right _ (List.mem_map.mpr ⟨r, ?_, rfl⟩)⟩
  · rw [List.all_append, all_isReport_of_alarms alarms]
    simp [isReport]
  · rw [h.link, link, List.foldl_append]
    rfl
  · exact mem_sortByKey.mpr member

end

end Sys2Proof.Machine

/-! ### O60: the debounce, and a sample in a flash mode -/

namespace Sys2Proof.Machine

open Sys2Proof.Safety

theorem testHealth_lists_open {c : Nat} {s : State} {d : Detector} (has : s.detector c = some d) (new : d.openFault = false)
    (room : s.faults.entries.length < 32) : listed (testHealth c .openCircuit s) .detectorOpen (some c) true .report :=
  raiseDetector_lists (f := .openCircuit) (detector_changeDetector_same (detector_changeDetector_same has _) _) new room

theorem testHealth_lists_short {c : Nat} {s : State} {d : Detector} (has : s.detector c = some d) (new : d.shortFault = false)
    (room : s.faults.entries.length < 32) : listed (testHealth c .shortCircuit s) .detectorShort (some c) true .report :=
  raiseDetector_lists (f := .shortCircuit) (detector_changeDetector_same (detector_changeDetector_same has _) _) new room

theorem testHealth_ends_open {c : Nat} {s : State} {d : Detector} {since : Time} (has : s.detector c = some d) (open' : d.openFault = true)
    (at' : d.okSince = some since) (long : 10000 ≤ (s.clock.now - since).toNat) (well : s.faults.Well) :
    notActive (testHealth c .ok s) .detectorOpen (some c) := by
  have noted := detector_changeDetector_same has (fun d => { d with health := .ok })
  have cleared := detector_changeDetector_same noted (fun d => { d with okSince := none })
  have ended := endDetector_notActive (f := .openCircuit) cleared open' (by exact well)
  have kept := reporting_endDetector (K := fun kind _ => kind = .detectorShort) (f := .shortCircuit) (c := c) rfl
    (endDetector .openCircuit c (changeDetector c (fun d => { d with okSince := none }) (changeDetector c (fun d => { d with health := .ok }) s)))
  have well' := (reporting_endDetector (K := fun _ _ => True) (f := .openCircuit) (c := c) trivial
    (changeDetector c (fun d => { d with okSince := none }) (changeDetector c (fun d => { d with health := .ok }) s))).faults.well (by exact well)
  have shown : testHealth c .ok s = endDetector .shortCircuit c (endDetector .openCircuit c
      (changeDetector c (fun d => { d with okSince := none }) (changeDetector c (fun d => { d with health := .ok }) s))) := by
    unfold testHealth
    dsimp only
    rw [noted]
    dsimp only
    rw [if_pos (by rw [open']; rfl), at']
    dsimp only
    exact if_pos long
  rw [shown]
  exact kept.keeps_notActive well' (by decide) ended

theorem chatterTaken_chatters {r : DetectorRec} {now : Time} {d : Detector} (limit : r.chatterLimit ≠ 0) :
    (d.chatterTaken r now).chatterFault = d.chatters r now := by
  unfold Detector.chatterTaken
  rw [if_neg (by simpa [BitVec.toNat_eq] using limit)]
  rfl

theorem testChatter_lists {c : Nat} {s : State} {d : Detector} (has : s.detector c = some d) (new : d.chatterFault = false)
    (limit : (s.tables.detector c).chatterLimit ≠ 0) (many : d.chatters (s.tables.detector c) s.clock.now = true) (room : s.faults.entries.length < 32) :
    listed (testChatter c s) .detectorChatter (some c) true .report := by
  have raised : testChatter c s = raiseDetector .chatter c s := by
    unfold testChatter
    rw [has]
    dsimp only
    rw [if_neg (by simpa [BitVec.toNat_eq] using limit), if_pos (by simpa [Detector.chatters] using many)]
  rw [raised]
  exact raiseDetector_lists has new room

section
variable {c : Nat} {e : DsmInput} {s u v w x y t : State}

theorem Stages.keeps_health (h : Stages c e s u v w x y) (rest : resting s = true) (closed : RestEnd s y t) (well : s.faults.Well) :
    (∀ {kind : FaultKind}, kind ≠ .detectorChatter → listed w kind (some c) true .report → listed t kind (some c) true .report)
      ∧ (∀ {kind : FaultKind}, kind ≠ .detectorChatter → notActive w kind (some c) → notActive t kind (some c))
      ∧ (listed x .detectorChatter (some c) true .report → listed t .detectorChatter (some c) true .report) := by
  obtain ⟨-, flash, -⟩ := resting_iff.mp rest
  obtain ⟨-, -, chatter, decided⟩ := h.reporting flash
  obtain ⟨-, wellW, wellX, -⟩ := h.well flash well
  refine ⟨fun other lists => ?_, fun other ended => ?_, fun lists => ?_⟩
  · have kept := decided.keeps_listed wellX not_false (chatter.keeps_listed wellW (fun is => other is.2) lists)
    unfold listed
    rw [closed.faults]
    exact kept
  · have kept := decided.keeps_notActive wellX not_false (chatter.keeps_notActive wellW (fun is => other is.2) ended)
    unfold notActive
    rw [closed.faults]
    exact kept
  · have kept := decided.keeps_listed wellX not_false lists
    unfold listed
    rw [closed.faults]
    exact kept

/-- The health test of a sample (R146). -/
theorem Stages.health_clauses (h : Stages c e s u v w x y) (rest : resting s = true) (closed : RestEnd s y t) {d d₁ d' : Detector}
    (record : v.detector c = some d₁) (entered : d.Entered d₁)
    (sampled : d₁.Sampled e.health (s.tables.detector c) s.clock.now d') :
    (e.health = .openCircuit → d'.openFault = true ∧ d'.okSince = none
        ∧ (d.openFault = false → faultLaw s = true → s.faults.entries.length < 28 → listed t .detectorOpen (some c) true .report))
      ∧ (e.health = .shortCircuit → d'.shortFault = true ∧ d'.okSince = none
        ∧ (d.shortFault = false → faultLaw s = true → s.faults.entries.length < 28 → listed t .detectorShort (some c) true .report))
      ∧ (e.health = .ok → d.openFault = true ∨ d.shortFault = true →
        (d.okSince = none → d'.okSince = some s.clock.now ∧ d'.openFault = d.openFault ∧ d'.shortFault = d.shortFault)
        ∧ (∀ since, d.okSince = some since →
          ((s.clock.now - since).toNat < 10000 → d'.okSince = some since ∧ d'.openFault = d.openFault ∧ d'.shortFault = d.shortFault)
          ∧ (10000 ≤ (s.clock.now - since).toNat → d'.okSince = none ∧ d'.openFault = false ∧ d'.shortFault = false
            ∧ (faultLaw s = true → d.openFault = true → notActive t .detectorOpen (some c))))) := by
  obtain ⟨-, flash, -⟩ := resting_iff.mp rest
  have health := h.health
  have now : v.clock.now = s.clock.now := congrArg Clock.now (h.reporting flash).1.clock
  refine ⟨fun is => ?_, fun is => ?_, fun is fault => ?_⟩
  · rw [is] at sampled health
    refine ⟨sampled.openFault, sampled.okSince, fun new law few => ?_⟩
    have well := faultLaw_iff.mp law
    exact (h.keeps_health rest closed well).1 (by decide)
      (health ▸ testHealth_lists_open record (entered.openFault.trans new) (h.room flash well few).1)
  · rw [is] at sampled health
    refine ⟨sampled.shortFault, sampled.okSince, fun new law few => ?_⟩
    have well := faultLaw_iff.mp law
    exact (h.keeps_health rest closed well).1 (by decide)
      (health ▸ testHealth_lists_short record (entered.shortFault.trans new) (h.room flash well few).1)
  · rw [is] at sampled health
    rw [← entered.openFault, ← entered.shortFault, ← entered.okSince] at *
    obtain ⟨never, timed⟩ := healthTaken_ok (now := s.clock.now) fault
    rw [← sampled.okSince, ← sampled.openFault, ← sampled.shortFault] at never timed
    refine ⟨never, fun since at' => ⟨(timed since at').1, fun long => ?_⟩⟩
    obtain ⟨gone, open', short⟩ := (timed since at').2 long
    refine ⟨gone, open', short, fun law was => ?_⟩
    have well := faultLaw_iff.mp law
    exact (h.keeps_health rest closed well).2.1 (by decide)
      (health ▸ testHealth_ends_open record was at' (by rw [now]; exact long) (h.well flash well).1)

/-- The chatter test of a sample (R148). -/
theorem Stages.chatter_clauses (h : Stages c e s u v w x y) (rest : resting s = true) (closed : RestEnd s y t) {d d₁ d' : Detector}
    (entered : d.Entered d₁) (record : w.detector c = some (d₁.healthTaken e.health s.clock.now))
    (sampled : d₁.Sampled e.health (s.tables.detector c) s.clock.now d') (limit : (s.tables.detector c).chatterLimit ≠ 0) :
    (d'.chatterFault = true ↔ (s.tables.detector c).chatterLimit.toNat < (d'.onsets.filter (fun u => decide ((s.clock.now - u).toNat < 60000))).length)
      ∧ (d'.chatterFault = true → d.chatterFault = false → faultLaw s = true → s.faults.entries.length < 28 →
        listed t .detectorChatter (some c) true .report) := by
  obtain ⟨-, flash, -⟩ := resting_iff.mp rest
  have is : d'.chatterFault = d₁.chatters (s.tables.detector c) s.clock.now := sampled.chatterFault.trans (chatterTaken_chatters limit)
  refine ⟨by rw [is, sampled.onsets]; exact decide_eq_true_iff, fun many new law few => ?_⟩
  have well := faultLaw_iff.mp law
  obtain ⟨first, second, -, -⟩ := h.reporting flash
  have tables : w.tables = s.tables := tables_congr (by rw [second.store, first.store]; rfl)
  have now : w.clock.now = s.clock.now := congrArg Clock.now (second.clock.trans first.clock)
  refine (h.keeps_health rest closed well).2.2 (h.chatter ▸ testChatter_lists record ?_ (by rw [tables]; exact limit) ?_ (h.room flash well few).2)
  · rw [healthTaken_fields]
    exact entered.chatterFault.trans new
  · rw [tables, now, healthTaken_fields]
    exact is ▸ many

end

end Sys2Proof.Machine

/-! ### O60: an entry of one transition, and the settlement -/

namespace Sys2Proof.Machine

open Sys2Proof.Safety

theorem occupancyOf_onset (d : Detector) (time : Time) : occupancyOf d true false time = none := by
  unfold occupancyOf
  split <;> rfl

theorem occupancyOf_offset {d : Detector} {before : Time} (last : d.lastDet = some (true, false, before)) (time : Time) :
    occupancyOf d false false time = some (min 65535 (time - before).toNat) := by
  unfold occupancyOf
  rw [last]
  rfl

theorem used_of_answers {s : State} {br : BranchId} {station c : Nat} {role : Role} (answers : s.answersPoll br station role = true)
    (at' : (s.tables.detector c).station.toNat = station) : (s.tables.detector c).used = true := by
  have role : s.tables.roleOn br station = some role := by
    unfold State.answersPoll at answers
    simp only [Bool.and_eq_true, decide_eq_true_eq] at answers
    exact answers.2
  have stood : station ≠ 0 := by
    rintro rfl
    unfold TableSet.roleOn at role
    split at role
    · next r found =>
      split at role
      · next =>
        have both : (r.used && decide (r.address.toNat = 0)) = true := (List.find?_some found :)
        obtain ⟨used, address⟩ := Bool.and_eq_true_iff.mp both
        unfold StationRec.used at used
        simp only [decide_eq_true_eq] at address used
        exact used (BitVec.eq_of_toNat_eq address)
      · cases role
    · cases role
  unfold DetectorRec.used
  simp only [decide_eq_true_eq]
  intro zero
  rw [zero] at at'
  exact stood at'.symm

section
variable {c : Nat} {e : DsmInput} {s u v w x y t : State}

/-- A transition younger than its debounce waits. -/
theorem Stages.waits (h : Stages c e s u v w x y) {d d₁ d' : Detector} (has : s.detector c = some d) (record : v.detector c = some d₁)
    (sampled : d₁.Sampled e.health (s.tables.detector c) s.clock.now d') (settled : d.Settled e) {age : Half} (known : age ≠ 65535)
    (ages : e.ages = [age]) (flips : e.occupied = !d.occupied) (since : age.toNat ≤ (s.clock.now - d.since).toNat)
    (young : age.toNat < (s.tables.detector c).debounceMs e.occupied) :
    d'.raw = some e.occupied ∧ d'.pending = [{ onset := e.occupied, time := s.clock.now - BitVec.ofNat 32 age.toNat }]
      ∧ d'.occupied = d.occupied ∧ d'.since = d.since ∧ d'.onsets = d.onsets ∧ (d'.inFault = d.inFault → d'.call = d.call) := by
  obtain ⟨⟨b, rfl⟩, rfl, -, -, -⟩ := h
  have waits := takeEntry_waits (s := { openEvent s with branches := b }) has settled known ages flips since young
  rw [waits] at record
  cases record
  exact ⟨sampled.raw, sampled.pending, sampled.occupied, sampled.since, sampled.onsets, sampled.call⟩

/-- Two transitions within the debounce leave no trace. -/
theorem Stages.cancels (h : Stages c e s u v w x y) {d d₁ d' : Detector} (has : s.detector c = some d) (record : v.detector c = some d₁)
    (sampled : d₁.Sampled e.health (s.tables.detector c) s.clock.now d') (settled : d.Settled e) {first second : Half} (known : first ≠ 65535)
    (known' : second ≠ 65535) (ages : e.ages = [first, second]) (back : e.occupied = d.occupied) (order : second.toNat ≤ first.toNat)
    (since : first.toNat ≤ (s.clock.now - d.since).toNat) (close : first.toNat - second.toNat ≤ (s.tables.detector c).debounceMs (!d.occupied)) :
    d'.pending = [] ∧ d'.raw = some d.occupied ∧ d'.occupied = d.occupied ∧ d'.since = d.since ∧ d'.onsets = d.onsets
      ∧ (d'.inFault = d.inFault → d'.call = d.call) := by
  obtain ⟨⟨b, rfl⟩, rfl, -, -, -⟩ := h
  have gone := takeEntry_cancels (s := { openEvent s with branches := b }) has settled known known' ages back order since close
  rw [gone] at record
  cases record
  exact ⟨sampled.pending, back ▸ sampled.raw, sampled.occupied, sampled.since, sampled.onsets, sampled.call⟩

/-- A transition past its debounce becomes the conditioned state: the state in which it is taken, and its record. -/
structure Confirmed (c : Nat) (k : Transition) (s v : State) (d d₁ : Detector) : Prop where
  taken : ∃ f, v = takeTransition c k f ∧ f.detector c = some { d with pending := [], raw := some k.onset } ∧ f.store = s.store
    ∧ f.control = s.control ∧ f.preempt = s.preempt ∧ f.engine = s.engine
  record : d₁ = Detector.taken (s.tables.detector c) (decide (s.shown (s.tables.detector c).served.toNat ≠ .go)) s.clock.now k
    { d with pending := [], raw := some k.onset }

theorem Stages.confirmed (h : Stages c e s u v w x y) {d d₁ : Detector} (has : s.detector c = some d) (record : v.detector c = some d₁)
    (settled : d.Settled e) {age : Half} (known : age ≠ 65535)
    (ages : e.ages = [age]) (flips : e.occupied = !d.occupied) (since : age.toNat ≤ (s.clock.now - d.since).toNat)
    (past : (s.tables.detector c).debounceMs e.occupied ≤ age.toNat) :
    Confirmed c { onset := e.occupied, time := s.clock.now - BitVec.ofNat 32 age.toNat } s v d d₁ := by
  obtain ⟨⟨b, rfl⟩, rfl, -, -, -⟩ := h
  obtain ⟨l, made, joined⟩ := takeEntry_confirms (s := { openEvent s with branches := b }) has settled known ages flips since past
  refine ⟨⟨_, made, joined, rfl, rfl, rfl, rfl⟩, ?_⟩
  rw [made, takeTransition_record joined] at record
  exact (Option.some.inj record).symm

/-- What a confirmed transition leaves of the channel's record. -/
theorem Confirmed.fields {k : Transition} {d d₁ d' : Detector} (h : Confirmed c k s v d d₁)
    (sampled : d₁.Sampled e.health (s.tables.detector c) s.clock.now d') {ms : Nat} (short : ms < 2 ^ 32) (at' : k.time = s.clock.now - BitVec.ofNat 32 ms) :
    d'.raw = some k.onset ∧ d'.pending = [] ∧ d'.occupied = k.onset ∧ d'.since = k.time
      ∧ (k.onset = true → (s.tables.detector c).chatterLimit ≠ 0 → d.onsets.contains k.time = false →
        d'.onsets = (if (s.tables.detector c).chatterLimit.toNat + 1 < d.onsets.length + 1 then (d.onsets ++ [k.time]).drop 1 else d.onsets ++ [k.time]))
      ∧ (k.onset = true → (s.tables.detector c).maxPresence ≠ 0 → ms < (s.tables.detector c).maxPresence.toNat * 60000 →
        d'.stuckAt = some (k.time + BitVec.ofNat 32 ((s.tables.detector c).maxPresence.toNat * 60000)))
      ∧ (k.onset = true → (s.tables.detector c).maxIdle ≠ 0 →
        d'.idleAt = some (k.time + BitVec.ofNat 32 ((s.tables.detector c).maxIdle.toNat * 60000)) ∧ d'.idleFault = false)
      ∧ (k.onset = false → d'.stuckAt = none ∧ d'.stuckFault = false) := by
  have transited := taken_transited (s.tables.detector c) (decide (s.shown (s.tables.detector c).served.toNat ≠ .go)) s.clock.now k
    { d with pending := [], raw := some k.onset }
  obtain ⟨occupied, since⟩ := taken_state (s.tables.detector c) (decide (s.shown (s.tables.detector c).served.toNat ≠ .go)) s.clock.now k
    { d with pending := [], raw := some k.onset }
  rw [← h.record] at transited occupied since
  have taken := h.record
  refine ⟨sampled.raw.trans transited.raw, sampled.pending.trans transited.pending, sampled.occupied.trans occupied, sampled.since.trans since,
    fun onset limit new => ?_, fun onset limit early => ?_, fun onset limit => ?_, fun offset => ?_⟩
  · rw [Detector.taken, if_pos onset] at taken
    rw [sampled.onsets, taken, (onsetTaken_fields _ _ _ _ _).1]
    unfold Detector.onset
    dsimp only
    rw [if_neg (not_or.mpr ⟨limit, by simpa using new⟩), List.length_append]
    rfl
  · rw [Detector.taken, if_pos onset] at taken
    rw [sampled.stuckAt, taken, (onsetTaken_fields _ _ _ _ _).2.1]
    unfold Detector.onset
    dsimp only
    have positive : (s.tables.detector c).maxPresence.toNat ≠ 0 := by simpa [BitVec.toNat_eq] using limit
    rw [at', ago_toNat _ short, if_neg (by unfold DetectorRec.presenceMs; omega)]
    rfl
  · rw [Detector.taken, if_pos onset] at taken
    obtain ⟨-, -, idle, fault, -⟩ := onsetTaken_fields (s.tables.detector c) (decide (s.shown (s.tables.detector c).served.toNat ≠ .go)) k.time
      s.clock.now { d with pending := [], raw := some k.onset }
    rw [← taken] at idle fault
    refine ⟨?_, sampled.idleFault.trans fault⟩
    rw [sampled.idleAt, idle]
    unfold Detector.onset
    dsimp only
    have positive : (s.tables.detector c).maxIdle.toNat ≠ 0 := by simpa [BitVec.toNat_eq] using limit
    rw [if_neg (by unfold DetectorRec.idleMs; omega)]
    rfl
  · rw [Detector.taken, if_neg (by simp [offset])] at taken
    obtain ⟨stuckAt, stuck⟩ := offsetTaken_fields (s.tables.detector c) k.time { d with pending := [], raw := some k.onset }
    rw [← taken] at stuckAt stuck
    exact ⟨sampled.stuckAt.trans stuckAt, sampled.stuckFault.trans stuck⟩

theorem Confirmed.called {k : Transition} {d d₁ d' : Detector} (h : Confirmed c k s v d d₁)
    (sampled : d₁.Sampled e.health (s.tables.detector c) s.clock.now d') (onset : k.onset = true) (demand : (s.tables.detector c).demand = true)
    (free : s.shown (s.tables.detector c).served.toNat ≠ .go) (out : d.inFault = false) : d'.call = some k.time := by
  have transited := taken_transited (s.tables.detector c) (decide (s.shown (s.tables.detector c).served.toNat ≠ .go)) s.clock.now k
    { d with pending := [], raw := some k.onset }
  rw [← h.record] at transited
  have taken := h.record
  rw [Detector.taken, if_pos onset] at taken
  rw [sampled.called (transited.inFault.trans out), taken]
  exact (onsetTaken_fields _ _ _ _ _).2.2.2.2 demand (decide_eq_true free) out

/-- The detector report of a confirmed transition. -/
theorem Confirmed.report {k : Transition} {d d₁ : Detector} (h : Confirmed c k s v d d₁) (stages : Stages c e s u v w x y) (rest : resting s = true)
    (closed : RestEnd s y t) (out : d.inFault = false)
    (changes : ∀ d' : Detector, d'.occupied = k.onset →
      (k.onset = true → (s.tables.detector c).demand = true → s.shown (s.tables.detector c).served.toNat ≠ .go → d'.call = some k.time) →
      d'.plain (s.tables.detector c) = k.onset ∧ d.reported ≠ k.onset) :
    ∃ made : List OutFrame, made.all isReport = true ∧ t.link = made.foldl Link.accept s.link
      ∧ OutFrame.det { channel := c, occupied := k.onset, fault := false, time := k.time, occupancy := occupancyOf d k.onset false k.time } ∈ made := by
  obtain ⟨-, flash, -⟩ := resting_iff.mp rest
  obtain ⟨f, taken, record, store, control, -, engine⟩ := h.taken
  have tables : f.tables = s.tables := tables_congr (by rw [store])
  have shown : ∀ g, f.shown g = s.shown g := fun g => by unfold State.shown State.group; rw [engine]
  have reported := takeTransition_reports k record out (by rw [control]; exact flash) (fun d' judged => by
    rw [tables, shown] at judged
    rw [tables]
    exact changes d' judged.occupied fun onset demand free => judged.called onset demand (decide_eq_true free) out)
  rw [← taken] at reported
  obtain ⟨-, second, third, fourth⟩ := stages.reporting flash
  obtain ⟨more, kept⟩ := ((second.mono fun _ _ _ => trivial).trans ((third.mono fun _ _ _ => trivial).trans (fourth.mono fun _ _ _ => trivial)) :
    Reporting (fun _ _ => True) v y).reports
  exact closed.det_handed (stages.all flash) (by rw [kept]; exact List.mem_append_left _ reported)

/-- The preemption sources of a confirmed transition. -/
theorem Confirmed.active {k : Transition} {d d₁ d' : Detector} (h : Confirmed c k s v d d₁) (stages : Stages c e s u v w x y) (rest : resting s = true)
    (closed : RestEnd s y t) (tested : x.detector c = some ((d₁.healthTaken e.health s.clock.now).chatterTaken (s.tables.detector c) s.clock.now))
    (decided : y.detector c = some d') (out : d.inFault = false) (stays : d'.inFault = false) (eight : s.preempt.plans.length = 8) {p : Nat}
    (first : 1 ≤ p) (last : p ≤ 8) (on : (s.tables.plan p).on = true) (of : (s.tables.plan p).onDetector c = true) :
    (t.plan p).active = k.onset := by
  obtain ⟨-, flash, -⟩ := resting_iff.mp rest
  have transited := taken_transited (s.tables.detector c) (decide (s.shown (s.tables.detector c).served.toNat ≠ .go)) s.clock.now k
    { d with pending := [], raw := some k.onset }
  rw [← h.record] at transited
  obtain ⟨f, taken, record, store, control, preempt, -⟩ := h.taken
  have tables : f.tables = s.tables := tables_congr (by rw [store])
  have active := takeTransition_active k record out (by rw [control]; exact flash) first last (by rw [preempt]; exact eight) (by rw [tables]; exact on)
    (by rw [tables]; exact of)
  rw [← taken] at active
  have same : y = x := by
    obtain ⟨d'', again, made, -⟩ := decideFault_record tested
    rw [stages.decided, decided] at again
    cases again
    have sound : ((d₁.healthTaken e.health s.clock.now).chatterTaken (s.tables.detector c) s.clock.now).faulty = false := by
      rw [made] at stays
      exact stays
    rw [← stages.decided]
    refine decideFault_stays tested ?_
    rw [sound, chatterTaken_fields, healthTaken_fields]
    exact transited.inFault.trans out
  have kept : x.preempt = v.preempt := by
    rw [← stages.chatter, ← stages.health]
    simp
  rw [plan_congr closed.preempt, same, plan_congr kept]
  exact active

end

end Sys2Proof.Machine

namespace Sys2Proof.Proofs

open Sys2Proof Sys2Proof.Machine Sys2Proof.Safety

/-- The decision about the head of a pending list. -/
theorem decideHead_decides (r : DetectorRec) (now : Time) (x : Transition) (rest : List Transition) :
    (∀ y more, rest = y :: more → (y.time - x.time).toNat ≤ r.debounceMs x.onset → decideHead r now (x :: rest) = some (more, none))
      ∧ ((∀ y more, rest = y :: more → r.debounceMs x.onset < (y.time - x.time).toNat) →
        (r.debounceMs x.onset ≤ (now - x.time).toNat → decideHead r now (x :: rest) = some (rest, some x))
          ∧ ((now - x.time).toNat < r.debounceMs x.onset → decideHead r now (x :: rest) = none)) := by
  cases rest with
  | nil =>
    refine ⟨nofun, fun _ => ⟨fun past => ?_, fun young => ?_⟩⟩
    · exact if_pos past
    · exact if_neg (by omega)
  | cons y more =>
    refine ⟨fun z rest is close => ?_, fun apart => ⟨fun past => ?_, fun young => ?_⟩⟩
    · cases is
      exact if_pos close
    · have far := apart y more rfl
      exact (if_neg (by omega)).trans (if_pos past)
    · have far := apart y more rfl
      exact (if_neg (by omega)).trans (if_neg (by omega))

/-- Settles O60: the decision by its cases, and a sample by the stages of its one channel (log 27). -/
theorem debounceDecides : Obligations.DebounceDecides := by
  refine ⟨decideHead_decides, ?_⟩
  intro br station c inputs l d e s rest answers found present has at' only entry
  obtain ⟨up, flash, -⟩ := resting_iff.mp rest
  have here : (openEvent s).absent br station = false := (absent_of_record (s := openEvent s) found).trans (by rw [present]; rfl)
  obtain ⟨b, effect⟩ := dsmEffect_single (s := openEvent s) here has at' only entry
  have ran := exec_dsmReceived (inputs := inputs) up answers
  have stages : Stages c e s _ _ _ _ _ := ⟨⟨b, rfl⟩, rfl, rfl, rfl, rfl⟩
  have closed := rest_reporting (effect := dsmEffect br station inputs) rest (by rw [effect]; exact stages.all flash)
  rw [effect] at closed
  have frame : (dsmEffect br station inputs (openEvent s)).exchange = s.exchange := by
    rw [effect]
    simp
  rw [effect] at frame
  generalize asEvent (dsmEffect br station inputs) id s = t at ran closed
  generalize decideFault c (testChatter c (testHealth c e.health (takeEntry c e { openEvent s with branches := b }))) = y at *
  generalize testChatter c (testHealth c e.health (takeEntry c e { openEvent s with branches := b })) = x at *
  generalize testHealth c e.health (takeEntry c e { openEvent s with branches := b }) = w at *
  generalize takeEntry c e { openEvent s with branches := b } = v at *
  obtain ⟨d₁, d', record, entered, judged, tested, decided, sampled⟩ := stages.records has
  obtain ⟨opens, shorts, sound⟩ := stages.health_clauses rest closed record entered sampled
  refine ⟨t, d', ran, (detector_congr closed.detectors c).trans decided, sampled.health, closed.reported, closed.control,
    closed.exchange.trans frame, closed.store, sampled.faulty, opens, shorts, sound,
    fun limit => stages.chatter_clauses rest closed entered judged sampled limit, fun resync pending complete raw => ⟨?_, ?_⟩⟩
  · intro age known ages flips since
    have settled : d.Settled e := ⟨resync, pending, complete, raw⟩
    by_cases young : age.toNat < (s.tables.detector c).debounceMs e.occupied
    · obtain ⟨raw', rest'⟩ := stages.waits has record sampled settled known ages flips since young
      exact ⟨raw', fun _ => rest', fun past => absurd young (Nat.not_lt.mpr past)⟩
    · have past := Nat.not_lt.mp young
      have confirmed := stages.confirmed has record settled known ages flips since past
      obtain ⟨raw', pending', occupied', since', onsets, stuckAt, idleAt, offset⟩ := confirmed.fields sampled (half_short age) rfl
      have free : tableLaw s = true → c ≤ 48 → (s.tables.detector c).demand = true → s.shown (s.tables.detector c).served.toNat ≠ .go :=
        fun tables last demand => served_not_go rest tables (mem_numbers.mp (List.mem_filter.mp (mem_detectorChannels has)).1).1 last (used_of_answers answers at') demand
      refine ⟨raw', fun is => absurd is young, fun _ => ⟨pending', occupied', since', onsets, stuckAt, idleAt, offset,
        fun tables last demand onset out => confirmed.called sampled onset demand (free tables last demand) out, ?_, ?_, ?_⟩⟩
      · intro plain out was
        obtain ⟨made, all, link, member⟩ := confirmed.report stages rest closed out (fun d' occupied _ =>
          ⟨by unfold Detector.plain; rw [plain]; exact occupied, by rw [was]; show d.occupied ≠ e.occupied; rw [flips]; simp⟩)
        refine ⟨made, _, all, link, member, rfl, rfl, rfl, rfl, fun onset => ?_, fun before off last => ?_⟩
        · dsimp only
          rw [onset, occupancyOf_onset]
        · dsimp only
          rw [off, occupancyOf_offset last]
      · intro tables last demand onset out was
        obtain ⟨made, all, link, member⟩ := confirmed.report stages rest closed out (fun d' _ called =>
          ⟨by unfold Detector.plain; rw [demand, called onset demand (free tables last demand), onset]; rfl, by rw [was]; show false ≠ e.occupied; rw [onset]; simp⟩)
        exact ⟨made, _, all, link, member, rfl, onset, rfl, rfl⟩
      · exact fun out stays eight p first last on of => confirmed.active stages rest closed tested decided out stays eight first last on of
  · intro first second known known' ages back order since close
    exact stages.cancels has record sampled ⟨resync, pending, complete, raw⟩ known known' ages back order since close

end Sys2Proof.Proofs

/-! ### The conclusion of an event in calm: what it reports (R95, R134) -/

namespace Sys2Proof.Machine

open Sys2Proof.Safety

/-- The kinds that the conclusion of an event may report while it moves no mode. -/
def OfConclusion (kind : FaultKind) (_ : Option Nat) : Prop := kind = .nestingLimit ∨ kind = .redFail

theorem recorded_of_same {K : FaultKind → Option Nat → Prop} {x y : FaultList} (same : y = x) : Recorded K x y := same ▸ .refl K x

/-! #### Red failure -/

theorem redDue_ends {s : State} (sound : ∀ g, s.tables.live g = true → s.redOut g = false) : ∀ change ∈ s.redDue, change.2 = false := by
  unfold State.redDue
  simp only [List.mem_map, List.mem_filter]
  rintro - ⟨g, ⟨member, -⟩, rfl⟩
  refine sound g (live_iff.mpr ?_)
  simpa [TableSet.liveGroups] using member

theorem reporting_endRedFail {K : FaultKind → Option Nat → Prop} (g : Nat) (red : K .redFail (some g)) (s : State) : Reporting K s (endRedFail g s) := by
  unfold endRedFail
  split
  · exact .trans (t := setRedFail false g s) { } (reporting_reportEnd red _)
  · exact .refl K s

/-- Where no live group's red-failure condition holds, its evaluation can only end RED_FAIL. -/
theorem reporting_evaluateReds {K : FaultKind → Option Nat → Prop} {s : State} (sound : ∀ g, s.tables.live g = true → s.redOut g = false)
    (red : ∀ g, K .redFail (some g)) : Reporting K s (evaluateReds s) := by
  refine .eachOf (fun change member t => ?_) s
  unfold handRed
  rw [redDue_ends sound change member]
  exact reporting_endRedFail change.1 (red _) t

theorem evaluateReds_quiet {s : State} (sound : ∀ g, s.tables.live g = true → s.redOut g = false) (none' : ∀ g, s.redFail g = false) :
    evaluateReds s = s := by
  have empty : s.redDue = [] := by
    unfold State.redDue
    rw [List.map_eq_nil_iff, List.filter_eq_nil_iff]
    intro g member
    have live : s.tables.live g = true := live_iff.mpr (by simpa [TableSet.liveGroups] using member)
    simp [sound g live, none' g]
  unfold evaluateReds
  rw [empty]
  rfl

/-! #### Settling -/

theorem recorded_settle (rounds : Nat) (s : State) : Recorded OfConclusion s.faults (settle rounds s).faults := by
  have evaluated : ∀ u : State, (evaluateConcerned passLimit (rebuild u)).faults = u.faults := fun u => by simp
  induction rounds generalizing s with
  | zero => exact recorded_of_same (evaluated s)
  | succ n ih =>
    unfold settle
    dsimp only
    split
    · have advanced := (reporting_advance (K := OfConclusion) stepLimit (s := evaluateConcerned passLimit (rebuild s)) (fun _ _ => .inl rfl)).faults
      rw [evaluated] at advanced
      exact advanced.trans (ih _)
    · exact recorded_of_same (evaluated s)

/-- With room on the stack the unit takes a plan or none, and reports nothing. -/
theorem consider_shallow {s : State} (room : s.preempt.stack.length < 4) :
    (consider s).faults = s.faults ∧ (consider s).preempt.stack.length ≤ 4 := by
  unfold consider
  split
  · dsimp only
    rw [if_pos (by exact room)]
    split
    · exact ⟨rfl, room⟩
    · exact ⟨rfl, Nat.le_of_lt room⟩
  · exact ⟨rfl, Nat.le_of_lt room⟩

theorem topStep_shallow {s t : State} (depth : s.preempt.stack.length ≤ 4) (step : topStep s = some t) :
    t.faults = s.faults ∧ t.preempt.stack.length ≤ 4 := by
  have ends : ∀ x rest outcome, s.preempt.stack = x :: rest →
      (consider (unstack x.plan outcome s)).faults = s.faults ∧ (consider (unstack x.plan outcome s)).preempt.stack.length ≤ 4 := fun x rest outcome held => by
    have room : (unstack x.plan outcome s).preempt.stack.length < 4 := by
      rw [unstack_stack, held, List.filter_cons_of_neg (by simp)]
      have filtered := List.length_filter_le (fun y : Stacked => decide (y.plan ≠ x.plan)) rest
      rw [held, List.length_cons] at depth
      omega
    obtain ⟨faults, length⟩ := consider_shallow room
    exact ⟨faults.trans (by simp), length⟩
  have top : ∀ f, (changeTop f s).faults = s.faults ∧ (changeTop f s).preempt.stack.length ≤ 4 := fun f => by
    unfold changeTop
    split
    · next held => rw [held] at depth; exact ⟨rfl, depth⟩
    · exact ⟨rfl, depth⟩
  unfold topStep at step
  split at step
  · cases step
  · next x rest held =>
    dsimp only at step
    repeat' split at step
    all_goals cases step
    · exact ends _ _ _ held
    · exact top _
    · exact top _
    · exact top _
    · exact ends _ _ _ held
    · exact ends _ _ _ held

theorem advance_shallow (steps : Nat) {s : State} (depth : s.preempt.stack.length ≤ 4) :
    (advance steps s).faults = s.faults ∧ (advance steps s).preempt.stack.length ≤ 4 := by
  induction steps generalizing s with
  | zero => exact ⟨rfl, depth⟩
  | succ n ih =>
    unfold advance
    split
    · next t step =>
      obtain ⟨faults, length⟩ := topStep_shallow depth step
      obtain ⟨faults', length'⟩ := ih length
      exact ⟨faults'.trans faults, length'⟩
    · exact ⟨rfl, depth⟩

theorem settle_shallow (rounds : Nat) {s : State} (depth : s.preempt.stack.length ≤ 4) : (settle rounds s).faults = s.faults := by
  have evaluated : ∀ u : State, (evaluateConcerned passLimit (rebuild u)).faults = u.faults ∧ (evaluateConcerned passLimit (rebuild u)).preempt = u.preempt :=
    fun u => by simp
  induction rounds generalizing s with
  | zero => exact (evaluated s).1
  | succ n ih =>
    obtain ⟨faults, preempt⟩ := evaluated s
    unfold settle
    dsimp only
    split
    · obtain ⟨faults', length⟩ := advance_shallow stepLimit (s := evaluateConcerned passLimit (rebuild s)) (by rw [preempt]; exact depth)
      exact (ih length).trans (faults'.trans faults)
    · exact faults

/-! #### The conclusion -/

/-- The conclusion of an event in calm reports nesting limits and the ends of red failures, if anything. -/
theorem recorded_conclude {s : State} (calm : noLampOut s = true) (mode : s.control.mode ≠ .closing) :
    Recorded OfConclusion s.faults (conclude s).faults := by
  have settled := recorded_settle roundLimit s
  have open' : closeIfDone (settle roundLimit s) = settle roundLimit s := if_neg fun done => mode (by simpa using done.1)
  have noticed : (noticeGo (settle roundLimit s)).faults = (settle roundLimit s).faults := by simp
  have dark : noLampOut (noticeGo (settle roundLimit s)) = true := (noLampOut_of_channels (by simp)).trans calm
  have judged : Recorded OfConclusion (noticeGo (settle roundLimit s)).faults (evaluateShown (noticeGo (settle roundLimit s))).faults := by
    unfold evaluateShown
    split
    · exact .refl _ _
    · exact (reporting_evaluateReds (fun g _ => redOut_of_noLampOut dark g) (fun _ => .inr rfl)).faults
  unfold conclude
  rw [open']
  simp only [handReports_frame, arbitrateAll_frame, markIfDue_frame, numberImage_frame]
  rw [noticed] at judged
  exact settled.trans judged

/-- Without RED_FAIL and with a stack that keeps its bound the conclusion of an event in calm reports nothing. -/
theorem conclude_faults {s : State} (calm : noLampOut s = true) (mode : s.control.mode ≠ .closing) (none' : ∀ g, s.redFail g = false)
    (depth : s.preempt.stack.length ≤ 4) : (conclude s).faults = s.faults := by
  have settled := settle_shallow roundLimit depth
  have open' : closeIfDone (settle roundLimit s) = settle roundLimit s := if_neg fun done => mode (by simpa using done.1)
  have dark : noLampOut (noticeGo (settle roundLimit s)) = true := (noLampOut_of_channels (by simp)).trans calm
  have red : ∀ g, (noticeGo (settle roundLimit s)).redFail g = false := fun g => by
    have same : (noticeGo (settle roundLimit s)).prover = s.prover := by simp
    unfold State.redFail at none' ⊢
    rw [same]
    exact none' g
  have judged : evaluateShown (noticeGo (settle roundLimit s)) = noticeGo (settle roundLimit s) := by
    unfold evaluateShown
    rw [evaluateReds_quiet (fun g _ => redOut_of_noLampOut dark g) red, ite_self]
  unfold conclude
  rw [open', judged]
  simp only [handReports_frame, arbitrateAll_frame, markIfDue_frame, numberImage_frame]
  exact (by simp : (noticeGo (settle roundLimit s)).faults = (settle roundLimit s).faults).trans settled

/-- A fault list that keeps every entry of some kinds. -/
structure FaultList.Keeps (K : FaultKind → Prop) (x y : FaultList) : Prop where
  well : x.Well → y.Well
  keeps : x.Well → ∀ o ∈ x.entries, K o.kind → o ∈ y.entries

theorem FaultList.Keeps.refl (K : FaultKind → Prop) (x : FaultList) : x.Keeps K x := ⟨id, fun _ _ member _ => member⟩

theorem FaultList.Keeps.trans {K : FaultKind → Prop} {x y z : FaultList} (first : x.Keeps K y) (second : y.Keeps K z) : x.Keeps K z :=
  ⟨fun h => second.well (first.well h), fun h o member is => second.keeps (first.well h) o (first.keeps h o member is) is⟩

theorem reportEnd_keeps {K : FaultKind → Prop} {kind : FaultKind} (out : ¬ K kind) (subject : Option Nat) (s : State) :
    s.faults.Keeps K (reportEnd kind subject s).faults := by
  refine ⟨(recorded_reportEnd (K := fun _ _ => True) trivial s).well, fun well o member is => ?_⟩
  refine reportEnd_other kind subject well member (Bool.eq_false_iff.mpr fun here => ?_)
  exact out ((entry_is_iff.mp here).1 ▸ is)

theorem endRedFail_keeps (g : Nat) (s : State) : s.faults.Keeps (· ≠ .redFail) (endRedFail g s).faults := by
  unfold endRedFail
  split
  · exact reportEnd_keeps (K := (· ≠ .redFail)) (not_not.mpr rfl) (some g) (setRedFail false g s)
  · exact .refl _ _

theorem evaluateReds_keeps {s : State} (sound : ∀ g, s.tables.live g = true → s.redOut g = false) :
    s.faults.Keeps (· ≠ .redFail) (evaluateReds s).faults := by
  have handed : ∀ (l : List (Nat × Bool)) (t : State), (∀ change ∈ l, change.2 = false) → t.faults.Keeps (· ≠ .redFail) (eachOf l handRed t).faults := by
    intro l
    induction l with
    | nil => exact fun t _ => .refl _ _
    | cons change l ih =>
      intro t ends
      have first : t.faults.Keeps (· ≠ .redFail) (handRed change t).faults := by
        unfold handRed
        rw [ends change (List.mem_cons_self ..)]
        exact endRedFail_keeps _ _
      exact first.trans (ih _ fun c member => ends c (List.mem_cons_of_mem _ member))
  exact handed _ _ (redDue_ends sound)

/-- With a stack that keeps its bound the conclusion of an event in calm at most ends red failures. -/
theorem conclude_keeps {s : State} (calm : noLampOut s = true) (mode : s.control.mode ≠ .closing) (depth : s.preempt.stack.length ≤ 4) :
    s.faults.Keeps (· ≠ .redFail) (conclude s).faults := by
  have settled := settle_shallow roundLimit depth
  have open' : closeIfDone (settle roundLimit s) = settle roundLimit s := if_neg fun done => mode (by simpa using done.1)
  have noticed : (noticeGo (settle roundLimit s)).faults = s.faults := (by simp : _ = (settle roundLimit s).faults).trans settled
  have dark : noLampOut (noticeGo (settle roundLimit s)) = true := (noLampOut_of_channels (by simp)).trans calm
  have judged : (noticeGo (settle roundLimit s)).faults.Keeps (· ≠ .redFail) (evaluateShown (noticeGo (settle roundLimit s))).faults := by
    unfold evaluateShown
    split
    · exact .refl _ _
    · exact evaluateReds_keeps (fun g _ => redOut_of_noLampOut dark g)
  unfold conclude
  rw [open']
  simp only [handReports_frame, arbitrateAll_frame, markIfDue_frame, numberImage_frame]
  rwa [noticed] at judged

/-- An event in calm: what it leaves of its own effect `u`. -/
structure CalmEnd (u t : State) : Prop where
  frame : calmFrame u t
  recorded : Recorded OfConclusion u.faults t.faults
  faults : (∀ g, u.redFail g = false) → u.preempt.stack.length ≤ 4 → t.faults = u.faults
  keeps : u.preempt.stack.length ≤ 4 → u.faults.Keeps (· ≠ .redFail) t.faults

theorem asEvent_faults {effect answer : State → State} (only : onlyLink answer) (s : State) :
    (asEvent effect answer s).faults = (conclude (effect (openEvent s))).faults := by
  have same := only (conclude (effect (openEvent s)))
  exact (congrArg State.faults same :)

theorem calm_event {effect answer : State → State} {s : State} (only : onlyLink answer) (calm : noLampOut (effect (openEvent s)) = true)
    (mode : (effect (openEvent s)).control.mode ≠ .closing) : CalmEnd (effect (openEvent s)) (asEvent effect answer s) := by
  have same := asEvent_faults (effect := effect) only s
  have frame := asEvent_calm only calm mode
  generalize asEvent effect answer s = t at same frame
  generalize effect (openEvent s) = u at *
  exact ⟨frame, by rw [same]; exact recorded_conclude calm mode, fun none' depth => by rw [same]; exact conclude_faults calm mode none' depth,
    fun depth => by rw [same]; exact conclude_keeps calm mode depth⟩

theorem CalmEnd.keeps_listed {u t : State} (h : CalmEnd u t) (well : u.faults.Well) {kind : FaultKind} {subject : Option Nat} {action : Action}
    (out : ¬ OfConclusion kind subject) (lists : listed u kind subject true action) : listed t kind subject true action := by
  obtain ⟨e, member, is, of, active, asks⟩ := lists
  exact ⟨e, h.recorded.stays well e member active (by rw [is, of]; exact out), is, of, active, asks⟩

theorem CalmEnd.keeps_notActive {u t : State} (h : CalmEnd u t) (well : u.faults.Well) {kind : FaultKind} {subject : Option Nat}
    (out : ¬ OfConclusion kind subject) (ended : notActive u kind subject) : notActive t kind subject := h.recorded.quiet well kind subject out ended

end Sys2Proof.Machine

/-! ### Images (04, sections 4.2 to 4.6) -/

namespace Sys2Proof.Machine

open Sys2Proof.Safety

/-! #### The checks of an image -/

theorem undefinedTarget_iff {targets : BitVec 48} : undefinedTarget targets = true ↔ ∃ g ∈ groupNumbers, targetCode targets g = 3 := by
  simp [undefinedTarget, List.any_eq_true]

theorem imageResult_mode {chain next : Half} {targets : BitVec 48} {s : State} (flash : s.control.mode.permit = false) :
    imageResult chain next targets s = .mode := by simp [imageResult, flash]

theorem imageResult_chain {chain next : Half} {targets : BitVec 48} {s : State} (permit : s.control.mode.permit = true)
    (other : s.exchange.expectedChain ≠ some chain) : imageResult chain next targets s = .chain := by simp [imageResult, permit, other]

theorem imageResult_range {chain next : Half} {targets : BitVec 48} {s : State} (permit : s.control.mode.permit = true)
    (expected : s.exchange.expectedChain = some chain) (fails : next = chain ∨ ∃ g ∈ groupNumbers, targetCode targets g = 3) :
    imageResult chain next targets s = .range := by
  rw [← undefinedTarget_iff] at fails
  unfold imageResult
  rw [if_neg (by simp [permit]), if_neg (by simp [expected])]
  by_cases same : next = chain
  · rw [if_pos same]
  · rw [if_neg same, if_pos (fails.resolve_left same)]

theorem imageResult_passes {chain next : Half} {targets : BitVec 48} {s : State} (permit : s.control.mode.permit = true)
    (expected : s.exchange.expectedChain = some chain) (other : next ≠ chain) (defined : ∀ g ∈ groupNumbers, targetCode targets g ≠ 3) :
    imageResult chain next targets s = if s.requestedConflict (targetsOf targets) then .conflict else .ok := by
  have fine : ¬ undefinedTarget targets = true := fun no => by
    obtain ⟨g, member, is⟩ := undefinedTarget_iff.mp no
    exact defined g member is
  unfold imageResult
  rw [if_neg (by simp [permit]), if_neg (by simp [expected]), if_neg other, if_neg fine]

/-- The own effect of an image. -/
def imageEffect (chain next : Half) (inhibit : Byte) (targets : BitVec 48) (s : State) : State → State :=
  if imageResult chain next targets s = .ok then acceptImage chain next inhibit targets else refuseImage (imageResult chain next targets s)

theorem exec_img {s : State} (up : s.up = true) (hears : s.hears = true) (chain next : Half) (inhibit : Byte) (targets : BitVec 48) :
    exec (.img chain next inhibit targets) s
      = .next (asEvent (imageEffect chain next inhibit targets s) (echoAnswer (imageResult chain next targets s)) s) := by
  show execImg chain next inhibit targets s = _
  unfold execImg answeredOutcome
  exact frameOutcome_heard up hears

theorem echoAnswer_onlyLink (result : Result) : onlyLink (echoAnswer result) := fun _ => rfl

/-- An event answered by a frame that is built at its end. -/
theorem asEvent_answered {effect : State → State} {f : State → OutFrame} {s : State} (own : reportedOnly (openEvent s) (effect (openEvent s))) :
    answered s (asEvent effect (fun w => send (f w) w) s) (f (conclude (effect (openEvent s)))) := by
  obtain ⟨made, reports, link⟩ := reportedOnly_trans own (reportedOnly_conclude _)
  refine ⟨made, reports, ?_⟩
  simp only [asEvent, closeEvent_frame, send_link, link, openEvent_frame]

theorem replied_of_answered {s t : State} {f : OutFrame} (h : answered s t f) : replied s t f := by
  obtain ⟨made, reports, link⟩ := h
  exact ⟨made, [], reports, rfl, by rw [link, List.foldl_append]; rfl⟩

theorem imageEffect_answered {effect : State → State} {s : State} (own : reportedOnly (openEvent s) (effect (openEvent s))) (result : Result) :
    answered s (asEvent effect (echoAnswer result) s) (.ech ((conclude (effect (openEvent s))).echo result)) :=
  asEvent_answered (f := fun w => .ech (w.echo result)) own

/-! #### Refusal -/

theorem refuseImage_reported (result : Result) (s : State) : reportedOnly s (refuseImage result s) := by
  have counted : reportedOnly s { s with exchange.imagesRefused := s.exchange.imagesRefused + 1 } := reportedOnly_of_link rfl
  have warned : ∀ u, reportedOnly s u → reportedOnly s
      (if u.control.mode = .warning then note { kind := .supervision, subject := none, action := .report, condition := true } u else u) := fun u hu => by
    split
    · exact reportedOnly_trans hu (reportedOnly_note _ _)
    · exact hu
  unfold refuseImage
  dsimp only
  refine warned _ ?_
  split
  · exact reportedOnly_trans counted (reportedOnly_noteOccurrence _ _ _)
  · exact reportedOnly_trans counted (reportedOnly_noteOccurrence _ _ _)
  · exact counted

theorem refuseImage_parts (result : Result) (s : State) :
    (refuseImage result s).pending = s.pending ∧ (refuseImage result s).clock = s.clock
      ∧ (refuseImage result s).exchange = { s.exchange with imagesRefused := s.exchange.imagesRefused + 1 }
      ∧ (refuseImage result s).control = s.control ∧ (refuseImage result s).store = s.store ∧ (refuseImage result s).prover = s.prover
      ∧ (refuseImage result s).preempt = s.preempt := by
  unfold refuseImage
  dsimp only
  repeat' split
  all_goals simp

/-- The fault list after a report depends on the list and the time alone. -/
theorem recordRaise_faults {r : Raise} {s t : State} (faults : t.faults = s.faults) (clock : t.clock = s.clock) :
    (recordRaise r t).faults = (recordRaise r s).faults := by
  have alarms : ∀ (body : AlarmBody) (u v : State), u.faults = v.faults → (alarm body u).faults = (alarm body v).faults := fun body u v same => by
    unfold alarm
    simp [same]
  have entries : ∀ (e : Entry) (u v : State), u.faults = v.faults → (entryAlarm e u).faults = (entryAlarm e v).faults := fun e u v same =>
    alarms _ _ _ same
  unfold recordRaise
  rw [faults, clock]
  dsimp only
  split
  · split
    · rfl
    · exact entries _ _ _ rfl
  · split
    · exact entries _ _ _ rfl
    · exact alarms _ _ _ faults

theorem refuseImage_faults (result : Result) {s u : State} (faults : u.faults = s.faults) (clock : u.clock = s.clock) (control : u.control = s.control) :
    (refuseImage result u).faults = (refusalReported result s).faults := by
  have noted : ∀ (r : Raise) (v : State), v.faults = s.faults → v.clock = s.clock → (note r v).faults = (recordRaise r s).faults :=
    fun r v faults clock => recordRaise_faults (t := { v with event.worst := v.event.worst.max r.action }) faults clock
  have warned : ∀ v w : State, v.faults = w.faults → v.clock = w.clock → v.control = s.control →
      (if v.control.mode = .warning then note { kind := .supervision, subject := none, action := .report, condition := true } v else v).faults
        = (if s.control.mode = .warning then recordRaise { kind := .supervision, subject := none, action := .report, condition := true } w
          else w).faults := fun v w faults clock control => by
    rw [control]
    split
    · exact recordRaise_faults (t := { v with event.worst := v.event.worst.max .report }) faults clock
    · exact faults
  unfold refuseImage refusalReported
  cases result with
  | chain => exact warned _ _ (noted _ _ faults clock) (by simpa using clock) (by simpa using control)
  | conflict => exact warned _ _ (noted _ _ faults clock) (by simpa using clock) (by simpa using control)
  | _ => exact warned _ _ faults clock control

theorem reporting_refuseImage {K : FaultKind → Option Nat → Prop} (chain : K .chain none) (conflict : K .requestedConflict none)
    (supervision : K .supervision none) (result : Result) (s : State) : Reporting K s (refuseImage result s) := by
  have counted : Reporting K s { s with exchange.imagesRefused := s.exchange.imagesRefused + 1 } := { }
  have warned : ∀ u, Reporting K s u → Reporting K s
      (if u.control.mode = .warning then note { kind := .supervision, subject := none, action := .report, condition := true } u else u) := fun u hu => by
    split
    · exact hu.trans (reporting_note (r := { kind := .supervision, subject := none, action := .report, condition := true }) supervision _)
    · exact hu
  unfold refuseImage
  cases result with
  | chain => exact warned _ (counted.trans (reporting_note (r := { kind := .chain, subject := none, action := .report, condition := false }) chain _))
  | conflict => exact warned _ (counted.trans (reporting_note (r := { kind := .requestedConflict, subject := none, action := .report, condition := false }) conflict _))
  | _ => exact warned _ counted

/-- What a refused image has listed when its own effect is done (R71). -/
theorem refuseImage_lists {result : Result} {s : State} (few : s.faults.entries.length < 31) :
    (result = .chain → notActive s .chain none → listed (refuseImage result s) .chain none false .report)
      ∧ (result = .conflict → notActive s .requestedConflict none → listed (refuseImage result s) .requestedConflict none false .report)
      ∧ (s.control.mode = .warning → listed (refuseImage result s) .supervision none true .report) := by
  have occurs : ∀ (kind : FaultKind), kind ≠ .supervision → notActive s kind none → ∀ u : State,
      u.faults = (recordRaise { kind := kind, subject := none, action := .report, condition := false } s).faults →
      ∀ t : State, (t.faults = u.faults ∨ t.faults = (recordRaise { kind := .supervision, subject := none, action := .report, condition := true } u).faults) →
      listed t kind none false .report := fun kind other quiet u faults t made => by
    obtain ⟨e, member, is, of, -, action, -, -, active⟩ := recordRaise_lists
      (r := { kind := kind, subject := none, action := .report, condition := false }) (s := s) (by omega)
    have length := recordRaise_length (r := { kind := kind, subject := none, action := .report, condition := false }) (s := s) (by omega)
    rw [← faults] at member length
    refine ⟨e, ?_, is, of, active quiet, action⟩
    rcases made with same | same
    · rw [same]; exact member
    · rw [same]
      exact recordRaise_other (by omega) member (Bool.eq_false_iff.mpr fun here => other (is.symm.trans (entry_is_iff.mp here).1))
  have warns : ∀ u : State, u.faults.entries.length < 32 →
      listed (note { kind := .supervision, subject := none, action := .report, condition := true } u) .supervision none true .report := fun u room => by
    obtain ⟨e, member, is, of, -, action, -, active, -⟩ := note_lists
      (r := { kind := .supervision, subject := none, action := .report, condition := true }) room
    exact ⟨e, member, is, of, active rfl, action⟩
  have noted : ∀ (r : Raise) (u : State), u.faults = s.faults → u.clock = s.clock → (note r u).faults = (recordRaise r s).faults :=
    fun r u faults clock => recordRaise_faults (t := { u with event.worst := u.event.worst.max r.action }) faults clock
  have own : ∀ (kind : FaultKind), kind ≠ .supervision → notActive s kind none → ∀ u : State,
      u = noteOccurrence kind none { s with exchange.imagesRefused := s.exchange.imagesRefused + 1 } →
      listed (if u.control.mode = .warning then note { kind := .supervision, subject := none, action := .report, condition := true } u else u)
        kind none false .report := fun kind other quiet u made => by
    have faults : u.faults = (recordRaise { kind := kind, subject := none, action := .report, condition := false } s).faults := by
      rw [made]
      exact noted _ _ rfl rfl
    refine occurs kind other quiet u faults _ ?_
    split
    · exact .inr (recordRaise_faults rfl rfl)
    · exact .inl rfl
  refine ⟨fun is quiet => ?_, fun is quiet => ?_, fun warning => ?_⟩
  · subst is
    exact own .chain (by decide) quiet _ rfl
  · subst is
    exact own .requestedConflict (by decide) quiet _ rfl
  · have length : ∀ kind, (noteOccurrence kind none { s with exchange.imagesRefused := s.exchange.imagesRefused + 1 }).faults.entries.length < 32 := fun kind => by
      have grown := recordRaise_length (r := { kind := kind, subject := none, action := .report, condition := false }) (s := s) (by omega)
      rw [← noted _ { s with exchange.imagesRefused := s.exchange.imagesRefused + 1 } rfl rfl] at grown
      exact Nat.lt_of_le_of_lt grown (by omega)
    have closes : ∀ u : State, u.control = s.control → u.faults.entries.length < 32 →
        listed (if u.control.mode = .warning then note { kind := .supervision, subject := none, action := .report, condition := true } u else u)
          .supervision none true .report := fun u control room => by
      rw [if_pos (by rw [control]; exact warning)]
      exact warns u room
    unfold refuseImage
    cases result with
    | chain => exact closes _ (by simp) (length _)
    | conflict => exact closes _ (by simp) (length _)
    | _ => exact closes _ rfl (by show s.faults.entries.length < 32; omega)

end Sys2Proof.Machine

namespace Sys2Proof.Proofs

open Sys2Proof Sys2Proof.Machine Sys2Proof.Safety

/-- Settles O24: the checks give the result, the refusal's own effect is counted and reported, and the event concludes in calm. -/
theorem imageRefused : Obligations.ImageRefused := by
  intro chain next inhibit targets s listens calm mode fails
  obtain ⟨up, hears⟩ := Bool.and_eq_true_iff.mp listens
  have refused : imageResult chain next targets s ≠ .ok := by
    cases permit : s.control.mode.permit with
    | false => rw [imageResult_mode permit]; decide
    | true =>
      by_cases expected : s.exchange.expectedChain = some chain
      · by_cases range : next = chain ∨ ∃ g ∈ groupNumbers, targetCode targets g = 3
        · rw [imageResult_range permit expected range]; decide
        · obtain ⟨other, defined⟩ := not_or.mp range
          have conflict : s.requestedConflict (targetsOf targets) = true := by
            rcases fails with no | no | no | no | yes
            · rw [permit] at no; exact nomatch no
            · exact absurd expected no
            · exact absurd no other
            · exact absurd no defined
            · exact yes
          rw [imageResult_passes permit expected other (fun g member is => defined ⟨g, member, is⟩), conflict]
          decide
      · rw [imageResult_chain permit expected]; decide
  have effect : imageEffect chain next inhibit targets s = refuseImage (imageResult chain next targets s) := if_neg refused
  have ran := exec_img up hears chain next inhibit targets
  rw [effect] at ran
  obtain ⟨pending, clock, exchange, control, store, prover, preempt⟩ := refuseImage_parts (imageResult chain next targets s) (openEvent s)
  have told := replied_of_answered (imageEffect_answered (s := s) (refuseImage_reported (imageResult chain next targets s) _) (imageResult chain next targets s))
  have closed := calm_event (effect := refuseImage (imageResult chain next targets s)) (s := s) (echoAnswer_onlyLink (imageResult chain next targets s))
    ((noLampOut_of_channels (congrArg Prover.channels prover)).trans calm) (by rw [control]; exact mode)
  have faults := refuseImage_faults (imageResult chain next targets s) (s := s) (u := openEvent s) rfl rfl rfl
  have well := (reporting_refuseImage (K := fun _ _ => True) trivial trivial trivial (imageResult chain next targets s) (openEvent s)).faults.well
  have lists := refuseImage_lists (result := imageResult chain next targets s) (s := openEvent s)
  generalize asEvent _ _ s = t at *
  generalize refuseImage (imageResult chain next targets s) (openEvent s) = u at *
  refine ⟨t, _, ran, ?_, told, fun flash => imageResult_mode flash, fun permit other => imageResult_chain permit other,
    fun permit expected range => imageResult_range permit expected range, fun permit expected other defined => ?_, fun depth law few => ?_, fun depth none' => ?_⟩
  · obtain ⟨pending', clock', event, exchange', control', store'⟩ := closed.frame
    exact ⟨pending'.trans pending, clock'.trans clock, event, exchange'.trans exchange, control'.trans control, store'.trans store⟩
  · have passes := imageResult_passes permit expected other defined
    cases conflict : s.requestedConflict (targetsOf targets) with
    | true => rw [conflict] at passes; exact passes
    | false => rw [conflict] at passes; exact absurd passes refused
  · obtain ⟨chained, conflicted, warned⟩ := lists few
    have kept := closed.keeps (by rw [preempt]; exact depth)
    have stays : ∀ {kind : FaultKind} {active : Bool} {action : Action}, kind ≠ .redFail → listed u kind none active action → listed t kind none active action :=
      fun other ⟨e, member, is, rest⟩ => ⟨e, kept.keeps (well (faultLaw_iff.mp law)) e member (by rw [is]; exact other), is, rest⟩
    exact ⟨fun is quiet => stays (by decide) (chained is quiet), fun is quiet => stays (by decide) (conflicted is quiet),
      fun warning => stays (by decide) (warned warning)⟩
  · rw [closed.faults (fun g => by unfold State.redFail; rw [prover]; exact none' g) (by rw [preempt]; exact depth), faults]
    rfl

end Sys2Proof.Proofs

/-! ### Entries to RUNNING and WARNING (03, sections 3.4 and 3.5), and what they end and report -/

namespace Sys2Proof.Machine

open Sys2Proof.Safety

theorem endLapse_exchange (s : State) : (endLapse s).exchange = { s.exchange with warning := none } := by
  unfold endLapse
  split
  · simp
  · next none' =>
    have gone : s.exchange.warning = none := by simpa using none'
    exact congrArg (fun w => ({ s.exchange with warning := w } : Exchange)) gone

theorem enterRunning_control (cause : Cause) (s : State) :
    (enterRunning cause s).control
      = { s.control with mode := .running, runPermit := true, lastCause := cause, startTimer := none, firstImage := none } := by
  simp [enterRunning, setMode, Mode.permit]

theorem enterRunning_exchange (cause : Cause) (s : State) : (enterRunning cause s).exchange = { s.exchange with warning := none } := by
  simp [enterRunning, setMode, endLapse_exchange]

theorem enterWarning_control (s : State) :
    (enterWarning s).control = { s.control with mode := .warning, runPermit := true, lastCause := .supervision } := by
  simp [enterWarning, setMode, Mode.permit]

theorem enterWarning_exchange (s : State) :
    (enterWarning s).exchange
      = { s.exchange with supervision := some .expired, warning := some (s.tables.cabinet.warning.toNat * 10) } := by
  simp [enterWarning, setMode]

theorem enterWarning_lists {s : State} (well : s.faults.Well) (room : s.faults.entries.length < 32) :
    (enterWarning s).faults.Well ∧ listed (enterWarning s) .supervision none true .report := by
  obtain ⟨e, member, is, of, -, action, -, active, -⟩ := note_lists
    (r := { kind := .supervision, subject := none, action := .report, condition := true })
    (s := { s with exchange.supervision := some .expired, exchange.warning := some (s.tables.cabinet.warning.toNat * 10) }) room
  have noted := reporting_note (K := fun _ _ => True) (r := { kind := .supervision, subject := none, action := .report, condition := true }) trivial
    { s with exchange.supervision := some .expired, exchange.warning := some (s.tables.cabinet.warning.toNat * 10) }
  have entered : (enterWarning s).faults = (announce .running (considerTaking (setMode .warning .supervision (note
    { kind := .supervision, subject := none, action := .report, condition := true }
    { s with exchange.supervision := some .expired, exchange.warning := some (s.tables.cabinet.warning.toNat * 10) })))).faults := rfl
  generalize note { kind := .supervision, subject := none, action := .report, condition := true }
    { s with exchange.supervision := some .expired, exchange.warning := some (s.tables.cabinet.warning.toNat * 10) } = u at *
  have well' := noted.faults.well (by exact well)
  have took := reporting_considerTaking (K := fun kind _ => kind = .nestingLimit) (s := setMode .warning .supervision u) (fun _ _ => rfl)
  have same : (enterWarning s).faults.entries = (considerTaking (setMode .warning .supervision u)).faults.entries := by rw [entered]; rfl
  have stays := took.keeps_listed (by exact well') (by decide) (⟨e, member, is, of, active rfl, action⟩ : listed (setMode .warning .supervision u) .supervision none true .report)
  refine ⟨?_, ?_⟩
  · have kept := took.faults.well (by exact well')
    unfold FaultList.Well at kept ⊢
    rwa [same]
  · unfold listed
    rw [same]
    exact stays

/-! #### The acceptance of an image -/

theorem imageResult_ok {chain next : Half} {targets : BitVec 48} {s : State} (permit : s.control.mode.permit = true)
    (expected : s.exchange.expectedChain = some chain) (other : next ≠ chain) (defined : ∀ g ∈ groupNumbers, targetCode targets g ≠ 3)
    (compatible : s.requestedConflict (targetsOf targets) = false) : imageResult chain next targets s = .ok := by
  rw [imageResult_passes permit expected other defined, compatible]
  rfl

theorem exec_img_accepted {s : State} (up : s.up = true) (hears : s.hears = true) {chain next : Half} {inhibit : Byte} {targets : BitVec 48}
    (passes : imageResult chain next targets s = .ok) :
    exec (.img chain next inhibit targets) s = .next (asEvent (acceptImage chain next inhibit targets) (echoAnswer .ok) s) := by
  rw [exec_img up hears, imageEffect, passes, if_pos rfl]

theorem acceptImage_warning {chain next : Half} {inhibit : Byte} {targets : BitVec 48} {s : State} (mode : s.control.mode = .warning) :
    acceptImage chain next inhibit targets s = enterRunning .imageResumed (keepImage chain next inhibit targets s) := by
  have kept : (keepImage chain next inhibit targets s).control.mode = .warning := mode
  unfold acceptImage
  dsimp only
  rw [kept]

theorem acceptImage_start {chain next : Half} {inhibit : Byte} {targets : BitVec 48} {s : State} (mode : s.control.mode = .start) :
    acceptImage chain next inhibit targets s
      = if s.control.startTimer = some .expired then
          enterRunning .startDone { keepImage chain next inhibit targets s with control.firstImage := some true }
        else { keepImage chain next inhibit targets s with control.firstImage := some true } := by
  have kept : (keepImage chain next inhibit targets s).control.mode = .start := mode
  unfold acceptImage
  dsimp only
  rw [kept]
  rfl

theorem acceptImage_running {chain next : Half} {inhibit : Byte} {targets : BitVec 48} {s : State} (mode : s.control.mode = .running) :
    acceptImage chain next inhibit targets s
      = if inhibit = s.preempt.inhibit then keepImage chain next inhibit targets s else considerTaking (keepImage chain next inhibit targets s) := by
  have kept : (keepImage chain next inhibit targets s).control.mode = .running := mode
  unfold acceptImage
  dsimp only
  rw [kept]

end Sys2Proof.Machine

namespace Sys2Proof.Proofs

open Sys2Proof Sys2Proof.Machine Sys2Proof.Safety

/-- Settles O25: in WARNING, and in START with its timer expired, the acceptance enters RUNNING, and the event concludes in calm. -/
theorem imageEndsWarningAndStart : Obligations.ImageEndsWarningAndStart := by
  intro chain next inhibit targets s listens calm expected other defined compatible
  obtain ⟨up, hears⟩ := Bool.and_eq_true_iff.mp listens
  have ran : s.control.mode.permit = true → exec (.img chain next inhibit targets) s
      = .next (asEvent (acceptImage chain next inhibit targets) (echoAnswer .ok) s) := fun permit =>
    exec_img_accepted up hears (imageResult_ok permit expected other defined compatible)
  have concludes : ∀ u : State, acceptImage chain next inhibit targets (openEvent s) = u → u.prover = s.prover → u.control.mode ≠ .closing →
      calmFrame u (asEvent (acceptImage chain next inhibit targets) (echoAnswer .ok) s) := fun u made prover mode => by
    subst made
    exact asEvent_calm (echoAnswer_onlyLink .ok) ((noLampOut_of_channels (congrArg Prover.channels prover)).trans calm) mode
  refine ⟨fun mode => ?_, fun mode expired => ?_, fun mode waits => ?_⟩
  · have accepted := acceptImage_warning (chain := chain) (next := next) (inhibit := inhibit) (targets := targets) (s := openEvent s) mode
    have control := enterRunning_control .imageResumed (keepImage chain next inhibit targets (openEvent s))
    have exchange := enterRunning_exchange .imageResumed (keepImage chain next inhibit targets (openEvent s))
    obtain ⟨-, -, -, exchange', control', store'⟩ := concludes _ accepted (by simp) (by rw [control]; exact nofun)
    refine ⟨_, ran (by rw [mode]; rfl), control'.trans control, ?_, ?_, ?_, store'.trans (by simp)⟩
    · rw [exchange', exchange]
    · rw [exchange', exchange]; rfl
    · rw [exchange', exchange]
      exact if_neg (by show s.control.mode ≠ .closing; rw [mode]; decide)
  · have accepted := acceptImage_start (chain := chain) (next := next) (inhibit := inhibit) (targets := targets) (s := openEvent s) mode
    rw [if_pos (by exact expired)] at accepted
    have control := enterRunning_control .startDone { keepImage chain next inhibit targets (openEvent s) with control.firstImage := some true }
    have exchange := enterRunning_exchange .startDone { keepImage chain next inhibit targets (openEvent s) with control.firstImage := some true }
    obtain ⟨-, -, -, exchange', control', store'⟩ := concludes _ accepted (by simp) (by rw [control]; exact nofun)
    exact ⟨_, ran (by rw [mode]; rfl), control'.trans control, by rw [exchange', exchange]; rfl, store'.trans (by simp)⟩
  · have accepted := acceptImage_start (chain := chain) (next := next) (inhibit := inhibit) (targets := targets) (s := openEvent s) mode
    rw [if_neg (by exact waits)] at accepted
    obtain ⟨-, -, -, exchange', control', store'⟩ := concludes _ accepted rfl (by show s.control.mode ≠ .closing; rw [mode]; decide)
    exact ⟨_, ran (by rw [mode]; rfl), control', by rw [exchange']; rfl, store'⟩

end Sys2Proof.Proofs

/-! ### The stop of proving (07, section 7.3; R126), and what only ends entries of the fault list -/

namespace Sys2Proof.Machine

open Sys2Proof.Safety

/-! #### Reports that only end -/

/-- The second list has what the first had, but that some conditions have ended. -/
structure FaultList.Quieter (x y : FaultList) : Prop where
  well : x.Well → y.Well
  quiet : x.Well → ∀ kind subject, (∀ e ∈ x.entries, e.kind = kind → e.subject = subject → e.active = false) →
    ∀ e ∈ y.entries, e.kind = kind → e.subject = subject → e.active = false

theorem FaultList.Quieter.refl (x : FaultList) : x.Quieter x := ⟨id, fun _ _ _ h => h⟩

theorem FaultList.Quieter.trans {x y z : FaultList} (first : x.Quieter y) (second : y.Quieter z) : x.Quieter z :=
  ⟨fun h => second.well (first.well h), fun h kind subject quiet => second.quiet (first.well h) kind subject (first.quiet h kind subject quiet)⟩

theorem reportEnd_quieter (kind : FaultKind) (subject : Option Nat) (s : State) : s.faults.Quieter (reportEnd kind subject s).faults := by
  refine ⟨(recorded_reportEnd (K := fun _ _ => True) trivial s).well, fun well k j quiet => ?_⟩
  intro e member is of
  rw [reportEnd_entries kind subject well] at member
  obtain ⟨o, old, rfl⟩ := List.mem_map.mp member
  split at is
  · next here => rw [if_pos here]
  · next here =>
    rw [if_neg here] at of ⊢
    exact quiet o old is of

theorem reportEnd_if_quieter (active : Prop) [Decidable active] (kind : FaultKind) (subject : Option Nat) (s : State) :
    s.faults.Quieter (if active then reportEnd kind subject s else s).faults := by
  split
  · exact reportEnd_quieter kind subject s
  · exact .refl _

theorem quieter_eachOf {α : Type} {f : α → State → State} (each : ∀ x (s : State), s.faults.Quieter (f x s).faults) (l : List α) (s : State) :
    s.faults.Quieter (eachOf l f s).faults := eachOf_holds (fun t => s.faults.Quieter t.faults) f (fun x t h => h.trans (each x t)) l s (.refl _)

theorem endRedFail_quieter (g : Nat) (s : State) : s.faults.Quieter (endRedFail g s).faults := by
  unfold endRedFail
  split
  · exact reportEnd_quieter .redFail (some g) (setRedFail false g s)
  · exact .refl _

theorem stopChannel_quieter (c : Nat) (s : State) : s.faults.Quieter (stopChannel c s).faults := by
  unfold stopChannel
  dsimp only
  exact (reportEnd_if_quieter _ .lampOut (some c) (changeProving c _ s)).trans (reportEnd_if_quieter _ .foreignCurrent (some c) _)

theorem endLapse_quieter (s : State) : s.faults.Quieter (endLapse s).faults := by
  unfold endLapse
  split
  · exact reportEnd_quieter .supervision none { s with exchange.warning := none }
  · exact .refl _

/-! #### The records -/

/-- A channel's record when proving has stopped (R126). -/
def Proving.stopped (latched : Bool) (x : Proving) : Proving := { x.noRuns with lampOut := x.lampOut && latched, foreign := x.foreign && latched }

theorem stopChannel_eq (c : Nat) (s : State) :
    stopChannel c s
      = (if ((s.proving c).foreign && !(s.tables.output c).latched) = true then reportEnd .foreignCurrent (some c) else id)
        ((if ((s.proving c).lampOut && !(s.tables.output c).latched) = true then reportEnd .lampOut (some c) else id)
          (changeProving c (Proving.stopped (s.tables.output c).latched) s)) := by
  have same : (fun p : Proving => { p.noRuns with lampOut := p.lampOut && !!(s.tables.output c).latched, foreign := p.foreign && !!(s.tables.output c).latched })
      = Proving.stopped (s.tables.output c).latched := by
    funext p
    rw [Bool.not_not]
    rfl
  unfold stopChannel
  dsimp only
  rw [same]
  split <;> split <;> rfl

theorem stopChannel_prover (c : Nat) (s : State) :
    (stopChannel c s).prover = (changeProving c (Proving.stopped (s.tables.output c).latched) s).prover := by
  rw [stopChannel_eq]
  split <;> split <;> simp

theorem stopChannel_proving_same {s : State} {c : Nat} (first : 1 ≤ c) (last : c ≤ s.prover.channels.length) :
    (stopChannel c s).proving c = (s.proving c).stopped (s.tables.output c).latched := by
  have same := stopChannel_prover c s
  exact (show (stopChannel c s).proving c = (changeProving c (Proving.stopped (s.tables.output c).latched) s).proving c by
    unfold State.proving; rw [same]).trans (proving_changeProving_same first last _)

theorem stopChannel_proving_other {s : State} {c n : Nat} (other : n ≠ c) : (stopChannel c s).proving n = s.proving n := by
  have same := stopChannel_prover c s
  exact (show (stopChannel c s).proving n = (changeProving c (Proving.stopped (s.tables.output c).latched) s).proving n by
    unfold State.proving; rw [same]).trans (proving_changeProving_other other _ s)

theorem stopChannel_length (c : Nat) (s : State) : (stopChannel c s).prover.channels.length = s.prover.channels.length := by
  rw [stopChannel_prover, length_changeProving]

theorem stopChannel_tables (c : Nat) (s : State) : (stopChannel c s).tables = s.tables := tables_congr (by simp)

theorem endRedFail_proving (g c : Nat) (s : State) : (endRedFail g s).proving c = s.proving c := by
  unfold State.proving
  rw [endRedFail_channels]

theorem endRedFail_redFail (g k : Nat) (s : State) : (endRedFail g s).redFail k = if k = g then false else s.redFail k := by
  by_cases was : s.redFail g = true
  · have set : (endRedFail g s).redFail k = entryD (changeEntry s.prover.redFail g (fun _ => false)) k false := by
      unfold endRedFail
      rw [if_pos was]
      unfold State.redFail
      simp [setRedFail]
    rw [set]
    split
    · next is =>
      subst is
      rcases entryD_changeEntry s.prover.redFail k k (fun _ => false) false with same | ⟨-, changed⟩
      · unfold State.redFail at was
        by_cases first : 1 ≤ k
        · by_cases last : k ≤ s.prover.redFail.length
          · exact entryD_changeEntry_same first last _ _
          · unfold entryD entry? at was
            rw [if_neg (by omega), List.getElem?_eq_none (by omega)] at was
            exact nomatch was
        · have zero : k = 0 := by omega
          subst zero
          unfold entryD entry? at was
          exact nomatch was
      · exact changed
    · next other => exact entryD_changeEntry_other other _ _
  · unfold endRedFail
    rw [if_neg was]
    split
    · next is => subst is; simpa using was
    · rfl

theorem stopProving_proving {s : State} {c : Nat} (first : 1 ≤ c) (last : c ≤ s.prover.channels.length) :
    (stopProving s).proving c = (s.proving c).stopped (s.tables.output c).latched := by
  unfold stopProving
  refine eachOf_holds (fun t => t.proving c = (s.proving c).stopped (s.tables.output c).latched) endRedFail
    (fun g t h => (endRedFail_proving g c t).trans h) _ _ ?_
  refine eachOf_once (x := c) (done := fun t => t.proving c = (s.proving c).stopped (s.tables.output c).latched)
    (good := fun t => t.proving c = s.proving c ∧ t.tables = s.tables ∧ t.prover.channels.length = s.prover.channels.length)
    (fun n t other ⟨record, tables, length⟩ => ⟨(stopChannel_proving_other (Ne.symm other)).trans record, (stopChannel_tables n t).trans tables,
      (stopChannel_length n t).trans length⟩)
    (fun t ⟨record, tables, length⟩ => ?_) (fun n t other h => (stopChannel_proving_other (Ne.symm other)).trans h)
    (mem_numbers.mpr ⟨first, last⟩) (numbers_nodup _) ⟨rfl, rfl, rfl⟩
  rw [stopChannel_proving_same first (by omega), record, tables]

theorem stopProving_redFail {s : State} {g : Nat} (number : g ∈ groupNumbers) : (stopProving s).redFail g = false := by
  unfold stopProving
  generalize eachOf s.channelNumbers stopChannel s = u
  refine eachOf_once (x := g) (good := fun _ => True) (done := fun t => t.redFail g = false) (fun _ _ _ _ => trivial) (fun t _ => ?_) (fun k t other h => ?_) number (numbers_nodup _) trivial
  · rw [endRedFail_redFail, if_pos rfl]
  · rw [endRedFail_redFail, if_neg (Ne.symm other)]
    exact h

theorem stopProving_quieter (s : State) : s.faults.Quieter (stopProving s).faults :=
  (quieter_eachOf stopChannel_quieter _ s).trans (quieter_eachOf endRedFail_quieter _ _)

/-- An unlatched fault ends with proving (R126). -/
theorem stopProving_ends {s : State} {c : Nat} (first : 1 ≤ c) (last : c ≤ s.prover.channels.length) (well : s.faults.Well)
    (unlatched : (s.tables.output c).latched = false) :
    ((s.proving c).lampOut = true → notActive (stopProving s) .lampOut (some c))
      ∧ ((s.proving c).foreign = true → notActive (stopProving s) .foreignCurrent (some c)) := by
  have pass : ∀ kind : FaultKind, (∀ t : State, t.faults.Well → t.proving c = s.proving c → t.tables = s.tables → notActive (stopChannel c t) kind (some c)) →
      notActive (stopProving s) kind (some c) := fun kind ends => by
    have stopped : (eachOf s.channelNumbers stopChannel s).faults.Well ∧ notActive (eachOf s.channelNumbers stopChannel s) kind (some c) :=
      eachOf_once (x := c) (good := fun t => t.faults.Well ∧ t.proving c = s.proving c ∧ t.tables = s.tables)
        (done := fun t => t.faults.Well ∧ notActive t kind (some c))
        (fun n t other ⟨well, record, tables⟩ => ⟨(stopChannel_quieter n t).well well, (stopChannel_proving_other (Ne.symm other)).trans record,
          (stopChannel_tables n t).trans tables⟩)
        (fun t ⟨well, record, tables⟩ => ⟨(stopChannel_quieter c t).well well, ends t well record tables⟩)
        (fun n t _ ⟨well, quiet⟩ => ⟨(stopChannel_quieter n t).well well, (stopChannel_quieter n t).quiet well _ _ quiet⟩)
        (mem_numbers.mpr ⟨first, last⟩) (numbers_nodup _) ⟨well, rfl, rfl⟩
    unfold stopProving
    generalize eachOf s.channelNumbers stopChannel s = u at stopped ⊢
    exact (quieter_eachOf endRedFail_quieter groupNumbers u).quiet stopped.1 kind (some c) stopped.2
  refine ⟨fun out => pass .lampOut fun t well record tables => ?_, fun out => pass .foreignCurrent fun t well record tables => ?_⟩
  · have ended := reportEnd_notActive .lampOut (some c) (s := changeProving c (Proving.stopped false) t) (by exact well)
    have well' := (reportEnd_quieter .lampOut (some c) (changeProving c (Proving.stopped false) t)).well (by exact well)
    rw [stopChannel_eq, record, tables, unlatched, out, if_pos (by rfl : (true && !false) = true)]
    split
    · exact (reportEnd_quieter .foreignCurrent (some c) _).quiet well' _ _ ended
    · exact ended
  · rw [stopChannel_eq, record, tables, unlatched, out, if_pos (by rfl : (true && !false) = true)]
    refine reportEnd_notActive _ _ ?_
    split
    · exact (reportEnd_quieter .lampOut (some c) (changeProving c (Proving.stopped false) t)).well (by exact well)
    · exact well

end Sys2Proof.Machine

/-! ### A permit mode is left for FLASH or LOCKOUT (03, section 3.7), and the conclusion of the event that leaves it -/

namespace Sys2Proof.Machine

open Sys2Proof.Safety

/-! #### What the blocks do at the change -/

theorem leavePermit_controls (new : Mode) (cause : Cause) (record : Option (FaultKind × Option Nat)) (s : State) :
    (leavePermit new cause record s).control
      = { s.control with
          mode := new, runPermit := new.permit, lastCause := cause, closeTarget := none, closeCause := none, startTimer := none, firstImage := none
          recordOp := record.elim s.control.recordOp (fun r => .writing r.1 r.2) } := by
  cases record with
  | none => simp [leavePermit, writeRecordOf, setMode, resetWorking]
  | some r => simp [leavePermit, writeRecordOf, startRecordWrite, setMode, resetWorking]

theorem leavePermit_exchange (new : Mode) (cause : Cause) (record : Option (FaultKind × Option Nat)) (s : State) :
    (leavePermit new cause record s).exchange
      = { s.exchange with expectedChain := none, accepted := none, supervision := none, warning := none } := by
  simp [leavePermit, exchangeFlash, endLapse_exchange]

theorem refreshRequest_unit (p : Nat) (s : State) :
    (refreshRequest p s).preempt.slot = s.preempt.slot ∧ (refreshRequest p s).preempt.inhibit = s.preempt.inhibit := by
  unfold refreshRequest
  dsimp only
  split <;> exact ⟨rfl, rfl⟩

theorem emptySlot_slot (s : State) : (emptySlot s).preempt.slot = none := by
  unfold emptySlot
  split
  · unfold setSource
    rw [(refreshRequest_unit _ _).1]
    rfl
  · assumption

theorem plansFlash_unit (s : State) : (plansFlash s).preempt.slot = none ∧ (plansFlash s).preempt.inhibit = 0 := by
  unfold plansFlash
  exact eachOf_holds (fun t => t.preempt.slot = none ∧ t.preempt.inhibit = 0) _ (fun p t h => h) planNumbers
    { emptySlot (clearStack s) with preempt.inhibit := 0 } ⟨emptySlot_slot (clearStack s), rfl⟩

theorem leavePermit_unit (new : Mode) (cause : Cause) (record : Option (FaultKind × Option Nat)) (s : State) :
    (leavePermit new cause record s).preempt.slot = none ∧ (leavePermit new cause record s).preempt.inhibit = 0 := by
  simp [leavePermit, plansFlash_unit]

/-- The kinds that no stop of supervision or of proving ends. -/
def OfOthers (kind : FaultKind) : Prop := kind ≠ .supervision ∧ kind ≠ .lampOut ∧ kind ≠ .foreignCurrent ∧ kind ≠ .redFail

theorem reportEnd_if_keeps {K : FaultKind → Prop} (active : Prop) [Decidable active] {kind : FaultKind} (out : ¬ K kind) (subject : Option Nat) (s : State) :
    s.faults.Keeps K ((if active then reportEnd kind subject else id) s).faults := by
  split
  · exact reportEnd_keeps out subject s
  · exact .refl _ _

theorem keeps_eachOf {K : FaultKind → Prop} {α : Type} {f : α → State → State} (each : ∀ x (s : State), s.faults.Keeps K (f x s).faults) (l : List α)
    (s : State) : s.faults.Keeps K (eachOf l f s).faults :=
  eachOf_holds (fun t => s.faults.Keeps K t.faults) f (fun x t h => h.trans (each x t)) l s (.refl _ _)

theorem stopProving_keeps (s : State) : s.faults.Keeps OfOthers (stopProving s).faults := by
  have channel : ∀ c (t : State), t.faults.Keeps OfOthers (stopChannel c t).faults := fun c t => by
    rw [stopChannel_eq]
    exact (reportEnd_if_keeps _ (kind := .lampOut) (fun h => h.2.1 rfl) (some c) (changeProving c _ t)).trans
      (reportEnd_if_keeps _ (kind := .foreignCurrent) (fun h => h.2.2.1 rfl) (some c) _)
  have group : ∀ g (t : State), t.faults.Keeps OfOthers (endRedFail g t).faults := fun g t => by
    unfold endRedFail
    split
    · exact reportEnd_keeps (fun h => h.2.2.2 rfl) (some g) (setRedFail false g t)
    · exact .refl _ _
  unfold stopProving
  exact (keeps_eachOf channel _ s).trans (keeps_eachOf group groupNumbers _)

theorem endLapse_keeps (s : State) : s.faults.Keeps OfOthers (endLapse s).faults := by
  unfold endLapse
  split
  · exact reportEnd_keeps (fun h => h.1 rfl) none { s with exchange.warning := none }
  · exact .refl _ _

/-- Proving stops at the change, on a fault list whose lapse has ended. -/
theorem leavePermit_stops (new : Mode) (cause : Cause) (record : Option (FaultKind × Option Nat)) (s : State) :
    ∃ x : State, x.prover = s.prover ∧ x.tables = s.tables ∧ s.faults.Quieter x.faults ∧ s.faults.Keeps OfOthers x.faults
      ∧ (leavePermit new cause record s).prover = (stopProving x).prover
      ∧ (leavePermit new cause record s).faults.entries = (stopProving x).faults.entries := by
  have lapse := endLapse_quieter { showFlash
    { setMode new cause s with control.closeTarget := none, control.closeCause := none, control.startTimer := none, control.firstImage := none } with
      exchange.expectedChain := none, exchange.accepted := none, exchange.supervision := none }
  have keeps := endLapse_keeps { showFlash
    { setMode new cause s with control.closeTarget := none, control.closeCause := none, control.startTimer := none, control.firstImage := none } with
      exchange.expectedChain := none, exchange.accepted := none, exchange.supervision := none }
  refine ⟨plansFlash (exchangeFlash (showFlash
    { setMode new cause s with control.closeTarget := none, control.closeCause := none, control.startTimer := none, control.firstImage := none })),
    by simp, tables_congr (by simp), ?_, ?_, by simp [leavePermit], ?_⟩
  · rw [(plansFlash_frame _).2.2.2.2.2.2.2.2.2.2.1]
    exact lapse
  · rw [(plansFlash_frame _).2.2.2.2.2.2.2.2.2.2.1]
    exact keeps
  · unfold leavePermit announce
    simp only [alarm_entries, writeRecordOf_frame, resetWorking_frame]

theorem leavePermit_quieter (new : Mode) (cause : Cause) (record : Option (FaultKind × Option Nat)) (s : State) :
    s.faults.Quieter (leavePermit new cause record s).faults := by
  obtain ⟨x, -, -, lapse, -, -, entries⟩ := leavePermit_stops new cause record s
  have stopped := lapse.trans (stopProving_quieter x)
  refine ⟨fun well => ?_, fun well kind subject quiet => ?_⟩
  · have kept := stopped.well well
    unfold FaultList.Well at kept ⊢
    rwa [entries]
  · rw [entries]
    exact stopped.quiet well kind subject quiet

/-- What a stop of proving leaves of the prover (R126, R134). -/
theorem leavePermit_proving (new : Mode) (cause : Cause) (record : Option (FaultKind × Option Nat)) (s : State) :
    (∀ c, 1 ≤ c → c ≤ s.prover.channels.length →
        (leavePermit new cause record s).proving c = (s.proving c).stopped (s.tables.output c).latched)
      ∧ ∀ g ∈ groupNumbers, (leavePermit new cause record s).redFail g = false := by
  obtain ⟨x, prover, tables, -, -, stopped, -⟩ := leavePermit_stops new cause record s
  refine ⟨fun c first last => ?_, fun g number => ?_⟩
  · have record := stopProving_proving (s := x) first (by rw [prover]; exact last)
    rw [tables, show x.proving c = s.proving c by unfold State.proving; rw [prover]] at record
    rw [← record]
    unfold State.proving
    rw [stopped]
  · have ended := stopProving_redFail (s := x) number
    unfold State.redFail at ended ⊢
    rw [stopped]
    exact ended

/-- An unlatched lamp fault ends at the change. -/
theorem leavePermit_ends {new : Mode} {cause : Cause} {record : Option (FaultKind × Option Nat)} {s : State} {c : Nat} (first : 1 ≤ c)
    (last : c ≤ s.prover.channels.length) (well : s.faults.Well) (unlatched : (s.tables.output c).latched = false) :
    ((s.proving c).lampOut = true → notActive (leavePermit new cause record s) .lampOut (some c))
      ∧ ((s.proving c).foreign = true → notActive (leavePermit new cause record s) .foreignCurrent (some c)) := by
  obtain ⟨x, prover, tables, lapse, -, -, entries⟩ := leavePermit_stops new cause record s
  have proving : x.proving c = s.proving c := by unfold State.proving; rw [prover]
  obtain ⟨out, foreign⟩ := stopProving_ends (s := x) first (by rw [prover]; exact last) (lapse.well well) (by rw [tables]; exact unlatched)
  rw [proving] at out foreign
  unfold notActive at out foreign ⊢
  rw [entries]
  exact ⟨out, foreign⟩

/-- The reports of the change are ends of SUPERVISION and of the lamp prover's faults. -/
theorem leavePermit_keeps (new : Mode) (cause : Cause) (record : Option (FaultKind × Option Nat)) (s : State) :
    s.faults.Keeps OfOthers (leavePermit new cause record s).faults := by
  obtain ⟨x, -, -, -, lapse, -, entries⟩ := leavePermit_stops new cause record s
  have stopped := lapse.trans (stopProving_keeps x)
  refine ⟨(leavePermit_quieter new cause record s).well, fun well o member is => ?_⟩
  rw [entries]
  exact stopped.keeps well o member is

/-! #### The conclusion of an event that has come to FLASH or LOCKOUT -/

/-- Every live group is shown FLASH. -/
def Flashing (s : State) : Prop := ∀ g, s.tables.live g = true → s.shown g = .flash

theorem Flashing.setGroup {s : State} (h : Flashing s) {k : Nat} {x : Group} (same : s.tables.live k = true → x.shown = .flash) :
    Flashing (setGroup k x s) := by
  intro g live
  rcases entryD_changeEntry s.engine.groups k g (fun _ => x) Group.reset with kept | ⟨is, set⟩
  · exact (congrArg Group.shown kept).trans (h g live)
  · exact (congrArg Group.shown set).trans (same (is ▸ live))

theorem Flashing.congr {s t : State} (h : Flashing s) (groups : t.engine.groups = s.engine.groups) (active : t.store.active = s.store.active) :
    Flashing t := by
  intro g live
  rw [tables_congr active] at live
  exact (congrArg Group.shown (group_congr groups g)).trans (h g live)

theorem Flashing.evaluate {s : State} (h : Flashing s) (k : Nat) : Flashing (evaluate k s) := by
  by_cases live : s.tables.live k = true
  · have set := h.setGroup (k := k) (x := s.judge k) fun live => (judge_flash s k).mpr (h k live)
    exact set.congr (by rw [evaluate_groups, if_pos live]) (by simp [Machine.setGroup])
  · exact h.congr (by rw [evaluate_groups, if_neg live]) (by simp)

theorem Flashing.rebuild {s : State} (h : Flashing s) : Flashing (rebuild s) := by
  intro g live
  have same := congrArg Prod.fst (shown_of_faces (rebuild_rest (s := s)).1 g)
  exact same.trans (h g (by rwa [tables_congr (s := s) (by simp)] at live))

theorem Flashing.evaluateConcerned {s : State} (h : Flashing s) (passes : Nat) : Flashing (evaluateConcerned passes s) := by
  induction passes generalizing s with
  | zero => exact h
  | succ n ih =>
    unfold Machine.evaluateConcerned
    split
    · exact h
    · exact ih (eachOf_holds Flashing Machine.evaluate (fun k u hu => hu.evaluate k) _ _ (h.congr rfl rfl))

theorem entryMet_empty {s : State} (stack : s.preempt.stack = []) : s.entryMet = false := by
  unfold State.entryMet
  rw [stack]

theorem settle_empty {s : State} (stack : s.preempt.stack = []) (rounds : Nat) : settle rounds s = evaluateConcerned passLimit (rebuild s) := by
  cases rounds with
  | zero => rfl
  | succ n =>
    unfold settle
    dsimp only
    rw [if_neg]
    rw [entryMet_empty (by simpa using stack)]
    decide

theorem redOut_of_flash {s : State} {g : Nat} (flash : s.shown g = .flash) : s.redOut g = false := by
  unfold State.redOut
  simp [flash]

/-- What the ends of red failures leave alone: all but the RED_FAIL marks, the fault list and the link. -/
structure RedsEnded (s t : State) : Prop where
  channels : t.prover.channels = s.prover.channels
  reds : ∀ g, s.redFail g = false → t.redFail g = false
  exchange : t.exchange = s.exchange
  preempt : t.preempt = s.preempt
  engine : t.engine = s.engine
  control : t.control = s.control
  store : t.store = s.store
  branches : t.branches = s.branches
  event : t.event = s.event
  keeps : s.faults.Keeps (· ≠ .redFail) t.faults
  quieter : s.faults.Quieter t.faults

theorem RedsEnded.refl (s : State) : RedsEnded s s := ⟨rfl, fun _ h => h, rfl, rfl, rfl, rfl, rfl, rfl, rfl, .refl _ _, .refl _⟩

theorem RedsEnded.trans {s t u : State} (first : RedsEnded s t) (second : RedsEnded t u) : RedsEnded s u where
  channels := second.channels.trans first.channels
  reds g off := second.reds g (first.reds g off)
  exchange := second.exchange.trans first.exchange
  preempt := second.preempt.trans first.preempt
  engine := second.engine.trans first.engine
  control := second.control.trans first.control
  store := second.store.trans first.store
  branches := second.branches.trans first.branches
  event := second.event.trans first.event
  keeps := first.keeps.trans second.keeps
  quieter := first.quieter.trans second.quieter

theorem redsEnded_endRedFail (g : Nat) (s : State) : RedsEnded s (endRedFail g s) := by
  have frame := endRedFail_frame g s
  refine ⟨endRedFail_channels _ _, fun k off => ?_, by simp, by simp, by simp, by simp, by simp, by simp, by simp, endRedFail_keeps g s, endRedFail_quieter g s⟩
  rw [endRedFail_redFail]
  split
  · rfl
  · exact off

/-- Where no live group's red-failure condition holds, its evaluation ends red failures and does nothing else. -/
theorem redsEnded_evaluateReds {s : State} (sound : ∀ g, s.tables.live g = true → s.redOut g = false) : RedsEnded s (evaluateReds s) := by
  have handed : ∀ (l : List (Nat × Bool)) (t : State), (∀ change ∈ l, change.2 = false) → RedsEnded t (eachOf l handRed t) := by
    intro l
    induction l with
    | nil => exact fun t _ => .refl t
    | cons change l ih =>
      intro t ends
      have first : RedsEnded t (handRed change t) := by
        unfold handRed
        rw [ends change (List.mem_cons_self ..)]
        exact redsEnded_endRedFail _ _
      exact first.trans (ih _ fun c member => ends c (List.mem_cons_of_mem _ member))
  exact handed _ _ (redDue_ends sound)

theorem redsEnded_evaluateShown {s : State} (sound : ∀ g, s.tables.live g = true → s.redOut g = false) : RedsEnded s (evaluateShown s) := by
  unfold evaluateShown
  split
  · exact .refl s
  · exact redsEnded_evaluateReds sound

theorem numberImage_prover (s : State) :
    (∀ g, (numberImage s).redFail g = s.redFail g)
      ∧ ∀ c, (numberImage s).proving c = s.proving c ∨ (numberImage s).proving c = (s.proving c).noRuns := by
  have step : ∀ (u : State) (c : Nat) (t : State), (∀ g, t.redFail g = u.redFail g) ∧ (∀ c, t.proving c = u.proving c ∨ t.proving c = (u.proving c).noRuns) →
      (∀ g, (changeProving c Proving.noRuns t).redFail g = u.redFail g)
        ∧ ∀ n, (changeProving c Proving.noRuns t).proving n = u.proving n ∨ (changeProving c Proving.noRuns t).proving n = (u.proving n).noRuns :=
    fun u c t ⟨reds, channels⟩ => ⟨reds, fun n => by
      have own : (changeProving c Proving.noRuns t).proving n = t.proving n ∨ (changeProving c Proving.noRuns t).proving n = (t.proving n).noRuns :=
        (entryD_changeEntry t.prover.channels c n Proving.noRuns Proving.reset).imp id And.right
      rcases own with kept | changed
      · rcases channels n with same | none'
        · exact .inl (kept.trans same)
        · exact .inr (kept.trans none')
      · rcases channels n with same | none'
        · exact .inr (changed.trans (congrArg Proving.noRuns same))
        · exact .inr (changed.trans (by rw [none']; rfl))⟩
  unfold numberImage
  split
  · exact ⟨fun _ => rfl, fun _ => .inl rfl⟩
  · unfold discardChanged
    refine eachOf_holds (fun t => (∀ g, t.redFail g = s.redFail g) ∧ ∀ c, t.proving c = s.proving c ∨ t.proving c = (s.proving c).noRuns) _
      (fun c t h => ?_) _ _ ⟨fun _ => rfl, fun _ => .inl rfl⟩
    dsimp only
    split
    · exact h
    · exact step s c t h

/-- What the conclusion of an event leaves of a state `u` in FLASH or LOCKOUT. -/
structure FlashEnd (u t : State) : Prop where
  control : t.control = u.control
  store : t.store = u.store
  exchange : t.exchange = u.exchange
  preempt : t.preempt = u.preempt
  flashing : Flashing t
  reds : ∀ g, u.redFail g = false → t.redFail g = false
  proving : ∀ c, t.proving c = u.proving c ∨ t.proving c = (u.proving c).noRuns
  keeps : u.faults.Keeps (· ≠ .redFail) t.faults
  quieter : u.faults.Quieter t.faults
  length : t.engine.groups.length = u.engine.groups.length

theorem SameAim.length {s t : State} (same : SameAim s t) : t.engine.groups.length = s.engine.groups.length := same.2.2.2.2

theorem evaluateConcerned_length (passes : Nat) (s : State) : (evaluateConcerned passes s).engine.groups.length = s.engine.groups.length := by
  induction passes generalizing s with
  | zero => rfl
  | succ n ih =>
    unfold Machine.evaluateConcerned
    split
    · rfl
    · exact (ih _).trans (sameAim_eachOf sameAim_evaluate _ _).length

/-- What an event does once its groups have settled and a close has completed (log 16, log 18). -/
def finish (s : State) : State := handReports (arbitrateAll (markIfDue (numberImage (evaluateShown (noticeGo s)))))

theorem conclude_eq (s : State) : conclude s = finish (closeIfDone (settle roundLimit s)) := rfl

/-- What the finish of an event leaves of a state `u` in which no red-failure condition holds. -/
structure Finished (u t : State) : Prop where
  control : t.control = u.control
  store : t.store = u.store
  exchange : t.exchange = u.exchange
  preempt : t.preempt = u.preempt
  groups : t.engine.groups = u.engine.groups
  reds : ∀ g, u.redFail g = false → t.redFail g = false
  proving : ∀ c, t.proving c = u.proving c ∨ t.proving c = (u.proving c).noRuns
  keeps : u.faults.Keeps (· ≠ .redFail) t.faults
  quieter : u.faults.Quieter t.faults

theorem redOut_congr {s t : State} (groups : t.engine.groups = s.engine.groups) (prover : t.prover = s.prover) (active : t.store.active = s.store.active)
    (g : Nat) : t.redOut g = s.redOut g := by
  unfold State.redOut State.proving State.shown
  rw [group_congr groups, prover, tables_congr active]

theorem finish_sound {u : State} (calm : ∀ g, u.tables.live g = true → u.redOut g = false) : Finished u (finish u) := by
  unfold finish
  have sound : ∀ g, (noticeGo u).tables.live g = true → (noticeGo u).redOut g = false := fun g live => by
    rw [redOut_congr (s := u) (by simp) (by simp) (by simp)]
    exact calm g (by rwa [tables_congr (s := u) (by simp)] at live)
  have prover : (noticeGo u).prover = u.prover := by simp
  have faults : (noticeGo u).faults = u.faults := by simp
  have exchange : (noticeGo u).exchange = u.exchange := by simp
  have preempt : (noticeGo u).preempt = u.preempt := by simp
  have store : (noticeGo u).store = u.store := by simp
  have controls : (noticeGo u).control = u.control := by simp
  have groups : (noticeGo u).engine = u.engine := by simp
  generalize noticeGo u = v at *
  have judged := redsEnded_evaluateShown sound
  obtain ⟨reds, proving⟩ := numberImage_prover (evaluateShown v)
  have provers : ∀ w : State, (handReports (arbitrateAll (markIfDue w))).prover = w.prover := fun w => by simp
  have engines : ∀ w : State, (handReports (arbitrateAll (markIfDue w))).engine = w.engine := fun w => by simp
  refine ⟨?_, ?_, ?_, ?_, ?_, fun g off => ?_, fun c => ?_, ?_, ?_⟩
  · simp [judged.control, controls]
  · simp [judged.store, store]
  · simp [judged.exchange, exchange]
  · simp [judged.preempt, preempt]
  · rw [engines]
    simp [judged.engine, groups]
  · have off' : v.redFail g = false := by unfold State.redFail at off ⊢; rw [prover]; exact off
    have ended := judged.reds g off'
    unfold State.redFail at ended reds ⊢
    rw [provers, reds g]
    exact ended
  · have here : (evaluateShown v).proving c = u.proving c := by unfold State.proving; rw [judged.channels, prover]
    rw [← here]
    unfold State.proving at proving ⊢
    rw [provers]
    exact proving c
  · simp only [handReports_frame, arbitrateAll_frame, markIfDue_frame, numberImage_frame]
    exact faults ▸ judged.keeps
  · simp only [handReports_frame, arbitrateAll_frame, markIfDue_frame, numberImage_frame]
    exact faults ▸ judged.quieter

theorem finish_flashed {u : State} (flashing : Flashing u) : FlashEnd u (finish u) := by
  have ends := finish_sound fun g live => redOut_of_flash (flashing g live)
  exact ⟨ends.control, ends.store, ends.exchange, ends.preempt, flashing.congr ends.groups (congrArg Store.active ends.store), ends.reds, ends.proving,
    ends.keeps, ends.quieter, congrArg List.length ends.groups⟩

theorem FlashEnd.after {u v t : State} (h : FlashEnd v t) (control : v.control = u.control) (store : v.store = u.store) (exchange : v.exchange = u.exchange)
    (preempt : v.preempt = u.preempt) (prover : v.prover = u.prover) (faults : v.faults = u.faults)
    (length : v.engine.groups.length = u.engine.groups.length) : FlashEnd u t where
  control := h.control.trans control
  store := h.store.trans store
  exchange := h.exchange.trans exchange
  preempt := h.preempt.trans preempt
  flashing := h.flashing
  reds g off := h.reds g (by unfold State.redFail at off ⊢; rwa [prover])
  proving c := by have own := h.proving c; unfold State.proving at own ⊢; rwa [prover] at own
  keeps := faults ▸ h.keeps
  quieter := faults ▸ h.quieter
  length := h.length.trans length

theorem conclude_flashed {u : State} (mode : u.control.mode.permit = false) (stack : u.preempt.stack = []) (flashing : Flashing u) :
    FlashEnd u (conclude u) := by
  have settled : settle roundLimit u = evaluateConcerned passLimit (rebuild u) := settle_empty stack roundLimit
  have control : (settle roundLimit u).control = u.control := by rw [settled]; simp
  have open' : closeIfDone (settle roundLimit u) = settle roundLimit u :=
    if_neg fun done => by rw [← control, done.1] at mode; cases mode
  rw [conclude_eq, open', settled]
  refine (finish_flashed ((flashing.rebuild).evaluateConcerned passLimit)).after (by simp) (by simp) (by simp) (by simp) (by simp) (by simp) ?_
  rw [← (sameAim_rebuild u).length]
  exact evaluateConcerned_length passLimit (rebuild u)

theorem FlashEnd.answered {u v t : State} (h : FlashEnd u v) (control : t.control = v.control) (store : t.store = v.store) (exchange : t.exchange = v.exchange)
    (preempt : t.preempt = v.preempt) (prover : t.prover = v.prover) (faults : t.faults = v.faults) (groups : t.engine.groups = v.engine.groups) :
    FlashEnd u t where
  control := control.trans h.control
  store := store.trans h.store
  exchange := exchange.trans h.exchange
  preempt := preempt.trans h.preempt
  flashing := h.flashing.congr groups (congrArg Store.active store)
  reds g off := by have own := h.reds g off; unfold State.redFail at own ⊢; rwa [prover]
  proving c := by have own := h.proving c; unfold State.proving at own ⊢; rwa [prover]
  keeps := faults ▸ h.keeps
  quieter := faults ▸ h.quieter
  length := (congrArg List.length groups).trans h.length

theorem FlashEnd.asEvent {u : State} {effect answer : State → State} {s : State} (only : onlyLink answer)
    (h : FlashEnd u (conclude (effect (openEvent s)))) : FlashEnd u (Machine.asEvent effect answer s) := by
  have same := only (conclude (effect (openEvent s)))
  exact h.answered (congrArg State.control same :) (congrArg State.store same :) (congrArg State.exchange same :) (congrArg State.preempt same :)
    (congrArg State.prover same :) (congrArg State.faults same :) (congrArg (fun x : State => x.engine.groups) same :)

theorem flashing_leavePermit (new : Mode) (cause : Cause) (record : Option (FaultKind × Option Nat)) (s : State) :
    Flashing (leavePermit new cause record s) := by
  intro g live
  have live' : s.tables.live g = true := by rwa [tables_congr (s := s) (by simp)] at live
  exact (congrArg Group.shown (group_congr (congrArg Engine.groups (leavePermit_engine new cause record s)) g)).trans (showFlash_shown live')

/-- What an event leaves that ends as the entry to a mode does. -/
theorem FlashEnd.transferred {s v t : State} {mode : Mode} {cause : Cause} {record : Option (FaultKind × Option Nat)}
    (h : FlashEnd (leavePermit mode cause record v) t) (rests : mode.permit = false) (intended : Intended t)
    (length : v.engine.groups.length = s.engine.groups.length) (active : v.store.active = s.store.active) (maint : v.control.maint = s.control.maint)
    (strikes : v.exchange.strikes = s.exchange.strikes) : transferred s t mode cause := by
  have control := h.control.trans (leavePermit_controls mode cause record v)
  have exchange := h.exchange.trans (leavePermit_exchange mode cause record v)
  have unit := leavePermit_unit mode cause record v
  have stored : t.store.active = s.store.active := (congrArg Store.active h.store).trans ((by simp : _ = v.store.active).trans active)
  have groups : t.engine.groups.length = s.engine.groups.length := by
    rw [h.length, congrArg Engine.groups (leavePermit_engine mode cause record v)]
    simpa using length
  refine ⟨by rw [control], by rw [control]; exact rests, by rw [control], by rw [control], by rw [control], by rw [control]; exact maint,
    fun g service => ?_, by rw [exchange], by rw [exchange], by rw [exchange], by rw [exchange], by rw [exchange]; exact strikes,
    by rw [h.preempt]; exact leavePermit_stack mode cause record v, by rw [h.preempt]; exact unit.1, by rw [h.preempt]; exact unit.2, stored⟩
  obtain ⟨⟨first, last⟩, live⟩ := inService_iff.mp service
  have live' : t.tables.live g = true := by rwa [tables_congr stored]
  refine ⟨h.flashing g live', (intended g (inService_iff.mpr ⟨⟨first, groups ▸ last⟩, live'⟩)).1 ?_⟩
  rw [control]
  revert rests
  cases mode <;> simp [Mode.permit, Mode.admits]

theorem FlashEnd.provingStopped {s v t : State} {mode : Mode} {cause : Cause} {record : Option (FaultKind × Option Nat)}
    (h : FlashEnd (leavePermit mode cause record v) t) (proving : ∀ c, v.proving c = s.proving c)
    (length : v.prover.channels.length = s.prover.channels.length) (active : v.store.active = s.store.active) : provingStopped s t := by
  obtain ⟨stops, reds⟩ := leavePermit_proving mode cause record v
  refine ⟨fun c first last => ?_, fun g number => h.reds g (reds g number)⟩
  have own := stops c first (by rw [length]; exact last)
  rw [proving c, tables_congr active] at own
  have here := h.proving c
  rw [own] at here
  rcases here with here | here <;> rw [here] <;> exact ⟨rfl, rfl, rfl, rfl, rfl, rfl⟩

theorem FlashEnd.keeps_listed {u t : State} (h : FlashEnd u t) (well : u.faults.Well) {kind : FaultKind} {subject : Option Nat} {active : Bool}
    {action : Action} (out : kind ≠ .redFail) (lists : listed u kind subject active action) : listed t kind subject active action := by
  obtain ⟨e, member, is, of, active, asks⟩ := lists
  exact ⟨e, h.keeps.keeps well e member (by rw [is]; exact out), is, of, active, asks⟩

theorem leavePermit_keeps_listed {v : State} {mode : Mode} {cause : Cause} {record : Option (FaultKind × Option Nat)} (well : v.faults.Well)
    {kind : FaultKind} {subject : Option Nat} {active : Bool} {action : Action} (out : OfOthers kind) (lists : listed v kind subject active action) :
    listed (leavePermit mode cause record v) kind subject active action := by
  obtain ⟨e, member, is, of, active, asks⟩ := lists
  exact ⟨e, (leavePermit_keeps mode cause record v).keeps well e member (by rw [is]; exact out), is, of, active, asks⟩

theorem FlashEnd.listed {v t : State} {mode : Mode} {cause : Cause} {record : Option (FaultKind × Option Nat)}
    (h : FlashEnd (leavePermit mode cause record v) t) (well : v.faults.Well) {kind : FaultKind} {subject : Option Nat} {active : Bool} {action : Action}
    (out : OfOthers kind) (lists : Safety.listed v kind subject active action) : Safety.listed t kind subject active action :=
  h.keeps_listed ((leavePermit_keeps mode cause record v).well well) (fun is => out.2.2.2 is) (leavePermit_keeps_listed well out lists)

theorem FlashEnd.notActive {u t : State} (h : FlashEnd u t) (well : u.faults.Well) {kind : FaultKind} {subject : Option Nat}
    (quiet : Safety.notActive u kind subject) : Safety.notActive t kind subject := h.quieter.quiet well kind subject quiet

/-- An event that leaves a permit mode for FLASH or LOCKOUT. -/
theorem leavePermit_event {effect answer : State → State} {s v : State} {mode : Mode} {cause : Cause} {record : Option (FaultKind × Option Nat)}
    (only : onlyLink answer) (rests : mode.permit = false) (is : effect (openEvent s) = leavePermit mode cause record v) :
    FlashEnd (leavePermit mode cause record v) (Machine.asEvent effect answer s) := by
  refine FlashEnd.asEvent only ?_
  rw [is]
  exact conclude_flashed (by rw [leavePermit_controls]; exact rests) (leavePermit_stack mode cause record v) (flashing_leavePermit mode cause record v)

end Sys2Proof.Machine

/-! ### The start-up stop timer and supervision (03, section 3.4; 04, sections 4.3 and 4.5) -/

namespace Sys2Proof.Machine

open Sys2Proof.Safety

theorem exec_supervision_start {s : State} (up : s.up = true) (mode : s.control.mode = .start) (due : s.exchange.supervision = some (.running 0)) :
    ∃ effect, exec .supervisionTimerExpiry s = .next (asEvent effect id s)
      ∧ effect (openEvent s) = leavePermit .flash .faultFlash none (note noControllerRaise { openEvent s with exchange.supervision := some .expired }) := by
  refine ⟨_, eventOutcome_up up, ?_⟩
  dsimp only
  rw [if_pos (by exact due), show (openEvent s).control.mode = .start from mode]
  show takeAction noControllerRaise .flash (note noControllerRaise { openEvent s with exchange.supervision := some .expired }) = _
  have mode' : (note noControllerRaise { openEvent s with exchange.supervision := some .expired }).control.mode = .start := by simpa using mode
  unfold takeAction
  rw [mode']
  rfl

/-- A silent controller in START (R52): NO_CONTROLLER is reported, and FLASH is entered by it. -/
theorem noController_event {s : State} (up : s.up = true) (mode : s.control.mode = .start) (due : s.exchange.supervision = some (.running 0)) :
    ∃ t, exec .supervisionTimerExpiry s = .next t ∧ transferred s t .flash .faultFlash
      ∧ (faultLaw s = true → s.faults.entries.length < 32 → notActive s .noController none → listed t .noController none false .flash) := by
  obtain ⟨effect, ran, is⟩ := exec_supervision_start up mode due
  have ends := leavePermit_event (answer := id) id_onlyLink rfl is
  have intended := intended_asEvent (answer := id) id_onlyLink effect s
  generalize asEvent effect id s = t at *
  have noted := reporting_note (K := fun _ _ => True) (r := noControllerRaise) trivial { openEvent s with exchange.supervision := some .expired }
  refine ⟨t, ran, ends.transferred rfl intended (by simp) (by simp) (by simp) (by simp), fun law room quiet => ?_⟩
  have well : s.faults.Well := faultLaw_iff.mp law
  obtain ⟨e, member, kind, subject, -, action, -, -, active⟩ := note_lists (r := noControllerRaise)
    (s := { openEvent s with exchange.supervision := some .expired }) room
  exact ends.listed (noted.faults.well well) (by unfold OfOthers; decide) ⟨e, member, kind, subject, active quiet, action⟩

end Sys2Proof.Machine

namespace Sys2Proof.Proofs

open Sys2Proof Sys2Proof.Machine Sys2Proof.Safety

/-- Settles O47: the timer enters RUNNING or stands expired, supervision enters WARNING, and the event concludes in calm; in START it leaves the permit
modes. -/
theorem startUpAndSupervisionExpiries : Obligations.StartUpAndSupervisionExpiries := by
  intro s up calm
  refine ⟨fun mode due image => ?_, fun mode due image => ?_, fun mode due => ?_, fun mode due => ?_⟩
  · obtain ⟨effect, ran, is⟩ : ∃ effect, exec .startUpStopTimerExpiry s = .next (asEvent effect id s)
        ∧ effect (openEvent s) = enterRunning .startDone { openEvent s with control.startTimer := some .expired } :=
      ⟨_, eventOutcome_up up, by dsimp only; rw [if_pos ⟨mode, due⟩, if_pos (by exact image)]⟩
    have control := enterRunning_control .startDone { openEvent s with control.startTimer := some .expired }
    have exchange := enterRunning_exchange .startDone { openEvent s with control.startTimer := some .expired }
    have ends := calm_event (s := s) (effect := effect) (answer := id) id_onlyLink (by rw [is]; exact (noLampOut_of_channels (by simp)).trans calm)
      (by rw [is, control]; exact nofun)
    obtain ⟨-, -, -, exchange', control', store'⟩ := ends.frame
    rw [is] at exchange' control' store'
    exact ⟨_, ran, control'.trans control, by rw [exchange', exchange]; rfl, by rw [exchange', exchange]; rfl, store'.trans (by simp)⟩
  · obtain ⟨effect, ran, is⟩ : ∃ effect, exec .startUpStopTimerExpiry s = .next (asEvent effect id s)
        ∧ effect (openEvent s) = { openEvent s with control.startTimer := some .expired } :=
      ⟨_, eventOutcome_up up, by dsimp only; rw [if_pos ⟨mode, due⟩, if_neg (by exact image)]⟩
    have ends := calm_event (s := s) (effect := effect) (answer := id) id_onlyLink (by rw [is]; exact calm)
      (by rw [is]; show s.control.mode ≠ .closing; rw [mode]; decide)
    rw [is] at ends
    exact ⟨_, ran, ends.frame⟩
  · obtain ⟨effect, ran, is⟩ : ∃ effect, exec .supervisionTimerExpiry s = .next (asEvent effect id s)
        ∧ effect (openEvent s) = enterWarning { openEvent s with exchange.supervision := some .expired } := by
      refine ⟨_, eventOutcome_up up, ?_⟩
      dsimp only
      rw [if_pos (by exact due), show (openEvent s).control.mode = .running from mode]
    have control := enterWarning_control { openEvent s with exchange.supervision := some .expired }
    have exchange := enterWarning_exchange { openEvent s with exchange.supervision := some .expired }
    have lists := enterWarning_lists (s := { openEvent s with exchange.supervision := some .expired })
    have ends := calm_event (s := s) (effect := effect) (answer := id) id_onlyLink (by rw [is]; exact (noLampOut_of_channels (by simp)).trans calm)
      (by rw [is, control]; exact nofun)
    rw [is] at ends
    obtain ⟨-, -, -, exchange', control', store'⟩ := ends.frame
    refine ⟨_, ran, control'.trans control, exchange'.trans exchange, store'.trans (by simp), fun law room => ?_⟩
    obtain ⟨well, listed⟩ := lists (faultLaw_iff.mp law) room
    exact ends.keeps_listed well (by unfold OfConclusion; decide) listed
  · obtain ⟨t, ran, ⟨mode', permit, cause, -, -, -, shown, chain, accepted, supervision, -, strikes, -⟩, reported⟩ := noController_event up mode due
    exact ⟨t, ran, mode', permit, cause, chain, accepted, supervision, strikes, fun g service => (shown g service).1, reported⟩

end Sys2Proof.Proofs

/-! ### The close at the end of the warning window (03, section 3.6; 04, section 4.4) -/

namespace Sys2Proof.Machine

open Sys2Proof.Safety

theorem enterClosing_exchange (target : CloseTarget) (cause : CloseCause) (s : State) :
    (enterClosing target cause s).exchange = { s.exchange with supervision := none, warning := none } := by
  simp [enterClosing, setMode, endLapse_exchange]

theorem enterClosing_quieter (target : CloseTarget) (cause : CloseCause) (s : State) : s.faults.Quieter (enterClosing target cause s).faults := by
  have lapse := endLapse_quieter { setMode .closing cause.cause s with
    control.closeTarget := some target, control.closeCause := some cause, control.startTimer := none, control.firstImage := none
    exchange.supervision := none }
  have entries : (enterClosing target cause s).faults.entries = (endLapse { setMode .closing cause.cause s with
    control.closeTarget := some target, control.closeCause := some cause, control.startTimer := none, control.firstImage := none
    exchange.supervision := none }).faults.entries := by
    unfold enterClosing announce
    simp only [alarm_entries]
    simp
  refine ⟨fun well => ?_, fun well kind subject quiet => ?_⟩
  · have kept := lapse.well well
    unfold FaultList.Well at kept ⊢
    rwa [entries]
  · rw [entries]
    exact lapse.quiet well kind subject quiet

theorem superviseClose_exchange {s : State} (mode : s.control.mode = .warning) :
    (superviseClose s).exchange = { s.exchange with strikes := Nat.min 2 (s.exchange.strikes + 1), supervision := none, warning := none } := by
  rw [superviseClose_eq mode, enterClosing_exchange, (note_frame _ _).2.2.1, endLapse_exchange]

/-- The lapse ends before the close is reported (R74, R78). -/
theorem superviseClose_ends {s : State} (mode : s.control.mode = .warning) (lapse : s.exchange.warning.isSome = true) (well : s.faults.Well) :
    (superviseClose s).faults.Well ∧ notActive (superviseClose s) .supervision none := by
  rw [superviseClose_eq mode]
  have lapsed : notActive (endLapse { s with exchange.strikes := Nat.min 2 (s.exchange.strikes + 1) }) .supervision none := by
    unfold endLapse
    rw [if_pos (by exact lapse)]
    exact reportEnd_notActive _ _ (by exact well)
  have lapseWell := (endLapse_quieter { s with exchange.strikes := Nat.min 2 (s.exchange.strikes + 1) }).well well
  generalize endLapse { s with exchange.strikes := Nat.min 2 (s.exchange.strikes + 1) } = u at *
  have noted := reporting_note (K := fun kind _ => kind = .supervisionClose) (r := supervisionCloseRaise) rfl u
  have quieter := enterClosing_quieter (closeTargetOf (Nat.min 2 (s.exchange.strikes + 1))) .supervisionClose (note supervisionCloseRaise u)
  exact ⟨quieter.well (noted.faults.well lapseWell),
    quieter.quiet (noted.faults.well lapseWell) _ _ (noted.faults.quiet lapseWell _ _ (by decide) lapsed)⟩

/-! #### The conclusion of an event in CLOSING -/

theorem finish_calm {u : State} (calm : noLampOut u = true) : Finished u (finish u) := finish_sound fun g _ => redOut_of_noLampOut calm g

/-- A close that finds the stack of plans empty settles without a report. -/
theorem settle_empty_frame {u : State} (stack : u.preempt.stack = []) :
    (settle roundLimit u).control = u.control ∧ (settle roundLimit u).exchange = u.exchange ∧ (settle roundLimit u).preempt = u.preempt
      ∧ (settle roundLimit u).faults = u.faults ∧ (settle roundLimit u).prover = u.prover := by
  rw [settle_empty stack]
  simp

/-- A close that goes on (R56). -/
theorem conclude_going {u : State} (calm : noLampOut u = true) (stack : u.preempt.stack = []) (going : (settle roundLimit u).closed ≠ true) :
    (conclude u).control = u.control ∧ (conclude u).exchange = u.exchange ∧ (conclude u).preempt = u.preempt ∧ u.faults.Quieter (conclude u).faults := by
  obtain ⟨control, exchange, preempt, faults, prover⟩ := settle_empty_frame stack
  have open' : closeIfDone (settle roundLimit u) = settle roundLimit u := if_neg fun done => going done.2
  have ends := finish_calm (u := settle roundLimit u) ((noLampOut_of_channels (congrArg Prover.channels prover)).trans calm)
  rw [conclude_eq, open']
  exact ⟨ends.control.trans control, ends.exchange.trans exchange, ends.preempt.trans preempt, faults ▸ ends.quieter⟩

/-- A close that is complete (R56). -/
theorem conclude_done {u : State} (closing : u.control.mode = .closing) (stack : u.preempt.stack = []) (done : (settle roundLimit u).closed = true) :
    FlashEnd (completeClose (settle roundLimit u)) (conclude u) := by
  obtain ⟨control, -⟩ := settle_empty_frame stack
  have shut : closeIfDone (settle roundLimit u) = completeClose (settle roundLimit u) := if_pos ⟨by rw [control]; exact closing, done⟩
  rw [conclude_eq, shut]
  exact finish_flashed (flashing_leavePermit _ _ _ _)

/-- What the completion of a close toward a target leaves of an empty stack. -/
theorem conclude_done_frame {u : State} {target : CloseTarget} (closing : u.control.mode = .closing) (toward : u.control.closeTarget = some target)
    (stack : u.preempt.stack = []) (done : (settle roundLimit u).closed = true) :
    (conclude u).control
        = { u.control with
            mode := target.mode, runPermit := false, lastCause := .closeDone, closeTarget := none, closeCause := none, startTimer := none
            firstImage := none, recordOp := target.record.elim u.control.recordOp (fun r => .writing r.1 r.2) }
      ∧ (conclude u).exchange = { u.exchange with expectedChain := none, accepted := none, supervision := none, warning := none }
      ∧ u.faults.Quieter (conclude u).faults := by
  obtain ⟨control, exchange, -, faults, -⟩ := settle_empty_frame stack
  have ends := conclude_done closing stack done
  have target' : (settle roundLimit u).control.closeTarget.getD .flash = target := by rw [control, toward]; rfl
  unfold completeClose at ends
  rw [target'] at ends
  refine ⟨ends.control.trans ?_, ends.exchange.trans ?_, ?_⟩
  · rw [leavePermit_controls, control]
    cases target <;> rfl
  · rw [leavePermit_exchange, exchange]
  · exact (faults ▸ leavePermit_quieter target.mode .closeDone target.record (settle roundLimit u)).trans ends.quieter

/-- A supervision close of the state `s`, as its own effect leaves it. -/
structure Supervised (s u : State) : Prop where
  control : u.control = { s.control with
      mode := .closing, runPermit := true, lastCause := .supervisionClose, closeTarget := some (closeTargetOf (Nat.min 2 (s.exchange.strikes + 1)))
      closeCause := some .supervisionClose, startTimer := none, firstImage := none }
  exchange : u.exchange = { s.exchange with strikes := Nat.min 2 (s.exchange.strikes + 1), supervision := none, warning := none }
  stack : u.preempt.stack = []
  groups : u.engine.groups = s.engine.groups
  active : u.store.active = s.store.active
  dark : noLampOut u = true
  ends : s.faults.Well → u.faults.Well ∧ notActive u .supervision none

theorem supervised_superviseClose {s : State} (mode : s.control.mode = .warning) (window : s.exchange.warning.isSome = true) (calm : noLampOut s = true) :
    Supervised s (superviseClose s) := by
  have made := superviseClose_eq mode
  refine ⟨?_, superviseClose_exchange mode, ?_, ?_, by simp, ?_, superviseClose_ends mode window⟩
  · rw [made, enterClosing_control]
    simp [CloseCause.cause]
  · rw [made]
    exact enterClosing_stack _ _ _
  · rw [made]
    simp
  · exact (noLampOut_of_channels (by rw [made]; simp)).trans calm

theorem Supervised.closing {s u : State} (h : Supervised s u) : u.control.mode = .closing := by rw [h.control]

theorem Supervised.admits {s u : State} (h : Supervised s u) : u.control.mode.admits = false := by rw [h.closing]; rfl

/-- What the event leaves in both cases. -/
theorem Supervised.conclude {s u : State} (h : Supervised s u) :
    (Machine.conclude u).exchange.strikes = Nat.min 2 (s.exchange.strikes + 1) ∧ (Machine.conclude u).exchange.warning = none
      ∧ (Machine.conclude u).exchange.supervision = none ∧ (s.faults.Well → notActive (Machine.conclude u) .supervision none) := by
  by_cases shut : (settle roundLimit u).closed = true
  · obtain ⟨-, exchange, quieter⟩ := conclude_done_frame h.closing (by rw [h.control]) h.stack shut
    rw [exchange, h.exchange]
    exact ⟨rfl, rfl, rfl, fun well => quieter.quiet (h.ends well).1 _ _ (h.ends well).2⟩
  · obtain ⟨-, exchange, -, quieter⟩ := conclude_going h.dark h.stack shut
    rw [exchange, h.exchange]
    exact ⟨rfl, rfl, rfl, fun well => quieter.quiet (h.ends well).1 _ _ (h.ends well).2⟩

/-- A live group short of its clear time keeps the close going. -/
theorem Supervised.goes {s u : State} (h : Supervised s u) {g : Nat} (service : inService s g = true) (clear : s.shown g = .clear)
    (short : (s.group g).time < (s.tables.group g).clearUnits) :
    (Machine.conclude u).control = u.control ∧ (Machine.conclude u).exchange.accepted = s.exchange.accepted ∧ (Machine.conclude u).preempt.stack = [] := by
  have live : s.tables.live g = true := (inService_iff.mp service).2
  have group : u.group g = s.group g := group_congr h.groups g
  have tables : u.tables = s.tables := tables_congr h.active
  obtain ⟨control, exchange, preempt, -⟩ := conclude_going h.dark h.stack
    (settle_not_closed h.admits (tables ▸ live) (by rwa [State.shown, group]) (by rwa [group, tables]) _)
  exact ⟨control, by rw [exchange, h.exchange], by rw [preempt, h.stack]⟩

/-- Where every live group is shown STOP or DARK the close is complete at once. -/
theorem Supervised.done {s u : State} (h : Supervised s u) (closed : s.closed = true) :
    (Machine.conclude u).control.runPermit = false ∧ (Machine.conclude u).control.lastCause = .closeDone ∧ (Machine.conclude u).exchange.accepted = none
      ∧ (Machine.conclude u).control.mode = (closeTargetOf (Nat.min 2 (s.exchange.strikes + 1))).mode
      ∧ (closeTargetOf (Nat.min 2 (s.exchange.strikes + 1)) = .lockout →
        (Machine.conclude u).control.recordOp = .writing .supervisionClose none) := by
  have shut : u.closed = s.closed := closed_congr h.groups h.active
  obtain ⟨control, exchange, -⟩ := conclude_done_frame h.closing (by rw [h.control]) h.stack (settle_closed h.admits (shut.trans closed) _)
  rw [control, exchange]
  exact ⟨rfl, rfl, rfl, rfl, fun target => by rw [target]; rfl⟩

/-- The strike count chooses the close target (R74). -/
theorem closeTargetOf_strike (strikes : Nat) : closeTargetOf (Nat.min 2 (strikes + 1)) = if 1 ≤ strikes then .lockout else .flash := by
  unfold closeTargetOf
  refine ite_congr (propext ?_) (fun _ => rfl) (fun _ => rfl)
  rw [show Nat.min 2 (strikes + 1) = min 2 (strikes + 1) from rfl]
  omega

end Sys2Proof.Machine

namespace Sys2Proof.Proofs

open Sys2Proof Sys2Proof.Machine Sys2Proof.Safety

/-- Settles O48: the window's end begins a close, which its event completes exactly where every live group has come to STOP or DARK. -/
theorem warningWindowClosesAndCounts : Obligations.WarningWindowClosesAndCounts := by
  intro s up calm mode window
  obtain ⟨effect, ran, is⟩ : ∃ effect, exec .warningWindowExpiry s = .next (asEvent effect id s) ∧ effect (openEvent s) = superviseClose (openEvent s) :=
    ⟨_, eventOutcome_up up, if_pos ⟨mode, window⟩⟩
  have supervised := supervised_superviseClose (s := openEvent s) mode (Option.isSome_iff_exists.mpr ⟨0, window⟩) calm
  have same : asEvent effect id s = closeEvent (conclude (effect (openEvent s))) := by simp only [asEvent, id]
  refine ⟨_, ran, ?_⟩
  rw [same, is]
  generalize superviseClose (openEvent s) = u at supervised
  have active : (conclude u).store.active = s.store.active := (by simp : _ = u.store.active).trans supervised.active
  have target : closeTargetOf (Nat.min 2 ((openEvent s).exchange.strikes + 1)) = if 1 ≤ s.exchange.strikes then .lockout else .flash :=
    closeTargetOf_strike s.exchange.strikes
  obtain ⟨strikes, warning, supervision, ended⟩ := supervised.conclude
  have going := fun g (service : inService s g = true) (clear : s.shown g = .clear) (short : (s.group g).time < (s.tables.group g).clearUnits) =>
    supervised.goes (g := g) service clear short
  have done := fun closed : s.closed = true => supervised.done closed
  rw [target] at done
  rw [supervised.control, target] at going
  generalize conclude u = t at *
  refine ⟨strikes, warning, supervision, active, fun law => ended (faultLaw_iff.mp law), ?_, fun closed => ?_⟩
  · rintro ⟨g, service, clear, short⟩
    obtain ⟨control, accepted, stack⟩ := going g service clear short
    show t.control.mode = _ ∧ t.control.runPermit = _ ∧ t.control.lastCause = _ ∧ t.control.closeCause = _ ∧ t.control.closeTarget = _ ∧ _
    rw [control]
    exact ⟨rfl, rfl, rfl, rfl, rfl, accepted, stack⟩
  · obtain ⟨permit, cause, accepted, mode', record⟩ := done closed
    refine ⟨permit, cause, accepted, fun struck => ?_, fun free => ?_⟩
    · rw [if_pos struck] at mode' record
      exact ⟨mode', record rfl⟩
    · rw [if_neg (by omega)] at mode'
      exact mode'

end Sys2Proof.Proofs

/-! ### Liveness records through the conclusion of an event, and the transfers that a station brings about (R117, R118) -/

namespace Sys2Proof.Machine

open Sys2Proof.Safety

/-! #### The liveness record of a station -/

theorem liveness_markIfDue (br : BranchId) (s : State) : ((markIfDue s).branch br).liveness = (s.branch br).liveness := by
  have marks : ∀ (x : BranchId) (t : State), ((markBranch x t).branch br).liveness = (t.branch br).liveness := fun x t => by
    rcases branch_changeBranch x br _ t with h | h
    · exact (congrArg Branch.liveness h :)
    · exact (congrArg Branch.liveness h :)
  unfold markIfDue
  split
  · exact eachOf_keeps (fun t => (t.branch br).liveness) markBranch (fun x t => marks x t) branchIds s
  · rfl

theorem conclude_record {br : BranchId} {station : Nat} {l : Liveness} {s : State} (found : (s.branch br).record station = some l) :
    ∃ due, ((conclude s).branch br).record station = some { l with repollDue := due } := by
  have before : (numberImage (evaluateShown (noticeGo (closeIfDone (settle roundLimit s))))).branches = s.branches := by simp
  have marked := liveness_markIfDue br (numberImage (evaluateShown (noticeGo (closeIfDone (settle roundLimit s)))))
  have here : (conclude s).branch br
      = ((markIfDue (numberImage (evaluateShown (noticeGo (closeIfDone (settle roundLimit s)))))).branch br).arbitrate := by
    rw [← arbitrateAll_branch]
    simp only [conclude, State.branch, handReports_frame]
  rw [here]
  refine record_arbitrate ?_
  unfold Branch.record at found ⊢
  rw [marked, branch_congr before]
  exact found

theorem asEvent_record {effect : State → State} {s : State} {br : BranchId} {station : Nat} {l : Liveness}
    (found : ((effect (openEvent s)).branch br).record station = some l) :
    ∃ due, ((asEvent effect id s).branch br).record station = some { l with repollDue := due } := by
  rw [asEvent_branch id_onlyLink]
  exact conclude_record found

/-! #### The end of a wait for an answer to a poll -/

/-- What POLL_ANSWER_TIMEOUT does when it is due. -/
def pollEffect (br : BranchId) (station : Nat) (s : State) : State := pollMissed br station (endWait br s)

theorem exec_pollAnswerTimeout {br : BranchId} {station : Nat} {deadline : Time} {s : State} (up : s.up = true)
    (awaited : (s.branch br).awaited = some { station := station, tag := none, deadline := deadline }) (due : reached deadline s.clock.now = true) :
    ∃ effect, exec (.pollAnswerTimeout br) s = .next (asEvent effect id s) ∧ effect (openEvent s) = pollEffect br station (openEvent s) := by
  refine ⟨_, eventOutcome_up up, ?_⟩
  have over' : (openEvent s).waitOver br false = some { station := station, tag := none, deadline := deadline } := by
    show ((s.branch br).awaited.filter _) = _
    rw [awaited]
    simp [Option.filter, due]
  simp only [over']
  rfl

theorem endWait_branch {br : BranchId} {s : State} (four : s.branches.length = 4) :
    (endWait br s).branches.length = 4 ∧ (endWait br s).branch br = { s.branch br with awaited := none } :=
  ⟨(length_changeEntry _ _ _).trans four, branch_changeBranch_same four br _⟩

theorem endWait_record {br : BranchId} {station : Nat} {s : State} (four : s.branches.length = 4) :
    ((endWait br s).branch br).record station = (s.branch br).record station := by rw [(endWait_branch four).2]; rfl

/-- The outcome of a poll timeout against the record of its station (R117). -/
theorem pollEffect_eq {br : BranchId} {station : Nat} {s : State} {l : Liveness} (four : s.branches.length = 4)
    (found : (s.branch br).record station = some l) :
    pollEffect br station s
      = if l.present = false then changeLiveness br station (fun x => { x with repoll := some repollUnits }) (endWait br s)
        else if 3 ≤ l.timeouts + 1 then becomeAbsent br station (endWait br s)
        else changeLiveness br station (fun x => { x with timeouts := l.timeouts + 1 }) (endWait br s) := by
  unfold pollEffect pollMissed
  rw [endWait_record four, found]

/-- The record of a station after a poll timeout that reports nothing. -/
theorem pollEffect_record {br : BranchId} {station : Nat} {f : Liveness → Liveness} {s : State} {l : Liveness} (four : s.branches.length = 4)
    (same : ∀ y, (f y).station = y.station) (found : (s.branch br).record station = some l) :
    ((changeLiveness br station f (endWait br s)).branch br).record station = some (f l)
      ∧ ((changeLiveness br station f (endWait br s)).branch br).awaited = none := by
  obtain ⟨four', branch⟩ := endWait_branch (br := br) four
  refine ⟨record_changeLiveness four' same (by rw [endWait_record four]; exact found), ?_⟩
  rw [awaited_changeLiveness four', branch]

/-- What a station's absence does to its record (R117). -/
def Liveness.lost (l : Liveness) : Liveness := { l with present := false, timeouts := 3, repoll := some repollUnits, lagCount := 0 }

/-- The branches with the wait ended and the station ABSENT. -/
def lostOn (br : BranchId) (station : Nat) (s : State) : State := changeLiveness br station Liveness.lost (endWait br s)

theorem becomeAbsent_eq (br : BranchId) (station : Nat) (s : State) :
    becomeAbsent br station (endWait br s)
      = if s.tables.roleOn br station = some .detector then
          stationLost station (raise (absentRaise (s.tables.roleOn br station) s.control.mode station) (lostOn br station s))
        else raise (absentRaise (s.tables.roleOn br station) s.control.mode station) (lostOn br station s) := rfl

theorem lostOn_record {br : BranchId} {station : Nat} {s : State} {l : Liveness} (four : s.branches.length = 4)
    (found : (s.branch br).record station = some l) :
    ((lostOn br station s).branch br).record station = some l.lost ∧ ((lostOn br station s).branch br).awaited = none :=
  pollEffect_record four (by exact fun _ => rfl) found

/-! #### Transfers from RUNNING -/

/-- A report with the action FLASH leaves RUNNING for FLASH (R58). -/
theorem raise_flash_running {r : Raise} (action : r.action = .flash) {s : State} (mode : s.control.mode = .running) :
    raise r s = leavePermit .flash .faultFlash none (note r s) := by
  have same : (note r s).control.mode = .running := by simpa using mode
  unfold raise takeAction
  rw [action, same]

/-- What an event leaves in which a station's fault has taken RUNNING to FLASH. -/
theorem stationFault_event {effect : State → State} {s v : State} {r : Raise} (mode : s.control.mode = .running) (action : r.action = .flash)
    (condition : r.condition = true) (other : OfOthers r.kind) (is : effect (openEvent s) = raise r v)
    (same : v = { openEvent s with branches := v.branches }) {br : BranchId} {station : Nat} {l : Liveness} (found : (v.branch br).record station = some l) :
    transferred s (asEvent effect id s) .flash .faultFlash ∧ provingStopped s (asEvent effect id s)
      ∧ (∃ due, ((asEvent effect id s).branch br).record station = some { l with repollDue := due })
      ∧ (faultLaw s = true → s.faults.entries.length < 32 → listed (asEvent effect id s) r.kind r.subject true .flash)
      ∧ (faultLaw s = true → ∀ c, 1 ≤ c → c ≤ s.prover.channels.length → (s.tables.output c).latch ≠ 1 →
        ((s.proving c).lampOut = true → notActive (asEvent effect id s) .lampOut (some c))
          ∧ ((s.proving c).foreign = true → notActive (asEvent effect id s) .foreignCurrent (some c))) := by
  have left := is.trans (raise_flash_running action (by rw [same]; exact mode))
  have ends := leavePermit_event (answer := id) id_onlyLink rfl left
  have intended := intended_asEvent (answer := id) id_onlyLink effect s
  have record := asEvent_record (effect := effect) (s := s) (br := br) (station := station) (l := l)
    (by rw [left]; exact (congrArg (fun b : Branch => b.record station) (branch_congr (s := v) (by simp) br)).trans found)
  have reported := reporting_note (K := fun kind _ => kind = r.kind) (r := r) rfl v
  generalize asEvent effect id s = t at *
  have prover : (note r v).prover = s.prover := (note_frame r v).2.2.2.2.2.2.2.1.trans (congrArg State.prover same :)
  have store : (note r v).store.active = s.store.active := by rw [(note_frame r v).2.2.2.2.2.2.2.2.2, same]; rfl
  have proving : ∀ c, (note r v).proving c = s.proving c := fun c => by unfold State.proving; rw [prover]
  have faults : v.faults = s.faults := (congrArg State.faults same :)
  refine ⟨ends.transferred rfl intended ?_ store ?_ ?_, ends.provingStopped proving (by rw [prover]) store, record, fun law room => ?_,
    fun law c first last unlatched => ?_⟩
  · rw [(note_frame r v).2.2.2.2.1, same]; rfl
  · rw [(note_frame r v).2.2.2.2.2.1, same]; rfl
  · rw [(note_frame r v).2.2.1, same]; rfl
  · obtain ⟨e, member, kind, subject, -, asks, -, active, -⟩ := note_lists (r := r) (s := v) (by rw [faults]; exact room)
    exact ends.listed (reported.faults.well (by rw [faults]; exact faultLaw_iff.mp law)) other
      ⟨e, member, kind, subject, active condition, asks.trans action⟩
  · have well := reported.faults.well (by rw [faults]; exact faultLaw_iff.mp law)
    have stops := leavePermit_ends (new := .flash) (cause := .faultFlash) (record := none) (s := note r v) first (by rw [prover]; exact last) well
      (by rw [tables_congr store]; simpa [ChannelRec.latched] using unlatched)
    rw [proving c] at stops
    have kept := (leavePermit_keeps .flash .faultFlash none (note r v)).well well
    exact ⟨fun out => ends.notActive kept (stops.1 out), fun foreign => ends.notActive kept (stops.2 foreign)⟩

end Sys2Proof.Machine

/-! ### Poll timeouts that count, re-polls, and lag in RUNNING (R117, R118) -/

namespace Sys2Proof.Machine

open Sys2Proof.Safety

/-! #### At rest -/

/-- A timeout at rest that only counts. -/
theorem rest_pollEffect {br : BranchId} {station : Nat} {f : Liveness → Liveness} {effect : State → State} {s : State} (rest : resting s = true)
    (is : effect (openEvent s) = changeLiveness br station f (endWait br (openEvent s))) :
    restFrame { s with branches := (changeLiveness br station f (endWait br s)).branches } (asEvent effect id s)
      ∧ (asEvent effect id s).link = s.link := by
  obtain ⟨-, flash, law⟩ := resting_iff.mp rest
  exact rest_unanswered (worst := .none) (v := { s with branches := (changeLiveness br station f (endWait br s)).branches }) is flash law

/-- A poll that counts (R117). -/
theorem pollCounted_event {br : BranchId} {station : Nat} {deadline : Time} {s : State} {l : Liveness} (four : s.branches.length = 4)
    (found : (s.branch br).record station = some l) (rest : resting s = true)
    (awaited : (s.branch br).awaited = some { station := station, tag := none, deadline := deadline }) (due : reached deadline s.clock.now = true)
    (present : l.present = true) (few : l.timeouts < 2) :
    ∃ t l', exec (.pollAnswerTimeout br) s = .next t ∧ (t.branch br).awaited = none
      ∧ (t.branch br).record station = some l' ∧ l'.timeouts = l.timeouts + 1 ∧ l'.present = true
      ∧ t.control = s.control ∧ t.exchange = s.exchange ∧ t.store = s.store ∧ t.prover = s.prover
      ∧ t.detectors = s.detectors ∧ t.faults = s.faults ∧ t.link = s.link ∧ t.preempt = s.preempt := by
  obtain ⟨effect, ran, is⟩ := exec_pollAnswerTimeout (resting_iff.mp rest).1 awaited due
  rw [pollEffect_eq (s := openEvent s) four found, if_neg (by simp [present]), if_neg (by omega)] at is
  obtain ⟨frame, link⟩ := rest_pollEffect rest is
  obtain ⟨record, waits⟩ := pollEffect_record (s := s) (f := fun x => { x with timeouts := l.timeouts + 1 }) four (by exact fun _ => rfl) found
  obtain ⟨-, -, -, exchange, preempt, control, prover, detectors, faults, store, branches, -⟩ := frame
  have branch : (asEvent effect id s).branch br
      = ((changeLiveness br station (fun x => { x with timeouts := l.timeouts + 1 }) (endWait br s)).branch br).arbitrate := by
    rw [← arbitrateAll_branch]
    exact branch_congr branches br
  obtain ⟨repollDue, record⟩ := record_arbitrate record
  refine ⟨_, { l with timeouts := l.timeouts + 1, repollDue := repollDue }, ran, ?_, ?_, rfl, present, control, exchange, store, prover, detectors,
    faults, link, preempt⟩
  · rw [branch, arbitrate_awaited, waits]
  · rw [branch, record]

/-- A re-poll that is not answered (R117). -/
theorem repollMissed_event {br : BranchId} {station : Nat} {deadline : Time} {s : State} {l : Liveness} (four : s.branches.length = 4)
    (found : (s.branch br).record station = some l)
    (awaited : (s.branch br).awaited = some { station := station, tag := none, deadline := deadline }) (due : reached deadline s.clock.now = true)
    (absent : l.present = false) :
    (resting s = true →
      ∃ t, exec (.pollAnswerTimeout br) s = .next t ∧ t.link = s.link
        ∧ restFrame
          { s with
            branches :=
              changeEntry s.branches (placeOf br)
                (fun b =>
                  { b with
                    awaited := none
                    liveness := b.liveness.map (fun x => if x.station = station then { x with repoll := some 100 } else x) }) }
          t)
      ∧ (runningCalm s = true →
        ∃ t l', exec (.pollAnswerTimeout br) s = .next t ∧ calmFrame s t ∧ (t.branch br).record station = some l'
          ∧ l'.present = false ∧ l'.timeouts = l.timeouts ∧ l'.repoll = some 100
          ∧ ((∀ g, s.redFail g = false) → s.preempt.stack.length ≤ 4 → t.faults = s.faults)) := by
  have outcome : ∀ up : s.up = true, ∃ effect, exec (.pollAnswerTimeout br) s = .next (asEvent effect id s)
      ∧ effect (openEvent s) = changeLiveness br station (fun x => { x with repoll := some repollUnits }) (endWait br (openEvent s)) := fun up => by
    obtain ⟨effect, ran, is⟩ := exec_pollAnswerTimeout up awaited due
    rw [pollEffect_eq (s := openEvent s) four found, if_pos absent] at is
    exact ⟨effect, ran, is⟩
  refine ⟨fun rest => ?_, fun running => ?_⟩
  · obtain ⟨effect, ran, is⟩ := outcome (resting_iff.mp rest).1
    obtain ⟨frame, link⟩ := rest_pollEffect rest is
    have same : (changeLiveness br station (fun x => { x with repoll := some repollUnits }) (endWait br s)).branches
        = changeEntry s.branches (placeOf br) (fun b =>
          { b with
            awaited := none
            liveness := b.liveness.map (fun x => if x.station = station then { x with repoll := some 100 } else x) }) :=
      changeEntry_changeEntry s.branches (placeOf br) _ _
    rw [same] at frame
    exact ⟨_, ran, link, frame⟩
  · simp only [runningCalm, Bool.and_eq_true, decide_eq_true_eq] at running
    obtain ⟨⟨up, mode⟩, calm⟩ := running
    obtain ⟨effect, ran, is⟩ := outcome up
    have ends := calm_event (s := s) (effect := effect) (answer := id) id_onlyLink (by rw [is]; exact calm)
      (by rw [is]; show s.control.mode ≠ .closing; rw [mode]; decide)
    obtain ⟨record, -⟩ := pollEffect_record (s := openEvent s) (f := fun x => { x with repoll := some repollUnits }) four (by exact fun _ => rfl) found
    rw [← is] at record
    obtain ⟨repollDue, record⟩ := asEvent_record record
    rw [is] at ends
    exact ⟨_, _, ran, ends.frame, record, absent, rfl, rfl, ends.faults⟩

/-! #### The re-poll timer -/

/-- What REPOLL_TIMER_EXPIRY does to a branch (R117). -/
def Branch.repollsDue (station : Nat) (b : Branch) : Branch :=
  { b with liveness := b.liveness.map (fun l => if l.repollOver station then { l with repoll := none, repollDue := true } else l) }

theorem branch_eachBranch {br : BranchId} {f : Branch → Branch} {s : State} (four : s.branches.length = 4) :
    (eachOf branchIds (fun x => changeBranch x f) s).branch br = f (s.branch br) := by
  refine (eachOf_once (x := br) (good := fun t => t.branches.length = 4 ∧ t.branch br = s.branch br)
    (done := fun t => t.branch br = f (s.branch br)) (fun y t other ⟨length, same⟩ => ?_) (fun t ⟨length, same⟩ => ?_)
    (fun y t other same => ?_) (mem_branchIds br) (by decide) ⟨four, rfl⟩ :)
  · exact ⟨(length_changeEntry _ _ _).trans length, (branch_changeBranch_other (Ne.symm other) f t).trans same⟩
  · rw [branch_changeBranch_same length, same]
  · exact (branch_changeBranch_other (Ne.symm other) f t).trans same

theorem busy_arbitrate {b : Branch} (busy : b.sending.isSome = true) : b.arbitrate = b := by
  unfold Branch.arbitrate
  rw [if_neg]
  simp [Branch.free, Option.isSome_iff_ne_none.mp busy]

/-- The re-poll of a station becomes due while its branch is busy (R117). -/
theorem repollDue_event {br : BranchId} {station : Nat} {s : State} {l : Liveness} (four : s.branches.length = 4)
    (found : (s.branch br).record station = some l) (rest : resting s = true) (over' : l.repoll = some 0) (busy : (s.branch br).sending.isSome = true) :
    ∃ t l', exec (.repollTimerExpiry station) s = .next t ∧ t.link = s.link
      ∧ restFrame { s with branches := t.branches } { t with branches := t.branches.map Branch.arbitrate }
      ∧ (t.branch br).record station = some l' ∧ l' = { l with repoll := none, repollDue := true } := by
  obtain ⟨up, flash, law⟩ := resting_iff.mp rest
  obtain ⟨effect, ran, is⟩ : ∃ effect, exec (.repollTimerExpiry station) s = .next (asEvent effect id s)
      ∧ effect (openEvent s) = eachOf branchIds (fun x => changeBranch x (Branch.repollsDue station)) (openEvent s) := ⟨_, eventOutcome_up up, rfl⟩
  obtain ⟨frame, link⟩ := rest_unanswered (worst := .none)
    (v := { s with branches := (eachOf branchIds (fun x => changeBranch x (Branch.repollsDue station)) s).branches }) is flash law
  generalize asEvent effect id s = t at *
  obtain ⟨pending, clock, event, exchange, preempt, control, prover, detectors, faults, store, branches, number, groups⟩ := frame
  refine ⟨t, _, ran, link, ⟨pending, clock, event, exchange, preempt, control, prover, detectors, faults, store, rfl, number, groups⟩, ?_, rfl⟩
  have branch : t.branch br = ((eachOf branchIds (fun x => changeBranch x (Branch.repollsDue station)) s).branch br).arbitrate := by
    rw [← arbitrateAll_branch]
    exact branch_congr branches br
  have station' : l.station = station := by simpa using List.find?_some found
  rw [branch, branch_eachBranch four, busy_arbitrate (by exact busy)]
  refine (record_map (fun y => ?_) found).trans ?_
  · split <;> rfl
  · simp [Liveness.repollOver, station', over']

/-! #### In RUNNING -/

/-- The third missed poll of an OUTPUT station in RUNNING (R117). -/
theorem outputLost_event {br : BranchId} {station : Nat} {deadline : Time} {s : State} {l : Liveness} (four : s.branches.length = 4)
    (found : (s.branch br).record station = some l) (up : s.up = true) (mode : s.control.mode = .running)
    (awaited : (s.branch br).awaited = some { station := station, tag := none, deadline := deadline }) (due : reached deadline s.clock.now = true)
    (present : l.present = true) (third : l.timeouts = 2) (role : s.tables.roleOn br station = some .output) :
    ∃ t l', exec (.pollAnswerTimeout br) s = .next t ∧ transferred s t .flash .faultFlash ∧ provingStopped s t
      ∧ (t.branch br).record station = some l' ∧ l'.present = false
      ∧ l'.timeouts = 3 ∧ l'.repoll = some 100
      ∧ (faultLaw s = true → s.faults.entries.length < 32 → listed t .stationAbsent (some station) true .flash)
      ∧ (faultLaw s = true → ∀ c, 1 ≤ c → c ≤ s.prover.channels.length → (s.tables.output c).latch ≠ 1 →
        ((s.proving c).lampOut = true → notActive t .lampOut (some c))
          ∧ ((s.proving c).foreign = true → notActive t .foreignCurrent (some c))) := by
  obtain ⟨effect, ran, is⟩ := exec_pollAnswerTimeout up awaited due
  rw [pollEffect_eq (s := openEvent s) four found, if_neg (by simp [present]), if_pos (by omega), becomeAbsent_eq,
    show (openEvent s).tables = s.tables from rfl, role, if_neg (by decide)] at is
  have action : (absentRaise (some .output) (openEvent s).control.mode station).action = .flash := by
    unfold absentRaise
    rw [show (openEvent s).control.mode = .running from mode]
    rfl
  obtain ⟨record, -⟩ := lostOn_record (s := openEvent s) four found
  obtain ⟨moved, stopped, ⟨repollDue, record⟩, lists, ends⟩ :=
    stationFault_event mode action rfl ⟨nofun, nofun, nofun, nofun⟩ is rfl record
  exact ⟨_, _, ran, moved, stopped, record, rfl, rfl, rfl, lists, ends⟩

theorem lstKept_present {br : BranchId} {station : Nat} {applied : Option Byte} {s : State} {l : Liveness}
    (found : (s.branch br).record station = some l) (present : l.present = true) :
    lstKept br station applied s = { s with branches := (lstKept br station applied s).branches } := by
  unfold lstKept pollAnswered
  rw [absent_of_record found, present]
  rfl

/-- The third lamp report that does not name the last apply, in RUNNING (R118). -/
theorem lagging_event {br : BranchId} {station : Nat} {s : State} {l : Liveness} (four : s.branches.length = 4)
    (found : (s.branch br).record station = some l) {image : Byte} {sent : Time} {applied : Option Byte} {currents : List Half} (up : s.up = true)
    (mode : s.control.mode = .running) (answers : s.answersPoll br station .output = true) (present : l.present = true) (second : l.lagCount = 2)
    (unlagged : l.lagging = false) (last : (s.branch br).lastApply = some (image, sent)) (settled : s.settled br = true) (other : applied ≠ some image) :
    ∃ t l', exec (.lstReceived br station applied currents) s = .next t
      ∧ transferred s t .flash .faultFlash ∧ provingStopped s t
      ∧ (t.branch br).record station = some l' ∧ l'.lagCount = 3 ∧ l'.lagging = true ∧ l'.lastApplied = applied
      ∧ (faultLaw s = true → s.faults.entries.length < 32 → listed t .stationLag (some station) true .flash) := by
  have ran := exec_lstReceived (currents := currents) (applied := applied) up answers
  have only := lstKept_present (applied := applied) (s := openEvent s) found present
  obtain ⟨length, -, record, lastApply⟩ := lstKept_eq (s := openEvent s) four found applied
  have kept : lstEffect br station applied currents (openEvent s)
      = countLag br station applied (proveReport br station applied currents (lstKept br station applied (openEvent s))) := rfl
  have last' : ((lstKept br station applied (openEvent s)).branch br).lastApply = some (image, sent) := lastApply.trans last
  have settled' : (lstKept br station applied (openEvent s)).settled br = true := by
    unfold State.settled at settled ⊢
    rw [last] at settled
    rw [last', only]
    exact settled
  have unused : proveReport br station applied currents (lstKept br station applied (openEvent s)) = lstKept br station applied (openEvent s) := by
    unfold proveReport
    refine if_neg fun usable => ?_
    unfold State.usable at usable
    rw [last'] at usable
    cases applied with
    | none => simp at usable
    | some n =>
      simp only [Bool.and_eq_true, decide_eq_true_eq] at usable
      exact other (congrArg some usable.2)
  rw [unused, countLag_missed settled' last' record other] at kept
  have station' : l.station = station := by simpa using List.find?_some found
  have lagged : lagMissed br { l.answered with lastApplied := applied } (lstKept br station applied (openEvent s))
      = raise (lagRaise station) (changeLiveness br station (fun x => { x with lagCount := Nat.min 3 (l.lagCount + 1), lagging := true })
        (lstKept br station applied (openEvent s))) := by
    have place : ({ l.answered with lastApplied := applied } : Liveness).station = station := station'
    unfold lagMissed
    dsimp only
    rw [place, if_pos]
    · rfl
    · exact ⟨by show Nat.min 3 (l.lagCount + 1) = 3; rw [second]; rfl, unlagged⟩
  rw [lagged] at kept
  have counted := record_changeLiveness (f := fun x => { x with lagCount := Nat.min 3 (l.lagCount + 1), lagging := true }) length
    (by exact fun _ => rfl) record
  have same : changeLiveness br station (fun x => { x with lagCount := Nat.min 3 (l.lagCount + 1), lagging := true })
      (lstKept br station applied (openEvent s))
      = { openEvent s with branches := (changeLiveness br station (fun x => { x with lagCount := Nat.min 3 (l.lagCount + 1), lagging := true })
        (lstKept br station applied (openEvent s))).branches } := by
    conv_lhs => rw [only]
    rfl
  obtain ⟨moved, stopped, ⟨repollDue, record'⟩, lists, -⟩ :=
    stationFault_event mode (r := lagRaise station) rfl rfl ⟨nofun, nofun, nofun, nofun⟩ kept same counted
  exact ⟨_, _, ran, moved, stopped, record', by show Nat.min 3 (l.lagCount + 1) = 3; rw [second]; rfl, rfl, rfl, lists⟩

end Sys2Proof.Machine

/-! ### A plan whose source has gone inactive, through the steps of the preemption unit (R89, R94 to R102) -/

namespace Sys2Proof.Machine

open Sys2Proof.Safety

/-- The source of plan `p` is inactive, where `off` says so, and then its request is not PENDING, if it is a LEVEL plan; nor is it so while the plan is
stacked. -/
structure Damped (p : Nat) (off level : Bool) (s : State) : Prop where
  inside : p ≤ s.preempt.plans.length
  active : off = true → (s.plan p).active = false
  pending : level = true → s.stacked p = true ∨ off = true → (s.plan p).pending = false

variable {p : Nat} {off level : Bool}

theorem Damped.congr {s t : State} (h : Damped p off level s) (plans : t.preempt.plans = s.preempt.plans) (stack : t.preempt.stack = s.preempt.stack) :
    Damped p off level t := by
  have plan : t.plan p = s.plan p := by unfold State.plan; rw [plans]
  have stacked : t.stacked p = s.stacked p := by unfold State.stacked; rw [stack]
  exact ⟨by rw [plans]; exact h.inside, fun is => by rw [plan]; exact h.active is, fun is held => by rw [plan]; exact h.pending is (by rwa [stacked] at held)⟩

/-- A change of one plan that sets no source of `p` and makes it not PENDING where it may not be. -/
theorem Damped.changePlan {s : State} (h : Damped p off level s) {q : Nat} {f : PlanState → PlanState}
    (active : q = p → off = true → (f (s.plan p)).active = false)
    (pending : q = p → level = true → s.stacked p = true ∨ off = true → (f (s.plan p)).pending = false) : Damped p off level (changePlan q f s) := by
  have inside : p ≤ (Machine.changePlan q f s).preempt.plans.length := by rw [length_changePlan]; exact h.inside
  rcases entryD_changeEntry s.preempt.plans q p f PlanState.reset with same | ⟨is, changed⟩
  · exact ⟨inside, fun is => (congrArg PlanState.active same).trans (h.active is), fun is held => (congrArg PlanState.pending same).trans (h.pending is held)⟩
  · exact ⟨inside, fun off => (congrArg PlanState.active changed).trans (active is.symm off),
      fun level held => (congrArg PlanState.pending changed).trans (pending is.symm level held)⟩

theorem Damped.refreshRequest {s : State} (h : Damped p off level s) (q : Nat) : Damped p off level (refreshRequest q s) := by
  unfold Machine.refreshRequest
  dsimp only
  split
  · next may =>
    refine h.changePlan (fun _ off => h.active off) (fun is _ held => ?_)
    subst is
    have free : s.stacked q = false := by simp only [Bool.and_eq_true, Bool.not_eq_true'] at may; exact may.2
    rcases held with stacked | off
    · rw [free] at stacked; cases stacked
    · simp [h.active off]
  · exact h

theorem Damped.inactive {s : State} (h : Damped p off level s) (q : Nat) : Damped p off level (setSource false q s) :=
  (h.changePlan (q := q) (f := fun x => { x with active := false, spent := x.spent && false }) (fun _ _ => rfl)
    (fun _ level held => h.pending level held)).refreshRequest q

theorem Damped.active_other {s : State} (h : Damped p off level s) {q : Nat} (other : q ≠ p) (edge : Bool) : Damped p off level (sourceActive edge q s) := by
  have set : Damped p off level (setSource true q s) :=
    (h.changePlan (q := q) (f := fun x => { x with active := true, spent := x.spent && true }) (fun is => absurd is other)
      (fun is => absurd is other)).refreshRequest q
  unfold sourceActive
  dsimp only
  split
  · exact set.changePlan (fun is => absurd is other) (fun is => absurd is other)
  · exact set

theorem Damped.emptySlot {s : State} (h : Damped p off level s) : Damped p off level (emptySlot s) := by
  unfold Machine.emptySlot
  split
  · next slot _ => exact Damped.inactive (h.congr (t := { s with preempt.slot := none }) rfl rfl) slot.plan
  · exact h

/-- A plan that leaves the stack, or another that does, leaves the plan as it was. -/
theorem Damped.unstack {s : State} (h : Damped p off level s) (q : Nat) (outcome : PlanOutcome) : Damped p off level (unstack q outcome s) := by
  have removed : Damped p off level { s with preempt.stack := s.preempt.stack.filter (fun x => decide (x.plan ≠ q)) } := by
    refine ⟨h.inside, h.active, fun is held => h.pending is (held.imp_left fun stacked => ?_)⟩
    obtain ⟨x, member, plan⟩ := List.any_eq_true.mp stacked
    exact List.any_eq_true.mpr ⟨x, (List.mem_filter.mp member).1, plan⟩
  have marked := removed.changePlan (q := q) (f := fun x => { x with outcome := outcome }) (fun _ off => removed.active off)
    (fun _ level held => removed.pending level held)
  unfold Machine.unstack
  dsimp only
  split
  · exact marked.emptySlot.refreshRequest q
  · exact marked.refreshRequest q

theorem Damped.reportLimit {s : State} (h : Damped p off level s) (q : Nat) : Damped p off level (reportLimit q s) := by
  have flagged : Damped p off level { s with preempt.nestingLimit := true } := h.congr rfl rfl
  unfold Machine.reportLimit
  dsimp only
  split
  · exact flagged
  · exact (flagged.changePlan (q := q) (f := fun x => { x with limitReported := true }) (fun _ off => flagged.active off)
      (fun _ level held => flagged.pending level held)).congr (by simp) (by simp)

/-- A plan that is taken was PENDING, and is so no more. -/
theorem Damped.takePlan {s : State} (h : Damped p off level s) (q : Nat) (pending : (s.plan q).pending = true) : Damped p off level (takePlan q s) := by
  unfold Machine.takePlan
  dsimp only
  have others : ∀ x : Stacked, x.plan = q → q ≠ p → Damped p off level { s with preempt.stack := x :: s.preempt.stack } := fun x is other =>
    ⟨h.inside, h.active, fun level held => h.pending level (held.imp_left fun stacked => by
      have apart : x.plan ≠ p := is ▸ other
      unfold State.stacked at stacked ⊢
      rw [List.any_cons, decide_eq_false apart, Bool.false_or] at stacked
      exact stacked)⟩
  by_cases here : q = p
  · subst here
    have inside : ∃ y, entry? s.preempt.plans q = some y := by
      unfold State.plan entryD at pending
      cases found : entry? s.preempt.plans q with
      | some y => exact ⟨y, rfl⟩
      | none => rw [found] at pending; cases pending
    obtain ⟨y, found⟩ := inside
    have changed : ∀ f : PlanState → PlanState, entryD (changeEntry s.preempt.plans q f) q PlanState.reset = f (s.plan q) := fun f => by
      simp [State.plan, entryD, entry?_changeEntry, found]
    exact ⟨by rw [length_changePlan]; exact h.inside, fun off => (congrArg PlanState.active (changed _)).trans (h.active off), fun _ _ => congrArg PlanState.pending (changed _)⟩
  · exact (others _ (by rfl) here).changePlan (fun is => absurd is here) (fun is => absurd is here)

theorem Damped.consider {s : State} (h : Damped p off level s) : Damped p off level (consider s) := by
  unfold Machine.consider
  dsimp only
  split
  · split
    · split
      · next q rest wanting =>
        have wants : q ∈ planNumbers.filter s.wantsTaking := wanting ▸ List.mem_cons_self ..
        have pending := (List.mem_filter.mp wants).2
        unfold State.wantsTaking at pending
        simp only [Bool.and_eq_true] at pending
        exact h.takePlan q pending.1.1.1
      · exact h
    · exact eachOf_holds (Damped p off level) Machine.reportLimit (fun q t ht => ht.reportLimit q) _ s h
  · exact h

theorem Damped.topStep {s t : State} (h : Damped p off level s) (step : topStep s = some t) : Damped p off level t := by
  have top : ∀ f : Stacked → Stacked, (∀ x, (f x).plan = x.plan) → Damped p off level (changeTop f s) := fun f same => by
    refine ⟨?_, fun is => ?_, fun is held => ?_⟩
    · unfold changeTop
      split <;> exact h.inside
    · rw [show (changeTop f s).plan p = s.plan p by unfold State.plan changeTop; split <;> rfl]
      exact h.active is
    · rw [show (changeTop f s).plan p = s.plan p by unfold State.plan changeTop; split <;> rfl]
      refine h.pending is (held.imp_left fun stacked => ?_)
      unfold changeTop State.stacked at stacked
      unfold State.stacked
      split at stacked
      · next x rest was => rw [was]; simpa [same] using stacked
      · exact stacked
  unfold Machine.topStep at step
  dsimp only at step
  repeat' split at step
  all_goals cases step
  · exact (h.unstack _ _).consider
  · exact top _ (by exact fun _ => rfl)
  · exact top _ (by exact fun _ => rfl)
  · exact top _ (by exact fun _ => rfl)
  · exact (h.unstack _ _).consider
  · exact (h.unstack _ _).consider

theorem Damped.advance {s : State} (h : Damped p off level s) (steps : Nat) : Damped p off level (advance steps s) := by
  induction steps generalizing s with
  | zero => exact h
  | succ n ih =>
    unfold Machine.advance
    split
    · next t step => exact ih (h.topStep step)
    · exact h

theorem Damped.considerTaking {s : State} (h : Damped p off level s) : Damped p off level (considerTaking s) := by
  unfold Machine.considerTaking
  dsimp only
  split
  · exact h.consider
  · exact h.consider.advance _

theorem Damped.sourcesActive {s : State} (h : Damped p off level s) (edge : Bool) {plans : List Nat} (other : p ∉ plans) :
    Damped p off level (sourcesActive edge plans s) := by
  have set : ∀ (l : List Nat), p ∉ l → ∀ t, Damped p off level t → Damped p off level (eachOf l (sourceActive edge) t) := by
    intro l
    induction l with
    | nil => exact fun _ t ht => ht
    | cons q l ih =>
      intro out t ht
      rw [List.mem_cons, not_or] at out
      exact ih out.2 _ (ht.active_other (Ne.symm out.1) edge)
  unfold Machine.sourcesActive
  dsimp only
  split
  · exact (set plans other s h).considerTaking
  · exact set plans other s h

theorem Damped.sourcesInactive {s : State} (h : Damped p off level s) (plans : List Nat) : Damped p off level (sourcesInactive plans s) := by
  have set := eachOf_holds (Damped p off level) (setSource false) (fun q t ht => ht.inactive q) plans s h
  unfold Machine.sourcesInactive
  dsimp only
  split
  · exact set.advance _
  · exact set

/-- The source of an enabled plan of a table goes inactive (R89). -/
theorem Damped.goes {s : State} (h : Damped p false level s) (first : 1 ≤ p) (on : (s.tables.plan p).on = true)
    (is : level = true → (s.tables.plan p).level = true) : Damped p true level (setSource false p s) := by
  have last := h.inside
  have active := active_setSource_same false first last
  refine ⟨by rw [length_setSource]; exact last, fun _ => active, fun isLevel _ => ?_⟩
  have set : (Machine.changePlan p (fun x => { x with active := false, spent := x.spent && false }) s).plan p
      = { s.plan p with active := false, spent := (s.plan p).spent && false } := entryD_changeEntry_same first last _ _
  unfold setSource Machine.refreshRequest
  dsimp only
  rw [show (Machine.changePlan p (fun x => { x with active := false, spent := x.spent && false }) s).tables = s.tables from rfl,
    show (Machine.changePlan p (fun x => { x with active := false, spent := x.spent && false }) s).stacked p = s.stacked p from rfl, on, is isLevel]
  cases held : s.stacked p with
  | true =>
    rw [if_neg (by simp), set]
    exact h.pending isLevel (.inl held)
  | false =>
    rw [if_pos (by simp)]
    have last' : p ≤ (Machine.changePlan p (fun x => { x with active := false, spent := x.spent && false }) s).preempt.plans.length := by
      rw [length_changePlan]; exact last
    refine (congrArg PlanState.pending (entryD_changeEntry_same first last' _ _)).trans ?_
    have off : (entryD (Machine.changePlan p (fun x => { x with active := false, spent := x.spent && false }) s).preempt.plans p
        PlanState.reset).active = false := congrArg PlanState.active set
    dsimp only
    rw [off, Bool.false_and]

/-- The sources of some plans go inactive, that of `p` among them. -/
theorem Damped.sourcesGo {s : State} (h : Damped p false level s) {plans : List Nat} (member : p ∈ plans) (first : 1 ≤ p)
    (on : (s.tables.plan p).on = true) (is : level = true → (s.tables.plan p).level = true) :
    Damped p true level (Machine.sourcesInactive plans s) := by
  have set : ∀ (l : List Nat) (t : State), p ∈ l → Damped p false level t → t.tables = s.tables →
      Damped p true level (eachOf l (setSource false) t) := by
    intro l
    induction l with
    | nil => exact fun _ out => nomatch out
    | cons q l ih =>
      intro t member ht tables
      rcases List.mem_cons.mp member with rfl | later
      · exact eachOf_holds (Damped p true level) (setSource false) (fun q t ht => ht.inactive q) l _
          (ht.goes first (by rw [tables]; exact on) (by rw [tables]; exact is))
      · exact ih _ later (ht.inactive q) ((tables_congr (by simp)).trans tables)
  unfold Machine.sourcesInactive
  dsimp only
  split
  · exact (set plans s member h rfl).advance _
  · exact set plans s member h rfl

/-! #### Through the conclusion of an event -/

theorem Damped.settle {s : State} (h : Damped p off level s) (rounds : Nat) : Damped p off level (settle rounds s) := by
  have evaluated : ∀ u : State, Damped p off level u → Damped p off level (evaluateConcerned passLimit (rebuild u)) := fun u hu =>
    hu.congr (by simp) (by simp)
  induction rounds generalizing s with
  | zero => exact evaluated s h
  | succ n ih =>
    unfold Machine.settle
    dsimp only
    split
    · exact ih ((evaluated s h).advance _)
    · exact evaluated s h

/-- The conclusion of an event in calm leaves a plan's inactive source inactive. -/
theorem Damped.conclude {s : State} (h : Damped p off level s) (calm : noLampOut s = true) (mode : s.control.mode ≠ .closing) :
    Damped p off level (conclude s) := by
  have settled := h.settle roundLimit
  have open' : closeIfDone (Machine.settle roundLimit s) = Machine.settle roundLimit s := if_neg fun done => mode (by simpa using done.1)
  rw [conclude_eq, open']
  have ends := finish_calm (u := Machine.settle roundLimit s) ((noLampOut_of_channels (by simp)).trans calm)
  exact settled.congr (by rw [ends.preempt]) (by rw [ends.preempt])

end Sys2Proof.Machine

/-! ### What the conclusion of an event in calm hands on, and the detector channels in it (log 18) -/

namespace Sys2Proof.Machine

open Sys2Proof.Safety

/-- Alarms have been handed on, and detector reports, if any, have joined those of the event. -/
structure Handing (s t : State) : Prop where
  alarms : ∃ made : List OutFrame, made.all (fun f => isReport f && !f.isDet) = true ∧ t.link = made.foldl Link.accept s.link
  reports : ∃ more, t.event.reports = s.event.reports ++ more

theorem handing_of_same {s t : State} (link : t.link = s.link) (reports : t.event.reports = s.event.reports) : Handing s t :=
  ⟨⟨[], rfl, link⟩, ⟨[], by rw [reports, List.append_nil]⟩⟩

theorem Handing.refl (s : State) : Handing s s := handing_of_same rfl rfl

theorem Handing.trans {s t u : State} (first : Handing s t) (second : Handing t u) : Handing s u := by
  obtain ⟨made, alarms, link⟩ := first.alarms
  obtain ⟨made', alarms', link'⟩ := second.alarms
  obtain ⟨more, reports⟩ := first.reports
  obtain ⟨more', reports'⟩ := second.reports
  exact ⟨⟨made ++ made', by rw [List.all_append, alarms, alarms']; rfl, by rw [link', link, List.foldl_append]⟩,
    ⟨more ++ more', by rw [reports', reports, List.append_assoc]⟩⟩

theorem Reporting.handing {K : FaultKind → Option Nat → Prop} {s t : State} (did : Reporting K s t) : Handing s t := ⟨did.alarms, did.reports⟩

theorem reports_rebuild (s : State) : (rebuild s).event.reports = s.event.reports := by
  have group : ∀ g (t : State), (rebuildGroup g t).event.reports = t.event.reports := fun g t => by
    unfold rebuildGroup
    dsimp only
    split <;> rfl
  have all := eachOf_keeps (fun t => t.event.reports) rebuildGroup (fun g t => group g t) s.tables.liveGroups s
  unfold rebuild
  dsimp only
  split <;> exact all

theorem reports_evaluateConcerned (passes : Nat) (s : State) : (evaluateConcerned passes s).event.reports = s.event.reports := by
  have group : ∀ g (t : State), (evaluate g t).event.reports = t.event.reports := fun g t => by
    unfold evaluate
    dsimp only
    repeat' split
    all_goals rfl
  induction passes generalizing s with
  | zero => rfl
  | succ n ih =>
    unfold Machine.evaluateConcerned
    split
    · rfl
    · exact (ih _).trans (eachOf_keeps (fun t => t.event.reports) evaluate (fun g t => group g t) _ _)

theorem handing_evaluated (s : State) : Handing s (evaluateConcerned passLimit (rebuild s)) :=
  handing_of_same (by simp) ((reports_evaluateConcerned _ _).trans (reports_rebuild s))

theorem handing_settle (rounds : Nat) (s : State) : Handing s (settle rounds s) := by
  induction rounds generalizing s with
  | zero => exact handing_evaluated s
  | succ n ih =>
    unfold settle
    dsimp only
    split
    · exact ((handing_evaluated s).trans (reporting_advance (K := fun _ _ => True) stepLimit (fun _ _ => trivial)).handing).trans (ih _)
    · exact handing_evaluated s

theorem reporting_serveCalls {K : FaultKind → Option Nat → Prop} (g : Nat) (s : State) : Reporting K s (serveCalls g s) :=
  .eachOf (fun c _ t => (reporting_changeDetector c (fun d => { d with call := none }) t).trans (reporting_reportChange c _ _)) s

theorem reports_numberImage (s : State) : (numberImage s).event.reports = s.event.reports := by
  unfold numberImage
  split
  · rfl
  · refine (eachOf_keeps (fun t => t.event.reports) _ (fun c t => ?_) _ _).trans rfl
    dsimp only
    split <;> rfl

/-- The frames of a conclusion in calm: alarms, and then the detector reports of the event. -/
theorem conclude_calm_link {s : State} (calm : noLampOut s = true) (mode : s.control.mode ≠ .closing) :
    ∃ (alarms : List OutFrame) (reports : List Det), alarms.all (fun f => isReport f && !f.isDet) = true
      ∧ (conclude s).link = (alarms ++ reports.map OutFrame.det).foldl Link.accept s.link ∧ ∀ d ∈ s.event.reports, d ∈ reports := by
  have open' : closeIfDone (settle roundLimit s) = settle roundLimit s := if_neg fun done => mode (by simpa using done.1)
  have dark : noLampOut (noticeGo (settle roundLimit s)) = true := (noLampOut_of_channels (by simp)).trans calm
  have served : Handing (settle roundLimit s) (noticeGo (settle roundLimit s)) :=
    (Reporting.eachOf (K := fun _ _ => True) (fun g _ t => reporting_serveCalls g t) _).handing
  have judged : Handing (noticeGo (settle roundLimit s)) (evaluateShown (noticeGo (settle roundLimit s))) := by
    unfold evaluateShown
    split
    · exact .refl _
    · exact (reporting_evaluateReds (K := fun _ _ => True) (fun g _ => redOut_of_noLampOut dark g) (fun _ => trivial)).handing
  have all := ((handing_settle roundLimit s).trans served).trans judged
  rw [conclude_eq, open']
  unfold finish
  generalize evaluateShown (noticeGo (settle roundLimit s)) = v at all
  obtain ⟨⟨made, alarms, link⟩, ⟨more, reports⟩⟩ := all
  refine ⟨made, sortByKey Det.channel (v.event.reports), alarms, ?_, fun d member => ?_⟩
  · rw [handReports_link, List.foldl_append, ← link]
    simp [reports_numberImage]
  · exact mem_sortByKey.mpr (by rw [reports]; exact List.mem_append_left _ member)

/-! #### The channels in fault -/

/-- Two records differ at most in their call. -/
def Detector.ButCall (d d' : Detector) : Prop := ∃ call, d' = { d with call := call }

theorem serveCalls_inFault {g c : Nat} {s : State} {d : Detector} (has : s.detector c = some d) (in' : d.inFault = true) :
    ∃ d', (serveCalls g s).detector c = some d' ∧ d.ButCall d' := by
  unfold serveCalls
  refine eachOf_holds (fun t => ∃ d', t.detector c = some d' ∧ d.ButCall d') _ (fun n t ⟨d', record, call, is⟩ => ?_) _ s ⟨d, has, d.call, rfl⟩
  by_cases here : n = c
  · subst here
    have cleared := detector_changeDetector_same record (fun d => { d with call := none })
    refine ⟨{ d' with call := none }, ?_, none, by rw [is]⟩
    rw [reportChange_record cleared]
    unfold Detector.told
    rw [is, show ({ ({ d with call := call } : Detector) with call := none } : Detector).inFault = true from in', Bool.true_or, if_pos rfl]
  · refine ⟨d', ?_, call, is⟩
    rw [onlyChannel_reportChange n _ _ c (Ne.symm here), detector_changeDetector_other (Ne.symm here)]
    exact record

/-- The conclusion of an event leaves the record of a channel in fault, but for its call (R150). -/
theorem conclude_inFault {c : Nat} {s : State} {d : Detector} (has : s.detector c = some d) (in' : d.inFault = true) :
    ∃ d', (conclude s).detector c = some d' ∧ d.ButCall d' := by
  have settled : (closeIfDone (settle roundLimit s)).detector c = some d := (detector_congr (by simp) c).trans has
  have noticed : ∃ d', (noticeGo (closeIfDone (settle roundLimit s))).detector c = some d' ∧ d.ButCall d' := by
    unfold noticeGo
    refine eachOf_holds (fun t => ∃ d', t.detector c = some d' ∧ d.ButCall d') serveCalls (fun g t ⟨d', record, call, is⟩ => ?_) _ _
      ⟨d, settled, d.call, rfl⟩
    obtain ⟨d'', record', call', is'⟩ := serveCalls_inFault (g := g) record (by rw [is]; exact in')
    exact ⟨d'', record', call', by rw [is', is]⟩
  obtain ⟨d', record, but⟩ := noticed
  exact ⟨d', (detector_congr (s := noticeGo (closeIfDone (settle roundLimit s))) (by simp [conclude]) c).trans record, but⟩

end Sys2Proof.Machine

/-! ### The channels of a DETECTOR station that has become ABSENT (R149, R151, R153) -/

namespace Sys2Proof.Machine

open Sys2Proof.Safety

/-! #### Reports in ascending channel -/

theorem insertByKey_last {α : Type} {key : α → Nat} {x : α} {l : List α} (least : ∀ y ∈ l, key y ≤ key x) : insertByKey key x l = l ++ [x] := by
  induction l with
  | nil => rfl
  | cons y l ih =>
    unfold insertByKey
    rw [if_neg (by have := least y (List.mem_cons_self ..); omega), ih fun z member => least z (List.mem_cons_of_mem _ member)]
    rfl

theorem sortByKey_sorted {α : Type} {key : α → Nat} {l : List α} (sorted : l.Pairwise (fun x y => key x ≤ key y)) : sortByKey key l = l := by
  have inserted : ∀ (l acc : List α), (acc ++ l).Pairwise (fun x y => key x ≤ key y) → l.foldl (fun acc x => insertByKey key x acc) acc = acc ++ l := by
    intro l
    induction l with
    | nil => exact fun acc _ => (List.append_nil acc).symm
    | cons x l ih =>
      intro acc sorted
      have least : ∀ y ∈ acc, key y ≤ key x := fun y member => (List.pairwise_append.mp sorted).2.2 y member x (List.mem_cons_self ..)
      rw [List.foldl_cons, insertByKey_last least, ih _ (by rw [List.append_assoc]; exact sorted), List.append_assoc]
      rfl
  exact inserted l [] sorted

theorem numbers_ascend (n : Nat) : (numbers n).Pairwise (· < ·) := by
  unfold numbers
  rw [List.pairwise_map]
  exact List.pairwise_lt_range.imp fun h => Nat.succ_lt_succ h

/-! #### The entry into fault -/

/-- The record of a channel whose station has become ABSENT, before the entry into fault (R149). -/
def Detector.cutOff (d : Detector) : Detector := { d with stationAbsent := true, pending := [], raw := none, resync := true, okSince := none }

/-- The record of a channel whose station has become ABSENT (R149, R151). -/
def Detector.gone (r : DetectorRec) (now : Time) (d : Detector) : Detector :=
  if d.inFault then d.cutOff else { d.cutOff with inFault := true }.reporting (faultState r d) true now now

theorem cutOff_faulty (d : Detector) : d.cutOff.faulty = true := by simp [Detector.faulty, Detector.cutOff]

/-- The report of a channel that enters fault (R151). -/
def faultDet (c : Nat) (state : Bool) (now : Time) : Det := { channel := c, occupied := state, fault := true, time := now, occupancy := none }

theorem det_fault (d : Detector) (c : Nat) (state : Bool) (now : Time) : d.det c state true now = faultDet c state now := by
  unfold Detector.det faultDet occupancyOf
  split
  · simp
  · rfl

theorem gone_reported {r : DetectorRec} {now : Time} {d : Detector} (out : d.inFault = false) :
    (d.gone r now).reported = faultState r d ∧ (d.gone r now).lastDet = some (faultState r d, true, now) := by
  unfold Detector.gone Detector.reporting
  rw [out, if_neg (by decide)]
  dsimp only
  split
  · next same => exact ⟨same, rfl⟩
  · exact ⟨rfl, rfl⟩

/-- What the loss of the station leaves of the channel's other fields. -/
theorem gone_fields (r : DetectorRec) (now : Time) (d : Detector) :
    (d.gone r now).stationAbsent = true ∧ (d.gone r now).inFault = true ∧ (d.gone r now).raw = none ∧ (d.gone r now).pending = []
      ∧ (d.gone r now).resync = true ∧ (d.gone r now).okSince = none ∧ (d.gone r now).occupied = d.occupied ∧ (d.gone r now).since = d.since
      ∧ (d.inFault = true → (d.gone r now).reported = d.reported ∧ (d.gone r now).lastDet = d.lastDet) := by
  unfold Detector.gone
  cases in' : d.inFault with
  | true =>
    rw [if_pos rfl]
    exact ⟨rfl, in', rfl, rfl, rfl, rfl, rfl, rfl, fun _ => ⟨rfl, rfl⟩⟩
  | false =>
    rw [if_neg (by decide)]
    unfold Detector.reporting
    dsimp only
    refine ⟨?_, ?_, ?_, ?_, ?_, ?_, ?_, ?_, nofun⟩ <;> split <;> rfl

/-- The state of the event before the plans are told of an entry into fault. -/
def faultTold (c : Nat) (d : Detector) (s : State) : State :=
  { s with
    detectors := changeEntry s.detectors c
      (Option.map (fun x => { x with inFault := true }.reporting (faultState (s.tables.detector c) d) true s.clock.now s.clock.now))
    event.reports := s.event.reports ++ [faultDet c (faultState (s.tables.detector c) d) s.clock.now] }

theorem enterFault_eq {c : Nat} {s : State} {d : Detector} (has : s.detector c = some d) :
    enterFault c d s = sourcesInactive ((faultTold c d s).plansOnDetector c) (faultTold c d s) := by
  have entered := detector_changeDetector_same has (fun x => { x with inFault := true })
  have told := report_eq entered (faultState (s.tables.detector c) d) true s.clock.now
  have same : report c (faultState (s.tables.detector c) d) true s.clock.now
      (setReported c (faultState (s.tables.detector c) d) s.clock.now (changeDetector c (fun x => { x with inFault := true }) s)) = faultTold c d s := by
    rw [told, det_fault]
    unfold changeDetector faultTold
    dsimp only
    rw [changeEntry_changeEntry, Option.map_comp_map]
    rfl
  unfold enterFault
  dsimp only
  rw [same]

theorem faultTold_record {c : Nat} {s : State} {d : Detector} (has : s.detector c = some d) :
    (faultTold c d s).detector c
      = some ({ d with inFault := true }.reporting (faultState (s.tables.detector c) d) true s.clock.now s.clock.now) :=
  detector_changeDetector_same has _

/-- The decision about a channel whose station has become ABSENT. -/
theorem decideFault_cutOff {c : Nat} {s : State} {d : Detector} (has : s.detector c = some d.cutOff) :
    (decideFault c s).detector c = some (d.gone (s.tables.detector c) s.clock.now)
      ∧ (d.inFault = false → faultDet c (faultState (s.tables.detector c) d) s.clock.now ∈ (decideFault c s).event.reports) := by
  cases in' : d.inFault with
  | true =>
    have same : d.cutOff.inFault = d.cutOff.faulty := by rw [cutOff_faulty]; exact in'
    rw [decideFault_stays has same]
    exact ⟨by rw [has]; simp [Detector.gone, in'], nofun⟩
  | false =>
    rw [decideFault_enters has (cutOff_faulty d) in', enterFault_eq has]
    have told := reporting_sourcesInactive (K := fun _ _ => True) ((faultTold c d.cutOff s).plansOnDetector c) (s := faultTold c d.cutOff s)
      (fun _ _ => trivial)
    refine ⟨?_, fun _ => ?_⟩
    · rw [detector_congr (s := faultTold c d.cutOff s) (detectors_sourcesInactive _ _), faultTold_record has]
      simp [Detector.gone, in', faultState, Detector.cutOff]
    · obtain ⟨more, reports⟩ := told.reports
      rw [reports]
      exact List.mem_append_left _ (List.mem_append_right _ (List.mem_singleton.mpr rfl))

/-- Its plans' sources go inactive (R153). -/
theorem decideFault_damps {c p : Nat} {level : Bool} {s : State} {d : Detector} (has : s.detector c = some d.cutOff) (out : d.inFault = false)
    (damped : Damped p false level s) (first : 1 ≤ p) (last : p ≤ 8) (on : (s.tables.plan p).on = true) (of : (s.tables.plan p).onDetector c = true)
    (is : level = true → (s.tables.plan p).level = true) : Damped p true level (decideFault c s) := by
  rw [decideFault_enters has (cutOff_faulty d) out, enterFault_eq has]
  exact (damped.congr (t := faultTold c d.cutOff s) rfl rfl).sourcesGo (mem_plansOnDetector first last on of) first on is

/-- A decision about another channel leaves the plan of this one. -/
theorem Damped.decideFault {p : Nat} {off level : Bool} {s : State} (h : Damped p off level s) {c : Nat} (other : (s.tables.plan p).onDetector c = false) :
    Damped p off level (decideFault c s) := by
  have out : ∀ t : State, t.tables = s.tables → p ∉ t.plansOnDetector c := fun t tables member => by
    have of := (List.mem_filter.mp member).2
    rw [tables, other, Bool.and_false] at of
    cases of
  have enters : ∀ d, Damped p off level (enterFault c d s) := fun d =>
    Damped.sourcesInactive (h.congr (by unfold report setReported changeDetector; dsimp only; split <;> rfl)
      (by unfold report setReported changeDetector; dsimp only; split <;> rfl)) _
  have leaves : ∀ d, Damped p off level (leaveFault c d s) := fun d => by
    unfold leaveFault
    dsimp only
    split
    · exact Damped.sourcesActive (h.congr (by simp) (by simp)) false (out _ (tables_congr (by simp)))
    · exact h.congr (by simp) (by simp)
  unfold Machine.decideFault
  repeat' split
  · exact enters _
  · exact leaves _
  · exact h
  · exact h

end Sys2Proof.Machine

/-! ### The loss of a DETECTOR station, channel by channel (R149, log 51) -/

namespace Sys2Proof.Machine

open Sys2Proof.Safety

/-- The channels of a station lose what they held. -/
def cutAll (channels : List Nat) (s : State) : State := eachOf channels (fun c => changeDetector c Detector.cutOff) s

theorem stationLost_eq (station : Nat) (s : State) : stationLost station s = eachOf (s.channelsOf station) decideFault (cutAll (s.channelsOf station) s) := rfl

theorem cutAll_frame (channels : List Nat) (s : State) : cutAll channels s = { s with detectors := (cutAll channels s).detectors } := by
  unfold cutAll
  exact eachOf_holds (fun t => t = { s with detectors := t.detectors }) _ (fun c t same => by rw [same]; rfl) channels s rfl

theorem cutAll_record {channels : List Nat} (distinct : channels.Nodup) {c : Nat} (member : c ∈ channels) {s : State} {d : Detector}
    (has : s.detector c = some d) : (cutAll channels s).detector c = some d.cutOff :=
  eachOf_once (x := c) (good := fun t => t.detector c = some d) (done := fun t => t.detector c = some d.cutOff)
    (fun _ _ other record => (detector_changeDetector_other (Ne.symm other) _ _).trans record)
    (fun _ record => detector_changeDetector_same record _) (fun _ _ other record => (detector_changeDetector_other (Ne.symm other) _ _).trans record)
    member distinct has

/-- Operations on some channels leave every other channel. -/
theorem detector_eachOf_other {f : Nat → State → State} (only : ∀ c s, OnlyChannel c s (f c s)) {channels : List Nat} {n : Nat} (out : n ∉ channels)
    (s : State) : (eachOf channels f s).detector n = s.detector n := by
  induction channels generalizing s with
  | nil => rfl
  | cons c channels ih =>
    rw [List.mem_cons, not_or] at out
    exact (ih out.2 _).trans (only c s n out.1)

theorem stationLost_other {station n : Nat} {s : State} (other : (s.tables.detector n).station.toNat ≠ station) :
    (stationLost station s).detector n = s.detector n := by
  have out : n ∉ s.channelsOf station := fun member => other (by simpa using (List.mem_filter.mp member).2)
  rw [stationLost_eq, detector_eachOf_other onlyChannel_decideFault out]
  exact detector_eachOf_other (fun c t => onlyChannel_changeDetector c _ t) out s

/-- What the decisions about the channels keep, up to the one about channel `c`. -/
structure CutOff (c : Nat) (d : Detector) (s t : State) : Prop where
  record : t.detector c = some d.cutOff
  store : t.store = s.store
  clock : t.clock = s.clock

theorem cutOff_cutAll {c station : Nat} {s : State} {d : Detector} (has : s.detector c = some d) (at' : (s.tables.detector c).station.toNat = station) :
    CutOff c d s (cutAll (s.channelsOf station) s) :=
  ⟨cutAll_record (channelsOf_nodup s station) (mem_channelsOf has at') has, by rw [cutAll_frame], by rw [cutAll_frame]⟩

theorem CutOff.decides {c : Nat} {d : Detector} {s t : State} (h : CutOff c d s t) {n : Nat} (other : n ≠ c) : CutOff c d s (decideFault n t) :=
  ⟨(onlyChannel_decideFault n t c (Ne.symm other)).trans h.record, by simpa using h.store, by simpa using h.clock⟩

theorem CutOff.tables {c : Nat} {d : Detector} {s t : State} (h : CutOff c d s t) : t.tables = s.tables := tables_congr (by rw [h.store])

/-- The record of a channel of a station that is lost, and its report. -/
theorem stationLost_record {c station : Nat} {s : State} {d : Detector} (has : s.detector c = some d)
    (at' : (s.tables.detector c).station.toNat = station) :
    (stationLost station s).detector c = some (d.gone (s.tables.detector c) s.clock.now)
      ∧ (d.inFault = false → faultDet c (faultState (s.tables.detector c) d) s.clock.now ∈ (stationLost station s).event.reports) := by
  rw [stationLost_eq]
  refine (eachOf_once (x := c) (good := CutOff c d s)
    (done := fun t => t.detector c = some (d.gone (s.tables.detector c) s.clock.now)
      ∧ (d.inFault = false → faultDet c (faultState (s.tables.detector c) d) s.clock.now ∈ t.event.reports))
    (fun n t other h => h.decides other) (fun t h => ?_) (fun n t other ⟨record, told⟩ => ⟨?_, fun out => ?_⟩)
    (mem_channelsOf has at') (channelsOf_nodup s station) (cutOff_cutAll has at') :)
  · have decided := decideFault_cutOff h.record
    rwa [h.tables, h.clock] at decided
  · exact (onlyChannel_decideFault n t c (Ne.symm other)).trans record
  · obtain ⟨more, reports⟩ := (reporting_decideFault (K := fun _ _ => True) n (s := t) (fun _ _ => trivial)).reports
    rw [reports]
    exact List.mem_append_left _ (told out)

/-- The plans that a channel of a lost station calls. -/
theorem stationLost_damps {c station p : Nat} {level : Bool} {s : State} {d : Detector} (has : s.detector c = some d)
    (at' : (s.tables.detector c).station.toNat = station) (out : d.inFault = false) (damped : Damped p false level s) (first : 1 ≤ p) (last : p ≤ 8)
    (on : (s.tables.plan p).on = true) (of : (s.tables.plan p).onDetector c = true) (is : level = true → (s.tables.plan p).level = true) :
    Damped p true level (stationLost station s) := by
  have elsewhere : ∀ n, n ≠ c → (s.tables.plan p).onDetector n = false := fun n other => by
    unfold PlanRec.onDetector at of ⊢
    simp only [Bool.and_eq_true, decide_eq_true_eq] at of
    rw [decide_eq_false (by omega), Bool.false_and, Bool.false_and]
  rw [stationLost_eq]
  refine (eachOf_once (x := c) (good := fun t => CutOff c d s t ∧ Damped p false level t) (done := fun t => Damped p true level t ∧ t.tables = s.tables)
    (fun n t other ⟨h, damped⟩ => ⟨h.decides other, damped.decideFault (by rw [h.tables]; exact elsewhere n other)⟩) (fun t ⟨h, damped⟩ => ⟨?_, ?_⟩)
    (fun n t other ⟨damped, tables⟩ => ⟨damped.decideFault (by rw [tables]; exact elsewhere n other), (tables_congr (by simp)).trans tables⟩)
    (mem_channelsOf has at') (channelsOf_nodup s station) ⟨cutOff_cutAll has at', ?_⟩ :).1
  · exact decideFault_damps h.record out damped first last (by rw [h.tables]; exact on) (by rw [h.tables]; exact of) (by rw [h.tables]; exact is)
  · exact (tables_congr (by simp)).trans h.tables
  · exact damped.congr (by rw [cutAll_frame]) (by rw [cutAll_frame])

/-! #### The reports in a flash mode -/

/-- The channels that are not in fault. -/
def State.sound (s : State) (c : Nat) : Bool := (s.detector c).any (fun d => !d.inFault)

/-- In a flash mode the decisions about channels whose station is ABSENT make one report for each that was not in fault. -/
theorem decides_reports {channels : List Nat} (distinct : channels.Nodup) {s : State} (mode : s.control.mode.permit = false)
    (cut : ∀ c ∈ channels, ∃ d : Detector, s.detector c = some d.cutOff) :
    (eachOf channels decideFault s).event.reports
      = s.event.reports ++ (channels.filter s.sound).map (fun c =>
        faultDet c (((eachOf channels decideFault s).detector c).any Detector.reported) s.clock.now) := by
  induction channels generalizing s with
  | nil => exact (List.append_nil _).symm
  | cons c channels ih =>
    obtain ⟨out, distinct⟩ := List.nodup_cons.mp distinct
    obtain ⟨d, has⟩ := cut c (List.mem_cons_self ..)
    have others : ∀ n ∈ channels, (decideFault c s).detector n = s.detector n := fun n member =>
      onlyChannel_decideFault c s n fun same => out (same ▸ member)
    have rest := ih distinct (s := decideFault c s) (by simpa using mode) fun n member => by
      rw [others n member]; exact cut n (List.mem_cons_of_mem _ member)
    have clock : (decideFault c s).clock = s.clock := by simp
    have sounds : channels.filter (decideFault c s).sound = channels.filter s.sound := List.filter_congr fun n member => by
      unfold State.sound; rw [others n member]
    have final : (eachOf (c :: channels) decideFault s).detector c = (decideFault c s).detector c :=
      detector_eachOf_other onlyChannel_decideFault out (decideFault c s)
    have whole : eachOf (c :: channels) decideFault s = eachOf channels decideFault (decideFault c s) := rfl
    rw [whole] at final ⊢
    rw [rest, sounds, clock]
    cases in' : d.inFault with
    | true =>
      have quiet : s.sound c = false := by unfold State.sound; rw [has]; simp [Detector.cutOff, in']
      have stays : decideFault c s = s := decideFault_stays has (by rw [cutOff_faulty]; exact in')
      rw [List.filter_cons_of_neg (by simp [quiet]), stays]
    | false =>
      have loud : s.sound c = true := by unfold State.sound; rw [has]; simp [Detector.cutOff, in']
      rw [List.filter_cons_of_pos loud, List.map_cons, final]
      obtain ⟨record, -⟩ := decideFault_cutOff has
      have entered := decideFault_enters has (cutOff_faulty d) in'
      obtain ⟨q, made⟩ := enterFault_rest has mode
      have reports : (decideFault c s).event.reports = s.event.reports ++ [faultDet c (faultState (s.tables.detector c) d) s.clock.now] := by
        rw [entered, made]
        exact congrArg (fun x => s.event.reports ++ [x]) (det_fault _ _ _ _)
      rw [reports, record, List.append_assoc]
      show _ = s.event.reports ++ ([faultDet c ((some (d.gone (s.tables.detector c) s.clock.now)).any Detector.reported) s.clock.now] ++ _)
      rw [Option.any_some, (gone_reported in').1]

theorem stationLost_reports {station : Nat} {s : State} (mode : s.control.mode.permit = false) :
    (stationLost station s).event.reports
      = s.event.reports ++ ((s.channelsOf station).filter s.sound).map (fun c =>
        faultDet c (((stationLost station s).detector c).any Detector.reported) s.clock.now) := by
  have cut : ∀ c ∈ s.channelsOf station, ∃ d : Detector, s.detector c = some d ∧ (cutAll (s.channelsOf station) s).detector c = some d.cutOff :=
    fun c member => by
      obtain ⟨d, has⟩ := Option.isSome_iff_exists.mp (List.mem_filter.mp (List.mem_filter.mp member).1).2
      exact ⟨d, has, cutAll_record (channelsOf_nodup s station) member has⟩
  have reports := decides_reports (channelsOf_nodup s station) (s := cutAll (s.channelsOf station) s) (by rw [cutAll_frame]; exact mode)
    fun c member => (cut c member).imp fun d both => both.2
  have sounds : (s.channelsOf station).filter (cutAll (s.channelsOf station) s).sound = (s.channelsOf station).filter s.sound :=
    List.filter_congr fun c member => by
      obtain ⟨d, has, cut⟩ := cut c member
      unfold State.sound
      rw [has, cut]
      rfl
  rw [stationLost_eq, reports, sounds]
  have clock : (cutAll (s.channelsOf station) s).clock = s.clock := by rw [cutAll_frame]
  have event : (cutAll (s.channelsOf station) s).event = s.event := by rw [cutAll_frame]
  rw [clock, event]

/-- The sound channels of a station, in ascending number. -/
theorem sound_channelsOf (s : State) (station : Nat) :
    (s.channelsOf station).filter s.sound
      = (numbers s.detectors.length).filter (fun c => decide ((s.tables.detector c).station.toNat = station) && s.sound c) := by
  unfold State.channelsOf State.detectorChannels
  rw [List.filter_filter, List.filter_filter]
  refine List.filter_congr fun c _ => ?_
  unfold State.sound
  cases s.detector c <;> simp [Bool.and_comm]

theorem sound_ascend (s : State) (station : Nat) (f : Nat → Bool) (now : Time) :
    (((s.channelsOf station).filter s.sound).map (fun c => faultDet c (f c) now)).Pairwise (fun x y => x.channel ≤ y.channel) := by
  rw [List.pairwise_map, sound_channelsOf]
  exact ((numbers_ascend _).filter _).imp fun h => Nat.le_of_lt h

end Sys2Proof.Machine

/-! ### The absence of a station that moves no mode (R117, R149) -/

namespace Sys2Proof.Machine

open Sys2Proof.Safety

/-- What an event at rest, or in calm RUNNING, leaves of an effect `u` that has reported to the fault list and made detector reports. -/
structure ReportEnd (s u t : State) : Prop where
  control : t.control = s.control
  exchange : t.exchange = s.exchange
  store : t.store = s.store
  link : ∃ (alarms : List OutFrame) (reports : List Det), alarms.all (fun f => isReport f && !f.isDet) = true
    ∧ t.link = (alarms ++ reports.map OutFrame.det).foldl Link.accept s.link ∧ (∀ d ∈ u.event.reports, d ∈ reports)
    ∧ (s.control.mode.permit = false → reports = sortByKey Det.channel u.event.reports)
  listed : ∀ {kind : FaultKind} {subject : Option Nat} {action : Action}, u.faults.Well → ¬ OfConclusion kind subject →
    Safety.listed u kind subject true action → Safety.listed t kind subject true action
  channels : ∀ {c : Nat} {d : Detector}, u.detector c = some d → d.inFault = true → ∃ d', t.detector c = some d' ∧ d.ButCall d'
  damped : ∀ {p : Nat} {off level : Bool}, Damped p off level u → Damped p off level t
  rest : s.control.mode.permit = false → t.detectors = u.detectors ∧ t.preempt = u.preempt

theorem reportEnd_rest {K : FaultKind → Option Nat → Prop} {effect : State → State} {s : State} (rest : resting s = true)
    (did : Reporting K (openEvent s) (effect (openEvent s))) (exchange : (effect (openEvent s)).exchange = s.exchange) :
    ReportEnd s (effect (openEvent s)) (asEvent effect id s) := by
  have ends := rest_reporting rest did
  obtain ⟨made, alarms, link⟩ := did.alarms
  refine ⟨ends.control, ends.exchange.trans exchange, ends.store,
    ⟨made, sortByKey Det.channel (effect (openEvent s)).event.reports, alarms, ?_, fun d member => mem_sortByKey.mpr member, fun _ => rfl⟩,
    fun {kind subject action} _ _ lists => ?_, fun {c d} has _ => ⟨d, (detector_congr ends.detectors c).trans has, d.call, rfl⟩,
    fun damped => damped.congr (by rw [ends.preempt]) (by rw [ends.preempt]), fun _ => ⟨ends.detectors, ends.preempt⟩⟩
  · rw [ends.link, link, List.foldl_append]
    rfl
  · unfold Safety.listed
    rw [ends.faults]
    exact lists

theorem runningCalm_iff {s : State} : runningCalm s = true ↔ s.up = true ∧ s.control.mode = .running ∧ noLampOut s = true := by
  simp [runningCalm, and_assoc]

theorem reportEnd_calm {K : FaultKind → Option Nat → Prop} {effect : State → State} {s : State} (running : runningCalm s = true)
    (did : Reporting K (openEvent s) (effect (openEvent s))) (exchange : (effect (openEvent s)).exchange = s.exchange)
    (prover : (effect (openEvent s)).prover = s.prover) : ReportEnd s (effect (openEvent s)) (asEvent effect id s) := by
  obtain ⟨-, mode, calm⟩ := runningCalm_iff.mp running
  have dark : noLampOut (effect (openEvent s)) = true := (noLampOut_of_channels (by rw [prover])).trans calm
  have open' : (effect (openEvent s)).control.mode ≠ .closing := by rw [did.control]; show s.control.mode ≠ .closing; rw [mode]; decide
  have ends := calm_event (s := s) (effect := effect) (answer := id) id_onlyLink dark open'
  have closed : asEvent effect id s = closeEvent (conclude (effect (openEvent s))) := by simp only [asEvent, id]
  obtain ⟨made, alarms, link⟩ := did.alarms
  have permits : s.control.mode.permit = true := by rw [mode]; rfl
  obtain ⟨-, -, -, exchange', control, store⟩ := ends.frame
  obtain ⟨more, reports, quiet, sent, all⟩ := conclude_calm_link dark open'
  have channels := fun {c : Nat} {d : Detector} => conclude_inFault (c := c) (d := d) (s := effect (openEvent s))
  have damped := fun {p : Nat} {off level : Bool} (h : Damped p off level (effect (openEvent s))) => h.conclude dark open'
  have lists := fun {kind : FaultKind} {subject : Option Nat} {action : Action} => ends.keeps_listed (kind := kind) (subject := subject) (action := action)
  clear ends
  generalize asEvent effect id s = t at *
  generalize conclude (effect (openEvent s)) = v at *
  refine ⟨control.trans did.control, exchange'.trans exchange, store.trans did.store,
    ⟨made ++ more, reports, by rw [List.all_append, alarms, quiet]; rfl, ?_, all, fun no => by rw [permits] at no; cases no⟩,
    fun well out listed => lists well out listed, fun has in' => ?_, fun h => ?_, fun no => by rw [permits] at no; cases no⟩
  · rw [closed, (closeEvent_frame _).2.2.1, sent, link]
    simp only [List.foldl_append]
    rfl
  · rw [closed]
    exact channels has in'
  · rw [closed]
    exact (damped h).congr rfl rfl

/-! #### The effect -/

/-- The report of an absent station that moves no mode. -/
def absentNoted (br : BranchId) (station : Nat) (s : State) : State :=
  note { kind := .stationAbsent, subject := some station, action := .report, condition := true } (lostOn br station s)

/-- What the third missed poll does where it moves no mode (R117, R149). -/
def absentEffect (br : BranchId) (station : Nat) (s : State) : State :=
  if s.tables.roleOn br station = some .detector then stationLost station (absentNoted br station s) else absentNoted br station s

theorem pollEffect_absent {br : BranchId} {station : Nat} {s : State} {l : Liveness} (four : s.branches.length = 4)
    (found : (s.branch br).record station = some l) (present : l.present = true) (third : l.timeouts = 2)
    (calm : s.tables.roleOn br station = some .output → s.control.mode.permit = false) : pollEffect br station s = absentEffect br station s := by
  have action : absentRaise (s.tables.roleOn br station) s.control.mode station
      = { kind := .stationAbsent, subject := some station, action := .report, condition := true } := by
    unfold absentRaise
    rw [if_neg]
    rintro ⟨role, permit⟩
    rw [calm role] at permit
    cases permit
  rw [pollEffect_eq four found, if_neg (by simp [present]), if_pos (by omega), becomeAbsent_eq, action]
  rfl

/-- The kinds that the absence of a station may report. -/
def OfAbsence (station : Nat) (kind : FaultKind) (subject : Option Nat) : Prop :=
  kind = .stationAbsent ∧ subject = some station ∨ kind = .nestingLimit

theorem reporting_absentNoted (br : BranchId) (station : Nat) (s : State) : Reporting (OfAbsence station) s (absentNoted br station s) :=
  ((reporting_changeBranch br _ s).trans (reporting_changeLiveness br station _ _)).trans (reporting_note (.inl ⟨rfl, rfl⟩) _)

theorem reporting_absentEffect (br : BranchId) (station : Nat) (s : State) : Reporting (OfAbsence station) s (absentEffect br station s) := by
  unfold absentEffect
  split
  · exact (reporting_absentNoted br station s).trans (reporting_stationLost station (fun _ _ => .inr rfl))
  · exact reporting_absentNoted br station s

theorem absentNoted_frame (br : BranchId) (station : Nat) (s : State) :
    (absentNoted br station s).exchange = s.exchange ∧ (absentNoted br station s).prover = s.prover
      ∧ (absentNoted br station s).branches = (lostOn br station s).branches ∧ (absentNoted br station s).detectors = s.detectors
      ∧ (absentNoted br station s).preempt = s.preempt ∧ (absentNoted br station s).store = s.store
      ∧ (absentNoted br station s).clock = s.clock ∧ (absentNoted br station s).control = s.control
      ∧ (absentNoted br station s).event.reports = s.event.reports := by
  unfold absentNoted
  refine ⟨by simp; rfl, by simp; rfl, by simp, by simp; rfl, by simp; rfl, by simp; rfl, by simp; rfl, by simp; rfl, by rw [note_event]; rfl⟩

theorem absentEffect_frame (br : BranchId) (station : Nat) (s : State) :
    (absentEffect br station s).exchange = s.exchange ∧ (absentEffect br station s).prover = s.prover
      ∧ (absentEffect br station s).branches = (lostOn br station s).branches := by
  obtain ⟨exchange, prover, branches, -⟩ := absentNoted_frame br station s
  unfold absentEffect
  split
  · exact ⟨by simpa using exchange, by simpa using prover, by simpa using branches⟩
  · exact ⟨exchange, prover, branches⟩

theorem absentEffect_lists {br : BranchId} {station : Nat} {s : State} (well : s.faults.Well) (room : s.faults.entries.length < 32) :
    listed (absentEffect br station s) .stationAbsent (some station) true .report := by
  obtain ⟨e, member, is, of, -, action, -, active, -⟩ := note_lists
    (r := { kind := .stationAbsent, subject := some station, action := .report, condition := true }) (s := lostOn br station s) room
  have noted : listed (absentNoted br station s) .stationAbsent (some station) true .report := ⟨e, member, is, of, active rfl, action⟩
  unfold absentEffect
  split
  · have lost := reporting_stationLost (K := fun kind _ => kind = .nestingLimit) station (s := absentNoted br station s) (fun _ _ => rfl)
    exact lost.keeps_listed ((reporting_absentNoted br station s).faults.well well) (by decide) noted
  · exact noted

end Sys2Proof.Machine

/-! ### The absence of a station, with what follows for its channels (R117, R149, R153) -/

namespace Sys2Proof.Machine

open Sys2Proof.Safety

/-- The event of the third missed poll, where it moves no mode. -/
theorem absent_event {br : BranchId} {station : Nat} {deadline : Time} {s : State} {l : Liveness} (four : s.branches.length = 4)
    (found : (s.branch br).record station = some l) (where' : resting s = true ∨ runningCalm s = true ∧ s.tables.roleOn br station ≠ some .output)
    (awaited : (s.branch br).awaited = some { station := station, tag := none, deadline := deadline }) (due : reached deadline s.clock.now = true)
    (present : l.present = true) (third : l.timeouts = 2) :
    ∃ t, exec (.pollAnswerTimeout br) s = .next t ∧ ReportEnd s (absentEffect br station (openEvent s)) t ∧ (t.branch br).awaited = none
      ∧ ∃ repollDue, (t.branch br).record station = some { l.lost with repollDue := repollDue } := by
  have up : s.up = true := where'.elim (fun rest => (resting_iff.mp rest).1) (fun running => (runningCalm_iff.mp running.1).1)
  obtain ⟨effect, ran, is⟩ := exec_pollAnswerTimeout up awaited due
  rw [pollEffect_absent (s := openEvent s) four found present third fun role => where'.elim (fun rest => (resting_iff.mp rest).2.1)
    (fun running => absurd role running.2)] at is
  obtain ⟨exchange, prover, branches⟩ := absentEffect_frame br station (openEvent s)
  have did := reporting_absentEffect br station (openEvent s)
  obtain ⟨record, waits⟩ := lostOn_record (s := openEvent s) four found
  rw [← branch_congr branches br] at record waits
  rw [← is] at did exchange prover record waits ⊢
  refine ⟨_, ran, ?_, ?_, asEvent_record record⟩
  · rcases where' with rest | ⟨running, -⟩
    · exact reportEnd_rest rest did exchange
    · exact reportEnd_calm running did exchange prover
  · rw [asEvent_branch id_onlyLink, conclude_awaited]
    exact waits

theorem faultState_cases (r : DetectorRec) (d : Detector) :
    (r.faultDefault.toNat = 0 → faultState r d = true) ∧ (r.faultDefault.toNat = 1 → faultState r d = false)
      ∧ (1 < r.faultDefault.toNat → faultState r d = d.reported) := by
  unfold faultState
  refine ⟨fun code => by simp [code], fun code => by simp [code], fun code => ?_⟩
  split
  · omega
  · omega
  · rfl

/-- The channels of a DETECTOR station that is lost. -/
theorem ReportEnd.lost {br : BranchId} {station : Nat} {s t : State} (h : ReportEnd s (absentEffect br station (openEvent s)) t)
    (role : s.tables.roleOn br station = some .detector) {c : Nat} {d : Detector} (has : s.detector c = some d)
    (at' : (s.tables.detector c).station.toNat = station) :
    (∃ d', t.detector c = some d' ∧ (d.gone (s.tables.detector c) s.clock.now).ButCall d')
      ∧ (d.inFault = false →
        faultDet c (faultState (s.tables.detector c) d) s.clock.now ∈ (absentEffect br station (openEvent s)).event.reports
          ∧ (s.preempt.plans.length = 8 → ∀ p, 1 ≤ p → p ≤ 8 → (s.tables.plan p).on = true → (s.tables.plan p).source.toNat = c + 5 → c ≤ 48 →
            (t.plan p).active = false ∧ ((s.tables.plan p).level = true → s.stacked p = false → (t.plan p).pending = false))) := by
  have effect : absentEffect br station (openEvent s) = stationLost station (absentNoted br station (openEvent s)) := if_pos role
  obtain ⟨-, -, -, detectors, preempt, store, clock, -⟩ := absentNoted_frame br station (openEvent s)
  have tables : (absentNoted br station (openEvent s)).tables = s.tables := tables_congr (by rw [store]; rfl)
  have has' : (absentNoted br station (openEvent s)).detector c = some d := (detector_congr detectors c).trans has
  obtain ⟨record, told⟩ := stationLost_record (station := station) has' (by rw [tables]; exact at')
  rw [tables, clock] at record told
  rw [effect] at h ⊢
  refine ⟨h.channels record (gone_fields _ _ d).2.1, fun out => ⟨told out, fun eight p first last on source channel => ?_⟩⟩
  have positive : 1 ≤ c := (mem_numbers.mp (List.mem_filter.mp (mem_detectorChannels has)).1).1
  have of : (s.tables.plan p).onDetector c = true := by
    unfold PlanRec.onDetector
    simp only [Bool.and_eq_true, decide_eq_true_eq]
    exact ⟨⟨source, positive⟩, channel⟩
  have start : Damped p false ((s.tables.plan p).level && !s.stacked p) (absentNoted br station (openEvent s)) := by
    refine ⟨by rw [preempt]; show p ≤ s.preempt.plans.length; omega, nofun, fun is held => ?_⟩
    have stacked : (absentNoted br station (openEvent s)).stacked p = s.stacked p := by unfold State.stacked; rw [preempt]; rfl
    rw [stacked] at held
    simp only [Bool.and_eq_true, Bool.not_eq_true'] at is
    rcases held with held | off
    · rw [is.2] at held; cases held
    · cases off
  have damped := h.damped (stationLost_damps (station := station) has' (by rw [tables]; exact at') out start first last (by rw [tables]; exact on) (by rw [tables]; exact of)
    (by rw [tables]; intro is; simp only [Bool.and_eq_true] at is; exact is.1))
  exact ⟨damped.active rfl, fun level free => damped.pending (by rw [level, free]; rfl) (.inr rfl)⟩

/-- The reports of a DETECTOR station's loss in a flash mode, and the channels elsewhere. -/
theorem ReportEnd.lost_rest {br : BranchId} {station : Nat} {s t : State} (h : ReportEnd s (absentEffect br station (openEvent s)) t)
    (role : s.tables.roleOn br station = some .detector) (flash : s.control.mode.permit = false) :
    (∀ c, (s.tables.detector c).station.toNat ≠ station → t.detector c = s.detector c)
      ∧ sortByKey Det.channel (absentEffect br station (openEvent s)).event.reports
        = ((numbers s.detectors.length).filter (fun c =>
            decide ((s.tables.detector c).station.toNat = station) && (s.detector c).any (fun d => !d.inFault))).map
          (fun c => faultDet c ((t.detector c).any Detector.reported) s.clock.now) := by
  have effect : absentEffect br station (openEvent s) = stationLost station (absentNoted br station (openEvent s)) := if_pos role
  obtain ⟨-, -, -, detectors, -, store, clock, control, reports⟩ := absentNoted_frame br station (openEvent s)
  have tables : (absentNoted br station (openEvent s)).tables = s.tables := tables_congr (by rw [store]; rfl)
  obtain ⟨ended, -⟩ := h.rest flash
  have made := stationLost_reports (station := station) (s := absentNoted br station (openEvent s)) (by rw [control]; exact flash)
  rw [effect] at ended ⊢
  refine ⟨fun c other => ?_, ?_⟩
  · rw [detector_congr ended, stationLost_other (by rw [tables]; exact other)]
    exact detector_congr detectors c
  · have all : ∀ c, t.detector c = (stationLost station (absentNoted br station (openEvent s))).detector c := detector_congr ended
    rw [made, reports, sortByKey_sorted]
    · rw [sound_channelsOf, detectors, tables, clock]
      simp only [all]
      unfold State.sound
      simp only [detector_congr detectors]
      rfl
    · exact sound_ascend _ _ _ _

end Sys2Proof.Machine

namespace Sys2Proof.Proofs

open Sys2Proof Sys2Proof.Machine Sys2Proof.Safety

/-- Settles O57: each clause is the event of one expiry or answer; the transfers leave RUNNING, the absence that moves no mode is reported and then handed
to the station's channels one by one. -/
theorem pollTimeouts : Obligations.PollTimeouts := by
  intro br station deadline s four l found
  refine ⟨pollCounted_event four found, outputLost_event four found, fun image sent applied currents => lagging_event four found,
    repollDue_event four found, fun where' awaited due present third => ?_, repollMissed_event four found⟩
  obtain ⟨t, ran, ends, waits, repollDue, record⟩ := absent_event four found where' awaited due present third
  obtain ⟨alarms, reports, quiet, link, all, rest⟩ := ends.link
  refine ⟨t, _, alarms, reports.map OutFrame.det, ran, ends.control, ends.exchange, ends.store, waits, record, rfl, rfl, rfl, rfl, fun law room => ?_, link,
    quiet, by simp [OutFrame.isDet], fun role flash => ?_, fun role => ⟨fun c d has at' => ?_, fun flash => ?_⟩⟩
  · have well := faultLaw_iff.mp law
    exact ends.listed ((reporting_absentEffect br station (openEvent s)).faults.well (by exact well)) (by unfold OfConclusion; decide)
      (absentEffect_lists (by exact well) room)
  · have effect : absentEffect br station (openEvent s) = absentNoted br station (openEvent s) := if_neg role
    obtain ⟨-, -, -, detectors, preempt, -, -, -, made⟩ := absentNoted_frame br station (openEvent s)
    obtain ⟨detectors', preempt'⟩ := ends.rest flash
    rw [effect] at detectors' preempt'
    refine ⟨detectors'.trans detectors, preempt'.trans preempt, ?_⟩
    rw [rest flash, effect, made]
    rfl
  · obtain ⟨⟨d', record, call, is⟩, entered⟩ := ends.lost role has at'
    obtain ⟨absent, inFault, raw, pending, resync, okSince, occupied, since, kept⟩ := gone_fields (s.tables.detector c) s.clock.now d
    subst is
    refine ⟨_, record, absent, inFault, raw, pending, resync, okSince, occupied, since, kept, fun out => ?_⟩
    obtain ⟨told, plans⟩ := entered out
    obtain ⟨reported, lastDet⟩ := gone_reported (r := s.tables.detector c) (now := s.clock.now) out
    obtain ⟨occupiedState, vacantState, sameState⟩ := faultState_cases (s.tables.detector c) d
    refine ⟨fun code => reported.trans (occupiedState code), fun code => reported.trans (vacantState code), fun code => reported.trans (sameState code),
      ?_, List.mem_map.mpr ⟨_, all _ told, ?_⟩, plans⟩
    · exact lastDet.trans (by rw [← reported])
    · rw [← reported]
      rfl
  · obtain ⟨others, sorted⟩ := ends.lost_rest role flash
    refine ⟨others, ?_⟩
    rw [rest flash, sorted, List.map_map]
    rfl

end Sys2Proof.Proofs

/-! ### Taking a plan (R94, R96), and the preemption unit through the conclusion of an event in calm -/

namespace Sys2Proof.Machine

open Sys2Proof.Safety

/-! #### The inhibit mask -/

theorem inhibit_setSource (b : Bool) (p : Nat) (s : State) : (setSource b p s).preempt.inhibit = s.preempt.inhibit := (refreshRequest_unit p _).2

theorem inhibit_emptySlot (s : State) : (emptySlot s).preempt.inhibit = s.preempt.inhibit := by
  unfold emptySlot
  split
  · exact inhibit_setSource _ _ _
  · rfl

theorem inhibit_unstack (p : Nat) (outcome : PlanOutcome) (s : State) : (unstack p outcome s).preempt.inhibit = s.preempt.inhibit := by
  unfold unstack
  dsimp only
  rw [(refreshRequest_unit p _).2]
  split
  · exact inhibit_emptySlot _
  · rfl

theorem inhibit_consider (s : State) : (consider s).preempt.inhibit = s.preempt.inhibit := by
  have limit : ∀ p (t : State), (reportLimit p t).preempt.inhibit = t.preempt.inhibit := fun p t => by
    unfold reportLimit
    dsimp only
    split
    · rfl
    · simp [changePlan]
  unfold consider
  dsimp only
  split
  · split
    · split <;> rfl
    · exact eachOf_keeps (fun t => t.preempt.inhibit) reportLimit (fun p t => limit p t) _ s
  · rfl

theorem inhibit_topStep {s t : State} (step : topStep s = some t) : t.preempt.inhibit = s.preempt.inhibit := by
  have ends : ∀ p outcome, (consider (unstack p outcome s)).preempt.inhibit = s.preempt.inhibit := fun p outcome =>
    (inhibit_consider _).trans (inhibit_unstack p outcome s)
  have top : ∀ f, (changeTop f s).preempt.inhibit = s.preempt.inhibit := fun f => by unfold changeTop; split <;> rfl
  unfold topStep at step
  dsimp only at step
  repeat' split at step
  all_goals cases step
  · exact ends _ _
  · exact top _
  · exact top _
  · exact top _
  · exact ends _ _
  · exact ends _ _

theorem inhibit_advance (steps : Nat) (s : State) : (advance steps s).preempt.inhibit = s.preempt.inhibit := by
  induction steps generalizing s with
  | zero => rfl
  | succ n ih =>
    unfold advance
    split
    · next t step => exact (ih t).trans (inhibit_topStep step)
    · rfl

theorem inhibit_considerTaking (s : State) : (considerTaking s).preempt.inhibit = s.preempt.inhibit := by
  unfold considerTaking
  dsimp only
  split
  · exact inhibit_consider s
  · exact (inhibit_advance _ _).trans (inhibit_consider s)

theorem inhibit_settle (rounds : Nat) (s : State) : (settle rounds s).preempt.inhibit = s.preempt.inhibit := by
  induction rounds generalizing s with
  | zero => simp [settle]
  | succ n ih =>
    unfold settle
    dsimp only
    split
    · rw [ih, inhibit_advance]
      simp
    · simp

/-! #### The preemption unit in the conclusion -/

theorem conclude_calm_preempt {s : State} (calm : noLampOut s = true) (mode : s.control.mode ≠ .closing) :
    (conclude s).preempt = (settle roundLimit s).preempt := by
  have open' : closeIfDone (settle roundLimit s) = settle roundLimit s := if_neg fun done => mode (by simpa using done.1)
  rw [conclude_eq, open']
  exact (finish_calm ((noLampOut_of_channels (by simp)).trans calm)).preempt

/-- No plan waits in ENTRY at the top of the stack. -/
def State.steadyTop (s : State) : Prop := ∀ x rest, s.preempt.stack = x :: rest → x.phase ≠ .entry

theorem steadyTop_of_empty {s : State} (stack : s.preempt.stack = []) : s.steadyTop := fun x rest held => by rw [stack] at held; cases held

theorem steadyTop_of_cons {s : State} {x : Stacked} {rest : List Stacked} (stack : s.preempt.stack = x :: rest) (phase : x.phase ≠ .entry) : s.steadyTop :=
  fun y rest' held => by rw [stack] at held; cases held; exact phase

theorem settle_steady {s : State} (top : s.steadyTop) (rounds : Nat) : settle rounds s = evaluateConcerned passLimit (rebuild s) := by
  cases rounds with
  | zero => rfl
  | succ n =>
    have same : (evaluateConcerned passLimit (rebuild s)).preempt = s.preempt := by simp
    unfold settle
    dsimp only
    rw [if_neg]
    unfold State.entryMet
    rw [same]
    split
    · next x rest held => simp [top x rest held]
    · decide

theorem conclude_steady {s : State} (calm : noLampOut s = true) (mode : s.control.mode ≠ .closing) (top : s.steadyTop) :
    (conclude s).preempt = s.preempt := by
  rw [conclude_calm_preempt calm mode, settle_steady top]
  simp

theorem asEvent_preempt {effect answer : State → State} (only : onlyLink answer) (s : State) :
    (asEvent effect answer s).preempt = (conclude (effect (openEvent s))).preempt := by
  have same := only (conclude (effect (openEvent s)))
  exact (congrArg State.preempt same :)

theorem event_steady {effect answer : State → State} {s : State} (only : onlyLink answer) (calm : noLampOut (effect (openEvent s)) = true)
    (mode : (effect (openEvent s)).control.mode ≠ .closing) (top : (effect (openEvent s)).steadyTop) :
    (asEvent effect answer s).preempt = (effect (openEvent s)).preempt :=
  (asEvent_preempt only s).trans (conclude_steady calm mode top)

/-! #### Taking -/

theorem filter_least {l : List Nat} (ascend : l.Pairwise (· < ·)) {f : Nat → Bool} {p : Nat} (member : p ∈ l) (is : f p = true)
    (least : ∀ q ∈ l, q < p → f q = false) : ∃ rest, l.filter f = p :: rest := by
  induction l with
  | nil => cases member
  | cons q l ih =>
    obtain ⟨after, ascend⟩ := List.pairwise_cons.mp ascend
    rcases List.mem_cons.mp member with rfl | later
    · exact ⟨_, List.filter_cons_of_pos is⟩
    · rw [List.filter_cons_of_neg (by simp [least q (List.mem_cons_self ..) (after p later)])]
      exact ih ascend later fun r member below => least r (List.mem_cons_of_mem _ member) below

theorem wantsTaking_eq {s : State} {p : Nat} (first : 1 ≤ p) (last : p ≤ 8) :
    s.wantsTaking p = ((s.plan p).pending && mayTake s s.preempt.inhibit p) := by
  unfold State.wantsTaking mayTake
  cases s.preempt.stack <;> simp [first, last, Bool.and_assoc]

theorem mayTake_range {s : State} {mask : Byte} {p : Nat} (may : mayTake s mask p = true) : 1 ≤ p ∧ p ≤ 8 := by
  unfold mayTake at may
  simp only [Bool.and_eq_true, decide_eq_true_eq] at may
  exact may.1.1.1

/-- The unit takes the plan with the smallest number among those that it may take (R94). -/
theorem consider_takes {s : State} {p : Nat} (admits : s.control.mode.admits = true) (room : s.preempt.stack.length < 4)
    (pending : (s.plan p).pending = true) (may : mayTake s s.preempt.inhibit p = true)
    (least : ∀ q, q < p → (s.plan q).pending = true → mayTake s s.preempt.inhibit q = false) : consider s = takePlan p s := by
  obtain ⟨first, last⟩ := mayTake_range may
  obtain ⟨rest, wanting⟩ := filter_least (f := s.wantsTaking) (l := planNumbers) (numbers_ascend _) (mem_numbers.mpr ⟨first, last⟩)
    (by rw [wantsTaking_eq first last, pending, may]; rfl) (fun q member below => by
      rw [wantsTaking_eq (mem_numbers.mp member).1 (mem_numbers.mp member).2]
      cases held : (s.plan q).pending with
      | true => rw [least q below held]; rfl
      | false => rfl)
  unfold consider
  rw [if_pos admits]
  dsimp only
  rw [if_pos (by exact room), wanting]

/-- The unit takes no plan where none may be taken. -/
theorem consider_none {s : State} (room : s.preempt.stack.length < 4)
    (none' : ∀ q, (s.plan q).pending = true → mayTake s s.preempt.inhibit q = false) : consider s = s := by
  have wanting : planNumbers.filter s.wantsTaking = [] := List.filter_eq_nil_iff.mpr fun q member => by
    rw [wantsTaking_eq (mem_numbers.mp member).1 (mem_numbers.mp member).2]
    cases held : (s.plan q).pending with
    | true => rw [none' q held]; decide
    | false => exact Bool.false_ne_true
  unfold consider
  split
  · dsimp only
    rw [if_pos (by exact room), wanting]
  · rfl

theorem takePlan_stack (p : Nat) (s : State) : (takePlan p s).preempt.stack = pushed s p :: s.preempt.stack := rfl

theorem takePlan_plan_same {p : Nat} {s : State} (first : 1 ≤ p) (last : p ≤ s.preempt.plans.length) :
    (takePlan p s).plan p = { s.plan p with pending := false, limitReported := false } := entryD_changeEntry_same first last _ _

theorem takePlan_plan_other {p q : Nat} (other : q ≠ p) (s : State) : (takePlan p s).plan q = s.plan q := entryD_changeEntry_other other _ _

/-- A plan that stays in DELAY makes no step at its taking (R96, R97). -/
theorem topStep_delay {s : State} {x : Stacked} {rest : List Stacked} (stack : s.preempt.stack = x :: rest) (phase : x.phase = .delay)
    (waits : x.delay ≠ some 0) (source : (s.tables.plan x.plan).level = true → (s.plan x.plan).active = true) : topStep s = none := by
  unfold topStep
  rw [stack]
  dsimp only
  rw [phase]
  dsimp only
  rw [if_neg, if_neg waits]
  cases level : (s.tables.plan x.plan).level with
  | true => simp [source level]
  | false => simp

theorem advance_stays {s : State} (step : topStep s = none) (steps : Nat) : advance steps s = s := by
  cases steps with
  | zero => rfl
  | succ n => unfold advance; rw [step]

theorem pushed_delay {s : State} {p : Nat} (delay : (s.tables.plan p).entryDelay ≠ 0) : (pushed s p).delay ≠ some 0 := by
  intro is
  have zero : (s.tables.plan p).entryDelay.toNat * 10 = 0 := by injection is
  exact delay (BitVec.eq_of_toNat_eq (by simpa using zero))

/-- The unit takes a plan that stays in DELAY. -/
theorem considerTaking_delay {s : State} {p : Nat} (admits : s.control.mode.admits = true) (room : s.preempt.stack.length < 4)
    (length : s.preempt.plans.length = 8)
    (pending : (s.plan p).pending = true) (may : mayTake s s.preempt.inhibit p = true)
    (least : ∀ q, q < p → (s.plan q).pending = true → mayTake s s.preempt.inhibit q = false) (delay : (s.tables.plan p).entryDelay ≠ 0)
    (source : (s.tables.plan p).level = true → (s.plan p).active = true) : considerTaking s = takePlan p s := by
  obtain ⟨first, last⟩ := mayTake_range may
  have stays : topStep (takePlan p s) = none := by
    refine topStep_delay (takePlan_stack p s) rfl (pushed_delay delay) fun level => ?_
    show ((takePlan p s).plan p).active = true
    rw [takePlan_plan_same first (by omega)]
    exact source level
  unfold considerTaking
  dsimp only
  rw [consider_takes admits room pending may least, advance_stays stays, ite_self]

/-! #### The acceptance of an image in RUNNING (R70) -/

theorem reportedOnly_considerTaking (s : State) : reportedOnly s (considerTaking s) :=
  reportedOnly_of_reporting (reporting_considerTaking (K := fun _ _ => True) (fun _ _ => trivial))

/-- What the acceptance leaves, and the plan that a changed mask lets the unit take. -/
theorem acceptImage_running_parts {chain next : Half} {inhibit : Byte} {targets : BitVec 48} {s : State} (mode : s.control.mode = .running) :
    ((acceptImage chain next inhibit targets s).pending = s.pending ∧ (acceptImage chain next inhibit targets s).clock = s.clock
        ∧ (acceptImage chain next inhibit targets s).exchange = (keepImage chain next inhibit targets s).exchange
        ∧ (acceptImage chain next inhibit targets s).control = s.control ∧ (acceptImage chain next inhibit targets s).store = s.store
        ∧ (acceptImage chain next inhibit targets s).prover = s.prover)
      ∧ (acceptImage chain next inhibit targets s).preempt.inhibit = inhibit
      ∧ reportedOnly s (acceptImage chain next inhibit targets s)
      ∧ (inhibit ≠ s.preempt.inhibit → s.preempt.stack.length < 4 → s.preempt.plans.length = 8 →
        ∀ {p : Nat}, (s.plan p).pending = true → mayTake s inhibit p = true →
          (∀ q, q < p → (s.plan q).pending = true → mayTake s inhibit q = false) → (s.tables.plan p).entryDelay ≠ 0 →
          ((s.tables.plan p).level = true → (s.plan p).active = true) →
          acceptImage chain next inhibit targets s = takePlan p (keepImage chain next inhibit targets s)) := by
  have kept : reportedOnly s (keepImage chain next inhibit targets s) := reportedOnly_of_link rfl
  rw [acceptImage_running mode]
  split
  · next same => exact ⟨⟨rfl, rfl, rfl, rfl, rfl, rfl⟩, rfl, kept, fun changed => absurd same changed⟩
  · refine ⟨⟨by simp, by simp, by simp, by simp, by simp, by simp⟩, inhibit_considerTaking _,
      reportedOnly_trans kept (reportedOnly_considerTaking _), fun changed room length p pending may least delay source => ?_⟩
    exact considerTaking_delay (by show s.control.mode.admits = true; rw [mode]; rfl) room length pending may least delay source

end Sys2Proof.Machine

namespace Sys2Proof.Proofs

open Sys2Proof Sys2Proof.Machine Sys2Proof.Safety

/-- Settles O23: the acceptance keeps the image and may make the unit consider taking; a plan that is taken into DELAY stays there at the event. -/
theorem imageAcceptedInRunning : Obligations.ImageAcceptedInRunning := by
  intro chain next inhibit targets s running hears expected other defined compatible
  obtain ⟨up, mode, calm⟩ := runningCalm_iff.mp running
  have ran := exec_img_accepted up hears (inhibit := inhibit) (imageResult_ok (by rw [mode]; rfl) expected other defined compatible)
  obtain ⟨⟨pending, clock, exchange, control, store, prover⟩, own, told, taken⟩ :=
    acceptImage_running_parts (chain := chain) (next := next) (inhibit := inhibit) (targets := targets) (s := openEvent s) mode
  have dark : noLampOut (acceptImage chain next inhibit targets (openEvent s)) = true := (noLampOut_of_channels (congrArg Prover.channels prover)).trans calm
  have open' : (acceptImage chain next inhibit targets (openEvent s)).control.mode ≠ .closing := by
    rw [control]; show s.control.mode ≠ .closing; rw [mode]; decide
  have frame := asEvent_calm (effect := acceptImage chain next inhibit targets) (echoAnswer_onlyLink .ok) dark open'
  have answer := replied_of_answered (imageEffect_answered (s := s) told .ok)
  have settled := (asEvent_preempt (effect := acceptImage chain next inhibit targets) (echoAnswer_onlyLink .ok) s).trans (conclude_calm_preempt dark open')
  have stays := event_steady (effect := acceptImage chain next inhibit targets) (s := s) (echoAnswer_onlyLink .ok) dark open'
  have mask := inhibit_settle roundLimit (acceptImage chain next inhibit targets (openEvent s))
  generalize asEvent _ _ s = t at *
  generalize acceptImage chain next inhibit targets (openEvent s) = u at *
  obtain ⟨pending', clock', event, exchange', control', store'⟩ := frame
  refine ⟨t, _, ran, ⟨pending'.trans pending, clock'.trans clock, event, exchange'.trans (exchange.trans ?_), control'.trans control, store'.trans store⟩,
    by rw [settled, mask, own], answer, rfl, fun changed room length p pending may least delay source => ?_⟩
  · show ({ s.exchange with
        accepted := _, expectedChain := _, imagesAccepted := _
        supervision := if s.control.mode = .closing then s.exchange.supervision else _ } : Exchange) = _
    rw [if_neg (by rw [mode]; decide)]
    rfl
  · obtain rfl := taken changed room length pending may least delay source
    have preempt := stays (steadyTop_of_cons (takePlan_stack p _) nofun)
    obtain ⟨first, last⟩ := mayTake_range may
    have idle := takePlan_plan_same (p := p) (s := keepImage chain next inhibit targets (openEvent s)) first (by show p ≤ s.preempt.plans.length; omega)
    exact ⟨by rw [preempt]; rfl, by rw [plan_congr preempt, idle]⟩

end Sys2Proof.Proofs

/-! ### Targets that are the effective ones: the event rebuilds nothing and moves no group (R7, R20) -/

namespace Sys2Proof.Machine

open Sys2Proof.Safety

/-- Where the seventh law holds in RUNNING or WARNING, every live group has the target and the source of the effective requested image. -/
theorem aimed_of_effectiveLaw {s : State} (admits : s.control.mode.admits = true) (law : effectiveLaw s) : Aimed s := by
  intro g service
  have live := (inService_iff.mp service).2
  obtain ⟨-, stops, goes, images⟩ := law g service
  obtain ⟨stop, dark, go⟩ := images admits
  unfold State.effective
  rw [if_pos admits, overlaid_eq]
  cases forcedStop : stopForced s g with
  | true => rw [if_pos rfl]; exact stops forcedStop
  | false =>
    rw [if_neg (by decide)]
    cases forcedGo : goForced s g with
    | true => rw [if_pos rfl]; exact goes forcedGo
    | false =>
      rw [if_neg (by decide)]
      have free : overlaid s.overlay g = none := overlaid_none_iff.mpr ⟨forcedStop, forcedGo⟩
      dsimp only
      cases target : s.imageTarget g with
      | stop => exact stop (imageAsks_iff.mpr ⟨live, free, target⟩)
      | dark =>
        obtain ⟨permitted, clamped⟩ := dark (imageAsks_iff.mpr ⟨live, free, target⟩)
        dsimp only
        split
        · next may => exact permitted may
        · next may => exact clamped may
      | go =>
        obtain ⟨rival, alone⟩ := go (imageAsks_iff.mpr ⟨live, free, target⟩)
        dsimp only
        split
        · next conflicts => exact rival (any_asksGo_iff.mp conflicts)
        · next none' =>
          refine alone fun i conflict => Bool.eq_false_iff.mpr fun asks => none' (any_asksGo_iff.mpr ⟨i, conflict, asks⟩)

/-! #### Groups without a record -/

theorem setGroup_beyond {s : State} {g : Nat} (beyond : s.engine.groups.length < g) (x : Group) : setGroup g x s = s := by
  have same : changeEntry s.engine.groups g (fun _ => x) = s.engine.groups := by
    unfold changeEntry
    split
    · rfl
    · exact List.modify_eq_self (by omega)
  unfold setGroup
  rw [same]

theorem group_beyond {s : State} {g : Nat} (beyond : s.engine.groups.length < g) : s.group g = Group.reset := by
  unfold State.group entryD entry?
  rw [if_neg (by omega), List.getElem?_eq_none (by omega)]
  rfl

theorem evaluate_beyond {s : State} {g : Nat} (beyond : s.engine.groups.length < g) : evaluate g s = s := by
  have shown : s.shown g = .flash := congrArg Group.shown (group_beyond beyond)
  unfold evaluate
  dsimp only
  rw [if_pos (show (s.judge g).shown = s.shown g by rw [shown]; exact (judge_flash s g).mpr shown), setGroup_beyond beyond, ite_self]

/-- A rebuilding where every live group has its target concerns at most groups without a record. -/
theorem rebuildGroup_aimed {s : State} {g : Nat} (aims : g ≤ s.engine.groups.length → s.aims g) :
    ∃ l, rebuildGroup g s = { s with event.concerned := s.event.concerned ++ l } ∧ ∀ x ∈ l, s.engine.groups.length < x := by
  by_cases inside : g ≤ s.engine.groups.length
  · obtain ⟨target, source⟩ := aims inside
    refine ⟨[], ?_, nofun⟩
    unfold rebuildGroup
    dsimp only
    rw [if_pos ⟨target, source⟩, List.append_nil]
  · refine ⟨if (s.group g).target = (s.effective g).1 ∧ (s.group g).source = (s.effective g).2 then [] else [g], ?_, fun x member => ?_⟩
    · unfold rebuildGroup
      dsimp only
      split
      · rw [List.append_nil]
      · rw [setGroup_beyond (by omega)]
        rfl
    · split at member
      · cases member
      · rw [List.mem_singleton.mp member]
        omega

/-- Every group that is concerned lacks a record. -/
def State.phantoms (s : State) : Prop := ∀ g ∈ s.event.concerned, s.engine.groups.length < g

theorem evaluateConcerned_phantoms {s : State} (phantoms : s.phantoms) :
    evaluateConcerned passLimit s = { s with event.concerned := [] } := by
  have nothing : ∀ (n : Nat) (u : State), u.event.concerned = [] → evaluateConcerned n u = u := fun n u none' => by
    cases n with
    | zero => rfl
    | succ n => unfold evaluateConcerned; rw [none']
  have each : ∀ (l : List Nat) (u : State), (∀ g ∈ l, u.engine.groups.length < g) → eachOf l evaluate u = u := by
    intro l
    induction l with
    | nil => exact fun _ _ => rfl
    | cons g l ih =>
      intro u beyond
      have first := evaluate_beyond (beyond g (List.mem_cons_self ..))
      exact (congrArg (eachOf l evaluate) first).trans (ih u fun x member => beyond x (List.mem_cons_of_mem _ member))
  have passes : passLimit = 99 + 1 := rfl
  rw [passes]
  unfold evaluateConcerned
  split
  · next none' => rw [← none']
  · next groups _ =>
    rw [each _ { s with event.concerned := [] } fun g member => phantoms g ?_]
    · exact nothing 99 _ rfl
    · have named := (List.mem_filter.mp member).2
      exact List.contains_iff_mem.mp named

/-- What an event finds that has moved no group and changed no mode. -/
structure State.Calm (s : State) : Prop where
  aimed : Aimed s
  concerned : s.event.concerned = []
  entered : s.event.enteredGo = []
  mode : s.event.modeChanged = false

theorem rebuild_aimed {s : State} (h : s.Calm) : (rebuild s).phantoms ∧ ∃ l, rebuild s = { s with event.concerned := l } := by
  have live : ∀ g ∈ s.tables.liveGroups, s.tables.live g = true ∧ 1 ≤ g := fun g member => by
    have range : 1 ≤ g ∧ g ≤ s.tables.inUse := by simpa [TableSet.liveGroups] using member
    exact ⟨live_iff.mpr range, range.1⟩
  have each : ∀ (l : List Nat), (∀ g ∈ l, s.tables.live g = true ∧ 1 ≤ g) → ∀ m : List Nat, (∀ g ∈ m, s.engine.groups.length < g) →
      ∃ m', eachOf l rebuildGroup { s with event.concerned := m } = { s with event.concerned := m' } ∧ ∀ g ∈ m', s.engine.groups.length < g := by
    intro l
    induction l with
    | nil => exact fun _ m beyond => ⟨m, rfl, beyond⟩
    | cons g l ih =>
      intro lives m beyond
      obtain ⟨live, first⟩ := lives g (List.mem_cons_self ..)
      obtain ⟨more, made, beyond'⟩ := rebuildGroup_aimed (s := { s with event.concerned := m }) (g := g) fun inside =>
        h.aimed g (inService_iff.mpr ⟨⟨first, inside⟩, live⟩)
      obtain ⟨m', rest, all⟩ := ih (fun x member => lives x (List.mem_cons_of_mem _ member)) (m ++ more) fun x member => by
        rcases List.mem_append.mp member with old | new
        · exact beyond x old
        · exact beyond' x new
      exact ⟨m', (congrArg (eachOf l rebuildGroup) made).trans rest, all⟩
  obtain ⟨m', made, beyond⟩ := each s.tables.liveGroups live s.event.concerned (by rw [h.concerned]; nofun)
  have same : rebuild s = { s with event.concerned := m' } := by
    have rebuilt : eachOf s.tables.liveGroups rebuildGroup s = { s with event.concerned := m' } := made
    unfold rebuild
    dsimp only
    rw [rebuilt, if_neg (by rw [h.mode]; decide)]
  exact ⟨by rw [same]; exact beyond, m', same⟩

/-- Settling then changes nothing. -/
theorem settle_calm {s : State} (h : s.Calm) (rounds : Nat) : settle rounds s = s := by
  obtain ⟨phantoms, l, same⟩ := rebuild_aimed h
  have evaluated : evaluateConcerned passLimit (rebuild s) = s := by
    rw [evaluateConcerned_phantoms phantoms, same, ← h.concerned]
  cases rounds with
  | zero => exact evaluated
  | succ n =>
    unfold settle
    dsimp only
    rw [evaluated, if_neg]
    unfold State.entryMet
    rw [h.entered]
    split <;> simp

end Sys2Proof.Machine

/-! ### Remote calls (R90, R91) -/

namespace Sys2Proof.Machine

open Sys2Proof.Safety

/-! #### One source -/

/-- The record of a plan whose source has been set, and whose request follows (R89). -/
def PlanState.sourced (b follows : Bool) (x : PlanState) : PlanState :=
  if follows then
    { x with active := b, spent := x.spent && b, pending := b && !(x.spent && b), limitReported := x.limitReported && (b && !(x.spent && b)) }
  else { x with active := b, spent := x.spent && b }

/-- A LEVEL request follows its source while the plan is enabled and not stacked (R89). -/
def State.follows (s : State) (p : Nat) : Bool := (s.tables.plan p).on && (s.tables.plan p).level && !s.stacked p

theorem setSource_plan_same {b : Bool} {p : Nat} {s : State} (first : 1 ≤ p) (last : p ≤ s.preempt.plans.length) :
    (setSource b p s).plan p = (s.plan p).sourced b (s.follows p) := by
  have set : (changePlan p (fun x => { x with active := b, spent := x.spent && b }) s).plan p
      = { s.plan p with active := b, spent := (s.plan p).spent && b } := entryD_changeEntry_same first last _ _
  have last' : p ≤ (changePlan p (fun x => { x with active := b, spent := x.spent && b }) s).preempt.plans.length := by
    rw [length_changePlan]; exact last
  have again : ∀ f, (changePlan p f (changePlan p (fun x => { x with active := b, spent := x.spent && b }) s)).plan p
      = f { s.plan p with active := b, spent := (s.plan p).spent && b } := fun f => (entryD_changeEntry_same first last' f _).trans (congrArg f set)
  unfold setSource refreshRequest PlanState.sourced
  dsimp only
  rw [show (changePlan p (fun x => { x with active := b, spent := x.spent && b }) s).tables = s.tables from rfl,
    show (changePlan p (fun x => { x with active := b, spent := x.spent && b }) s).stacked p = s.stacked p from rfl]
  unfold State.follows
  cases held : (s.tables.plan p).on && (s.tables.plan p).level && !s.stacked p with
  | true =>
    rw [if_pos rfl, if_pos rfl, again]
  | false =>
    rw [if_neg (by decide), if_neg (by decide), set]

theorem refreshRequest_plan_other {p q : Nat} (other : q ≠ p) (s : State) : (refreshRequest p s).plan q = s.plan q := by
  unfold refreshRequest
  dsimp only
  split
  · exact entryD_changeEntry_other other _ _
  · rfl

theorem setSource_plan_other {b : Bool} {p q : Nat} (other : q ≠ p) (s : State) : (setSource b p s).plan q = s.plan q :=
  (refreshRequest_plan_other other _).trans (entryD_changeEntry_other other _ _)

theorem setSource_slot (b : Bool) (p : Nat) (s : State) : (setSource b p s).preempt.slot = s.preempt.slot := (refreshRequest_unit p _).1

/-! #### The outcome of a call and of a cancel -/

theorem calResult_ok {plan request : Byte} {s : State} (permit : s.control.mode.permit = true) (first : 1 ≤ plan.toNat) (last : plan.toNat ≤ 8)
    (code : request.toNat ≤ 1) (on : (s.tables.plan plan.toNat).on = true) (remote : (s.tables.plan plan.toNat).remote = true) :
    calResult plan request s = .ok := by
  have number : numbered plan.toNat Config.plans = true := by simp [numbered, Config.plans, first, last]
  unfold calResult
  dsimp only
  rw [permit, number, on, remote, if_neg (by decide), if_neg (by rintro (no | more); exact nomatch no; omega), if_neg (by decide)]

theorem exec_calCall {plan : Byte} {s : State} (up : s.up = true) (hears : s.hears = true) (ok : calResult plan 0 s = .ok) :
    exec (.calCall plan) s = .next (asEvent (callPlan plan.toNat s).2 (reply 0x11 (callPlan plan.toNat s).1 []) s) := by
  show execCalCall plan s = _
  unfold execCalCall answeredOutcome
  rw [frameOutcome_heard up hears]
  dsimp only
  rw [ok, if_pos rfl]
  rfl

theorem exec_calCancel {plan request : Byte} {s : State} (up : s.up = true) (hears : s.hears = true) (ok : calResult plan request s = .ok) :
    exec (.calCancel plan request) s = .next (asEvent (cancelPlan plan.toNat) (reply 0x11 .ok []) s) := by
  show execCalCancel plan request s = _
  unfold execCalCancel answeredOutcome
  rw [frameOutcome_heard up hears]
  dsimp only
  rw [ok, if_pos rfl]
  rfl

theorem exec_calCall_empty {plan : Byte} {s : State} (up : s.up = true) (hears : s.hears = true) (ok : calResult plan 0 s = .ok)
    (empty : s.preempt.slot = none) : exec (.calCall plan) s = .next (asEvent (fillSlot plan.toNat) (reply 0x11 .ok []) s) := by
  have handled : callPlan plan.toNat s = (.ok, fillSlot plan.toNat) := by unfold callPlan; rw [empty]
  rw [exec_calCall up hears ok, handled]

/-- What the taking of the slot makes of the plan (R90). -/
def slotTaken (p : Nat) (s : State) : State := setSource true p { s with preempt.slot := some { plan := p, called := true } }

theorem sourceActive_unedged (p : Nat) (s : State) : sourceActive false p s = setSource true p s := rfl

theorem fillSlot_unadmitted {p : Nat} {s : State} (mode : s.control.mode.admits = false) : fillSlot p s = slotTaken p s := by
  unfold fillSlot
  rw [sourcesActive_rest false [p] (by exact mode)]
  rfl

theorem slotTaken_plan_same {p : Nat} {s : State} (first : 1 ≤ p) (last : p ≤ s.preempt.plans.length) :
    (slotTaken p s).plan p = (s.plan p).sourced true (s.follows p) := setSource_plan_same first last

theorem slotTaken_plan_other {p q : Nat} (other : q ≠ p) (s : State) : (slotTaken p s).plan q = s.plan q := setSource_plan_other other _

theorem slotTaken_unit (p : Nat) (s : State) :
    (slotTaken p s).preempt.slot = some { plan := p, called := true } ∧ (slotTaken p s).preempt.stack = s.preempt.stack
      ∧ (slotTaken p s).preempt.inhibit = s.preempt.inhibit ∧ (slotTaken p s).preempt.plans.length = s.preempt.plans.length :=
  ⟨setSource_slot _ _ _, setSource_stack _ _ _, inhibit_setSource _ _ _, length_setSource _ _ _⟩

theorem slotTaken_frame (p : Nat) (s : State) :
    slotTaken p s = { s with preempt := (slotTaken p s).preempt } := by
  obtain ⟨q, same⟩ := plansOnly_setSource true p { s with preempt.slot := some { plan := p, called := true } }
  unfold slotTaken
  rw [same]

end Sys2Proof.Machine

/-! ### A cancel that empties the slot, whatever its event brings (R91) -/

namespace Sys2Proof.Machine

open Sys2Proof.Safety

variable {p : Nat} {off level : Bool}

/-! #### An inactive source through a change of mode -/

theorem Damped.clearStack {s : State} (h : Damped p off level s) : Damped p off level (clearStack s) :=
  eachOf_holds (Damped p off level) (fun q t => Machine.unstack q .cleared t) (fun q _ ht => ht.unstack q .cleared) _ s h

theorem Damped.plansFlash {s : State} (h : Damped p off level s) : Damped p off level (plansFlash s) := by
  unfold Machine.plansFlash
  refine eachOf_holds (Damped p off level) _ (fun q t ht => ?_) planNumbers _ (h.clearStack.emptySlot.congr rfl rfl)
  exact ht.changePlan (fun _ off => ht.active off) (fun _ level held => by simp [ht.pending level held])

theorem Damped.leavePermit {s : State} (h : Damped p off level s) (new : Mode) (cause : Cause) (record : Option (FaultKind × Option Nat)) :
    Damped p off level (leavePermit new cause record s) := by
  have left : ∀ u : State, u.preempt = s.preempt → Damped p off level (Machine.plansFlash u) := fun u same =>
    (h.congr (by rw [same]) (by rw [same])).plansFlash
  unfold Machine.leavePermit
  refine (left (exchangeFlash (showFlash { setMode new cause s with
    control.closeTarget := none, control.closeCause := none, control.startTimer := none, control.firstImage := none })) (by simp)).congr ?_ ?_ <;> simp

theorem Damped.enterClosing {s : State} (h : Damped p off level s) (target : CloseTarget) (cause : CloseCause) :
    Damped p off level (enterClosing target cause s) := by
  have left : ∀ u : State, u.preempt = s.preempt → Damped p off level (plansClosing u) := fun u same =>
    (h.congr (t := u) (by rw [same]) (by rw [same])).clearStack
  unfold Machine.enterClosing
  exact (left (endLapse { setMode .closing cause.cause s with
    control.closeTarget := some target, control.closeCause := some cause, control.startTimer := none, control.firstImage := none
    exchange.supervision := none }) (by simp)).congr (by simp) (by simp)

theorem Damped.takeAction {s : State} (h : Damped p off level s) (r : Raise) (close : CloseTarget) : Damped p off level (takeAction r close s) := by
  have held : ∀ control, Damped p off level { s with control := control } := fun _ => h.congr rfl rfl
  have left : ∀ new cause record, Damped p off level (Machine.leavePermit new cause record s) := h.leavePermit
  have closing : ∀ target cause, Damped p off level (Machine.enterClosing target cause s) := h.enterClosing
  have flashed : ∀ new cause record, Damped p off level (changeFlashMode new cause record s) := fun _ _ _ => h.congr (by simp) (by simp)
  unfold Machine.takeAction
  repeat' split
  all_goals simp only [h, held, left, closing, flashed]

theorem Damped.handRed {s : State} (h : Damped p off level s) (change : Nat × Bool) : Damped p off level (handRed change s) := by
  have ended : ∀ u : State, Damped p off level u → Damped p off level (endRedFail change.1 u) := fun u hu => hu.congr (by simp) (by simp)
  have raised : Damped p off level (raise (redFailRaise s.tables change.1) (setRedFail true change.1 s)) :=
    Damped.takeAction (h.congr (by simp) (by simp)) _ _
  unfold Machine.handRed
  dsimp only
  split
  · split
    · exact raised
    · exact ended _ raised
  · exact ended _ h

/-- Whatever the conclusion of an event brings, an inactive source stays inactive. -/
theorem Damped.concludes {s : State} (h : Damped p off level s) : Damped p off level (Machine.conclude s) := by
  have settled := h.settle roundLimit
  have closed : Damped p off level (closeIfDone (Machine.settle roundLimit s)) := by
    unfold closeIfDone
    split
    · exact settled.leavePermit _ _ _
    · exact settled
  have noticed : Damped p off level (noticeGo (closeIfDone (Machine.settle roundLimit s))) := closed.congr (by simp) (by simp)
  have judged : Damped p off level (evaluateShown (noticeGo (closeIfDone (Machine.settle roundLimit s)))) := by
    unfold evaluateShown
    split
    · exact noticed
    · exact eachOf_holds (Damped p off level) Machine.handRed (fun change t ht => ht.handRed change) _ _ noticed
  exact judged.congr (by simp [Machine.conclude]) (by simp [Machine.conclude])

/-- Nothing but a call fills the slot (R90). -/
theorem conclude_slot {s : State} (empty : s.preempt.slot = none) : (conclude s).preempt.slot = none := by
  have kept := (steady_beforeNumber (a := ⟨false, false, false, false, false, false, false, false, false, false, false, false, false⟩) s).preempt.2.2
  have same : (conclude s).preempt = (evaluateShown (noticeGo (closeIfDone (settle roundLimit s)))).preempt := by simp [conclude]
  rw [same]
  rcases kept with no | stays | none'
  · cases no
  · exact stays.trans empty
  · exact none'

/-- A cancel of a call whose plan is not stacked. -/
theorem emptySlot_event {p : Nat} {called : Bool} {s : State} (slot : s.preempt.slot = some { plan := p, called := called }) (free : s.stacked p = false)
    (first : 1 ≤ p) (last : p ≤ s.preempt.plans.length) :
    (asEvent (cancelPlan p) (reply 0x11 .ok []) s).preempt.slot = none
      ∧ ((asEvent (cancelPlan p) (reply 0x11 .ok []) s).plan p).active = false
      ∧ replied s (asEvent (cancelPlan p) (reply 0x11 .ok []) s) (.rpl 0x11 .ok []) := by
  have own : cancelPlan p (openEvent s) = setSource false p { openEvent s with preempt.slot := none } := by
    unfold cancelPlan
    rw [show (openEvent s).preempt.slot = some { plan := p, called := called } from slot]
    dsimp only
    rw [if_neg (by simp), show (openEvent s).stacked p = false from free, if_neg (by decide)]
    unfold emptySlot
    rw [show (openEvent s).preempt.slot = some { plan := p, called := called } from slot]
  have told : reportedOnly (openEvent s) (cancelPlan p (openEvent s)) := by
    rw [own]
    exact reportedOnly_of_reporting (K := fun _ _ => True)
      (.trans (t := { openEvent s with preempt.slot := none }) { } (reporting_plansOnly (plansOnly_setSource false p _)))
  have empty : (cancelPlan p (openEvent s)).preempt.slot = none := by rw [own, setSource_slot]
  have damped : Damped p true false (cancelPlan p (openEvent s)) := by
    rw [own]
    exact ⟨by rw [length_setSource]; exact last, fun _ => active_setSource_same false first last, nofun⟩
  have preempt := asEvent_preempt (effect := cancelPlan p) (reply_onlyLink 0x11 .ok []) s
  have emptied := conclude_slot empty
  have ended := damped.concludes.active rfl
  have answer := replied_asEvent told 0x11 .ok []
  generalize conclude _ = v at *
  generalize asEvent _ _ s = t at *
  exact ⟨by rw [preempt]; exact emptied, by rw [plan_congr preempt]; exact ended, answer⟩

end Sys2Proof.Machine

/-! ### Calls and cancels in RUNNING (R90, R91, R94, R99, R101) -/

namespace Sys2Proof.Machine

open Sys2Proof.Safety

/-! #### What the taking of a plan reads -/

theorem mayTake_congr {s t : State} (active : t.store.active = s.store.active) (stack : t.preempt.stack = s.preempt.stack) (mask : Byte) (p : Nat) :
    mayTake t mask p = mayTake s mask p := by
  unfold mayTake
  rw [tables_congr active, stack]

theorem pushed_congr {s t : State} (active : t.store.active = s.store.active) (p : Nat) : pushed t p = pushed s p := by
  unfold pushed
  rw [tables_congr active]

theorem consider_nothing {s : State} (none' : ∀ q, (s.plan q).pending = true → mayTake s s.preempt.inhibit q = false) : consider s = s := by
  have wanting : planNumbers.filter s.wantsTaking = [] := List.filter_eq_nil_iff.mpr fun q member => by
    rw [wantsTaking_eq (mem_numbers.mp member).1 (mem_numbers.mp member).2]
    cases held : (s.plan q).pending with
    | true => rw [none' q held]; decide
    | false => exact Bool.false_ne_true
  unfold consider
  dsimp only
  rw [wanting]
  repeat' split
  · next impossible => cases impossible
  · rfl
  · rfl
  · rfl

/-- A top plan that has no step to make (R97, R99). -/
def State.restsOn (s : State) (y : Stacked) : Prop :=
  ((s.tables.plan y.plan).level = true → (s.plan y.plan).active = true)
    ∧ (y.phase = .hold ∧ (s.tables.plan y.plan).level = true ∨ y.phase = .delay ∧ y.delay ≠ some 0 ∨ y.phase = .dwell ∧ y.dwell ≠ some 0)

theorem topStep_rests {s : State} {y : Stacked} {below : List Stacked} (stack : s.preempt.stack = y :: below) (rests : s.restsOn y) : topStep s = none := by
  obtain ⟨source, hold | delay | dwell⟩ := rests
  · unfold topStep
    rw [stack]
    dsimp only
    rw [hold.1]
    dsimp only
    rw [hold.2, source hold.2]
    rfl
  · exact topStep_delay stack delay.1 delay.2 source
  · unfold topStep
    rw [stack]
    dsimp only
    rw [dwell.1]
    dsimp only
    rw [if_neg dwell.2]

/-! #### A plan that has ended -/

/-- Plan `p` has ended: it is off the stack, its source is inactive, and it is not PENDING. -/
structure Ended (p : Nat) (s : State) : Prop where
  damped : Damped p true true s
  out : s.stacked p = false
  outcome : (s.plan p).outcome = .ended

variable {p : Nat}

theorem Ended.congr {s t : State} (h : Ended p s) (plans : t.preempt.plans = s.preempt.plans) (stack : t.preempt.stack = s.preempt.stack) : Ended p t :=
  ⟨h.damped.congr plans stack, by have out := h.out; unfold State.stacked at out ⊢; rwa [stack],
    by have outcome := h.outcome; unfold State.plan at outcome ⊢; rwa [plans]⟩

theorem outcome_changePlan {q : Nat} {f : PlanState → PlanState} (same : ∀ x, (f x).outcome = x.outcome) (s : State) :
    ((changePlan q f s).plan p).outcome = (s.plan p).outcome := by
  rcases entryD_changeEntry s.preempt.plans q p f PlanState.reset with kept | ⟨-, changed⟩
  · exact congrArg PlanState.outcome kept
  · exact (congrArg PlanState.outcome changed).trans (same _)

theorem outcome_refreshRequest (q : Nat) (s : State) : ((refreshRequest q s).plan p).outcome = (s.plan p).outcome := by
  unfold refreshRequest
  dsimp only
  split
  · exact outcome_changePlan (by exact fun _ => rfl) s
  · rfl

theorem outcome_setSource (b : Bool) (q : Nat) (s : State) : ((setSource b q s).plan p).outcome = (s.plan p).outcome :=
  (outcome_refreshRequest q _).trans (outcome_changePlan (by exact fun _ => rfl) s)

theorem outcome_emptySlot (s : State) : ((emptySlot s).plan p).outcome = (s.plan p).outcome := by
  unfold emptySlot
  split
  · exact outcome_setSource _ _ _
  · rfl

theorem Ended.unstack {s : State} (h : Ended p s) {q : Nat} (other : q ≠ p) (outcome : PlanOutcome) : Ended p (unstack q outcome s) := by
  refine ⟨h.damped.unstack q outcome, ?_, ?_⟩
  · have out := h.out
    unfold State.stacked at out ⊢
    rw [unstack_stack, List.any_eq_false] at *
    exact fun x member => out x (List.mem_filter.mp member).1
  · have marked : ((changePlan q (fun x => { x with outcome := outcome })
        { s with preempt.stack := s.preempt.stack.filter (fun x => decide (x.plan ≠ q)) }).plan p).outcome = .ended :=
      (congrArg PlanState.outcome (entryD_changeEntry_other (Ne.symm other) _ _)).trans h.outcome
    unfold Machine.unstack
    dsimp only
    rw [outcome_refreshRequest]
    split
    · rw [outcome_emptySlot]
      exact marked
    · exact marked

theorem Ended.takes {s : State} (h : Ended p s) {q : Nat} (pending : (s.plan q).pending = true) : Ended p (takePlan q s) := by
  have other : q ≠ p := fun same => by
    rw [same, h.damped.pending rfl (.inr rfl)] at pending
    cases pending
  refine ⟨h.damped.takePlan q pending, ?_, ?_⟩
  · have out := h.out
    unfold State.stacked at out ⊢
    rw [takePlan_stack, List.any_cons, out, Bool.or_false]
    exact decide_eq_false other
  · rw [takePlan_plan_other (Ne.symm other)]
    exact h.outcome

theorem Ended.consider {s : State} (h : Ended p s) : Ended p (consider s) := by
  have limit : ∀ q (t : State), Ended p t → Ended p (reportLimit q t) := fun q t ht => by
    refine ⟨ht.damped.reportLimit q, ?_, ?_⟩
    · have out := ht.out
      unfold State.stacked at out ⊢
      rw [show (reportLimit q t).preempt.stack = t.preempt.stack by unfold reportLimit; dsimp only; split <;> simp]
      exact out
    · unfold reportLimit
      dsimp only
      split
      · exact ht.outcome
      · rw [plan_congr (s := changePlan q (fun x => { x with limitReported := true }) { t with preempt.nestingLimit := true }) (by simp)]
        exact (outcome_changePlan (by exact fun _ => rfl) _).trans ht.outcome
  unfold Machine.consider
  dsimp only
  split
  · split
    · split
      · next q rest wanting =>
        have wants : q ∈ planNumbers.filter s.wantsTaking := wanting ▸ List.mem_cons_self ..
        have pending := (List.mem_filter.mp wants).2
        unfold State.wantsTaking at pending
        simp only [Bool.and_eq_true] at pending
        exact h.takes pending.1.1.1
      · exact h
    · exact eachOf_holds (Ended p) reportLimit limit _ s h
  · exact h

theorem Ended.topStep {s t : State} (h : Ended p s) (step : topStep s = some t) : Ended p t := by
  have damped := h.damped.topStep step
  have top : ∀ f : Stacked → Stacked, (∀ x, (f x).plan = x.plan) → Ended p (changeTop f s) := fun f same => by
    have plan : (changeTop f s).plan p = s.plan p := by unfold State.plan changeTop; split <;> rfl
    have stacked : (changeTop f s).stacked p = s.stacked p := by
      unfold changeTop
      split
      · next x rest was => unfold State.stacked; rw [was]; simp [same]
      · rfl
    exact ⟨⟨by unfold changeTop; split <;> exact h.damped.inside, fun is => by rw [plan]; exact h.damped.active is,
      fun is _ => by rw [plan]; exact h.damped.pending is (.inr rfl)⟩, by rw [stacked]; exact h.out, by rw [plan]; exact h.outcome⟩
  have other : ∀ x rest, s.preempt.stack = x :: rest → x.plan ≠ p := fun x rest was same => by
    have out := h.out
    unfold State.stacked at out
    rw [was, List.any_cons, decide_eq_true same] at out
    cases out
  unfold Machine.topStep at step
  split at step
  · cases step
  · next x rest was =>
    have apart := other x rest was
    dsimp only at step
    repeat' split at step
    all_goals cases step
    · exact (h.unstack apart _).consider
    · exact top _ (by exact fun _ => rfl)
    · exact top _ (by exact fun _ => rfl)
    · exact top _ (by exact fun _ => rfl)
    · exact (h.unstack apart _).consider
    · exact (h.unstack apart _).consider

theorem Ended.advance {s : State} (h : Ended p s) (steps : Nat) : Ended p (advance steps s) := by
  induction steps generalizing s with
  | zero => exact h
  | succ n ih =>
    unfold Machine.advance
    split
    · next t step => exact ih (h.topStep step)
    · exact h

theorem Ended.settle {s : State} (h : Ended p s) (rounds : Nat) : Ended p (settle rounds s) := by
  have evaluated : ∀ u : State, Ended p u → Ended p (evaluateConcerned passLimit (rebuild u)) := fun u hu => hu.congr (by simp) (by simp)
  induction rounds generalizing s with
  | zero => exact evaluated s h
  | succ n ih =>
    unfold Machine.settle
    dsimp only
    split
    · exact ih ((evaluated s h).advance _)
    · exact evaluated s h

end Sys2Proof.Machine

/-! ### A remote call and its cancel (R90, R91, R99, R101) -/

namespace Sys2Proof.Machine

open Sys2Proof.Safety

/-- What an effect on the preemption unit leaves of the blocks that the calm frame names. -/
structure UnitOnly (s u : State) : Prop where
  pending : u.pending = s.pending := by simp
  clock : u.clock = s.clock := by simp
  exchange : u.exchange = s.exchange := by simp
  control : u.control = s.control := by simp
  store : u.store = s.store := by simp
  prover : u.prover = s.prover := by simp

theorem UnitOnly.trans {s t u : State} (h : UnitOnly s t) (k : UnitOnly t u) : UnitOnly s u :=
  ⟨k.pending.trans h.pending, k.clock.trans h.clock, k.exchange.trans h.exchange, k.control.trans h.control, k.store.trans h.store, k.prover.trans h.prover⟩

/-- The event of a call or a cancel, in calm. -/
theorem UnitOnly.event {effect : State → State} {s : State} (own : UnitOnly (openEvent s) (effect (openEvent s)))
    (told : reportedOnly (openEvent s) (effect (openEvent s))) (calm : noLampOut s = true) (mode : s.control.mode ≠ .closing) (result : Result) :
    calmFrame s (asEvent effect (reply 0x11 result []) s)
      ∧ (asEvent effect (reply 0x11 result []) s).preempt = (settle roundLimit (effect (openEvent s))).preempt
      ∧ replied s (asEvent effect (reply 0x11 result []) s) (.rpl 0x11 result []) := by
  have dark : noLampOut (effect (openEvent s)) = true := (noLampOut_of_channels (congrArg Prover.channels own.prover)).trans calm
  have open' : (effect (openEvent s)).control.mode ≠ .closing := by rw [own.control]; exact mode
  obtain ⟨pending, clock, event, exchange, control, store⟩ := asEvent_calm (effect := effect) (reply_onlyLink 0x11 result []) dark open'
  have settled := (asEvent_preempt (effect := effect) (reply_onlyLink 0x11 result []) s).trans (conclude_calm_preempt dark open')
  exact ⟨⟨pending.trans own.pending, clock.trans own.clock, event, exchange.trans own.exchange, control.trans own.control, store.trans own.store⟩,
    settled, replied_asEvent told 0x11 result []⟩

theorem settle_steady_preempt {s : State} (top : s.steadyTop) : (settle roundLimit s).preempt = s.preempt := by
  rw [settle_steady top]
  simp

theorem unitOnly_slotTaken (p : Nat) (s : State) : UnitOnly s (slotTaken p s) := by
  rw [slotTaken_frame]
  exact {}

theorem reportedOnly_slotTaken (p : Nat) (s : State) : reportedOnly s (slotTaken p s) := by
  rw [slotTaken_frame]
  exact reportedOnly_of_link rfl

/-! #### The plan that holds the slot -/

/-- The slot is marked CANCELLED, and the source of its plan is inactive (R91). -/
def cancelled (p : Nat) (s : State) : State := setSource false p { s with preempt.slot := some { plan := p, called := false } }

theorem cancelPlan_stacked {p : Nat} {called : Bool} {s : State} (slot : s.preempt.slot = some { plan := p, called := called }) (stacked : s.stacked p = true) :
    cancelPlan p s = if (cancelled p s).topAmong [p] then advance stepLimit (cancelled p s) else cancelled p s := by
  unfold cancelPlan
  rw [slot]
  dsimp only
  rw [if_neg (by simp), stacked]
  rfl

theorem cancelled_unit (p : Nat) (s : State) : UnitOnly s (cancelled p s) ∧ reportedOnly s (cancelled p s) := by
  obtain ⟨q, same⟩ := plansOnly_setSource false p { s with preempt.slot := some { plan := p, called := false } }
  unfold cancelled
  rw [same]
  exact ⟨{}, reportedOnly_of_link rfl⟩

theorem stacked_top {s : State} {x : Stacked} {rest : List Stacked} (stack : s.preempt.stack = x :: rest) : s.stacked x.plan = true := by
  unfold State.stacked
  rw [stack]
  simp

theorem cancelPlan_top {x : Stacked} {rest : List Stacked} {called : Bool} {s : State} (slot : s.preempt.slot = some { plan := x.plan, called := called })
    (stack : s.preempt.stack = x :: rest) : cancelPlan x.plan s = advance stepLimit (cancelled x.plan s) := by
  have top : (cancelled x.plan s).topAmong [x.plan] = true := by
    unfold State.topAmong
    rw [show (cancelled x.plan s).preempt.stack = x :: rest from (setSource_stack _ _ _).trans stack]
    simp
  rw [cancelPlan_stacked slot (stacked_top stack), if_pos top]

/-! #### The end of the plan that holds the slot -/

/-- What stands once a cancelled plan has left the stack. -/
theorem unstack_cancelled {p : Nat} {s : State} (first : 1 ≤ p) (last : p ≤ s.preempt.plans.length) (on : (s.tables.plan p).on = true)
    (level : (s.tables.plan p).level = true) (slot : s.preempt.slot = some { plan := p, called := false }) :
    Ended p (unstack p .ended s) ∧ (unstack p .ended s).preempt.slot = none ∧ (∀ q, q ≠ p → (unstack p .ended s).plan q = s.plan q) := by
  generalize removed : changePlan p (fun x => { x with outcome := .ended })
    { s with preempt.stack := s.preempt.stack.filter (fun x => decide (x.plan ≠ p)) } = r
  have rslot : r.preempt.slot = some { plan := p, called := false } := by rw [← removed]; exact slot
  have rlength : p ≤ ({ r with preempt.slot := none } : State).preempt.plans.length := by
    show p ≤ r.preempt.plans.length
    rw [← removed, length_changePlan]
    exact last
  have rout : r.stacked p = false := by
    rw [← removed]
    unfold State.stacked
    rw [List.any_eq_false]
    exact fun x member => by
      have apart := (List.mem_filter.mp member).2
      simpa using apart
  have is : unstack p .ended s = refreshRequest p (setSource false p { r with preempt.slot := none }) := by
    unfold unstack
    dsimp only
    rw [removed, rslot, Option.any_some, if_pos (decide_eq_true rfl)]
    unfold emptySlot
    rw [rslot]
  have follows : ({ r with preempt.slot := none } : State).follows p = true := by
    have out : ({ r with preempt.slot := none } : State).stacked p = false := rout
    have tables : ({ r with preempt.slot := none } : State).tables = s.tables := by rw [← removed]; rfl
    unfold State.follows
    rw [out, tables, on, level]
    rfl
  have set := setSource_plan_same (b := false) first rlength
  rw [follows] at set
  have damped : Damped p true true (setSource false p { r with preempt.slot := none }) :=
    ⟨by rw [length_setSource]; exact rlength, fun _ => by rw [set]; rfl, fun _ _ => by rw [set]; rfl⟩
  have marked : (r.plan p).outcome = .ended := by
    rw [← removed]
    exact congrArg PlanState.outcome (entryD_changeEntry_same first (by exact last) _ _)
  refine ⟨⟨by rw [is]; exact damped.refreshRequest p, ?_, ?_⟩, ?_, fun q other => ?_⟩
  · unfold State.stacked
    rw [unstack_stack, List.any_eq_false]
    exact fun x member => by
      have apart := (List.mem_filter.mp member).2
      simpa using apart
  · rw [is, outcome_refreshRequest, outcome_setSource]
    exact marked
  · rw [is, (refreshRequest_unit _ _).1, setSource_slot]
  · rw [is, refreshRequest_plan_other other, setSource_plan_other other, ← removed]
    exact entryD_changeEntry_other other _ _

theorem topStep_hold_gone {s : State} {x : Stacked} {rest : List Stacked} (stack : s.preempt.stack = x :: rest) (phase : x.phase = .hold)
    (level : (s.tables.plan x.plan).level = true) (inactive : (s.plan x.plan).active = false) :
    topStep s = some (consider (unstack x.plan .ended s)) := by
  unfold topStep
  rw [stack]
  dsimp only
  rw [phase]
  dsimp only
  rw [level, inactive]
  rfl

theorem topStep_dwelling {s : State} {x : Stacked} {rest : List Stacked} {n : Nat} (stack : s.preempt.stack = x :: rest) (phase : x.phase = .dwell)
    (runs : x.dwell = some (n + 1)) : topStep s = none := by
  unfold topStep
  rw [stack]
  dsimp only
  rw [phase]
  dsimp only
  rw [runs, if_neg (by simp)]

theorem filter_out {p : Nat} {x : Stacked} {rest : List Stacked} (top : x.plan = p) (others : ∀ y ∈ rest, y.plan ≠ p) :
    (x :: rest).filter (fun y => decide (y.plan ≠ p)) = rest := by
  rw [List.filter_cons_of_neg (by simp [top]), List.filter_eq_self]
  exact fun y member => decide_eq_true (others y member)

/-- The cancel of the call of a plan in HOLD: the plan ends at the event. -/
theorem cancelPlan_hold {x : Stacked} {rest : List Stacked} {called : Bool} {s : State} (slot : s.preempt.slot = some { plan := x.plan, called := called })
    (stack : s.preempt.stack = x :: rest) (phase : x.phase = .hold) (first : 1 ≤ x.plan) (last : x.plan ≤ s.preempt.plans.length)
    (on : (s.tables.plan x.plan).on = true) (level : (s.tables.plan x.plan).level = true) :
    Ended x.plan (cancelPlan x.plan s) ∧ (cancelPlan x.plan s).preempt.slot = none
      ∧ ((∀ q, q ≠ x.plan → (s.plan q).pending = false) → (∀ y ∈ rest, y.plan ≠ x.plan) → (∀ y below, rest = y :: below → s.restsOn y) →
        (cancelPlan x.plan s).preempt.stack = rest) := by
  have stackC : (cancelled x.plan s).preempt.stack = x :: rest := (setSource_stack _ _ _).trans stack
  have storeC : (cancelled x.plan s).store = s.store := (cancelled_unit x.plan s).1.store
  have tablesC : (cancelled x.plan s).tables = s.tables := tables_congr (congrArg Store.active storeC)
  have offC : ((cancelled x.plan s).plan x.plan).active = false := active_setSource_same false first (by exact last)
  have lastC : x.plan ≤ (cancelled x.plan s).preempt.plans.length := by unfold cancelled; rw [length_setSource]; exact last
  have slotC : (cancelled x.plan s).preempt.slot = some { plan := x.plan, called := false } := setSource_slot _ _ _
  have othersC : ∀ q, q ≠ x.plan → (cancelled x.plan s).plan q = s.plan q := fun q other => setSource_plan_other other _
  rw [cancelPlan_top slot stack]
  generalize cancelled x.plan s = v at *
  have step := topStep_hold_gone stackC phase (by rw [tablesC]; exact level) offC
  obtain ⟨ended, empty, others⟩ := unstack_cancelled first lastC (by rw [tablesC]; exact on) (by rw [tablesC]; exact level) slotC
  have stackU : (unstack x.plan .ended v).preempt.stack = (x :: rest).filter (fun y => decide (y.plan ≠ x.plan)) := by rw [unstack_stack, stackC]
  have tablesU : (unstack x.plan .ended v).tables = s.tables := by rw [← tablesC]; exact tables_congr (by simp)
  have advanced : advance stepLimit v = advance 99 (consider (unstack x.plan .ended v)) := by
    show advance (99 + 1) v = _
    rw [advance, step]
  rw [advanced]
  generalize unstack x.plan .ended v = u at *
  have emptied : ∀ w t : State, Steady ⟨false, false, false, false, false, false, false, false, false, false, false, false, false⟩ w t →
      w.preempt.slot = none → t.preempt.slot = none := fun w t did was => by
    rcases did.preempt.2.2 with no | stays | none'
    · cases no
    · exact stays.trans was
    · exact none'
  refine ⟨ended.consider.advance 99, emptied _ _ (steady_advance 99 _) (emptied _ _ (steady_consider u) empty), fun idle apart rests => ?_⟩
  rw [filter_out rfl apart] at stackU
  have still : consider u = u := consider_nothing fun q pending => by
    by_cases here : q = x.plan
    · subst here
      rw [ended.damped.pending rfl (.inr rfl)] at pending
      cases pending
    · rw [others q here, othersC q here, idle q here] at pending
      cases pending
  have none' : topStep u = none := by
    cases rest with
    | nil => unfold topStep; rw [stackU]
    | cons y below =>
      refine topStep_rests stackU ?_
      have here := rests y below rfl
      have plan := (others y.plan (apart y (List.mem_cons_self ..))).trans (othersC y.plan (apart y (List.mem_cons_self ..)))
      unfold State.restsOn at here ⊢
      rw [tablesU, plan]
      exact here
  rw [still, advance_stays none', stackU]

end Sys2Proof.Machine

namespace Sys2Proof.Machine

open Sys2Proof.Safety

/-! #### The calls and cancels, each with its event -/

variable {plan : Byte} {s : State}

theorem calCall_start (up : s.up = true) (hears : s.hears = true) (length : s.preempt.plans.length = 8) (first : 1 ≤ plan.toNat) (last : plan.toNat ≤ 8)
    (on : (s.tables.plan plan.toNat).on = true) (remote : (s.tables.plan plan.toNat).remote = true) (calm : noLampOut s = true)
    (mode : s.control.mode = .start) (stack : s.preempt.stack = []) (empty : s.preempt.slot = none) :
    ∃ t, exec (.calCall plan) s = .next t ∧ calmFrame s t ∧ t.preempt.stack = []
      ∧ t.preempt.slot = some { plan := plan.toNat, called := true } ∧ (t.plan plan.toNat).active = true
      ∧ ((s.tables.plan plan.toNat).level = true → (t.plan plan.toNat).pending = !(s.plan plan.toNat).spent)
      ∧ (∀ q, q ≠ plan.toNat → t.plan q = s.plan q) ∧ replied s t (.rpl 0x11 .ok []) := by
  have ran := exec_calCall_empty up hears (calResult_ok (request := 0) (by rw [mode]; rfl) first last (by decide) on remote) empty
  have own : fillSlot plan.toNat (openEvent s) = slotTaken plan.toNat (openEvent s) := fillSlot_unadmitted (by show s.control.mode.admits = false; rw [mode]; rfl)
  obtain ⟨frame, preempt, answer⟩ := UnitOnly.event (effect := fillSlot plan.toNat) (s := s)
    (by rw [own]; exact unitOnly_slotTaken _ _) (by rw [own]; exact reportedOnly_slotTaken _ _) calm (by rw [mode]; decide) .ok
  obtain ⟨slot', stack', -, -⟩ := slotTaken_unit plan.toNat (openEvent s)
  rw [own, settle_steady_preempt (steadyTop_of_empty (stack'.trans stack))] at preempt
  have same := slotTaken_plan_same (s := openEvent s) first (by show _ ≤ s.preempt.plans.length; omega)
  have other := fun q apart => slotTaken_plan_other (p := plan.toNat) (q := q) apart (openEvent s)
  generalize asEvent _ _ s = t at *
  refine ⟨t, ran, frame, by rw [preempt, stack']; exact stack, by rw [preempt, slot'], ?_, fun level => ?_, fun q apart => ?_, answer⟩
  · rw [plan_congr preempt, same]
    unfold PlanState.sourced
    split <;> rfl
  · have follows : (openEvent s).follows plan.toNat = true := by
      show ((s.tables.plan plan.toNat).on && (s.tables.plan plan.toNat).level && !s.stacked plan.toNat) = true
      unfold State.stacked
      rw [on, level, stack]
      rfl
    rw [plan_congr preempt, same, follows]
    exact congrArg not (Bool.and_true _)
  · rw [plan_congr preempt]
    exact other q apart

theorem calCancel_dwell (up : s.up = true) (hears : s.hears = true) (first : 1 ≤ plan.toNat) (last : plan.toNat ≤ 8)
    (on : (s.tables.plan plan.toNat).on = true) (remote : (s.tables.plan plan.toNat).remote = true) (calm : noLampOut s = true)
    (mode : s.control.mode = .running) {called : Bool} {x : Stacked} {rest : List Stacked} {n : Nat}
    (slot : s.preempt.slot = some { plan := plan.toNat, called := called }) (stack : s.preempt.stack = x :: rest) (top : x.plan = plan.toNat)
    (phase : x.phase = .dwell) (runs : x.dwell = some (n + 1)) :
    ∃ t, exec (.calCancel plan 1) s = .next t ∧ calmFrame s t
      ∧ t.preempt.slot = some { plan := plan.toNat, called := false } ∧ t.preempt.stack = s.preempt.stack ∧ replied s t (.rpl 0x11 .ok []) := by
  have ran := exec_calCancel up hears (calResult_ok (request := 1) (by rw [mode]; rfl) first last (by decide) on remote)
  have stack' : (cancelled plan.toNat (openEvent s)).preempt.stack = x :: rest := (setSource_stack _ _ _).trans stack
  have own : cancelPlan plan.toNat (openEvent s) = cancelled plan.toNat (openEvent s) := by
    rw [← top] at slot stack' ⊢
    rw [cancelPlan_top (by exact slot) (by exact stack), advance_stays (topStep_dwelling stack' phase runs)]
  obtain ⟨unit, told⟩ := cancelled_unit plan.toNat (openEvent s)
  obtain ⟨frame, preempt, answer⟩ := UnitOnly.event (effect := cancelPlan plan.toNat) (s := s) (by rw [own]; exact unit) (by rw [own]; exact told)
    calm (by rw [mode]; decide) .ok
  rw [own, settle_steady_preempt (steadyTop_of_cons stack' (by rw [phase]; decide))] at preempt
  exact ⟨_, ran, frame, by rw [preempt]; exact setSource_slot _ _ _, by rw [preempt, stack', stack], answer⟩

theorem calCall_running (up : s.up = true) (hears : s.hears = true) (length : s.preempt.plans.length = 8) (first : 1 ≤ plan.toNat) (last : plan.toNat ≤ 8)
    (on : (s.tables.plan plan.toNat).on = true) (remote : (s.tables.plan plan.toNat).remote = true) (calm : noLampOut s = true)
    (mode : s.control.mode = .running) (empty : s.preempt.slot = none) (room : s.preempt.stack.length < 4) (free : s.stacked plan.toNat = false)
    (level : (s.tables.plan plan.toNat).level = true) (fresh : (s.plan plan.toNat).spent = false) (idle : (s.plan plan.toNat).pending = false)
    (may : mayTake s s.preempt.inhibit plan.toNat = true)
    (least : ∀ q, q < plan.toNat → (s.plan q).pending = true → mayTake s s.preempt.inhibit q = false) (delay : (s.tables.plan plan.toNat).entryDelay ≠ 0) :
    ∃ t, exec (.calCall plan) s = .next t ∧ calmFrame s t ∧ t.preempt.slot = some { plan := plan.toNat, called := true }
      ∧ t.preempt.stack = pushed s plan.toNat :: s.preempt.stack ∧ (t.plan plan.toNat).active = true ∧ (t.plan plan.toNat).pending = false
      ∧ (∀ q, q ≠ plan.toNat → t.plan q = s.plan q) ∧ replied s t (.rpl 0x11 .ok []) := by
  have ran := exec_calCall_empty up hears (calResult_ok (request := 0) (by rw [mode]; rfl) first last (by decide) on remote) empty
  have follows : (openEvent s).follows plan.toNat = true := by
    show ((s.tables.plan plan.toNat).on && (s.tables.plan plan.toNat).level && !s.stacked plan.toNat) = true
    rw [on, level, free]
    rfl
  have unit := unitOnly_slotTaken plan.toNat (openEvent s)
  have told := reportedOnly_slotTaken plan.toNat (openEvent s)
  have same := slotTaken_plan_same (s := openEvent s) first (by show _ ≤ s.preempt.plans.length; omega)
  have other := fun q apart => slotTaken_plan_other (p := plan.toNat) (q := q) apart (openEvent s)
  obtain ⟨slot', stack', inhibit', length'⟩ := slotTaken_unit plan.toNat (openEvent s)
  have filled : fillSlot plan.toNat (openEvent s) = if newlyPending { openEvent s with preempt.slot := some { plan := plan.toNat, called := true } }
      (slotTaken plan.toNat (openEvent s)) then considerTaking (slotTaken plan.toNat (openEvent s)) else slotTaken plan.toNat (openEvent s) := rfl
  have active' : (slotTaken plan.toNat (openEvent s)).store.active = s.store.active := congrArg Store.active unit.store
  rw [follows] at same
  generalize slotTaken plan.toNat (openEvent s) = v at *
  have asks : (v.plan plan.toNat).pending = true ∧ (v.plan plan.toNat).active = true := by
    rw [same]
    refine ⟨?_, rfl⟩
    show (!((s.plan plan.toNat).spent && true)) = true
    rw [fresh]
    rfl
  have newly : newlyPending { openEvent s with preempt.slot := some { plan := plan.toNat, called := true } } v = true := by
    refine List.any_eq_true.mpr ⟨plan.toNat, mem_numbers.mpr ⟨first, last⟩, ?_⟩
    rw [asks.1]
    show (true && !(s.plan plan.toNat).pending) = true
    rw [idle]
    rfl
  have mays : ∀ q, mayTake v v.preempt.inhibit q = mayTake s s.preempt.inhibit q := fun q => by
    rw [inhibit', mayTake_congr active' stack']
    rfl
  have own : fillSlot plan.toNat (openEvent s) = takePlan plan.toNat v := by
    rw [filled, if_pos newly]
    refine considerTaking_delay ?_ (by rw [stack']; exact room) (length'.trans length) asks.1 (by rw [mays]; exact may) (fun q below pending => ?_)
      (by rw [tables_congr active']; exact delay) (fun _ => asks.2)
    · rw [unit.control]; show s.control.mode.admits = true; rw [mode]; rfl
    · rw [mays]
      refine least q below ?_
      rw [other q (by omega)] at pending
      exact pending
  obtain ⟨frame, preempt, answer⟩ := UnitOnly.event (effect := fillSlot plan.toNat) (s := s)
    (by rw [own]; exact unit.trans {}) (by rw [own]; exact reportedOnly_trans told (reportedOnly_of_link rfl)) calm (by rw [mode]; decide) .ok
  rw [own, settle_steady_preempt (steadyTop_of_cons (takePlan_stack _ _) nofun)] at preempt
  have taken := takePlan_plan_same (s := v) first (by rw [length']; show _ ≤ s.preempt.plans.length; omega)
  generalize asEvent _ _ s = t at *
  refine ⟨t, ran, frame, by rw [preempt]; exact slot', ?_, ?_, ?_, fun q apart => ?_, answer⟩
  · rw [preempt, takePlan_stack, stack', pushed_congr active']
    rfl
  · rw [plan_congr preempt, taken]
    exact asks.2
  · rw [plan_congr preempt, taken]
  · rw [plan_congr preempt, takePlan_plan_other apart]
    exact other q apart

theorem calCall_busy (up : s.up = true) (hears : s.hears = true) (first : 1 ≤ plan.toNat) (last : plan.toNat ≤ 8)
    (on : (s.tables.plan plan.toNat).on = true) (remote : (s.tables.plan plan.toNat).remote = true) (calm : noLampOut s = true)
    (admits : s.control.mode.admits = true) (law : effectiveLaw s) {slot : Slot} (held : s.preempt.slot = some slot) (stacked : s.stacked slot.plan = true) :
    ∃ t, exec (.calCall plan) s = .next t ∧ calmFrame s t ∧ t.preempt = s.preempt ∧ replied s t (.rpl 0x11 .busy []) := by
  have permit : s.control.mode.permit = true ∧ s.control.mode ≠ .closing := by
    generalize s.control.mode = m at admits
    cases m <;> simp_all [Mode.admits, Mode.permit]
  have ran := exec_calCall up hears (calResult_ok (request := 0) permit.1 first last (by decide) on remote)
  have handled : callPlan plan.toNat s = (.busy, id) := by
    unfold callPlan
    rw [held]
    dsimp only
    rw [if_pos stacked]
  rw [handled] at ran
  obtain ⟨frame, preempt, answer⟩ := UnitOnly.event (effect := id) (s := s) {} (reportedOnly_of_link rfl) calm permit.2 .busy
  have still : (openEvent s).Calm := ⟨aimed_of_effectiveLaw (s := openEvent s) admits (by exact law), rfl, rfl, rfl⟩
  rw [id, settle_calm still] at preempt
  exact ⟨_, ran, frame, preempt, answer⟩

theorem calCancel_hold (up : s.up = true) (hears : s.hears = true) (length : s.preempt.plans.length = 8) (first : 1 ≤ plan.toNat) (last : plan.toNat ≤ 8)
    (on : (s.tables.plan plan.toNat).on = true) (remote : (s.tables.plan plan.toNat).remote = true) (calm : noLampOut s = true)
    (mode : s.control.mode = .running) {called : Bool} {x : Stacked} {rest : List Stacked}
    (slot : s.preempt.slot = some { plan := plan.toNat, called := called }) (stack : s.preempt.stack = x :: rest) (top : x.plan = plan.toNat)
    (phase : x.phase = .hold) (level : (s.tables.plan plan.toNat).level = true) :
    ∃ t, exec (.calCancel plan 1) s = .next t ∧ calmFrame s t ∧ t.preempt.slot = none
      ∧ t.stacked plan.toNat = false ∧ (t.plan plan.toNat).outcome = .ended ∧ (t.plan plan.toNat).active = false
      ∧ (t.plan plan.toNat).pending = false ∧ replied s t (.rpl 0x11 .ok [])
      ∧ ((∀ q, q ≠ plan.toNat → (s.plan q).pending = false) → (∀ y ∈ rest, y.plan ≠ plan.toNat) →
        (∀ y below, rest = y :: below → s.restsOn y) → t.preempt.stack = rest) := by
  have ran := exec_calCancel up hears (calResult_ok (request := 1) (by rw [mode]; rfl) first last (by decide) on remote)
  rw [← top] at ran first last on level slot ⊢
  have advanced := cancelPlan_top (s := openEvent s) (by exact slot) (by exact stack)
  obtain ⟨ended, empty, below⟩ := cancelPlan_hold (s := openEvent s) (by exact slot) (by exact stack) phase first (by show _ ≤ s.preempt.plans.length; omega) on level
  obtain ⟨unit, told⟩ := cancelled_unit x.plan (openEvent s)
  obtain ⟨frame, preempt, answer⟩ := UnitOnly.event (effect := cancelPlan x.plan) (s := s) (by rw [advanced]; exact unit.trans {})
    (by rw [advanced]; exact reportedOnly_trans told (reportedOnly_of_reporting (reporting_advance (K := fun _ _ => True) _ (fun _ _ => trivial))))
    calm (by rw [mode]; decide) .ok
  have slotless := conclude_slot empty
  have unitOf := asEvent_preempt (effect := cancelPlan x.plan) (reply_onlyLink 0x11 .ok []) s
  generalize asEvent _ _ s = t at *
  generalize cancelPlan x.plan (openEvent s) = u at *
  have done : Ended x.plan t := (ended.settle roundLimit).congr (by rw [preempt]) (by rw [preempt])
  refine ⟨t, ran, frame, by rw [unitOf]; exact slotless, done.out, done.outcome, done.damped.active rfl, done.damped.pending rfl (.inr rfl), answer,
    fun idle apart rests => ?_⟩
  have stack' : u.preempt.stack = rest := below idle apart rests
  have steady : u.steadyTop := fun y under is => by
    have here := (rests y under (stack'.symm.trans is)).2
    intro entry
    simp [entry] at here
  rw [preempt, settle_steady_preempt steady, stack']

end Sys2Proof.Machine

namespace Sys2Proof.Proofs

open Sys2Proof Sys2Proof.Machine Sys2Proof.Safety

/-- Settles O26: a call or a cancel changes the slot and the source of its plan, and the unit then takes, keeps or ends the plan. -/
theorem remoteCallAndCancel : Obligations.RemoteCallAndCancel := by
  intro plan s listens length first last on remote
  obtain ⟨up, hears⟩ : s.up = true ∧ s.hears = true := by simpa [listening] using listens
  refine ⟨fun calm mode stack empty => calCall_start up hears length first last on remote calm mode stack empty,
    fun called permit slot free => ?_, fun called x rest n running slot stack top phase runs => ?_,
    fun running empty room free level fresh idle may least delay => ?_,
    fun slot calm admits law held stacked => calCall_busy up hears first last on remote calm admits law held stacked,
    fun called x rest running slot stack top phase level => ?_⟩
  · have ran := exec_calCancel up hears (calResult_ok (request := 1) permit first last (by decide) on remote)
    exact ⟨_, ran, emptySlot_event slot free first (by omega)⟩
  · obtain ⟨-, mode, calm⟩ := runningCalm_iff.mp running
    exact calCancel_dwell up hears first last on remote calm mode slot stack top phase runs
  · obtain ⟨-, mode, calm⟩ := runningCalm_iff.mp running
    exact calCall_running up hears length first last on remote calm mode empty room free level fresh idle may least delay
  · obtain ⟨-, mode, calm⟩ := runningCalm_iff.mp running
    obtain ⟨t, ran, frame, empty, out, outcome, off, idle, answer, below⟩ :=
      calCancel_hold up hears length first last on remote calm mode slot stack top phase level
    exact ⟨t, ran, frame, empty, out, outcome, off, idle, answer, fun others apart source rests =>
      below others apart fun y under is => ⟨source y under is, rests y under is⟩⟩

end Sys2Proof.Proofs

/-! ### An event in which every live group stands, and the entry to START (R49) -/

namespace Sys2Proof.Machine

open Sys2Proof.Safety

/-! #### Groups that all stand -/

/-- Outside RUNNING and WARNING no live group can move: each is shown STOP, DARK or FLASH, or CLEAR short of its clear time. -/
structure Parked (s : State) : Prop where
  admits : s.control.mode.admits = false
  stands : ∀ g, s.tables.live g = true → s.still g ∨ s.shown g = .flash

theorem judge_face_parked {s : State} {g : Nat} (admits : s.control.mode.admits = false) (stands : s.still g ∨ s.shown g = .flash) :
    face (s.judge g) = face (s.group g) := by
  rcases stands with still | flash
  · exact judge_face_of_still admits still
  · have shown : (s.group g).shown = .flash := flash
    simp only [State.judge, shown]
    rfl

theorem Parked.evaluate {s t : State} (h : Parked s) (g : Nat) (rest : restful s t) : restful s (evaluate g t) := by
  obtain ⟨faces, image, entered, reports, before, remark, worst, control, store⟩ := rest
  unfold Machine.evaluate
  split
  · next live =>
    have tables : t.tables = s.tables := tables_congr (by rw [store])
    have unmoved : Unmoved g s t := ⟨control, by rw [store], shown_of_faces faces g⟩
    have stands : t.still g ∨ t.shown g = .flash :=
      (h.stands g (tables ▸ live)).imp (fun still => Unmoved.still unmoved still) (fun flash => (Unmoved.shown unmoved).trans flash)
    have same := judge_face_parked (by rw [control]; exact h.admits) stands
    dsimp only
    rw [if_pos (show (t.judge g).shown = t.shown g from congrArg Prod.fst same)]
    exact ⟨Eq.trans (setGroup_faces same) faces, image, entered, reports, before, remark, worst, control, store⟩
  · exact ⟨faces, image, entered, reports, before, remark, worst, control, store⟩

theorem Parked.evaluateConcerned {s : State} (h : Parked s) (passes : Nat) {t : State} (rest : restful s t) : restful s (evaluateConcerned passes t) := by
  induction passes generalizing t with
  | zero => exact rest
  | succ n ih =>
    unfold Machine.evaluateConcerned
    split
    · exact rest
    · exact ih (eachOf_holds (restful s) Machine.evaluate (fun g _ hu => h.evaluate g hu) _ _ rest)

/-- The settling of an event in which every live group stands and none has entered GO. -/
theorem Parked.settle {s : State} (h : Parked s) (entered : s.event.enteredGo = []) (rounds : Nat) :
    restful s (settle rounds s) ∧ settle rounds s = Machine.evaluateConcerned passLimit (rebuild s) := by
  have rest := h.evaluateConcerned passLimit (rebuild_rest (s := s))
  have once : Machine.settle rounds s = Machine.evaluateConcerned passLimit (rebuild s) := by
    cases rounds with
    | zero => rfl
    | succ n =>
      unfold Machine.settle
      dsimp only
      rw [if_neg]
      unfold State.entryMet
      rw [rest.2.2.1, entered]
      split <;> simp
  exact ⟨once ▸ rest, once⟩

/-- What the conclusion of an event leaves of a state `u` in which every live group stands, in calm and outside CLOSING. -/
structure Stood (u t : State) : Prop where
  faces : t.faces = u.faces
  preempt : t.preempt = u.preempt
  detectors : t.detectors = u.detectors
  moved : u.shownImage ≠ u.event.before → t.engine.imageNumber = u.engine.imageNumber + 1
  quiet : (∀ g, u.redFail g = false) → u.event.reports = [] → t.faults = u.faults ∧ t.link = u.link

theorem Parked.conclude {u : State} (h : Parked u) (calm : noLampOut u = true) (mode : u.control.mode ≠ .closing) (entered : u.event.enteredGo = []) :
    Stood u (conclude u) := by
  obtain ⟨rest, once⟩ := h.settle entered roundLimit
  have preempt : (Machine.settle roundLimit u).preempt = u.preempt := by rw [once]; simp
  have detectors : (Machine.settle roundLimit u).detectors = u.detectors := by rw [once]; simp
  have prover : (Machine.settle roundLimit u).prover = u.prover := by rw [once]; simp
  have faults : (Machine.settle roundLimit u).faults = u.faults := by rw [once]; simp
  have link : (Machine.settle roundLimit u).link = u.link := by rw [once]; simp
  obtain ⟨faces, image, entered', reports, before, -, -, control, -⟩ := rest
  have open' : closeIfDone (Machine.settle roundLimit u) = Machine.settle roundLimit u := if_neg fun done => mode (control ▸ done.1)
  have noticed : noticeGo (Machine.settle roundLimit u) = Machine.settle roundLimit u := by
    unfold noticeGo
    rw [entered', entered]
    simp [eachOf]
  rw [conclude_eq, open']
  unfold finish
  rw [noticed]
  have dark : noLampOut (Machine.settle roundLimit u) = true := (noLampOut_of_channels (congrArg Prover.channels prover)).trans calm
  generalize Machine.settle roundLimit u = v at *
  have judged := redsEnded_evaluateShown (s := v) fun g _ => redOut_of_noLampOut dark g
  have same : (evaluateShown v).detectors = v.detectors := by simp
  have still : (∀ g, v.redFail g = false) → evaluateShown v = v := fun none' => by
    unfold evaluateShown
    rw [evaluateReds_quiet (fun g _ => redOut_of_noLampOut dark g) none', ite_self]
  generalize evaluateShown v = w at *
  have after : ∀ x : State, (handReports (arbitrateAll (markIfDue x))).engine = x.engine ∧ (handReports (arbitrateAll (markIfDue x))).preempt = x.preempt
      ∧ (handReports (arbitrateAll (markIfDue x))).detectors = x.detectors ∧ (handReports (arbitrateAll (markIfDue x))).faults = x.faults := fun x => by simp
  obtain ⟨engine', preempt', detectors', faults'⟩ := after (numberImage w)
  refine ⟨?_, ?_, ?_, fun moved => ?_, fun none' quiet => ⟨?_, ?_⟩⟩
  · unfold State.faces at faces ⊢
    rw [engine']
    have groups : (numberImage w).engine.groups = w.engine.groups := by simp
    rw [groups, judged.engine]
    exact faces
  · rw [preempt']
    simp [judged.preempt, preempt]
  · rw [detectors']
    simp [same, detectors]
  · rw [engine']
    have shown : w.shownImage = u.shownImage := (congrArg (List.map Group.shown) (congrArg Engine.groups judged.engine)).trans (shownImage_of_faces faces)
    have early : w.event.before = u.event.before := by rw [judged.event]; exact before
    unfold numberImage
    rw [if_neg (by rw [shown, early]; exact moved)]
    simp [judged.engine, image]
  · rw [faults', still fun g => by have own := none' g; unfold State.redFail at own ⊢; rw [prover]; exact own]
    simp [faults]
  · rw [handReports_link, still fun g => by have own := none' g; unfold State.redFail at own ⊢; rw [prover]; exact own]
    have none'' : (arbitrateAll (markIfDue (numberImage v))).event.reports = [] := by simp [reports_numberImage, reports, quiet]
    rw [none'']
    simp [link, sortByKey]

end Sys2Proof.Machine

/-! ### The entry to START (R49) and the faults that are reported again there (R119) -/

namespace Sys2Proof.Machine

open Sys2Proof.Safety

/-- What START entry sets and announces, before red failure is evaluated (R49). -/
def started (startChain : Half) (s : State) : State :=
  announce s.control.mode
    { showStop (setMode .start .modRun s) with
      control.startTimer := some (.running (s.tables.cabinet.startUp.toNat * 10)), control.firstImage := some false
      exchange.expectedChain := some startChain, exchange.accepted := none
      exchange.supervision := some (.running (s.tables.cabinet.supervision.toNat * 10)), exchange.warning := none }

theorem enterStart_eq (startChain : Half) (s : State) :
    enterStart startChain s = eachOf branchIds recurStations (evaluateReds (started startChain s)) := rfl

theorem started_blocks (startChain : Half) (s : State) :
    (started startChain s).control
        = { s.control with
            mode := .start, runPermit := true, lastCause := .modRun
            startTimer := some (.running (s.tables.cabinet.startUp.toNat * 10)), firstImage := some false }
      ∧ (started startChain s).exchange
        = { s.exchange with
            expectedChain := some startChain, accepted := none, warning := none
            supervision := some (.running (s.tables.cabinet.supervision.toNat * 10)) }
      ∧ (started startChain s).engine = (showStop s).engine ∧ (started startChain s).preempt = s.preempt ∧ (started startChain s).prover = s.prover
      ∧ (started startChain s).store = s.store ∧ (started startChain s).branches = s.branches
      ∧ (started startChain s).faults = { s.faults with alarmNumber := s.faults.alarmNumber + 1 }
      ∧ (started startChain s).event = { s.event with modeChanged := true, remark := true } :=
  ⟨rfl, rfl, rfl, rfl, rfl, rfl, rfl, rfl, rfl⟩

theorem started_link (startChain : Half) (s : State) :
    (started startChain s).link = s.link.accept
      (.alm { number := s.faults.alarmNumber + 1, body := .mode s.control.mode .start .modRun, time := s.clock.now
              activeFaults := s.faults.activeCount, worst := s.worst }) := rfl

/-- START entry once red failure is evaluated, in calm: it can only have ended red failures. -/
theorem redsEnded_started {startChain : Half} {s : State} (calm : noLampOut s = true) : RedsEnded (started startChain s) (evaluateReds (started startChain s)) :=
  redsEnded_evaluateReds fun g _ => redOut_of_noLampOut ((noLampOut_of_channels (by exact rfl)).trans calm) g

theorem exec_modRun {startChain : Half} {s : State} (up : s.up = true) (hears : s.hears = true) (mode : s.control.mode = .flash)
    (idle : s.storeBusy = false) (active : s.store.active.isSome = true) :
    exec (.modRun s.tables.cabinet.number s.store.generation startChain) s = .next (asEvent (enterStart startChain) (reply 0x12 .ok []) s) := by
  have result : runResult s.tables.cabinet.number s.store.generation s = .ok := by
    obtain ⟨tables, is⟩ := Option.isSome_iff_exists.mp active
    simp [runResult, mode, idle, is]
  show execModRun _ _ startChain s = _
  unfold execModRun answeredOutcome
  rw [frameOutcome_heard up hears]
  dsimp only
  rw [result, if_pos rfl]
  rfl

/-! #### Stations that are all well -/

theorem liveness_well {s : State} (well : stationsWell s = true) (br : BranchId) : ∀ l ∈ (s.branch br).liveness, l.present = true ∧ l.lagging = false := by
  intro l member
  unfold State.branch entryD at member
  cases found : entry? s.branches (placeOf br) with
  | none =>
    rw [found] at member
    cases member
  | some b =>
    rw [found] at member
    have listed : b ∈ s.branches := by
      unfold entry? at found
      split at found
      · cases found
      · exact List.mem_of_getElem? found
    have all := List.all_eq_true.mp (List.all_eq_true.mp well b listed) l member
    simpa using all

/-- No station is reported again where all are well. -/
theorem recurStations_well {s : State} (well : stationsWell s = true) (br : BranchId) : recurStations br s = s := by
  have all := liveness_well well br
  have present : ((s.branch br).liveness.filter (fun l => s.isOutput br l.station)).filter (fun l => !l.present) = [] :=
    List.filter_eq_nil_iff.mpr fun l member => by simp [(all l (List.mem_filter.mp member).1).1]
  have inTime : ((s.branch br).liveness.filter (fun l => s.isOutput br l.station)).filter Liveness.lagging = [] :=
    List.filter_eq_nil_iff.mpr fun l member => by simp [(all l (List.mem_filter.mp member).1).2]
  unfold recurStations
  dsimp only
  rw [present, inTime]
  rfl

theorem enterStart_well {startChain : Half} {s : State} (well : stationsWell s = true) :
    enterStart startChain s = evaluateReds (started startChain s) := by
  have each : ∀ u : State, u.branches = s.branches → ∀ l : List BranchId, eachOf l recurStations u = u := by
    intro u same l
    induction l with
    | nil => rfl
    | cons br l ih =>
      have first : recurStations br u = u := recurStations_well (by unfold stationsWell at well ⊢; rw [same]; exact well) br
      exact (congrArg (eachOf l recurStations) first).trans ih
  rw [enterStart_eq, each _ (by simp [started]) branchIds]

theorem started_group {startChain : Half} {s : State} {g : Nat} (live : s.tables.live g = true) (first : 1 ≤ g) (last : g ≤ s.engine.groups.length) :
    (started startChain s).group g = { Group.reset with shown := .stop } := by
  obtain ⟨x, hx⟩ := exists_entry? first last
  refine (group_congr (s := showStop s) rfl g).trans ?_
  rw [group_def]
  simp [showStop, entry?_map_numberedEntries, live, hx]

theorem started_shown {startChain : Half} {s : State} {g : Nat} (live : s.tables.live g = true) :
    (started startChain s).shown g = .stop ∨ (started startChain s).shown g = .flash := by
  have first : 1 ≤ g := (live_iff.mp live).1
  by_cases last : g ≤ s.engine.groups.length
  · exact .inl (congrArg Group.shown (started_group live first last))
  · refine .inr (congrArg Group.shown (group_beyond ?_))
    have length : (started startChain s).engine.groups.length = s.engine.groups.length := showStop_length s
    omega

/-- At START entry every live group stands. -/
theorem parked_started {startChain : Half} {s : State} : Parked (started startChain s) where
  admits := rfl
  stands g live := (started_shown (by exact live)).imp (fun stop => .inl stop) id

theorem Parked.congr {s t : State} (h : Parked s) (control : t.control = s.control) (groups : t.engine.groups = s.engine.groups)
    (active : t.store.active = s.store.active) : Parked t where
  admits := by rw [control]; exact h.admits
  stands g live := by
    have stands := h.stands g (by rwa [tables_congr active] at live)
    unfold State.still State.shown at stands ⊢
    rwa [group_congr groups, tables_congr active]

/-- The entry to START where every station is well. -/
theorem modRun_well {startChain : Half} {s : State} (up : s.up = true) (hears : s.hears = true) (calm : noLampOut s = true) (mode : s.control.mode = .flash)
    (idle : s.storeBusy = false) (active : s.store.active.isSome = true) (well : stationsWell s = true) :
    ∃ t, exec (.modRun s.tables.cabinet.number s.store.generation startChain) s = .next t
      ∧ t.control
        = { s.control with
            mode := .start, runPermit := true, lastCause := .modRun
            startTimer := some (.running (s.tables.cabinet.startUp.toNat * 10)), firstImage := some false }
      ∧ t.exchange
        = { s.exchange with
            expectedChain := some startChain, accepted := none, warning := none
            supervision := some (.running (s.tables.cabinet.supervision.toNat * 10)) }
      ∧ (∀ g, inService s g = true →
        t.shown g = .stop ∧ (t.group g).time = 0 ∧ (t.group g).clearance = 0 ∧ (t.group g).target = .stop)
      ∧ (aspectLaw s = true → s.tables.live 1 = true → t.engine.imageNumber = s.engine.imageNumber + 1)
      ∧ t.preempt = s.preempt ∧ t.detectors = s.detectors ∧ t.store = s.store ∧ t.clock = s.clock ∧ t.pending = s.pending
      ∧ replied s t (.rpl 0x12 .ok [])
      ∧ ((∀ g, s.redFail g = false) →
        t.faults = { s.faults with alarmNumber := s.faults.alarmNumber + 1 }
          ∧ t.link
            = (s.link.accept
              (.alm
                { number := s.faults.alarmNumber + 1, body := .mode .flash .start .modRun, time := s.clock.now
                  activeFaults := t.faults.activeCount, worst := t.worst })).accept (.rpl 0x12 .ok [])) := by
  have ran := exec_modRun (startChain := startChain) up hears mode idle active
  have own : enterStart startChain (openEvent s) = evaluateReds (started startChain (openEvent s)) := enterStart_well (by exact well)
  have told : reportedOnly (openEvent s) (enterStart startChain (openEvent s)) := by
    rw [own]
    exact reportedOnly_trans (reportedOnly_of_link (t := openEvent s) rfl)
      (reportedOnly_trans (reportedOnly_alarm_of_link rfl _) (reportedOnly_evaluateReds (started startChain (openEvent s))))
  have answer := replied_asEvent told 0x12 .ok []
  have judged := redsEnded_started (startChain := startChain) (s := openEvent s) calm
  have quiet : (∀ g, s.redFail g = false) → evaluateReds (started startChain (openEvent s)) = started startChain (openEvent s) := fun none' =>
    evaluateReds_quiet (fun g _ => redOut_of_noLampOut ((noLampOut_of_channels (by exact rfl)).trans calm) g) none'
  obtain ⟨control, exchange, engine, preempt, prover, store, -, faults, event⟩ := started_blocks startChain (openEvent s)
  have link := started_link startChain (openEvent s)
  have parked : Parked (enterStart startChain (openEvent s)) := by
    rw [own]
    exact parked_started.congr judged.control (congrArg Engine.groups judged.engine) (congrArg Store.active judged.store)
  have frame : (evaluateReds (started startChain (openEvent s))).pending = s.pending ∧ (evaluateReds (started startChain (openEvent s))).clock = s.clock
      ∧ (evaluateReds (started startChain (openEvent s))).detectors = s.detectors := by simp [started, announce]
  have groups : ∀ g, inService s g = true → (started startChain (openEvent s)).group g = { Group.reset with shown := .stop } := fun g service => by
    obtain ⟨⟨first, last⟩, live⟩ := inService_iff.mp service
    exact started_group (s := openEvent s) live first last
  have dark : noLampOut (enterStart startChain (openEvent s)) = true := by
    rw [own]
    exact (noLampOut_of_channels (judged.channels.trans (congrArg Prover.channels prover))).trans calm
  have open' : (enterStart startChain (openEvent s)).control.mode ≠ .closing := by rw [own, judged.control, control]; nofun
  have calmly := asEvent_calm (effect := enterStart startChain) (reply_onlyLink 0x12 .ok []) dark open'
  have stood := parked.conclude dark open' (by rw [own, judged.event, event]; rfl)
  have intended := intended_asEvent (answer := reply 0x12 .ok []) (reply_onlyLink 0x12 .ok []) (enterStart startChain) s
  have closed : asEvent (enterStart startChain) (reply 0x12 .ok []) s = closeEvent (reply 0x12 .ok [] (conclude (enterStart startChain (openEvent s)))) := rfl
  rw [own] at *
  generalize conclude _ = v at *
  generalize asEvent _ _ s = t at *
  obtain ⟨pending', clock', event', exchange', control', store'⟩ := calmly
  obtain ⟨faces, preempt', detectors', moved, still⟩ := stood
  have engineT : t.engine = v.engine ∧ t.preempt = v.preempt ∧ t.detectors = v.detectors ∧ t.faults = v.faults
      ∧ t.link = v.link.accept (.rpl 0x12 .ok []) := by rw [closed]; exact ⟨rfl, rfl, rfl, rfl, rfl⟩
  obtain ⟨engineT, preemptT, detectorsT, faultsT, linkT⟩ := engineT
  have lengthT : t.engine.groups.length = s.engine.groups.length := by
    rw [engineT]
    have same := congrArg List.length faces
    rw [State.faces, State.faces, List.length_map, List.length_map, judged.engine, engine] at same
    exact same.trans (showStop_length _)
  have storeT : t.store = s.store := store'.trans (judged.store.trans store)
  refine ⟨t, ran, control'.trans (judged.control.trans control), exchange'.trans (judged.exchange.trans exchange), fun g service => ?_,
    fun law live => ?_, preemptT.trans (preempt'.trans (judged.preempt.trans preempt)), detectorsT.trans (detectors'.trans frame.2.2),
    storeT, clock'.trans frame.2.1, pending'.trans frame.1, answer, fun none' => ?_⟩
  · obtain ⟨⟨first, last⟩, live⟩ := inService_iff.mp service
    have here : face (t.group g) = face ({ Group.reset with shown := .stop } : Group) := by
      rw [← groups g service, group_congr (congrArg Engine.groups engineT)]
      exact (shown_of_faces faces g).trans (congrArg face (group_congr (congrArg Engine.groups judged.engine) g))
    have target := (intended g (inService_iff.mpr ⟨⟨first, by omega⟩, by rw [tables_congr (congrArg Store.active storeT)]; exact live⟩)).1
      (by rw [control', judged.control, control]; rfl)
    unfold face at here
    simp only [Prod.mk.injEq] at here
    exact ⟨here.1, here.2.1, here.2.2, target⟩
  · have length : s.engine.groups.length = 24 := by
      unfold aspectLaw at law
      simp only [Bool.and_eq_true, decide_eq_true_eq] at law
      exact law.1
    have flash : s.shown 1 = .flash := shown_flash (by rw [mode]; rfl) law live
    have stop : (started startChain (openEvent s)).shown 1 = .stop :=
      congrArg Group.shown (groups 1 (inService_iff.mpr ⟨⟨Nat.le_refl 1, by omega⟩, live⟩))
    rw [engineT, moved ?_, judged.engine, engine]
    · rfl
    · rw [judged.event, event]
      intro same
      have one : ∀ u : State, u.shown 1 = (u.shownImage[0]?).getD .flash := fun u => by
        unfold State.shown State.group entryD entry? State.shownImage
        rw [if_neg (by decide), List.getElem?_map]
        cases u.engine.groups[1 - 1]? <;> rfl
      have before : (evaluateReds (started startChain (openEvent s))).shownImage = s.shownImage := same
      rw [show (evaluateReds (started startChain (openEvent s))).shownImage = (started startChain (openEvent s)).shownImage from
        congrArg (List.map Group.shown) (congrArg Engine.groups judged.engine)] at before
      rw [one, before, ← one, flash] at stop
      cases stop
  · obtain ⟨faults', link'⟩ := still (fun g => judged.reds g (none' g)) (by rw [judged.event, event]; rfl)
    rw [quiet none'] at faults' link'
    have listT : t.faults = { s.faults with alarmNumber := s.faults.alarmNumber + 1 } := faultsT.trans (faults'.trans faults)
    refine ⟨listT, ?_⟩
    have worst : t.worst = (openEvent s).worst := by
      unfold State.worst
      rw [listT, event']
      rfl
    rw [linkT, link', link, listT, worst]
    show ((s.link.accept (.alm { number := _, body := .mode s.control.mode .start .modRun, time := _, activeFaults := _, worst := _ })).accept _) = _
    rw [mode]
    rfl

end Sys2Proof.Machine

/-! ### Stations whose faults are reported again at START entry (R119) -/

namespace Sys2Proof.Machine

open Sys2Proof.Safety

/-- In a pass that keeps `good`, where one entry makes `done` and the others keep it. -/
theorem eachOf_reaches {α : Type} {good done : State → Prop} {f : α → State → State} {x : α} (keeps : ∀ y s, good s → good (f y s))
    (makes : ∀ s, good s → done (f x s)) (stays : ∀ y s, done s → done (f y s)) {l : List α} (member : x ∈ l) {s : State} (start : good s) :
    done (eachOf l f s) := by
  induction l generalizing s with
  | nil => cases member
  | cons y rest ih =>
    rcases List.mem_cons.mp member with rfl | later
    · exact eachOf_holds done f stays rest _ (makes s start)
    · exact ih later (keeps y s start)

/-! #### What a transfer to FLASH leaves standing while the event goes on -/

/-- The blocks of a state that has come to FLASH by a fault (R58). -/
structure FaultFlashed (u : State) : Prop where
  mode : u.control.mode = .flash
  permit : u.control.runPermit = false
  cause : u.control.lastCause = .faultFlash
  target : u.control.closeTarget = none
  timer : u.control.startTimer = none
  chain : u.exchange.expectedChain = none
  accepted : u.exchange.accepted = none
  supervision : u.exchange.supervision = none
  warning : u.exchange.warning = none
  stack : u.preempt.stack = []
  slot : u.preempt.slot = none
  inhibit : u.preempt.inhibit = 0
  flashing : Flashing u

theorem faultFlashed_leavePermit (v : State) : FaultFlashed (leavePermit .flash .faultFlash none v) := by
  have unit := leavePermit_unit .flash .faultFlash none v
  have control := leavePermit_controls .flash .faultFlash none v
  have exchange := leavePermit_exchange .flash .faultFlash none v
  exact ⟨by rw [control], by rw [control]; rfl, by rw [control], by rw [control], by rw [control], by rw [exchange], by rw [exchange], by rw [exchange],
    by rw [exchange], leavePermit_stack _ _ _ v, unit.1, unit.2, flashing_leavePermit _ _ _ v⟩

theorem FaultFlashed.note {u : State} (h : FaultFlashed u) (r : Raise) : FaultFlashed (note r u) := by
  have control : (Machine.note r u).control = u.control := by simp
  have exchange : (Machine.note r u).exchange = u.exchange := by simp
  have preempt : (Machine.note r u).preempt = u.preempt := by simp
  exact ⟨by rw [control]; exact h.mode, by rw [control]; exact h.permit, by rw [control]; exact h.cause, by rw [control]; exact h.target,
    by rw [control]; exact h.timer, by rw [exchange]; exact h.chain, by rw [exchange]; exact h.accepted, by rw [exchange]; exact h.supervision,
    by rw [exchange]; exact h.warning, by rw [preempt]; exact h.stack, by rw [preempt]; exact h.slot, by rw [preempt]; exact h.inhibit,
    h.flashing.congr (by simp) (by simp)⟩

/-- What stands between the entry to START and the end of the event that its stations' faults concern. -/
structure Recurring (s u : State) : Prop where
  branches : u.branches = s.branches
  active : u.store.active = s.store.active
  maint : u.control.maint = s.control.maint
  strikes : u.exchange.strikes = s.exchange.strikes
  length : u.engine.groups.length = s.engine.groups.length
  mode : u.control.mode = .start ∨ FaultFlashed u

theorem raise_flash_start {r : Raise} (action : r.action = .flash) {s : State} (mode : s.control.mode = .start) :
    raise r s = leavePermit .flash .faultFlash none (note r s) := by
  have same : (note r s).control.mode = .start := by simpa using mode
  unfold raise takeAction
  rw [action, same]

theorem raise_flash_flash {r : Raise} (action : r.action = .flash) {s : State} (mode : s.control.mode = .flash) : raise r s = note r s := by
  have same : (note r s).control.mode = .flash := by simpa using mode
  unfold raise takeAction
  rw [action, same]

/-- The first report of a station takes START to FLASH, and the others find FLASH (R58). -/
theorem Recurring.raise {s u : State} (h : Recurring s u) {r : Raise} (action : r.action = .flash) :
    Recurring s (Machine.raise r u) ∧ FaultFlashed (Machine.raise r u) := by
  obtain ⟨branches, active, maint, strikes, length, mode⟩ := h
  rcases mode with start | flashed
  · rw [raise_flash_start action start]
    have flashed := faultFlashed_leavePermit (note r u)
    refine ⟨⟨?_, ?_, ?_, ?_, ?_, .inr flashed⟩, flashed⟩
    · simpa using branches
    · simpa using active
    · simpa using maint
    · simpa using strikes
    · rw [congrArg Engine.groups (leavePermit_engine .flash .faultFlash none (note r u))]
      simpa using length
  · rw [raise_flash_flash action flashed.mode]
    exact ⟨⟨by simpa using branches, by simpa using active, by simpa using maint, by simpa using strikes, by simpa using length, .inr (flashed.note r)⟩,
      flashed.note r⟩

theorem FlashEnd.faultFlashed {s u t : State} (h : FlashEnd u t) (recurring : Recurring s u) (flashed : FaultFlashed u) (intended : Intended t) :
    Safety.transferred s t .flash .faultFlash := by
  have stored : t.store.active = s.store.active := (congrArg Store.active h.store).trans recurring.active
  refine ⟨by rw [h.control]; exact flashed.mode, by rw [h.control]; exact flashed.permit, by rw [h.control]; exact flashed.cause,
    by rw [h.control]; exact flashed.target, by rw [h.control]; exact flashed.timer, by rw [h.control]; exact recurring.maint, fun g service => ?_,
    by rw [h.exchange]; exact flashed.chain, by rw [h.exchange]; exact flashed.accepted, by rw [h.exchange]; exact flashed.supervision,
    by rw [h.exchange]; exact flashed.warning, by rw [h.exchange]; exact recurring.strikes, by rw [h.preempt]; exact flashed.stack,
    by rw [h.preempt]; exact flashed.slot, by rw [h.preempt]; exact flashed.inhibit, stored⟩
  obtain ⟨⟨first, last⟩, live⟩ := inService_iff.mp service
  have live' : t.tables.live g = true := by rwa [tables_congr stored]
  have groups : t.engine.groups.length = s.engine.groups.length := h.length.trans recurring.length
  exact ⟨h.flashing g live', (intended g (inService_iff.mpr ⟨⟨first, by omega⟩, live'⟩)).1 (by rw [h.control, flashed.mode]; rfl)⟩

/-! #### An entry that is ACTIVE -/

/-- The fault list keeps its bounds and has an ACTIVE entry of a kind and subject. -/
structure Standing (kind : FaultKind) (subject : Option Nat) (f : FaultList) : Prop where
  well : f.Well
  has : ∃ e ∈ f.entries, e.kind = kind ∧ e.subject = subject ∧ e.active = true

/-- The same, with an action. -/
structure StandingBy (kind : FaultKind) (subject : Option Nat) (action : Action) (f : FaultList) : Prop where
  well : f.Well
  has : ∃ e ∈ f.entries, e.kind = kind ∧ e.subject = subject ∧ e.active = true ∧ e.action = action

variable {kind : FaultKind} {subject : Option Nat} {action : Action}

theorem note_entries_again {r : Raise} {s : State} {e : Entry} (well : s.faults.Well) (member : e ∈ s.faults.entries) (is : e.is r.kind r.subject = true) :
    (note r s).faults.entries = againAll r s.clock.now s.faults.entries := by
  have found := find_entry well member is
  show (recordRaise r { s with event.worst := s.event.worst.max r.action }).faults.entries = _
  rw [recordRaise_again (s := { s with event.worst := s.event.worst.max r.action }) found]
  split <;> rfl

theorem note_well {r : Raise} {s : State} (well : s.faults.Well) : (note r s).faults.Well :=
  (reporting_note (K := fun _ _ => True) (r := r) trivial s).faults.well well

/-- A report against an ACTIVE entry leaves it with the report's action. -/
theorem Standing.note_same {r : Raise} {s : State} (h : Standing r.kind r.subject s.faults) : StandingBy r.kind r.subject r.action (note r s).faults := by
  obtain ⟨e, member, is, of, active⟩ := h.has
  have same : e.is r.kind r.subject = true := entry_is_iff.mpr ⟨is, of⟩
  refine ⟨note_well h.well, e.again r s.clock.now, ?_, is, of, by simp [Entry.again, active], rfl⟩
  rw [note_entries_again h.well member same]
  exact List.mem_map.mpr ⟨e, member, by simp [same]⟩

theorem note_other {r : Raise} {s : State} {e : Entry} (member : e ∈ s.faults.entries) (active : e.active = true) (other : e.is r.kind r.subject = false) :
    e ∈ (note r s).faults.entries := recordRaise_active (s := { s with event.worst := s.event.worst.max r.action }) member active other

theorem Standing.note {s : State} (h : Standing kind subject s.faults) (r : Raise) : Standing kind subject (note r s).faults := by
  obtain ⟨e, member, is, of, active⟩ := h.has
  cases same : e.is r.kind r.subject with
  | true =>
    obtain ⟨is', of'⟩ := entry_is_iff.mp same
    obtain ⟨e', member', kind', subject', active', -⟩ := (Standing.note_same (r := r) ⟨h.well, e, member, is', of', active⟩).has
    exact ⟨note_well h.well, e', member', kind'.trans (is'.symm.trans is), subject'.trans (of'.symm.trans of), active'⟩
  | false => exact ⟨note_well h.well, e, note_other member active same, is, of, active⟩

/-- A report of a condition with the same action leaves an ACTIVE entry with that action. -/
theorem StandingBy.note {s : State} {r : Raise} (h : StandingBy kind subject r.action s.faults) : StandingBy kind subject r.action (note r s).faults := by
  obtain ⟨e, member, is, of, active, asks⟩ := h.has
  cases same : e.is r.kind r.subject with
  | true =>
    obtain ⟨is', of'⟩ := entry_is_iff.mp same
    obtain ⟨e', member', kind', subject', active', asks'⟩ := (Standing.note_same (r := r) ⟨h.well, e, member, is', of', active⟩).has
    exact ⟨note_well h.well, e', member', kind'.trans (is'.symm.trans is), subject'.trans (of'.symm.trans of), active', asks'⟩
  | false => exact ⟨note_well h.well, e, note_other member active same, is, of, active, asks⟩

theorem Standing.keeps {K : FaultKind → Prop} {x y : FaultList} (h : Standing kind subject x) (keeps : x.Keeps K y) (out : K kind) : Standing kind subject y := by
  obtain ⟨e, member, is, of, active⟩ := h.has
  exact ⟨keeps.well h.well, e, keeps.keeps h.well e member (by rw [is]; exact out), is, of, active⟩

theorem StandingBy.keeps {K : FaultKind → Prop} {x y : FaultList} (h : StandingBy kind subject action x) (keeps : x.Keeps K y) (out : K kind) :
    StandingBy kind subject action y := by
  obtain ⟨e, member, is, of, active, asks⟩ := h.has
  exact ⟨keeps.well h.well, e, keeps.keeps h.well e member (by rw [is]; exact out), is, of, active, asks⟩

/-! #### The reports of a pass -/

/-- The report of a station's fault at START entry (R119). -/
def again (kind : FaultKind) (l : Liveness) : Raise := { kind := kind, subject := some l.station, action := .flash, condition := true }

theorem recurStations_eq (br : BranchId) (s : State) :
    recurStations br s
      = eachOf (((s.branch br).liveness.filter (fun l => s.isOutput br l.station)).filter Liveness.lagging) (fun l => raise (again .stationLag l))
          (eachOf (((s.branch br).liveness.filter (fun l => s.isOutput br l.station)).filter (fun l => !l.present)) (fun l => raise (again .stationAbsent l)) s) :=
  rfl

/-- Before the report of a station's fault: the fault stands in the list, where `law` says so. -/
structure Awaiting (s : State) (law : Prop) (kind : FaultKind) (subject : Option Nat) (u : State) : Prop where
  recurring : Recurring s u
  stands : law → Standing kind subject u.faults

/-- Behind it: the cabinet is in FLASH, and the fault stands with that action. -/
structure Reported (s : State) (law : Prop) (kind : FaultKind) (subject : Option Nat) (u : State) : Prop where
  recurring : Recurring s u
  flashed : FaultFlashed u
  stands : law → StandingBy kind subject .flash u.faults

variable {s u : State} {law : Prop}

/-- What a report with the action FLASH does to the fault list, where the mode is START or FLASH. -/
theorem Recurring.raise_faults (h : Recurring s u) {r : Raise} (flash : r.action = .flash) : (note r u).faults.Keeps OfOthers (Machine.raise r u).faults := by
  rcases h.mode with start | flashed
  · rw [raise_flash_start flash start]
    exact leavePermit_keeps .flash .faultFlash none (Machine.note r u)
  · rw [raise_flash_flash flash flashed.mode]
    exact .refl _ _

theorem Awaiting.raise (h : Awaiting s law kind subject u) (out : OfOthers kind) {r : Raise} (flash : r.action = .flash) :
    Awaiting s law kind subject (Machine.raise r u) :=
  ⟨(h.recurring.raise flash).1, fun is => ((h.stands is).note r).keeps (h.recurring.raise_faults flash) out⟩

theorem Awaiting.makes {l : Liveness} (h : Awaiting s law kind (some l.station) u) (out : OfOthers kind) :
    Reported s law kind (some l.station) (Machine.raise (again kind l) u) :=
  ⟨(h.recurring.raise rfl).1, (h.recurring.raise rfl).2,
    fun is => ((h.stands is).note_same (r := again kind l)).keeps (h.recurring.raise_faults rfl) out⟩

theorem Reported.raise (h : Reported s law kind subject u) (out : OfOthers kind) {r : Raise} (flash : r.action = .flash) :
    Reported s law kind subject (Machine.raise r u) := by
  refine ⟨(h.recurring.raise flash).1, (h.recurring.raise flash).2, fun is => ?_⟩
  have stands := h.stands is
  rw [← flash] at stands ⊢
  exact stands.note.keeps (h.recurring.raise_faults flash) out

theorem Awaiting.pass (h : Awaiting s law kind subject u) (out : OfOthers kind) (k : FaultKind) (l : List Liveness) :
    Awaiting s law kind subject (eachOf l (fun x => Machine.raise (again k x)) u) :=
  eachOf_holds (Awaiting s law kind subject) (fun x => Machine.raise (again k x)) (fun _ _ hv => hv.raise out rfl) l u h

theorem Reported.pass (h : Reported s law kind subject u) (out : OfOthers kind) (k : FaultKind) (l : List Liveness) :
    Reported s law kind subject (eachOf l (fun x => Machine.raise (again k x)) u) :=
  eachOf_holds (Reported s law kind subject) (fun x => Machine.raise (again k x)) (fun _ _ hv => hv.raise out rfl) l u h

theorem Awaiting.reaches {l : Liveness} (h : Awaiting s law kind (some l.station) u) (out : OfOthers kind) {all : List Liveness} (member : l ∈ all) :
    Reported s law kind (some l.station) (eachOf all (fun x => Machine.raise (again kind x)) u) :=
  eachOf_reaches (good := Awaiting s law kind (some l.station)) (done := Reported s law kind (some l.station)) (f := fun x => Machine.raise (again kind x))
    (fun _ _ hv => hv.raise out rfl) (fun _ hv => hv.makes out) (fun _ _ hv => hv.raise out rfl) member h

theorem Awaiting.recur (h : Awaiting s law kind subject u) (out : OfOthers kind) (br : BranchId) : Awaiting s law kind subject (recurStations br u) := by
  rw [recurStations_eq]
  exact (h.pass out .stationAbsent _).pass out .stationLag _

theorem Reported.recur (h : Reported s law kind subject u) (out : OfOthers kind) (br : BranchId) : Reported s law kind subject (recurStations br u) := by
  rw [recurStations_eq]
  exact (h.pass out .stationAbsent _).pass out .stationLag _

theorem Awaiting.recurs {br : BranchId} {l : Liveness} (h : Awaiting s law kind (some l.station) u) (member : l ∈ (s.branch br).liveness)
    (output : s.tables.roleOn br l.station = some .output)
    (bad : kind = .stationAbsent ∧ l.present = false ∨ kind = .stationLag ∧ l.lagging = true) :
    Reported s law kind (some l.station) (recurStations br u) := by
  have outputs : l ∈ (u.branch br).liveness.filter (fun l => u.isOutput br l.station) := by
    refine List.mem_filter.mpr ⟨by rw [branch_congr h.recurring.branches]; exact member, ?_⟩
    unfold State.isOutput
    rw [tables_congr h.recurring.active]
    exact decide_eq_true output
  rw [recurStations_eq]
  rcases bad with ⟨rfl, absent⟩ | ⟨rfl, lagging⟩
  · exact (h.reaches ⟨nofun, nofun, nofun, nofun⟩ (List.mem_filter.mpr ⟨outputs, by rw [absent]; rfl⟩)).pass ⟨nofun, nofun, nofun, nofun⟩ .stationLag _
  · exact (h.pass ⟨nofun, nofun, nofun, nofun⟩ .stationAbsent _).reaches ⟨nofun, nofun, nofun, nofun⟩ (List.mem_filter.mpr ⟨outputs, lagging⟩)

/-- The entry to START where an OUTPUT station is ABSENT or lagging. -/
theorem modRun_recurs {startChain : Half} {s : State} (up : s.up = true) (hears : s.hears = true) (calm : noLampOut s = true) (mode : s.control.mode = .flash)
    (idle : s.storeBusy = false) (active : s.store.active.isSome = true) {br : BranchId} {l : Liveness} {kind : FaultKind}
    (member : l ∈ (s.branch br).liveness) (output : s.tables.roleOn br l.station = some .output)
    (bad : kind = .stationAbsent ∧ l.present = false ∨ kind = .stationLag ∧ l.lagging = true) :
    ∃ t, exec (.modRun s.tables.cabinet.number s.store.generation startChain) s = .next t
      ∧ transferred s t .flash .faultFlash ∧ replied s t (.rpl 0x12 .ok [])
      ∧ ((∃ e ∈ s.faults.entries, e.kind = kind ∧ e.subject = some l.station ∧ e.active = true) → faultLaw s = true →
        listed t kind (some l.station) true .flash) := by
  have ran := exec_modRun (startChain := startChain) up hears mode idle active
  have out : OfOthers kind := by rcases bad with ⟨rfl, -⟩ | ⟨rfl, -⟩ <;> exact ⟨nofun, nofun, nofun, nofun⟩
  have judged := redsEnded_started (startChain := startChain) (s := openEvent s) calm
  obtain ⟨control, exchange, engine, -, -, store, branches, faults, -⟩ := started_blocks startChain (openEvent s)
  have first : Awaiting s ((∃ e ∈ s.faults.entries, e.kind = kind ∧ e.subject = some l.station ∧ e.active = true) ∧ faultLaw s = true) kind (some l.station)
      (evaluateReds (started startChain (openEvent s))) := by
    refine ⟨⟨judged.branches.trans branches, by rw [judged.store, store]; rfl, by rw [judged.control, control]; rfl, by rw [judged.exchange, exchange]; rfl, ?_,
      .inl (by rw [judged.control, control])⟩, fun ⟨has, law⟩ => ?_⟩
    · rw [judged.engine, engine]
      exact showStop_length _
    · refine Standing.keeps (x := (started startChain (openEvent s)).faults) (by rw [faults]; exact ⟨faultLaw_iff.mp law, has⟩) judged.keeps ?_
      exact out.2.2.2
  have told : reportedOnly (openEvent s) (enterStart startChain (openEvent s)) := by
    refine reportedOnly_trans (reportedOnly_trans (reportedOnly_alarm_of_link rfl _) (reportedOnly_evaluateReds (started startChain (openEvent s))))
      (reportedOnly_eachOf (fun br u => ?_) branchIds _)
    exact reportedOnly_trans (reportedOnly_eachOf (fun _ _ => reportedOnly_raise _ _) _ _) (reportedOnly_eachOf (fun _ _ => reportedOnly_raise _ _) _ _)
  have reached := eachOf_reaches (good := Awaiting s _ kind (some l.station)) (done := Reported s _ kind (some l.station)) (f := recurStations)
    (fun br _ hv => hv.recur out br) (fun _ hv => hv.recurs member output bad) (fun br _ hv => hv.recur out br) (mem_branchIds br) first
  rw [← enterStart_eq] at reached
  have answer := replied_asEvent told 0x12 .ok []
  have intended := intended_asEvent (answer := reply 0x12 .ok []) (reply_onlyLink 0x12 .ok []) (enterStart startChain) s
  have ends := FlashEnd.asEvent (s := s) (effect := enterStart startChain) (reply_onlyLink 0x12 .ok [])
    (conclude_flashed (u := enterStart startChain (openEvent s)) (by rw [reached.flashed.mode]; rfl) reached.flashed.stack reached.flashed.flashing)
  generalize asEvent _ _ s = t at *
  generalize enterStart startChain (openEvent s) = u at *
  refine ⟨t, ran, ends.faultFlashed reached.recurring reached.flashed intended, answer, fun has law => ?_⟩
  have stands := reached.stands ⟨has, law⟩
  exact ends.keeps_listed stands.well out.2.2.2 stands.has

end Sys2Proof.Machine

namespace Sys2Proof.Proofs

open Sys2Proof Sys2Proof.Machine Sys2Proof.Safety

/-- Settles O27: at START entry every live group stands, so that nothing moves behind it; a station that is not well takes the cabinet back to FLASH. -/
theorem runRequestEntersStart : Obligations.RunRequestEntersStart := by
  intro startChain s listens calm mode idle active
  obtain ⟨up, hears⟩ : s.up = true ∧ s.hears = true := by simpa [listening] using listens
  exact ⟨fun well => modRun_well up hears calm mode idle active well,
    fun br l kind member output bad => modRun_recurs up hears calm mode idle active member output bad⟩

end Sys2Proof.Proofs

/-! ### Passes that end conditions of the fault list (R131, R134, R137), entry by entry -/

namespace Sys2Proof.Machine

open Sys2Proof.Safety

/-! #### What a pass of ends makes of the list -/

/-- The entry once the conditions that `D` names have ended. -/
def Entry.endedBy (D : FaultKind → Option Nat → Bool) (e : Entry) : Entry := if D e.kind e.subject then { e with active := false } else e

/-- A fault list once the conditions that `D` names have ended. -/
structure FaultList.EndedBy (D : FaultKind → Option Nat → Bool) (x y : FaultList) : Prop where
  well : x.Well → y.Well
  entries : x.Well → y.entries = x.entries.map (Entry.endedBy D)

theorem endedBy_trans (D D' : FaultKind → Option Nat → Bool) (e : Entry) :
    (e.endedBy D).endedBy D' = e.endedBy fun k j => D k j || D' k j := by
  unfold Entry.endedBy
  cases first : D e.kind e.subject <;> cases later : D' e.kind e.subject <;> simp [first, later]

theorem FaultList.EndedBy.refl (x : FaultList) : x.EndedBy (fun _ _ => false) x :=
  ⟨id, fun _ => (List.map_id _).symm⟩

theorem FaultList.EndedBy.trans {D D' : FaultKind → Option Nat → Bool} {x y z : FaultList} (first : x.EndedBy D y) (second : y.EndedBy D' z) :
    x.EndedBy (fun k j => D k j || D' k j) z := by
  refine ⟨fun h => second.well (first.well h), fun h => ?_⟩
  rw [second.entries (first.well h), first.entries h, List.map_map]
  exact List.map_congr_left fun e _ => endedBy_trans D D' e

theorem FaultList.EndedBy.congr {D D' : FaultKind → Option Nat → Bool} {x y : FaultList} (h : x.EndedBy D y) (same : ∀ k j, D' k j = D k j) :
    x.EndedBy D' y := by
  have is : D' = D := funext fun k => funext fun j => same k j
  rw [is]
  exact h

theorem endedBy_reportEnd (kind : FaultKind) (subject : Option Nat) (s : State) :
    s.faults.EndedBy (fun k j => decide (k = kind) && decide (j = subject)) (reportEnd kind subject s).faults :=
  ⟨(reportEnd_quieter kind subject s).well, fun well => reportEnd_entries kind subject well⟩

theorem endedBy_reportEnd_if (b : Bool) (kind : FaultKind) (subject : Option Nat) (s : State) :
    s.faults.EndedBy (fun k j => b && (decide (k = kind) && decide (j = subject))) (if b then reportEnd kind subject s else s).faults := by
  cases b
  · exact .refl _
  · exact endedBy_reportEnd kind subject s

/-- A pass over distinct numbers, each of which ends what it did at the start: what one does leaves the others as they were found. -/
theorem endedBy_eachOf {α : Type} {f : α → State → State} {D : α → FaultKind → Option Nat → Bool} {good : α → State → Prop} {l : List α}
    (each : ∀ x ∈ l, ∀ t, good x t → t.faults.EndedBy (D x) (f x t).faults) (keeps : ∀ x y t, x ≠ y → good y t → good y (f x t)) (distinct : l.Nodup)
    {s : State} (start : ∀ x ∈ l, good x s) : s.faults.EndedBy (fun k j => l.any (fun x => D x k j)) (eachOf l f s).faults := by
  induction l generalizing s with
  | nil => exact .refl _
  | cons x l ih =>
    obtain ⟨out, distinct⟩ := List.nodup_cons.mp distinct
    refine ((each x (List.mem_cons_self ..) s (start x (List.mem_cons_self ..))).trans
      (ih (fun y member => each y (List.mem_cons_of_mem _ member)) distinct (fun y member => ?_))).congr fun k j => List.any_cons
    exact keeps x y s (fun same => out (same ▸ member)) (start y (List.mem_cons_of_mem _ member))

theorem liveGroups_nodup (t : TableSet) : t.liveGroups.Nodup := numbers_nodup _

/-! #### Red failure -/

theorem endedBy_endRedFail (g : Nat) (s : State) :
    s.faults.EndedBy (fun k j => s.redFail g && (decide (k = .redFail) && decide (j = some g))) (endRedFail g s).faults := by
  unfold endRedFail
  cases s.redFail g with
  | true => exact endedBy_reportEnd .redFail (some g) (setRedFail false g s)
  | false => exact .refl _

/-- Where no live group's red-failure condition holds, the evaluation ends the RED_FAIL of each. -/
theorem evaluateReds_ends {s : State} (sound : ∀ g, s.tables.live g = true → s.redOut g = false) :
    evaluateReds s = eachOf (s.tables.liveGroups.filter s.redFail) endRedFail s := by
  have off : ∀ g ∈ s.tables.liveGroups, s.redOut g = false := fun g member => sound g (live_iff.mpr (by simpa [TableSet.liveGroups] using member))
  have due : s.tables.liveGroups.filter (fun g => s.redOut g != s.redFail g) = s.tables.liveGroups.filter s.redFail :=
    List.filter_congr fun g member => by rw [off g member]; cases s.redFail g <;> rfl
  have handed : ∀ (l : List Nat) (t : State), (∀ g ∈ l, s.redOut g = false) →
      eachOf (l.map fun g => (g, s.redOut g)) handRed t = eachOf l endRedFail t := by
    intro l
    induction l with
    | nil => exact fun _ _ => rfl
    | cons g l ih =>
      intro t ends
      have first : handRed (g, s.redOut g) t = endRedFail g t := by
        unfold handRed
        rw [ends g (List.mem_cons_self ..)]
        rfl
      exact (congrArg (eachOf (l.map fun g => (g, s.redOut g)) handRed) first).trans (ih _ fun k member => ends k (List.mem_cons_of_mem _ member))
  unfold evaluateReds State.redDue
  rw [due]
  exact handed _ s fun g member => off g (List.mem_filter.mp member).1

/-- The RED_FAIL of a live group ends. -/
def redEnds (s : State) (k : FaultKind) (j : Option Nat) : Bool :=
  (s.tables.liveGroups.filter s.redFail).any (fun g => decide (k = .redFail) && decide (j = some g))

theorem endedBy_evaluateReds {s : State} (sound : ∀ g, s.tables.live g = true → s.redOut g = false) :
    s.faults.EndedBy (redEnds s) (evaluateReds s).faults := by
  rw [evaluateReds_ends sound]
  refine endedBy_eachOf (good := fun g t => t.redFail g = true) (D := fun g k j => decide (k = .redFail) && decide (j = some g))
    (fun g _ t was => (endedBy_endRedFail g t).congr fun k j => by rw [was]; rfl) (fun x y t other was => ?_) ((liveGroups_nodup _).filter _)
    (fun g member => (List.mem_filter.mp member).2)
  rw [endRedFail_redFail, if_neg (Ne.symm other)]
  exact was

/-- Behind the evaluation no live group's RED_FAIL is active. -/
theorem evaluateReds_reds {s : State} (sound : ∀ g, s.tables.live g = true → s.redOut g = false) {g : Nat} (live : s.tables.live g = true) :
    (evaluateReds s).redFail g = false := by
  rw [evaluateReds_ends sound]
  cases was : s.redFail g with
  | false =>
    refine eachOf_holds (fun t => t.redFail g = false) endRedFail (fun k t off => ?_) _ s was
    rw [endRedFail_redFail]
    split
    · rfl
    · exact off
  | true =>
    have member : g ∈ s.tables.liveGroups.filter s.redFail := List.mem_filter.mpr ⟨by simpa [TableSet.liveGroups] using live_iff.mp live, was⟩
    refine eachOf_reaches (good := fun _ => True) (done := fun t => t.redFail g = false) (fun _ _ _ => trivial) (fun t _ => ?_) (fun k t off => ?_)
      member trivial
    · rw [endRedFail_redFail, if_pos rfl]
    · rw [endRedFail_redFail]
      split
      · rfl
      · exact off

/-! #### The latched faults of a channel (R131) -/

/-- The LAMP_OUT of a channel ends at an accepted FCL. -/
def State.outClears (s : State) (c : Nat) : Bool := (s.tables.output c).latched && (s.proving c).lampOut && s.clears (s.proving c).lampOutReleased

/-- The FOREIGN_CURRENT of a channel ends at an accepted FCL. -/
def State.foreignClears (s : State) (c : Nat) : Bool := (s.tables.output c).latched && (s.proving c).foreign && s.clears (s.proving c).foreignReleased

/-- The record of a channel behind the clear. -/
def Proving.cleared (out foreign : Bool) (p : Proving) : Proving :=
  { p with
    lampOut := p.lampOut && !out, lampOutReleased := p.lampOutReleased && !out
    foreign := p.foreign && !foreign, foreignReleased := p.foreignReleased && !foreign }

theorem clearChannel_eq (c : Nat) (s : State) :
    clearChannel c s
      = (if s.foreignClears c then
          reportEnd .foreignCurrent (some c)
            (if s.outClears c then reportEnd .lampOut (some c) (changeProving c (Proving.cleared (s.outClears c) (s.foreignClears c)) s)
              else changeProving c (Proving.cleared (s.outClears c) (s.foreignClears c)) s)
        else if s.outClears c then reportEnd .lampOut (some c) (changeProving c (Proving.cleared (s.outClears c) (s.foreignClears c)) s)
          else changeProving c (Proving.cleared (s.outClears c) (s.foreignClears c)) s) := rfl

/-- What the clear ends for a channel. -/
def State.clearsAt (s : State) (c : Nat) (k : FaultKind) (j : Option Nat) : Bool :=
  s.outClears c && (decide (k = .lampOut) && decide (j = some c)) || s.foreignClears c && (decide (k = .foreignCurrent) && decide (j = some c))

theorem endedBy_clearChannel (c : Nat) (s : State) : s.faults.EndedBy (s.clearsAt c) (clearChannel c s).faults := by
  rw [clearChannel_eq]
  exact (endedBy_reportEnd_if (s.outClears c) .lampOut (some c) (changeProving c _ s)).trans (endedBy_reportEnd_if (s.foreignClears c) .foreignCurrent (some c) _)

theorem clearChannel_prover (c : Nat) (s : State) :
    (clearChannel c s).prover = (changeProving c (Proving.cleared (s.outClears c) (s.foreignClears c)) s).prover := by
  rw [clearChannel_eq]
  split <;> split <;> simp

theorem clearChannel_proving_same {s : State} {c : Nat} (first : 1 ≤ c) (last : c ≤ s.prover.channels.length) :
    (clearChannel c s).proving c = (s.proving c).cleared (s.outClears c) (s.foreignClears c) :=
  (show (clearChannel c s).proving c = (changeProving c (Proving.cleared (s.outClears c) (s.foreignClears c)) s).proving c by
    unfold State.proving; rw [clearChannel_prover]).trans (proving_changeProving_same first last _)

theorem clearChannel_proving_other {s : State} {c n : Nat} (other : n ≠ c) : (clearChannel c s).proving n = s.proving n :=
  (show (clearChannel c s).proving n = (changeProving c (Proving.cleared (s.outClears c) (s.foreignClears c)) s).proving n by
    unfold State.proving; rw [clearChannel_prover]).trans (proving_changeProving_other other _ s)

theorem clearChannel_redFail (c g : Nat) (s : State) : (clearChannel c s).redFail g = s.redFail g := by
  unfold State.redFail
  rw [clearChannel_prover]
  rfl

/-- A state that presents a channel as another does. -/
structure SameChannel (s : State) (c : Nat) (t : State) : Prop where
  record : t.proving c = s.proving c
  tables : t.tables = s.tables
  control : t.control = s.control

theorem SameChannel.clears {s t : State} {c : Nat} (h : SameChannel s c t) :
    t.outClears c = s.outClears c ∧ t.foreignClears c = s.foreignClears c := by
  unfold State.outClears State.foreignClears State.clears
  rw [h.record, h.tables, h.control]
  exact ⟨rfl, rfl⟩

theorem SameChannel.clearChannel {s t : State} {c n : Nat} (h : SameChannel s c t) (other : n ≠ c) : SameChannel s c (clearChannel n t) :=
  ⟨(clearChannel_proving_other (Ne.symm other)).trans h.record, (tables_congr (by simp)).trans h.tables, (by simp : (Machine.clearChannel n t).control = t.control).trans h.control⟩

/-- The prover's pass over its channels at an accepted FCL. -/
def clearedChannels (s : State) : State := eachOf s.channelNumbers clearChannel s

theorem endedBy_clearedChannels (s : State) :
    s.faults.EndedBy (fun k j => s.channelNumbers.any (fun c => s.clearsAt c k j)) (clearedChannels s).faults := by
  refine endedBy_eachOf (good := SameChannel s) (D := fun c => s.clearsAt c) (fun c _ t same => ?_) (fun n c t other same => same.clearChannel other)
    (numbers_nodup _) (fun c _ => ⟨rfl, rfl, rfl⟩)
  obtain ⟨out, foreign⟩ := same.clears
  exact (endedBy_clearChannel c t).congr fun k j => by unfold State.clearsAt; rw [out, foreign]

theorem clearedChannels_proving {s : State} {c : Nat} (first : 1 ≤ c) (last : c ≤ s.prover.channels.length) :
    (clearedChannels s).proving c = (s.proving c).cleared (s.outClears c) (s.foreignClears c) := by
  have lengths : ∀ n (t : State), (clearChannel n t).prover.channels.length = t.prover.channels.length := fun n t => by
    rw [clearChannel_prover, length_changeProving]
  refine eachOf_once (x := c) (good := fun t => SameChannel s c t ∧ t.prover.channels.length = s.prover.channels.length)
    (done := fun t => t.proving c = (s.proving c).cleared (s.outClears c) (s.foreignClears c))
    (fun n t other ⟨same, length⟩ => ⟨same.clearChannel other, (lengths n t).trans length⟩) (fun t ⟨same, length⟩ => ?_)
    (fun n t other h => (clearChannel_proving_other (Ne.symm other)).trans h) (mem_numbers.mpr ⟨first, last⟩) (numbers_nodup _) ⟨⟨rfl, rfl, rfl⟩, rfl⟩
  obtain ⟨out, foreign⟩ := same.clears
  rw [clearChannel_proving_same first (by omega), same.record, out, foreign]

theorem clearedChannels_redFail (g : Nat) (s : State) : (clearedChannels s).redFail g = s.redFail g :=
  eachOf_keeps (fun t => t.redFail g) clearChannel (fun c t => clearChannel_redFail c g t) _ s

/-- A channel's LAMP_OUT is not set by the clear. -/
theorem clearedChannels_lampOut {s : State} {c : Nat} (lit : (s.proving c).lampOut = false) : ((clearedChannels s).proving c).lampOut = false := by
  refine eachOf_holds (fun t => (t.proving c).lampOut = false) clearChannel (fun n t off => ?_) _ s lit
  have own := entryD_changeEntry t.prover.channels n c (Proving.cleared (t.outClears n) (t.foreignClears n)) Proving.reset
  have here : (clearChannel n t).proving c = entryD (changeEntry t.prover.channels n (Proving.cleared (t.outClears n) (t.foreignClears n))) c Proving.reset := by
    unfold State.proving
    rw [clearChannel_prover]
    rfl
  rw [here]
  rcases own with same | ⟨-, changed⟩
  · rw [same]
    exact off
  · rw [changed]
    show ((t.proving c).lampOut && _) = false
    rw [off]
    rfl

end Sys2Proof.Machine

/-! ### The fault clear (R131, R160, R161, R64) -/

namespace Sys2Proof.Machine

open Sys2Proof.Safety

/-! #### Red failure without a red lamp that is out -/

theorem entry?_of_mem_numberedEntries {α : Type} {l : List α} {n : Nat} {x : α} (member : (n, x) ∈ numberedEntries l) : entry? l n = some x := by
  obtain ⟨i, at'⟩ := List.mem_iff_getElem?.mp member
  unfold numberedEntries at at'
  rw [List.getElem?_zip_eq_some] at at'
  obtain ⟨number, here⟩ := at'
  unfold numbers at number
  rw [List.getElem?_map] at number
  obtain ⟨k, range, rfl⟩ := Option.map_eq_some_iff.mp number
  obtain ⟨below, same⟩ := List.getElem?_eq_some_iff.mp range
  rw [List.getElem_range] at same
  subst same
  unfold entry?
  rw [if_neg (by omega), Nat.add_sub_cancel]
  exact here

/-- No red lamp whose failure counts is out. -/
def State.redsLit (s : State) : Prop := ∀ c, (s.proving c).lampOut = true → (s.tables.output c).redProving ≠ 1

theorem redOut_of_redsLit {s : State} (lit : s.redsLit) (g : Nat) : s.redOut g = false := by
  unfold State.redOut
  dsimp only
  cases found : (numberedEntries s.tables.outputs).filter (fun (_, r) => r.used && decide (r.group.toNat = g) && decide (r.redProving = 1)) with
  | nil => simp
  | cons x xs =>
    obtain ⟨c, r⟩ := x
    have member : (c, r) ∈ (numberedEntries s.tables.outputs).filter (fun (_, r) => r.used && decide (r.group.toNat = g) && decide (r.redProving = 1)) := by
      rw [found]
      exact List.mem_cons_self ..
    obtain ⟨listed, counts⟩ := List.mem_filter.mp member
    have record : s.tables.output c = r := by
      unfold TableSet.output entryD
      rw [entry?_of_mem_numberedEntries listed]
      rfl
    have red : r.redProving = 1 := by simp at counts; exact counts.2
    have off : (s.proving c).lampOut = false := Bool.eq_false_iff.mpr fun out => lit c out (by rw [record]; exact red)
    simp [off]

theorem redsLit_congr {s t : State} (lit : s.redsLit) (fewer : ∀ c, (s.proving c).lampOut = false → (t.proving c).lampOut = false)
    (active : t.store.active = s.store.active) : t.redsLit := fun c out => by
  rw [tables_congr active]
  refine lit c (Bool.not_eq_false _ ▸ fun off => ?_)
  rw [fewer c off] at out
  cases out

/-! #### What the clear leaves of the list -/

theorem filter_endedBy (D : FaultKind → Option Nat → Bool) (l : List Entry) :
    ((l.map (Entry.endedBy D)).filter Entry.active).map (fun e => { e with latched := false })
      = (l.filter (fun e => e.active && !D e.kind e.subject)).map (fun e => { e with latched := false }) := by
  induction l with
  | nil => rfl
  | cons e l ih =>
    rw [List.map_cons]
    cases ends : D e.kind e.subject with
    | true =>
      have off : (e.endedBy D).active = false := by unfold Entry.endedBy; rw [ends]; rfl
      rw [List.filter_cons_of_neg (by rw [off]; decide), List.filter_cons_of_neg (by rw [ends]; simp)]
      exact ih
    | false =>
      have same : e.endedBy D = e := by unfold Entry.endedBy; rw [ends]; rfl
      rw [same]
      cases active : e.active with
      | true =>
        rw [List.filter_cons_of_pos active, List.filter_cons_of_pos (by rw [active, ends]; rfl), List.map_cons, List.map_cons, ih]
      | false =>
        rw [List.filter_cons_of_neg (by rw [active]; decide), List.filter_cons_of_neg (by rw [active]; simp)]
        exact ih

theorem any_clearsAt (s : State) (k : FaultKind) (c : Nat) :
    s.channelNumbers.any (fun n => s.clearsAt n k (some c)) = (decide (k = .lampOut) && s.outClears c || decide (k = .foreignCurrent) && s.foreignClears c) := by
  have beyond : c ∉ s.channelNumbers → s.outClears c = false ∧ s.foreignClears c = false := fun out => by
    have none' : s.proving c = Proving.reset := by
      have outside : ¬ (1 ≤ c ∧ c ≤ s.prover.channels.length) := fun range => out (mem_numbers.mpr range)
      unfold State.proving entryD entry?
      split
      · rfl
      · rw [List.getElem?_eq_none (by omega)]
        rfl
    unfold State.outClears State.foreignClears
    rw [none']
    simp [Proving.reset]
  rw [Bool.eq_iff_iff, List.any_eq_true]
  unfold State.clearsAt
  constructor
  · rintro ⟨n, -, ends⟩
    simp only [Bool.or_eq_true, Bool.and_eq_true, decide_eq_true_eq, Option.some.injEq] at ends ⊢
    rcases ends with ⟨out, kind, rfl⟩ | ⟨foreign, kind, rfl⟩
    · exact .inl ⟨kind, out⟩
    · exact .inr ⟨kind, foreign⟩
  · intro ends
    have member : c ∈ s.channelNumbers := by
      by_contra out
      obtain ⟨no, no'⟩ := beyond out
      rw [no, no'] at ends
      simp at ends
    refine ⟨c, member, ?_⟩
    simp only [Bool.or_eq_true, Bool.and_eq_true, decide_eq_true_eq] at ends ⊢
    exact ends.imp (fun ⟨kind, out⟩ => ⟨out, kind, trivial⟩) (fun ⟨kind, foreign⟩ => ⟨foreign, kind, trivial⟩)

theorem any_redEnds (s : State) (k : FaultKind) (g : Nat) : redEnds s k (some g) = (decide (k = .redFail) && s.tables.live g && s.redFail g) := by
  rw [Bool.eq_iff_iff]
  unfold redEnds
  rw [List.any_eq_true]
  constructor
  · rintro ⟨n, member, ends⟩
    simp only [Bool.and_eq_true, decide_eq_true_eq, Option.some.injEq] at ends ⊢
    obtain ⟨kind, rfl⟩ := ends
    obtain ⟨live, fails⟩ := List.mem_filter.mp member
    exact ⟨⟨kind, live_iff.mpr (by simpa [TableSet.liveGroups] using live)⟩, fails⟩
  · intro ends
    simp only [Bool.and_eq_true, decide_eq_true_eq] at ends
    obtain ⟨⟨kind, live⟩, fails⟩ := ends
    exact ⟨g, List.mem_filter.mpr ⟨by simpa [TableSet.liveGroups] using live_iff.mp live, fails⟩, by simp [kind]⟩

/-- What the clear ends, at rest, is what the statement says. -/
theorem endsAtClear_rest {s u : State} (flash : s.control.mode.permit = false) (tables : u.tables = s.tables) (reds : ∀ g, u.redFail g = s.redFail g) (e : Entry) :
    (s.channelNumbers.any (fun c => s.clearsAt c e.kind e.subject) || redEnds u e.kind e.subject) = endsAtClear s e := by
  obtain ⟨kind, subject, first, last, count, active, latched, action⟩ := e
  cases subject with
  | none =>
    have no : s.channelNumbers.any (fun c => s.clearsAt c kind none) = false := by simp [State.clearsAt]
    have no' : redEnds u kind none = false := by simp [redEnds]
    dsimp only
    rw [no, no']
    cases kind <;> rfl
  | some c =>
    dsimp only
    rw [any_clearsAt, any_redEnds, tables, reds]
    unfold State.outClears State.foreignClears State.clears ChannelRec.latched
    rw [flash]
    cases kind <;> simp [endsAtClear, flash, Bool.and_comm]

/-- In a permit mode without RED_FAIL likewise. -/
theorem endsAtClear_permit {s : State} (permit : s.control.mode.permit = true) (e : Entry) :
    s.channelNumbers.any (fun c => s.clearsAt c e.kind e.subject) = endsAtClear s e := by
  obtain ⟨kind, subject, first, last, count, active, latched, action⟩ := e
  cases subject with
  | none =>
    have no : s.channelNumbers.any (fun c => s.clearsAt c kind none) = false := by simp [State.clearsAt]
    dsimp only
    rw [no]
    cases kind <;> rfl
  | some c =>
    dsimp only
    rw [any_clearsAt]
    unfold State.outClears State.foreignClears State.clears ChannelRec.latched
    rw [permit]
    cases kind <;> simp [endsAtClear, permit, Bool.and_comm]

end Sys2Proof.Machine

/-! ### The fault clear, at rest and in RUNNING -/

namespace Sys2Proof.Machine

open Sys2Proof.Safety

/-! #### Step 1 -/

theorem clearedChannels_frame (s : State) :
    (clearedChannels s).event = s.event ∧ (clearedChannels s).exchange = s.exchange ∧ (clearedChannels s).preempt = s.preempt
      ∧ (clearedChannels s).engine = s.engine ∧ (clearedChannels s).control = s.control ∧ (clearedChannels s).store = s.store :=
  eachOf_holds (fun t => t.event = s.event ∧ t.exchange = s.exchange ∧ t.preempt = s.preempt ∧ t.engine = s.engine ∧ t.control = s.control
    ∧ t.store = s.store) clearChannel (fun c t h => by simpa using h) _ s ⟨rfl, rfl, rfl, rfl, rfl, rfl⟩

theorem clearLatched_rest {s : State} (flash : s.control.mode.permit = false) : clearLatched s = evaluateReds (clearedChannels s) := by
  unfold clearLatched
  dsimp only
  rw [if_neg (by rw [flash]; decide)]
  rfl

/-- Step 1 at rest ends the latched lamp faults and the red failures, and does nothing else. -/
structure ClearedAtRest (s u : State) : Prop where
  event : u.event = s.event
  exchange : u.exchange = s.exchange
  preempt : u.preempt = s.preempt
  engine : u.engine = s.engine
  control : u.control = s.control
  store : u.store = s.store
  channels : u.prover.channels = (clearedChannels s).prover.channels
  ends : s.faults.EndedBy (fun k j => s.channelNumbers.any (fun c => s.clearsAt c k j) || redEnds (clearedChannels s) k j) u.faults

theorem clearedAtRest {s : State} (flash : s.control.mode.permit = false) (law : aspectLaw s = true) : ClearedAtRest s (clearLatched s) := by
  obtain ⟨event, exchange, preempt, engine, control, store⟩ := clearedChannels_frame s
  have sound : ∀ g, (clearedChannels s).tables.live g = true → (clearedChannels s).redOut g = false := fun g live => by
    refine redOut_of_flash ((congrArg Group.shown (group_congr (congrArg Engine.groups engine) g)).trans ?_)
    exact shown_flash flash law (by rwa [tables_congr (congrArg Store.active store)] at live)
  have judged := redsEnded_evaluateReds sound
  rw [clearLatched_rest flash]
  exact ⟨judged.event.trans event, judged.exchange.trans exchange, judged.preempt.trans preempt, judged.engine.trans engine, judged.control.trans control,
    judged.store.trans store, judged.channels, (endedBy_clearedChannels s).trans (endedBy_evaluateReds sound)⟩

/-! #### Step 5 -/

/-- What step 5 leaves alone, and what it makes of the strike count (R77). -/
theorem clearStrikes_parts (s : State) :
    (clearStrikes s).engine = s.engine ∧ (clearStrikes s).preempt = s.preempt ∧ (clearStrikes s).prover = s.prover
      ∧ (clearStrikes s).faults.entries = s.faults.entries
      ∧ (clearStrikes s).exchange = { s.exchange with strikes := if s.control.maint then 0 else s.exchange.strikes }
      ∧ (clearStrikes s).event.enteredGo = s.event.enteredGo ∧ (clearStrikes s).event.before = s.event.before
      ∧ (clearStrikes s).store.active = s.store.active := by
  unfold clearStrikes
  split
  · next maint =>
    dsimp only
    split <;> exact ⟨rfl, rfl, rfl, rfl, rfl, rfl, rfl, rfl⟩
  · exact ⟨rfl, rfl, rfl, rfl, rfl, rfl, rfl, rfl⟩

theorem clearStrikes_stays {s : State} (mode : s.control.mode ≠ .lockout) :
    (clearStrikes s).control = s.control ∧ (clearStrikes s).store = s.store ∧ (clearStrikes s).faults = s.faults := by
  unfold clearStrikes
  split
  · dsimp only
    rw [if_neg (by exact mode)]
    exact ⟨rfl, rfl, rfl⟩
  · exact ⟨rfl, rfl, rfl⟩

theorem clearStrikes_lockout {s : State} (mode : s.control.mode = .lockout) (maint : s.control.maint = true) :
    (clearStrikes s).control = { s.control with mode := .flash, runPermit := false, lastCause := .maintClear, recordOp := .erasing }
      ∧ (clearStrikes s).store = { s.store with op := .record, working := s.store.active.getD defaultSet } := by
  unfold clearStrikes
  rw [if_pos maint]
  dsimp only
  rw [if_pos mode]
  exact ⟨rfl, rfl⟩

/-! #### At rest -/

/-- The end of an event at rest whose own effect moves no group, and may move from one flash mode to the other. -/
structure RestMoved (s u t : State) : Prop where
  control : t.control = u.control
  store : t.store = u.store
  exchange : t.exchange = u.exchange
  preempt : t.preempt = u.preempt
  prover : t.prover = u.prover
  faults : t.faults = u.faults
  shown : ∀ g, t.shown g = s.shown g

theorem rest_moved {effect answer : State → State} {s : State} (only : onlyLink answer) (rest : resting s = true)
    (engine : (effect (openEvent s)).engine = s.engine) (flash : (effect (openEvent s)).control.mode.permit = false)
    (active : (effect (openEvent s)).store.active = s.store.active) (entered : (effect (openEvent s)).event.enteredGo = [])
    (before : (effect (openEvent s)).event.before = s.shownImage) : RestMoved s (effect (openEvent s)) (asEvent effect answer s) := by
  obtain ⟨-, was, law⟩ := resting_iff.mp rest
  have aspects : aspectLaw (effect (openEvent s)) = true := by rw [aspectLaw_congr engine (flash.trans was.symm) active]; exact law
  have image : (effect (openEvent s)).event.before = (effect (openEvent s)).shownImage := by rw [before]; simp only [State.shownImage, engine]
  obtain ⟨control, store, exchange, preempt, prover, -, faults, -, faces, -⟩ := conclude_rest flash aspects entered image
  have same := only (conclude (effect (openEvent s)))
  have closed : asEvent effect answer s = closeEvent (answer (conclude (effect (openEvent s)))) := rfl
  generalize effect (openEvent s) = u at *
  generalize conclude u = v at *
  generalize asEvent effect answer s = t at *
  refine ⟨?_, ?_, ?_, ?_, ?_, ?_, fun g => ?_⟩
  · rw [closed]; exact (congrArg State.control same :).trans control
  · rw [closed]; exact (congrArg State.store same :).trans store
  · rw [closed]; exact (congrArg State.exchange same :).trans exchange
  · rw [closed]; exact (congrArg State.preempt same :).trans preempt
  · rw [closed]; exact (congrArg State.prover same :).trans prover
  · rw [closed]; exact (congrArg State.faults same :).trans faults
  · have groups : t.engine.groups = v.engine.groups := by rw [closed]; exact (congrArg (fun x : State => x.engine.groups) same :)
    exact (congrArg Group.shown (group_congr groups g)).trans ((group_of_faces faces g).1.trans (congrArg Group.shown (group_congr (congrArg Engine.groups engine) g)))

theorem clearedChannels_lamps {s : State} {c : Nat} (first : 1 ≤ c) (last : c ≤ s.prover.channels.length) :
    ((clearedChannels s).proving c).lampOut = ((s.proving c).lampOut && !s.outClears c)
      ∧ ((clearedChannels s).proving c).lampOutReleased = ((s.proving c).lampOutReleased && !s.outClears c)
      ∧ ((clearedChannels s).proving c).foreign = ((s.proving c).foreign && !s.foreignClears c) := by
  rw [clearedChannels_proving first last]
  exact ⟨rfl, rfl, rfl⟩

/-- An accepted fault clear at rest. -/
theorem clear_rest {s : State} (hears : s.hears = true) (rest : resting s = true) (mode : s.control.mode ≠ .loading) (idle : s.storeBusy = false)
    (may : s.control.maint = true ∨ s.control.mode = .flash) :
    ∃ t, exec .fcl s = .next t ∧ (∀ e ∈ t.faults.entries, e.active = true ∧ e.latched = false)
      ∧ (faultLaw s = true →
        t.faults.entries
          = (s.faults.entries.filter (fun e => e.active && !endsAtClear s e)).map (fun e => { e with latched := false }))
      ∧ t.preempt = { s.preempt with nestingLimit := false } ∧ t.control.mode = .flash ∧ (∀ g, t.shown g = s.shown g)
      ∧ (∀ c, 1 ≤ c → c ≤ s.prover.channels.length →
        (t.proving c).lampOut = ((s.proving c).lampOut && decide ((s.tables.output c).latch ≠ 1))
          ∧ (t.proving c).foreign = ((s.proving c).foreign && decide ((s.tables.output c).latch ≠ 1)))
      ∧ (s.control.maint = true → t.exchange = { s.exchange with strikes := 0 })
      ∧ (s.control.mode = .lockout →
        t.control.runPermit = false ∧ t.control.lastCause = .maintClear ∧ t.control.recordOp = .erasing ∧ t.store.op = .record
          ∧ t.store.nv = s.store.nv ∧ t.store.active = s.store.active
          ∧ t.store.working = s.store.active.getD defaultSet)
      ∧ (s.control.mode = .flash → t.control = s.control ∧ t.store = s.store)
      ∧ (s.control.maint = false → t.exchange = s.exchange) := by
  obtain ⟨up, flash, law⟩ := resting_iff.mp rest
  have modes : s.control.mode = .flash ∨ s.control.mode = .lockout ∧ s.control.maint = true := by
    rcases may with maint | is
    · cases held : s.control.mode <;> simp_all [Mode.permit]
    · exact .inl is
  have passes : clearResult s = .ok := by
    unfold clearResult
    rw [if_neg mode, idle, if_neg (by decide), if_neg]
    rintro ⟨lockout, unattended⟩
    rcases modes with is | ⟨-, maint⟩
    · rw [is] at lockout; cases lockout
    · rw [maint] at unattended; cases unattended
  have ran := exec_fcl_ok up hears passes
  have cleared := clearedAtRest (s := openEvent s) flash (by exact law)
  have effectIs : clearEffect (openEvent s) = clearStrikes (pruneFaults (clearLatched (openEvent s))) := rfl
  obtain ⟨engine, preempt, prover, entries, exchange, entered, before, active⟩ := clearStrikes_parts (pruneFaults (clearLatched (openEvent s)))
  have stays := clearStrikes_stays (s := pruneFaults (clearLatched (openEvent s)))
  have leaves := clearStrikes_lockout (s := pruneFaults (clearLatched (openEvent s)))
  have controlP : (pruneFaults (clearLatched (openEvent s))).control = s.control := cleared.control
  have storeP : (pruneFaults (clearLatched (openEvent s))).store = s.store := cleared.store
  have exchangeP : (pruneFaults (clearLatched (openEvent s))).exchange = s.exchange := cleared.exchange
  have entriesP : (pruneFaults (clearLatched (openEvent s))).faults.entries
      = ((clearLatched (openEvent s)).faults.entries.filter Entry.active).map (fun e => { e with latched := false }) := rfl
  have preemptP : (pruneFaults (clearLatched (openEvent s))).preempt = { s.preempt with nestingLimit := false } := by
    show { (clearLatched (openEvent s)).preempt with nestingLimit := false } = _
    rw [cleared.preempt]
    rfl
  rw [← effectIs] at engine preempt prover entries exchange entered before active stays leaves
  have ended := rest_moved (effect := clearEffect) (reply_onlyLink fclKind .ok [byteOf (removedCount s)]) rest (engine.trans cleared.engine) (by
      rcases modes with is | ⟨is, maint⟩
      · rw [(stays (by rw [controlP, is]; decide)).1, controlP, is]; rfl
      · rw [(leaves (by rw [controlP]; exact is) (by rw [controlP]; exact maint)).1]; rfl)
    (active.trans (congrArg Store.active storeP)) (entered.trans (congrArg Event.enteredGo cleared.event)) (before.trans (congrArg Event.before cleared.event))
  have reds : ∀ g, (clearedChannels (openEvent s)).redFail g = s.redFail g := fun g => clearedChannels_redFail g _
  have tables : (clearedChannels (openEvent s)).tables = s.tables := tables_congr (congrArg Store.active (clearedChannels_frame (openEvent s)).2.2.2.2.2)
  have ends := cleared.ends
  have channels : ∀ c, (pruneFaults (clearLatched (openEvent s))).proving c = (clearedChannels (openEvent s)).proving c := fun c => by
    unfold State.proving
    exact congrArg (fun l => entryD l c Proving.reset) cleared.channels
  generalize asEvent _ _ s = t at *
  have listT := (congrArg FaultList.entries ended.faults).trans (entries.trans entriesP)
  refine ⟨t, ran, fun e member => ?_, fun lawful => ?_, ended.preempt.trans (preempt.trans preemptP), ?_, ended.shown, fun c first last => ?_, fun maint => ?_,
    fun is => ?_, fun is => ?_, fun unattended => ?_⟩
  · rw [listT] at member
    obtain ⟨o, kept, rfl⟩ := List.mem_map.mp member
    exact ⟨(List.mem_filter.mp kept).2, rfl⟩
  · rw [listT, ends.entries (faultLaw_iff.mp lawful), filter_endedBy]
    refine congrArg (List.map _) (List.filter_congr fun e _ => ?_)
    rw [← endsAtClear_rest flash tables reds e]
    rfl
  · rw [ended.control]
    rcases modes with is | ⟨is, maint⟩
    · rw [(stays (by rw [controlP, is]; decide)).1, controlP, is]
    · rw [(leaves (by rw [controlP]; exact is) (by rw [controlP]; exact maint)).1]
  · have here : t.proving c = (clearedChannels (openEvent s)).proving c := by
      rw [← channels c]
      unfold State.proving
      rw [ended.prover, prover]
    obtain ⟨out, -, foreign⟩ := clearedChannels_lamps (s := openEvent s) first last
    have clears : (openEvent s).outClears c = ((s.tables.output c).latched && (s.proving c).lampOut && (!s.control.mode.permit || (s.proving c).lampOutReleased))
        ∧ (openEvent s).foreignClears c = ((s.tables.output c).latched && (s.proving c).foreign && (!s.control.mode.permit || (s.proving c).foreignReleased)) :=
      ⟨rfl, rfl⟩
    have proving : (openEvent s).proving c = s.proving c := rfl
    rw [here, out, foreign, clears.1, clears.2, flash, proving]
    unfold ChannelRec.latched
    cases (s.proving c).lampOut <;> cases (s.proving c).foreign <;> simp
  · rw [ended.exchange, exchange, controlP, exchangeP, maint]
    rfl
  · rcases modes with other | ⟨-, maint⟩
    · rw [is] at other; cases other
    · obtain ⟨control', store'⟩ := leaves (by rw [controlP]; exact is) (by rw [controlP]; exact maint)
      rw [ended.control, ended.store, control', store', storeP]
      exact ⟨rfl, rfl, rfl, rfl, rfl, rfl, rfl⟩
  · obtain ⟨control', store', -⟩ := stays (by rw [controlP, is]; decide)
    exact ⟨ended.control.trans (control'.trans controlP), ended.store.trans (store'.trans storeP)⟩
  · rw [ended.exchange, exchange, controlP, exchangeP, unattended]
    rfl

end Sys2Proof.Machine

/-! ### The fault clear in RUNNING (R131, R161) -/

namespace Sys2Proof.Machine

open Sys2Proof.Safety

/-- The conclusion of an event with an empty stack, where no red lamp whose failure counts is out and no RED_FAIL is active, reports nothing. -/
theorem conclude_lit {u : State} (stack : u.preempt.stack = []) (mode : u.control.mode ≠ .closing) (lit : u.redsLit) (none' : ∀ g, u.redFail g = false) :
    (conclude u).control = u.control ∧ (conclude u).store = u.store ∧ (conclude u).exchange = u.exchange ∧ (conclude u).preempt = u.preempt
      ∧ (conclude u).faults = u.faults ∧ ∀ c, (conclude u).proving c = u.proving c ∨ (conclude u).proving c = (u.proving c).noRuns := by
  have settled := settle_empty stack roundLimit
  have frame : (evaluateConcerned passLimit (rebuild u)).control = u.control ∧ (evaluateConcerned passLimit (rebuild u)).store = u.store
      ∧ (evaluateConcerned passLimit (rebuild u)).exchange = u.exchange ∧ (evaluateConcerned passLimit (rebuild u)).preempt = u.preempt
      ∧ (evaluateConcerned passLimit (rebuild u)).prover = u.prover ∧ (evaluateConcerned passLimit (rebuild u)).faults = u.faults := by simp
  rw [conclude_eq, settled]
  generalize evaluateConcerned passLimit (rebuild u) = v at frame
  obtain ⟨control, store, exchange, preempt, prover, faults⟩ := frame
  have open' : closeIfDone v = v := if_neg fun done => mode (control ▸ done.1)
  rw [open']
  have litV : v.redsLit := redsLit_congr lit (fun c off => by unfold State.proving at off ⊢; rwa [prover]) (congrArg Store.active store)
  have ends := finish_sound (u := v) fun g _ => redOut_of_redsLit litV g
  have noticed : (noticeGo v).prover = v.prover ∧ (noticeGo v).store = v.store ∧ (noticeGo v).faults = v.faults := by simp
  have litN : (noticeGo v).redsLit := redsLit_congr litV (fun c off => by unfold State.proving at off ⊢; rwa [noticed.1]) (congrArg Store.active noticed.2.1)
  have quiet : evaluateShown (noticeGo v) = noticeGo v := by
    unfold evaluateShown
    rw [evaluateReds_quiet (fun g _ => redOut_of_redsLit litN g) (fun g => by have own := none' g; unfold State.redFail at own ⊢; rwa [noticed.1, prover]), ite_self]
  refine ⟨ends.control.trans control, ends.store.trans store, ends.exchange.trans exchange, ends.preempt.trans preempt, ?_, fun c => ?_⟩
  · unfold finish
    rw [quiet]
    simp only [handReports_frame, arbitrateAll_frame, markIfDue_frame, numberImage_frame]
    exact noticed.2.2.trans faults
  · have own := ends.proving c
    have same : v.proving c = u.proving c := by unfold State.proving; rw [prover]
    rwa [same] at own

theorem asEvent_blocks {effect answer : State → State} (only : onlyLink answer) (s : State) :
    (asEvent effect answer s).control = (conclude (effect (openEvent s))).control ∧ (asEvent effect answer s).store = (conclude (effect (openEvent s))).store
      ∧ (asEvent effect answer s).exchange = (conclude (effect (openEvent s))).exchange
      ∧ (asEvent effect answer s).prover = (conclude (effect (openEvent s))).prover := by
  have same := only (conclude (effect (openEvent s)))
  exact ⟨(congrArg State.control same :), (congrArg State.store same :), (congrArg State.exchange same :), (congrArg State.prover same :)⟩

/-- A latched LAMP_OUT behind the clear, by its released mark. -/
theorem lamp_cleared {s t : State} {c : Nat} (permit : s.control.mode.permit = true) (latched : (s.tables.output c).latch = 1)
    (out : (t.proving c).lampOut = ((s.proving c).lampOut && !s.outClears c))
    (mark : (t.proving c).lampOutReleased = ((s.proving c).lampOutReleased && !s.outClears c))
    (foreign : (t.proving c).foreign = ((s.proving c).foreign && !s.foreignClears c)) :
    ((s.proving c).lampOutReleased = true →
        (t.proving c).lampOut = false ∧ (t.proving c).lampOutReleased = ((s.proving c).lampOutReleased && !(s.proving c).lampOut))
      ∧ ((s.proving c).lampOutReleased = false → (t.proving c).lampOut = (s.proving c).lampOut)
      ∧ ((s.proving c).foreignReleased = true → (t.proving c).foreign = false)
      ∧ ((s.proving c).foreignReleased = false → (t.proving c).foreign = (s.proving c).foreign) := by
  unfold State.outClears State.foreignClears State.clears ChannelRec.latched at *
  rw [permit, latched] at *
  refine ⟨fun released => ?_, fun kept => ?_, fun released => ?_, fun kept => ?_⟩
  · rw [out, mark, released]
    cases (s.proving c).lampOut <;> simp
  · rw [out, kept]
    simp
  · rw [foreign, released]
    cases (s.proving c).foreign <;> simp
  · rw [foreign, kept]
    simp

/-- An accepted fault clear in RUNNING. -/
theorem clear_running {s : State} (up : s.up = true) (hears : s.hears = true) (mode : s.control.mode = .running) (idle : s.storeBusy = false)
    (stack : s.preempt.stack = []) (lit : s.redsLit) (none' : ∀ g, s.redFail g = false) :
    ∃ t, exec .fcl s = .next t ∧ (∀ e ∈ t.faults.entries, e.active = true ∧ e.latched = false)
      ∧ (faultLaw s = true →
        t.faults.entries
          = (s.faults.entries.filter (fun e => e.active && !endsAtClear s e)).map (fun e => { e with latched := false }))
      ∧ t.control = s.control ∧ t.store = s.store ∧ t.preempt.nestingLimit = false
      ∧ t.exchange = { s.exchange with strikes := if s.control.maint then 0 else s.exchange.strikes }
      ∧ ∀ c, 1 ≤ c → c ≤ s.prover.channels.length →
        (t.proving c).lampOut = ((s.proving c).lampOut && !s.outClears c)
          ∧ (t.proving c).lampOutReleased = ((s.proving c).lampOutReleased && !s.outClears c)
          ∧ (t.proving c).foreign = ((s.proving c).foreign && !s.foreignClears c) := by
  have permit : s.control.mode.permit = true := by rw [mode]; rfl
  have passes : clearResult s = .ok := by
    unfold clearResult
    rw [if_neg (by rw [mode]; decide), idle, if_neg (by decide), if_neg (by rw [mode]; simp)]
  have ran := exec_fcl_ok up hears passes
  obtain ⟨event, exchange, preempt, engine, control, store⟩ := clearedChannels_frame (openEvent s)
  have ends := endedBy_clearedChannels (openEvent s)
  have litC : (clearedChannels (openEvent s)).redsLit :=
    redsLit_congr (s := s) lit (fun c off => clearedChannels_lampOut (s := openEvent s) off) (congrArg Store.active store)
  have noneC : ∀ g, (clearedChannels (openEvent s)).redFail g = false := fun g => (clearedChannels_redFail g _).trans (none' g)
  have lamps := fun c first last => clearedChannels_lamps (s := openEvent s) (c := c) first last
  have quiet := evaluateReds_quiet (s := clearedChannels (openEvent s)) (fun g _ => redOut_of_redsLit litC g) noneC
  have cleared : ∃ groups, clearLatched (openEvent s) = concern groups (clearedChannels (openEvent s)) := by
    refine ⟨(foreignEnded (openEvent s) (clearedChannels (openEvent s))).flatMap (clearedChannels (openEvent s)).blockedBy, ?_⟩
    unfold clearLatched
    dsimp only
    rw [if_pos (by exact permit), show evaluateReds (eachOf (openEvent s).channelNumbers clearChannel (openEvent s)) = clearedChannels (openEvent s) from quiet]
    rfl
  obtain ⟨groups, cleared⟩ := cleared
  have effectIs : clearEffect (openEvent s) = clearStrikes (pruneFaults (concern groups (clearedChannels (openEvent s)))) := by unfold clearEffect; rw [cleared]
  generalize clearedChannels (openEvent s) = v at *
  obtain ⟨-, preempt', prover', -, exchange', -, -, -⟩ := clearStrikes_parts (pruneFaults (concern groups v))
  obtain ⟨control', store', faults'⟩ := clearStrikes_stays (s := pruneFaults (concern groups v)) (by show v.control.mode ≠ _; rw [control]; show s.control.mode ≠ _; rw [mode]; decide)
  rw [← effectIs] at preempt' prover' exchange' control' store' faults'
  have controlU : (clearEffect (openEvent s)).control = s.control := control'.trans control
  have proverU : (clearEffect (openEvent s)).prover = v.prover := prover'
  have litU : (clearEffect (openEvent s)).redsLit :=
    redsLit_congr litC (fun c off => by unfold State.proving at off ⊢; rwa [proverU]) (congrArg Store.active store')
  obtain ⟨controlT, storeT, exchangeT, preemptT, faultsT, provingT⟩ := conclude_lit (u := clearEffect (openEvent s))
    (by rw [preempt']; show v.preempt.stack = []; rw [preempt]; exact stack) (by rw [controlU, mode]; decide) litU
    (fun g => by have own := noneC g; unfold State.redFail at own ⊢; rwa [proverU])
  obtain ⟨controlE, storeE, exchangeE, proverE⟩ := asEvent_blocks (effect := clearEffect) (reply_onlyLink fclKind .ok [byteOf (removedCount s)]) s
  have faultsE := asEvent_faults (effect := clearEffect) (reply_onlyLink fclKind .ok [byteOf (removedCount s)]) s
  have preemptE := asEvent_preempt (effect := clearEffect) (reply_onlyLink fclKind .ok [byteOf (removedCount s)]) s
  generalize asEvent _ _ s = t at *
  generalize conclude _ = w at *
  generalize clearEffect (openEvent s) = u at *
  have listT : t.faults.entries = (v.faults.entries.filter Entry.active).map (fun e => { e with latched := false }) := by
    rw [faultsE, faultsT, faults']
    rfl
  refine ⟨t, ran, fun e member => ?_, fun lawful => ?_, controlE.trans (controlT.trans controlU), storeE.trans (storeT.trans (store'.trans store)), ?_, ?_,
    fun c first last => ?_⟩
  · rw [listT] at member
    obtain ⟨o, kept, rfl⟩ := List.mem_map.mp member
    exact ⟨(List.mem_filter.mp kept).2, rfl⟩
  · rw [listT, ends.entries (faultLaw_iff.mp lawful), filter_endedBy]
    refine congrArg (List.map _) (List.filter_congr fun e _ => ?_)
    rw [← endsAtClear_permit permit e]
    rfl
  · rw [preemptE, preemptT, preempt']
    rfl
  · rw [exchangeE, exchangeT, exchange']
    show ({ v.exchange with strikes := if v.control.maint then 0 else v.exchange.strikes } : Exchange) = _
    rw [exchange, control]
    rfl
  · obtain ⟨out, mark, foreign⟩ := lamps c first last
    have here : t.proving c = v.proving c ∨ t.proving c = (v.proving c).noRuns := by
      have own := provingT c
      unfold State.proving at own ⊢
      rw [proverE]
      rwa [proverU] at own
    rcases here with same | same
    · rw [same]
      exact ⟨out, mark, foreign⟩
    · rw [same]
      exact ⟨out, mark, foreign⟩

end Sys2Proof.Machine

namespace Sys2Proof.Proofs

open Sys2Proof Sys2Proof.Machine Sys2Proof.Safety

/-- Settles O41: step 1 ends the conditions that `endsAtClear` names, entry by entry, steps 2 to 5 prune the list, and the conclusion reports nothing. -/
theorem faultClearPrunesAndLeavesLockout : Obligations.FaultClearPrunesAndLeavesLockout := by
  intro s hears
  refine ⟨fun rest mode idle may => clear_rest hears rest mode idle may, fun up mode idle stack lit none' => ?_⟩
  have permit : s.control.mode.permit = true := by rw [mode]; rfl
  obtain ⟨t, ran, all, entries, control, store, limit, exchange, channels⟩ := clear_running up hears mode idle stack lit none'
  refine ⟨t, ran, all, entries, control, store, limit, exchange, fun c first last => ?_⟩
  obtain ⟨out, mark, foreign⟩ := channels c first last
  refine ⟨fun latched => ?_, fun unlatched => ?_⟩
  · obtain ⟨outReleased, outKept, foreignReleased, foreignKept⟩ := lamp_cleared permit latched out mark foreign
    refine ⟨outReleased, outKept, foreignReleased, foreignKept, fun lawful was gone e member is of => ?_, fun lawful was gone e member is of => ?_⟩
    · rw [entries lawful] at member
      obtain ⟨o, kept, rfl⟩ := List.mem_map.mp member
      have stays := (List.mem_filter.mp kept).2
      have released : (s.proving c).lampOutReleased = true := by
        by_contra held
        rw [outKept (by simpa using held), was] at gone
        cases gone
      obtain ⟨kind, subject, first, last, count, active, mark, action⟩ := o
      cases is
      cases of
      simp [endsAtClear, was, latched, released] at stays
    · rw [entries lawful] at member
      obtain ⟨o, kept, rfl⟩ := List.mem_map.mp member
      have stays := (List.mem_filter.mp kept).2
      have released : (s.proving c).foreignReleased = true := by
        by_contra held
        rw [foreignKept (by simpa using held), was] at gone
        cases gone
      obtain ⟨kind, subject, first, last, count, active, mark, action⟩ := o
      cases is
      cases of
      simp [endsAtClear, was, latched, released] at stays
  · have no : s.outClears c = false ∧ s.foreignClears c = false := by
      unfold State.outClears State.foreignClears ChannelRec.latched
      rw [decide_eq_false unlatched]
      exact ⟨rfl, rfl⟩
    rw [out, foreign, no.1, no.2]
    simp

end Sys2Proof.Proofs

/-! ### The actions requested at an event (R80, R159) -/

namespace Sys2Proof.Machine

open Sys2Proof.Safety

theorem Action.code_max (a b : Action) : (a.max b).code = Nat.max a.code b.code := by
  unfold Action.max
  split
  · next less => exact (Nat.max_eq_right (Nat.le_of_lt less)).symm
  · next least => exact (Nat.max_eq_left (Nat.not_lt.mp least)).symm

/-- The worst action requested at an event has only grown, and where `mild` says so no further than to REPORT. -/
structure Graver (mild : Bool) (s t : State) : Prop where
  least : s.event.worst.code ≤ t.event.worst.code
  most : mild = true → t.event.worst.code ≤ Nat.max 1 s.event.worst.code

variable {mild : Bool}

theorem graver_of_same {s t : State} (same : t.event.worst = s.event.worst) : Graver mild s t :=
  ⟨by rw [same], fun _ => by rw [same]; exact Nat.le_max_right _ _⟩

theorem Graver.refl (s : State) : Graver mild s s := graver_of_same rfl

theorem Graver.trans {s t u : State} (first : Graver mild s t) (second : Graver mild t u) : Graver mild s u :=
  ⟨first.least.trans second.least, fun is => (second.most is).trans (Nat.max_le.mpr ⟨Nat.le_max_left _ _, first.most is⟩)⟩

theorem Graver.after {s t u : State} (h : Graver mild s t) (same : u.event.worst = t.event.worst) : Graver mild s u := h.trans (graver_of_same same)

theorem graver_eachOf {α : Type} {f : α → State → State} (each : ∀ x s, Graver mild s (f x s)) (l : List α) (s : State) : Graver mild s (eachOf l f s) :=
  eachOf_holds (fun t => Graver mild s t) f (fun x t h => h.trans (each x t)) l s (.refl s)

theorem graver_note {r : Raise} (report : mild = true → r.action.code ≤ 1) (s : State) : Graver mild s (note r s) := by
  have worst : (note r s).event.worst = s.event.worst.max r.action := by rw [note_event]
  refine ⟨by rw [worst, Action.code_max]; exact Nat.le_max_left _ _, fun is => ?_⟩
  rw [worst, Action.code_max]
  exact Nat.max_le.mpr ⟨Nat.le_max_right _ _, (report is).trans (Nat.le_max_left _ _)⟩

theorem graver_noteOccurrence (kind : FaultKind) (subject : Option Nat) (s : State) : Graver mild s (noteOccurrence kind subject s) :=
  graver_note (r := { kind := kind, subject := subject, action := .report, condition := false }) (fun _ => Nat.le_refl 1) s

/-! #### The plans -/

theorem graver_reportLimit (p : Nat) (s : State) : Graver mild s (reportLimit p s) := by
  unfold reportLimit
  dsimp only
  split
  · exact graver_of_same rfl
  · exact .trans (t := changePlan p (fun x => { x with limitReported := true }) { s with preempt.nestingLimit := true }) (graver_of_same rfl)
      (graver_noteOccurrence _ _ _)

theorem graver_consider (s : State) : Graver mild s (consider s) := by
  unfold consider
  dsimp only
  repeat' split
  · exact graver_of_same rfl
  · exact .refl s
  · exact graver_eachOf graver_reportLimit _ s
  · exact .refl s

theorem graver_topStep {s t : State} (step : topStep s = some t) : Graver mild s t := by
  have ends : ∀ p outcome, Graver mild s (consider (unstack p outcome s)) := fun p outcome =>
    .trans (t := unstack p outcome s) (graver_of_same (by simp)) (graver_consider _)
  have top : ∀ f, Graver mild s (changeTop f s) := fun f => graver_of_same (by unfold changeTop; split <;> rfl)
  unfold topStep at step
  dsimp only at step
  repeat' split at step
  all_goals cases step
  · exact ends _ _
  · exact top _
  · exact top _
  · exact top _
  · exact ends _ _
  · exact ends _ _

theorem graver_advance (steps : Nat) (s : State) : Graver mild s (advance steps s) := by
  induction steps generalizing s with
  | zero => exact .refl s
  | succ n ih =>
    unfold advance
    split
    · next t step => exact (graver_topStep step).trans (ih t)
    · exact .refl s

theorem graver_considerTaking (s : State) : Graver mild s (considerTaking s) := by
  unfold considerTaking
  dsimp only
  split
  · exact graver_consider s
  · exact (graver_consider s).trans (graver_advance _ _)

theorem worst_rebuild (s : State) : (rebuild s).event.worst = s.event.worst := by
  obtain ⟨-, -, -, -, -, -, worst, -⟩ := rebuild_rest (s := s)
  exact worst

theorem worst_evaluateConcerned (passes : Nat) (s : State) : (evaluateConcerned passes s).event.worst = s.event.worst := by
  have group : ∀ g (t : State), (evaluate g t).event.worst = t.event.worst := fun g t => by
    unfold evaluate
    dsimp only
    repeat' split
    all_goals rfl
  induction passes generalizing s with
  | zero => rfl
  | succ n ih =>
    unfold evaluateConcerned
    split
    · rfl
    · exact (ih _).trans (eachOf_keeps (fun t => t.event.worst) evaluate (fun g t => group g t) _ _)

theorem graver_settle (rounds : Nat) (s : State) : Graver mild s (settle rounds s) := by
  have evaluated : ∀ u : State, Graver mild u (evaluateConcerned passLimit (rebuild u)) := fun u =>
    graver_of_same ((worst_evaluateConcerned _ _).trans (worst_rebuild u))
  induction rounds generalizing s with
  | zero => exact evaluated s
  | succ n ih =>
    unfold settle
    dsimp only
    split
    · exact ((evaluated s).trans (graver_advance _ _)).trans (ih _)
    · exact evaluated s

/-! #### The changes of mode -/

theorem worst_leavePermit (new : Mode) (cause : Cause) (record : Option (FaultKind × Option Nat)) (s : State) :
    (leavePermit new cause record s).event.worst = s.event.worst := by simp [leavePermit, setMode]

theorem worst_enterClosing (target : CloseTarget) (cause : CloseCause) (s : State) : (enterClosing target cause s).event.worst = s.event.worst := by
  simp [enterClosing, setMode]

theorem worst_takeAction (r : Raise) (close : CloseTarget) (s : State) : (takeAction r close s).event.worst = s.event.worst := by
  have flashed : ∀ new cause record, (changeFlashMode new cause record s).event.worst = s.event.worst := fun _ _ record => by
    cases record <;> simp [changeFlashMode, setMode]
  unfold takeAction
  repeat' split
  all_goals simp only [worst_leavePermit, worst_enterClosing, flashed]

theorem graver_endRedFail (g : Nat) (s : State) : Graver mild s (endRedFail g s) := graver_of_same (by rw [(redsEnded_endRedFail g s).event])

theorem graver_handRed (change : Nat × Bool) (s : State) : Graver false s (handRed change s) := by
  have raised : Graver false s (raise (redFailRaise s.tables change.1) (setRedFail true change.1 s)) := by
    have set : Graver false s (setRedFail true change.1 s) := graver_of_same rfl
    exact (set.trans (graver_note (mild := false) nofun _)).after (worst_takeAction _ _ _)
  unfold handRed
  dsimp only
  split
  · split
    · exact raised
    · exact raised.trans (graver_endRedFail _ _)
  · exact graver_endRedFail _ _

theorem graver_closeIfDone (s : State) : Graver mild s (closeIfDone s) := by
  unfold closeIfDone
  split
  · exact graver_of_same (worst_leavePermit _ _ _ _)
  · exact .refl s

theorem graver_evaluateShown {s : State} (calm : mild = true → noLampOut s = true) : Graver mild s (evaluateShown s) := by
  cases mild with
  | true => exact graver_of_same (by rw [(redsEnded_evaluateShown fun g _ => redOut_of_noLampOut (calm rfl) g).event])
  | false =>
    unfold evaluateShown
    split
    · exact .refl s
    · exact graver_eachOf graver_handRed _ s

theorem worst_numberImage (s : State) : (numberImage s).event.worst = s.event.worst := by
  unfold numberImage
  split
  · rfl
  · refine (eachOf_keeps (fun t => t.event.worst) _ (fun c t => ?_) _ _).trans rfl
    dsimp only
    split <;> rfl

theorem worst_noticeGo (s : State) : (noticeGo s).event.worst = s.event.worst := by
  refine eachOf_keeps (fun t => t.event.worst) serveCalls (fun g t => ?_) _ s
  unfold serveCalls
  refine eachOf_keeps (fun t => t.event.worst) _ (fun c u => ?_) _ t
  unfold reportChange report
  dsimp only
  repeat' split
  all_goals rfl

/-- Whatever an event's conclusion requests joins what its own effect has requested; in calm it requests no more than REPORT. -/
theorem graver_conclude {s : State} (calm : mild = true → noLampOut s = true) : Graver mild s (conclude s) := by
  have settled := (graver_settle (mild := mild) roundLimit s).trans (graver_closeIfDone _)
  have noticed := settled.after (worst_noticeGo _)
  have dark : mild = true → noLampOut (noticeGo (closeIfDone (settle roundLimit s))) = true := fun is => by
    have settledDark : noLampOut (settle roundLimit s) = true := (noLampOut_of_channels (by simp)).trans (calm is)
    exact (noLampOut_of_channels (by simp)).trans (noLampOut_closeIfDone settledDark)
  have judged := (noticed.trans (graver_evaluateShown dark)).after (worst_numberImage _)
  unfold conclude
  generalize numberImage (evaluateShown (noticeGo (closeIfDone (settle roundLimit s)))) = v at judged ⊢
  exact judged.after (by simp)

end Sys2Proof.Machine

/-! ### Every frame but a forwarded one is answered (R79, R180, log 18) -/

namespace Sys2Proof.Machine

open Sys2Proof.Safety

/-! #### What the effects of frames report -/

theorem reportedOnly_enterRunning (cause : Cause) (s : State) : reportedOnly s (enterRunning cause s) := by
  unfold enterRunning
  dsimp only
  refine reportedOnly_trans (reportedOnly_trans ?_ (reportedOnly_considerTaking _)) (reportedOnly_announce _ _)
  exact reportedOnly_trans (t := { setMode .running cause s with control.startTimer := none, control.firstImage := none }) (reportedOnly_of_link rfl)
    (reportedOnly_endLapse _)

theorem reportedOnly_acceptImage (chain next : Half) (inhibit : Byte) (targets : BitVec 48) (s : State) :
    reportedOnly s (acceptImage chain next inhibit targets s) := by
  have kept : reportedOnly s (keepImage chain next inhibit targets s) := reportedOnly_of_link rfl
  unfold acceptImage
  dsimp only
  repeat' split
  · exact reportedOnly_trans kept (reportedOnly_enterRunning _ _)
  · exact reportedOnly_trans (t := { keepImage chain next inhibit targets s with control.firstImage := some true }) (reportedOnly_of_link rfl)
      (reportedOnly_enterRunning _ _)
  · exact reportedOnly_of_link rfl
  · exact kept
  · exact reportedOnly_trans kept (reportedOnly_considerTaking _)
  all_goals exact kept

theorem reportedOnly_imageEffect (chain next : Half) (inhibit : Byte) (targets : BitVec 48) (s u : State) :
    reportedOnly u (imageEffect chain next inhibit targets s u) := by
  unfold imageEffect
  split
  · exact reportedOnly_acceptImage _ _ _ _ u
  · exact refuseImage_reported _ u

theorem reportedOnly_fillSlot (p : Nat) (s : State) : reportedOnly s (fillSlot p s) :=
  reportedOnly_trans (t := { s with preempt.slot := some { plan := p, called := true } }) (reportedOnly_of_link rfl)
    (reportedOnly_of_reporting (reporting_sourcesActive (K := fun _ _ => True) false [p] (fun _ _ => trivial)))

theorem reportedOnly_emptySlot (s : State) : reportedOnly s (emptySlot s) :=
  reportedOnly_of_reporting (reporting_plansOnly (K := fun _ _ => True) (plansOnly_emptySlot s))

theorem reportedOnly_callPlan (p : Nat) (s u : State) : reportedOnly u ((callPlan p s).2 u) := by
  unfold callPlan
  repeat' split
  · exact reportedOnly_fillSlot p u
  · exact reportedOnly_of_link rfl
  · exact reportedOnly_of_link rfl
  · exact reportedOnly_trans (reportedOnly_emptySlot u) (reportedOnly_fillSlot p _)

theorem reportedOnly_cancelPlan (p : Nat) (s : State) : reportedOnly s (cancelPlan p s) := by
  unfold cancelPlan
  repeat' split
  · exact reportedOnly_of_link rfl
  · next slot _ _ _ =>
    exact reportedOnly_trans (t := { s with preempt.slot := some { slot with called := false } }) (reportedOnly_of_link rfl)
      (reportedOnly_of_reporting (reporting_sourcesInactive (K := fun _ _ => True) [p] (fun _ _ => trivial)))
  · exact reportedOnly_emptySlot s
  · exact reportedOnly_of_link rfl

theorem reportedOnly_recurStations (br : BranchId) (s : State) : reportedOnly s (recurStations br s) :=
  reportedOnly_trans (reportedOnly_eachOf (fun _ _ => reportedOnly_raise _ _) _ _) (reportedOnly_eachOf (fun _ _ => reportedOnly_raise _ _) _ _)

theorem reportedOnly_enterStart (startChain : Half) (s : State) : reportedOnly s (enterStart startChain s) :=
  reportedOnly_trans (reportedOnly_trans (reportedOnly_alarm_of_link rfl _) (reportedOnly_evaluateReds (started startChain s)))
    (reportedOnly_eachOf reportedOnly_recurStations branchIds _)

/-! #### A frame and its answer -/

/-- A frame that is taken is answered behind what its event reports. -/
theorem frame_answered {effect : State → State} {f : State → OutFrame} {s : State} (up : s.up = true) (hears : s.hears = true)
    (own : ∀ u, reportedOnly u (effect u)) : ∃ t, frameOutcome effect (fun w => send (f w) w) s = .next t ∧ answered s t (f (conclude (effect (openEvent s)))) :=
  ⟨_, frameOutcome_heard up hears, asEvent_answered (own _)⟩

theorem reply_answered {effect : State → State} {s : State} (up : s.up = true) (hears : s.hears = true) (own : ∀ u, reportedOnly u (effect u))
    (kind : Byte) (result : Result) (content : List Byte) :
    ∃ t, frameOutcome effect (reply kind result content) s = .next t ∧ answered s t (.rpl kind result content) :=
  frame_answered (f := fun _ => .rpl kind result content) up hears own

theorem reportedOnly_if {b : Prop} [Decidable b] {f : State → State} (own : ∀ u, reportedOnly u (f u)) (u : State) :
    reportedOnly u ((if b then f else id) u) := by
  split
  · exact own u
  · exact reportedOnly_of_link rfl

theorem runResult_iff (cabinet generation : Half) (s : State) :
    (s.control.mode ≠ .flash → runResult cabinet generation s = .mode)
      ∧ (s.control.mode = .flash → s.storeBusy = true → runResult cabinet generation s = .busy)
      ∧ (s.control.mode = .flash → s.storeBusy = false → s.store.active = none → runResult cabinet generation s = .invalid)
      ∧ (s.control.mode = .flash → s.storeBusy = false → s.store.active.isSome = true →
        (cabinet ≠ s.tables.cabinet.number ∨ generation ≠ s.store.generation) → runResult cabinet generation s = .mismatch) := by
  unfold runResult
  refine ⟨fun mode => if_pos mode, fun mode busy => ?_, fun mode idle empty => ?_, fun mode idle active other => ?_⟩
  · rw [if_neg (not_not.mpr mode), if_pos busy]
  · rw [if_neg (not_not.mpr mode), idle, if_neg (by decide), empty]
    rfl
  · obtain ⟨t, is⟩ := Option.isSome_iff_exists.mp active
    rw [if_neg (not_not.mpr mode), idle, if_neg (by decide), is, if_neg (by simp), if_pos other]

/-! #### The worst action of an echo -/

/-- The worst of some actions: it is at least each, and is one of them or the one at the start. -/
theorem worst_foldl (l : List Entry) (a : Action) :
    a.code ≤ (l.foldl (fun a e => a.max e.action) a).code ∧ (∀ e ∈ l, e.action.code ≤ (l.foldl (fun a e => a.max e.action) a).code)
      ∧ (l.foldl (fun a e => a.max e.action) a = a ∨ ∃ e ∈ l, e.action = l.foldl (fun a e => a.max e.action) a) := by
  induction l generalizing a with
  | nil => exact ⟨Nat.le_refl _, nofun, .inl rfl⟩
  | cons e l ih =>
    obtain ⟨least, all, is⟩ := ih (a.max e.action)
    rw [List.foldl_cons]
    rw [Action.code_max] at least
    refine ⟨(Nat.le_max_left _ _).trans least, fun o member => ?_, ?_⟩
    · rcases List.mem_cons.mp member with rfl | later
      · exact (Nat.le_max_right _ _).trans least
      · exact all o later
    · rcases is with same | ⟨o, member, same⟩
      · rw [same]
        unfold Action.max
        split
        · exact .inr ⟨e, List.mem_cons_self .., rfl⟩
        · exact .inl rfl
      · exact .inr ⟨o, List.mem_cons_of_mem _ member, same⟩

theorem worst_iff (s : State) :
    s.event.worst.code ≤ s.worst.code ∧ (∀ e ∈ s.faults.entries, e.active = true → e.action.code ≤ s.worst.code)
      ∧ (s.worst = s.event.worst ∨ ∃ e ∈ s.faults.entries, e.active = true ∧ e.action = s.worst) := by
  obtain ⟨least, all, is⟩ := worst_foldl (s.faults.entries.filter Entry.active) s.event.worst
  refine ⟨least, fun e member active => all e (List.mem_filter.mpr ⟨member, active⟩), is.imp id ?_⟩
  rintro ⟨e, member, same⟩
  exact ⟨e, (List.mem_filter.mp member).1, (List.mem_filter.mp member).2, same⟩

theorem graver_enterRunning {mild : Bool} (cause : Cause) (s : State) : Graver mild s (enterRunning cause s) := by
  have entered : Graver mild s (endLapse { setMode .running cause s with control.startTimer := none, control.firstImage := none }) :=
    graver_of_same (by simp [setMode])
  exact (entered.trans (graver_considerTaking _)).after rfl

theorem graver_acceptImage {mild : Bool} (chain next : Half) (inhibit : Byte) (targets : BitVec 48) (s : State) :
    Graver mild s (acceptImage chain next inhibit targets s) := by
  have kept : Graver mild s (keepImage chain next inhibit targets s) := graver_of_same rfl
  unfold acceptImage
  dsimp only
  repeat' split
  · exact kept.trans (graver_enterRunning _ _)
  · exact .trans (t := { keepImage chain next inhibit targets s with control.firstImage := some true }) (graver_of_same rfl) (graver_enterRunning _ _)
  · exact graver_of_same rfl
  · exact kept
  · exact kept.trans (graver_considerTaking _)
  all_goals exact kept

theorem graver_refuseImage {mild : Bool} (result : Result) (s : State) : Graver mild s (refuseImage result s) := by
  have warned : ∀ u, Graver mild s u → Graver mild s
      (if u.control.mode = .warning then note { kind := .supervision, subject := none, action := .report, condition := true } u else u) := fun u hu => by
    split
    · exact hu.trans (graver_note (r := { kind := .supervision, subject := none, action := .report, condition := true }) (fun _ => Nat.le_refl 1) _)
    · exact hu
  have counted : Graver mild s { s with exchange.imagesRefused := s.exchange.imagesRefused + 1 } := graver_of_same rfl
  unfold refuseImage
  cases result with
  | chain => exact warned _ (counted.trans (graver_noteOccurrence _ _ _))
  | conflict => exact warned _ (counted.trans (graver_noteOccurrence _ _ _))
  | _ => exact warned _ counted

/-- A refusal with CHAIN or CONFLICT requests a REPORT. -/
theorem refuseImage_worst {result : Result} (is : result = .chain ∨ result = .conflict) (s : State) : 1 ≤ (refuseImage result s).event.worst.code := by
  have noted : ∀ (kind : FaultKind) (u : State), 1 ≤ (noteOccurrence kind none u).event.worst.code := fun kind u => by
    have worst : (noteOccurrence kind none u).event.worst = u.event.worst.max .report := by rw [noteOccurrence_event]
    rw [worst, Action.code_max]
    exact Nat.le_max_right _ _
  have warned : ∀ u : State, 1 ≤ u.event.worst.code → 1 ≤
      (if u.control.mode = .warning then note { kind := .supervision, subject := none, action := .report, condition := true } u else u).event.worst.code :=
    fun u least => by
    split
    · exact least.trans (graver_note (mild := false) nofun u).least
    · exact least
  unfold refuseImage
  rcases is with rfl | rfl
  · exact warned _ (noted .chain _)
  · exact warned _ (noted .requestedConflict _)

/-- What the worst action of an echo is made of (R80). -/
theorem echo_worst (chain next : Half) (inhibit : Byte) (targets : BitVec 48) (s : State) :
    (imageResult chain next targets s = .chain ∨ imageResult chain next targets s = .conflict →
        1 ≤ (conclude (imageEffect chain next inhibit targets s (openEvent s))).worst.code)
      ∧ (noLampOut s = true → (conclude (imageEffect chain next inhibit targets s (openEvent s))).worst.code ≤ 1
        ∨ ∃ x ∈ (conclude (imageEffect chain next inhibit targets s (openEvent s))).faults.entries,
          x.active = true ∧ x.action = (conclude (imageEffect chain next inhibit targets s (openEvent s))).worst) := by
  refine ⟨fun is => ?_, fun calm => ?_⟩
  · have refused : imageEffect chain next inhibit targets s = refuseImage (imageResult chain next targets s) := by
      unfold imageEffect
      rw [if_neg (by rcases is with is | is <;> rw [is] <;> decide)]
    rw [refused]
    exact ((refuseImage_worst is (openEvent s)).trans (graver_conclude (mild := false) nofun).least).trans (worst_iff _).1
  · have own : Graver true (openEvent s) (imageEffect chain next inhibit targets s (openEvent s)) := by
      unfold imageEffect
      split
      · exact graver_acceptImage _ _ _ _ _
      · exact graver_refuseImage _ _
    have channels : (imageEffect chain next inhibit targets s (openEvent s)).prover.channels = s.prover.channels := by
      unfold imageEffect
      split
      · simp
      · exact congrArg Prover.channels (refuseImage_parts _ _).2.2.2.2.2.1
    have all := (own.trans (graver_conclude fun _ => (noLampOut_of_channels channels).trans calm)).most rfl
    rcases (worst_iff (conclude (imageEffect chain next inhibit targets s (openEvent s)))).2.2 with same | found
    · left
      rw [same]
      exact all
    · exact .inr found

end Sys2Proof.Machine

namespace Sys2Proof.Proofs

open Sys2Proof Sys2Proof.Machine Sys2Proof.Safety

/-- Settles O22: each frame's own effect hands on reports alone, so does the conclusion, and the answer is placed behind them. -/
theorem framesAreAnswered : Obligations.FramesAreAnswered := by
  intro s listens
  obtain ⟨up, hears⟩ : s.up = true ∧ s.hears = true := by simpa [listening] using listens
  refine ⟨fun chain next inhibit targets => ?_, fun plan => ?_, fun plan request => ?_, fun cabinet generation chain => ?_, fun request other => ?_,
    fun table index content => ?_, fun table index copy => ?_, ?_, ?_, fun part first => ?_, ?_, fun kind => ?_⟩
  · have ran := exec_img up hears chain next inhibit targets
    obtain ⟨made, reports, link⟩ := reportedOnly_trans (reportedOnly_imageEffect chain next inhibit targets s (openEvent s)) (reportedOnly_conclude _)
    obtain ⟨grave, mild⟩ := echo_worst chain next inhibit targets s
    have all := (worst_iff (conclude (imageEffect chain next inhibit targets s (openEvent s)))).2.1
    have closed : asEvent (imageEffect chain next inhibit targets s) (echoAnswer (imageResult chain next targets s)) s
        = closeEvent (echoAnswer (imageResult chain next targets s) (conclude (imageEffect chain next inhibit targets s (openEvent s)))) := by simp only [asEvent]
    have linked : (closeEvent (echoAnswer (imageResult chain next targets s) (conclude (imageEffect chain next inhibit targets s (openEvent s))))).link
        = (made.foldl Link.accept s.link).accept (.ech ((conclude (imageEffect chain next inhibit targets s (openEvent s))).echo (imageResult chain next targets s))) := by
      rw [(closeEvent_frame _).2.2.1, echoAnswer, send_link, link]
      rfl
    rw [closed] at ran
    generalize conclude _ = v at *
    refine ⟨_, v.echo (imageResult chain next targets s), made, ran, reports, linked, congrArg Link.reportsLost link, rfl, rfl, rfl,
      rfl, rfl, rfl, rfl, rfl, rfl, rfl, fun flash => imageResult_mode flash, fun permit other => imageResult_chain permit other,
      fun permit expected => ⟨fun range => imageResult_range permit expected range, fun other defined => imageResult_passes permit expected other defined⟩,
      all, grave, mild⟩
  · obtain ⟨t, ran, told⟩ := reply_answered (effect := (if calResult plan 0 s = .ok then callPlan plan.toNat s else (calResult plan 0 s, id)).2) up hears
      (fun u => by split; exacts [reportedOnly_callPlan _ _ u, reportedOnly_of_link rfl]) 0x11
      (if calResult plan 0 s = .ok then callPlan plan.toNat s else (calResult plan 0 s, id)).1 []
    refine ⟨t, _, ran, told, fun flash => ?_⟩
    have result : calResult plan 0 s = .mode := by unfold calResult; dsimp only; rw [if_pos flash]
    rw [result, if_neg (by decide)]
  · obtain ⟨t, ran, told⟩ := reply_answered (effect := if calResult plan request s = .ok then cancelPlan plan.toNat else id) up hears
      (reportedOnly_if (reportedOnly_cancelPlan _)) 0x11 (calResult plan request s) []
    refine ⟨t, _, ran, told, fun flash => ?_, fun permit beyond => ?_⟩
    · unfold calResult
      dsimp only
      rw [if_pos flash]
    · unfold calResult
      dsimp only
      rw [if_neg (by rw [permit]; decide), if_pos (.inr beyond)]
  · obtain ⟨t, ran, told⟩ := reply_answered (effect := if runResult cabinet generation s = .ok then enterStart chain else id) up hears
      (reportedOnly_if (reportedOnly_enterStart chain)) 0x12 (runResult cabinet generation s) []
    exact ⟨t, _, ran, told, runResult_iff cabinet generation s⟩
  · obtain ⟨t, ran, told⟩ := reply_answered (effect := if flashResult request s = .ok ∧ s.control.mode ≠ .flash ∧ s.control.mode ≠ .closing
        then enterClosing .flash .modFlash else id) up hears (reportedOnly_if (reportedOnly_enterClosing _ _)) 0x12 (flashResult request s) []
    refine ⟨t, _, ran, told, fun loading => ?_, fun mode => ?_⟩
    · unfold flashResult
      rw [loading]
    · unfold flashResult
      cases held : s.control.mode with
      | loading => exact absurd held mode
      | _ => exact if_neg other
  · obtain ⟨t, ran, told⟩ := reply_answered (effect := if writeResult table index content s = .ok then
        fun s => { s with store.working := writeRecord s.store.working table.toNat index.toNat content } else id) up hears
      (reportedOnly_if fun _ => reportedOnly_of_link rfl) 0x13 (writeResult table index content s) []
    exact ⟨t, _, ran, told⟩
  · obtain ⟨t, ran, told⟩ := reply_answered (effect := id) up hears (fun _ => reportedOnly_of_link rfl) 0x14 (readAnswer table index copy s).1
      (readAnswer table index copy s).2
    refine ⟨t, _, _, ran, told, fun loading => ?_, fun mode missing => ?_, fun mode beyond => ?_⟩
    · unfold readAnswer
      rw [if_pos loading]
    · unfold readAnswer
      rw [if_neg mode, if_pos missing]
    · unfold readAnswer
      rw [if_neg mode]
      split
      · rfl
      · split
        · next zero => omega
        · next one => omega
        · next two => omega
        · rfl
  · obtain ⟨t, ran, told⟩ := reply_answered (effect := if (commitAnswer s).1 = .ok then startCommit else id) up hears
      (reportedOnly_if fun _ => reportedOnly_of_link rfl) 0x15 (commitAnswer s).1 (commitAnswer s).2
    exact ⟨t, _, _, ran, told⟩
  · obtain ⟨t, ran, told⟩ := reply_answered (effect := if discardResult s = .ok then resetWorking else id) up hears
      (reportedOnly_if fun _ => reportedOnly_of_link rfl) 0x16 (discardResult s) []
    exact ⟨t, _, ran, told⟩
  · obtain ⟨t, ran, told⟩ := frame_answered (effect := id) (f := fun w => .rpl 0x17 (statusAnswer part first w).1 (statusAnswer part first w).2) up hears
      (fun _ => reportedOnly_of_link rfl)
    exact ⟨t, _, _, ran, told⟩
  · by_cases passes : clearResult s = .ok
    · exact ⟨_, _, _, exec_fcl_ok up hears passes, asEvent_answered (f := fun _ => .rpl 0x18 .ok [byteOf (removedCount s)]) (reportedOnly_clearEffect _)⟩
    · exact ⟨_, _, _, exec_fcl_refused up hears passes, asEvent_answered (f := fun _ => .rpl 0x18 (clearResult s) []) (effect := id) (reportedOnly_of_link rfl)⟩
  · obtain ⟨t, ran, told⟩ := reply_answered (effect := id) up hears (fun _ => reportedOnly_of_link rfl) kind .unknown []
    exact ⟨t, ran, told⟩

end Sys2Proof.Proofs

/-! ### The trail of alarms over the commands (R65, R163) -/

namespace Sys2Proof.Machine

open Sys2Proof.Safety

/-- The alarms made between two states lead from the mode and last cause of the one to those of the other. -/
def Heard (s t : State) : Prop := Told (s.control.mode, s.control.lastCause) s (t.control.mode, t.control.lastCause) t

/-- The mode and its last cause stand, and no alarm made tells of a mode. -/
structure Hushed (s t : State) : Prop where
  told : ∀ p, Told p s p t := by exact fun p => told_of_same rfl rfl rfl
  mode : t.control.mode = s.control.mode
  cause : t.control.lastCause = s.control.lastCause

theorem Hushed.refl (s : State) : Hushed s s := ⟨fun p => told_refl p s, rfl, rfl⟩

theorem Hushed.trans {s t u : State} (first : Hushed s t) (second : Hushed t u) : Hushed s u where
  told p := told_trans (first.told p) (second.told p)
  mode := second.mode.trans first.mode
  cause := second.cause.trans first.cause

theorem Hushed.heard {s t : State} (h : Hushed s t) : Heard s t := by
  unfold Heard
  rw [h.mode, h.cause]
  exact h.told _

theorem Heard.refl (s : State) : Heard s s := told_refl _ s

theorem Heard.trans {s t u : State} (first : Heard s t) (second : Heard t u) : Heard s u := told_trans first second

theorem Hushed.then {s t u : State} (first : Hushed s t) (second : Heard t u) : Heard s u := first.heard.trans second

theorem Heard.hush {s t u : State} (first : Heard s t) (second : Hushed t u) : Heard s u := first.trans second.heard

theorem hushed_eachOf {α : Type} {f : α → State → State} (each : ∀ x s, Hushed s (f x s)) (l : List α) (s : State) : Hushed s (Machine.eachOf l f s) := by
  induction l generalizing s with
  | nil => exact .refl s
  | cons x l ih => exact (each x s).trans (ih _)

theorem heard_eachOf {α : Type} {f : α → State → State} (each : ∀ x s, Heard s (f x s)) (l : List α) (s : State) : Heard s (Machine.eachOf l f s) := by
  induction l generalizing s with
  | nil => exact .refl s
  | cons x l ih => exact (each x s).trans (ih _)

theorem hushed_of_same {s t : State} (clock : t.clock = s.clock) (link : t.link = s.link) (faults : t.faults = s.faults)
    (control : t.control = s.control) : Hushed s t where
  told _ := told_of_same (by rw [clock]) link (by rw [faults])
  mode := by rw [control]
  cause := by rw [control]

/-- A change of mode, whatever stands between it and its alarm. -/
theorem heard_announce {s u : State} (told : ∀ p, Told p s p u) (changed : u.control.mode ≠ s.control.mode) :
    Heard s (announce s.control.mode u) :=
  told_trans (told _) (told_announce s.control.mode s.control.lastCause u changed)

/-- Reports of any kind and subject. -/
abbrev Reports : State → State → Prop := Reporting (fun _ _ => True)

theorem Reporting.hushed {K : FaultKind → Option Nat → Prop} {s t : State} (h : Reporting K s t) : Hushed s t :=
  ⟨h.told, by rw [h.control], by rw [h.control]⟩

theorem mayTake_any (s : State) : MayTake (fun _ _ => True) s := fun _ _ => trivial

/-! #### The operations that announce no mode -/

theorem hushed_plansOnly {s t : State} (h : PlansOnly s t) : Hushed s t := (reporting_plansOnly (K := fun _ _ => True) h).hushed

theorem hushed_note (r : Raise) (s : State) : Hushed s (note r s) := ⟨(told_note r · s), by simp, by simp⟩

theorem hushed_recordRaise (r : Raise) (s : State) : Hushed s (recordRaise r s) := ⟨(told_recordRaise r · s), by simp, by simp⟩

theorem hushed_reportEnd (kind : FaultKind) (subject : Option Nat) (s : State) : Hushed s (reportEnd kind subject s) :=
  ⟨(told_reportEnd kind subject · s), by simp, by simp⟩

theorem hushed_send (f : OutFrame) (quiet : ∀ a, f ≠ .alm a) (s : State) : Hushed s (send f s) := ⟨(told_send f quiet · s), rfl, rfl⟩

theorem hushed_pruneFaults (s : State) : Hushed s (pruneFaults s) :=
  ⟨fun _ => told_of_same rfl rfl rfl, rfl, rfl⟩

theorem hushed_considerTaking (s : State) : Hushed s (considerTaking s) := (reporting_considerTaking (mayTake_any s)).hushed

theorem hushed_consider (s : State) : Hushed s (consider s) := (reporting_consider (mayTake_any s)).hushed

theorem hushed_advance (steps : Nat) (s : State) : Hushed s (advance steps s) := (reporting_advance steps (mayTake_any s)).hushed

theorem hushed_sourcesActive (edge : Bool) (plans : List Nat) (s : State) : Hushed s (sourcesActive edge plans s) :=
  (reporting_sourcesActive edge plans (mayTake_any s)).hushed

theorem hushed_sourcesInactive (plans : List Nat) (s : State) : Hushed s (sourcesInactive plans s) :=
  (reporting_sourcesInactive plans (mayTake_any s)).hushed

theorem hushed_changePlan (p : Nat) (f : PlanState → PlanState) (s : State) : Hushed s (changePlan p f s) := hushed_of_same rfl rfl rfl rfl

theorem hushed_emptySlot (s : State) : Hushed s (emptySlot s) := hushed_plansOnly (plansOnly_emptySlot s)

theorem hushed_clearStack (s : State) : Hushed s (clearStack s) := hushed_eachOf (fun p u => hushed_plansOnly (plansOnly_unstack p _ u)) _ s

theorem hushed_plansFlash (s : State) : Hushed s (plansFlash s) := by
  have cleared := (hushed_clearStack s).trans (hushed_emptySlot _)
  have emptied : Hushed (emptySlot (clearStack s)) { emptySlot (clearStack s) with preempt.inhibit := 0 } := hushed_of_same rfl rfl rfl rfl
  exact (cleared.trans emptied).trans (hushed_eachOf (fun p u => hushed_changePlan _ _ u) _ _)

theorem hushed_retablePlans (s : State) : Hushed s (retablePlans s) :=
  hushed_eachOf (fun p u => (hushed_changePlan p _ u).trans (hushed_plansOnly (plansOnly_refreshRequest p _))) _ s

theorem hushed_changeLine (line : Nat) (active : Bool) (s : State) : Hushed s (changeLine line active s) := by
  have changed : Hushed s { s with preempt.lines := changeEntry s.preempt.lines line (fun _ => active) } := hushed_of_same rfl rfl rfl rfl
  unfold changeLine
  dsimp only
  split
  · exact changed.trans (hushed_sourcesActive _ _ _)
  · exact changed.trans (hushed_sourcesInactive _ _)

theorem hushed_timeOut (p : Nat) (s : State) : Hushed s (timeOut p s) :=
  ((hushed_changePlan p _ s).trans (hushed_plansOnly (plansOnly_unstack p _ _))).trans (hushed_note _ _)

theorem hushed_afterTimeOut (wasTop : Bool) (s : State) : Hushed s (afterTimeOut wasTop s) := by
  unfold afterTimeOut
  split
  · exact (hushed_consider s).trans (hushed_advance _ _)
  · exact hushed_considerTaking s

theorem hushed_fillSlot (p : Nat) (s : State) : Hushed s (fillSlot p s) := by
  have filled : Hushed s { s with preempt.slot := some { plan := p, called := true } } := hushed_of_same rfl rfl rfl rfl
  exact filled.trans (hushed_sourcesActive _ _ _)

theorem hushed_callPlan (p : Nat) (s t : State) : Hushed t ((callPlan p s).2 t) := by
  unfold callPlan
  repeat' split
  · exact hushed_fillSlot p t
  · exact .refl t
  · exact .refl t
  · exact (hushed_emptySlot t).trans (hushed_fillSlot p _)

theorem hushed_cancelPlan (p : Nat) (s : State) : Hushed s (cancelPlan p s) := by
  have cancelled : ∀ slot, Hushed s { s with preempt.slot := slot } := fun slot => hushed_of_same rfl rfl rfl rfl
  unfold cancelPlan
  repeat' split
  · exact .refl s
  · exact (cancelled _).trans (hushed_sourcesInactive _ _)
  · exact hushed_emptySlot s
  · exact .refl s

/-! #### The branches -/

theorem hushed_changeBranch (br : BranchId) (f : Branch → Branch) (s : State) : Hushed s (changeBranch br f s) := hushed_of_same rfl rfl rfl rfl

theorem hushed_changeLiveness (br : BranchId) (station : Nat) (f : Liveness → Liveness) (s : State) : Hushed s (changeLiveness br station f s) := hushed_of_same rfl rfl rfl rfl

theorem hushed_endWait (br : BranchId) (s : State) : Hushed s (endWait br s) := hushed_of_same rfl rfl rfl rfl

theorem hushed_pollAnswered (br : BranchId) (station : Nat) (s : State) : Hushed s (pollAnswered br station s) := by
  have answered : ∀ f, Hushed s (changeLiveness br station f (endWait br s)) := fun f => hushed_of_same rfl rfl rfl rfl
  unfold pollAnswered
  dsimp only
  split
  · exact (answered _).trans (hushed_reportEnd _ _ _)
  · exact answered _

theorem hushed_endStationFaults (br : BranchId) (s : State) : Hushed s (endStationFaults br s) := by
  refine hushed_eachOf (fun l u => ?_) _ s
  have absent : Hushed u (if l.present then u else reportEnd .stationAbsent (some l.station) u) := by
    split
    · exact .refl u
    · exact hushed_reportEnd _ _ u
  dsimp only
  split
  · exact absent.trans (hushed_reportEnd _ _ _)
  · exact absent

theorem hushed_purgeForwards (br : BranchId) (s : State) : Hushed s (purgeForwards br s) := by
  refine (hushed_changeBranch br _ s).trans (hushed_eachOf (fun e u => ?_) _ _)
  exact hushed_send (.fwr e.tag (byteOf e.station) .range []) (fun _ => by simp) u

theorem hushed_retableBranches (s : State) : Hushed s (retableBranches s) :=
  hushed_eachOf (fun br u => ((hushed_endStationFaults br u).trans (hushed_changeBranch br _ _)).trans (hushed_purgeForwards br _)) _ s

theorem hushed_loadBranches (s : State) : Hushed s (loadBranches s) := hushed_eachOf (fun br u => hushed_changeBranch br _ u) _ s

/-! #### The lamp prover -/

theorem hushed_changeProving (c : Nat) (f : Proving → Proving) (s : State) : Hushed s (changeProving c f s) := hushed_of_same rfl rfl rfl rfl

theorem hushed_discardChanged (before after : List Aspect) (s : State) : Hushed s (discardChanged before after s) := by
  refine hushed_eachOf (fun c u => ?_) _ s
  dsimp only
  split
  · exact .refl u
  · exact hushed_changeProving c _ u

theorem hushed_endRedFail (g : Nat) (s : State) : Hushed s (endRedFail g s) := by
  unfold endRedFail
  split
  · exact (hushed_of_same rfl rfl rfl rfl : Hushed s (setRedFail false g s)).trans (hushed_reportEnd _ _ _)
  · exact .refl s

theorem hushed_takeApply (br : BranchId) (carried : List (Nat × List Lamp)) (s : State) : Hushed s (takeApply br carried s) := by
  refine hushed_eachOf (fun c u => ?_) _ s
  dsimp only
  repeat' split
  · exact hushed_changeProving c _ u
  · exact .refl u
  · exact .refl u

theorem hushed_endTransmission (br : BranchId) (f : BranchFrame) (s : State) : Hushed s (endTransmission br f s) := by
  have freed := hushed_changeBranch br (fun b => { b with sending := none }) s
  unfold endTransmission
  dsimp only
  split
  · exact freed
  · exact (freed.trans (hushed_changeBranch br _ _)).trans (hushed_takeApply _ _ _)
  · exact freed.trans (hushed_of_same rfl rfl rfl rfl)
  · exact freed.trans (hushed_of_same rfl rfl rfl rfl)

/-- Ends that are reported where a condition asks for them. -/
theorem hushed_endIf (ends : Bool) (kind : FaultKind) (subject : Option Nat) (s : State) :
    Hushed s (if ends then reportEnd kind subject s else s) := by
  split
  · exact hushed_reportEnd _ _ s
  · exact .refl s

theorem hushed_stopChannel (c : Nat) (s : State) : Hushed s (stopChannel c s) :=
  ((hushed_changeProving c _ s).trans (hushed_endIf _ _ _ _)).trans (hushed_endIf _ _ _ _)

theorem hushed_stopProving (s : State) : Hushed s (stopProving s) :=
  (hushed_eachOf hushed_stopChannel _ s).trans (hushed_eachOf hushed_endRedFail _ _)

theorem hushed_clearChannel (c : Nat) (s : State) : Hushed s (clearChannel c s) :=
  ((hushed_changeProving c _ s).trans (hushed_endIf _ _ _ _)).trans (hushed_endIf _ _ _ _)

theorem hushed_endChannelFaults (c : Nat) (s : State) : Hushed s (endChannelFaults c s) :=
  (hushed_endIf _ _ _ s).trans (hushed_endIf _ _ _ _)

theorem hushed_retableProver (s : State) : Hushed s (retableProver s) := by
  have ended := (hushed_eachOf hushed_endChannelFaults s.channelNumbers s).trans (hushed_eachOf hushed_endRedFail groupNumbers _)
  have fresh : ∀ u : State, Hushed u { u with prover := Prover.reset } := fun u => hushed_of_same rfl rfl rfl rfl
  exact ended.trans (fresh _)

theorem hushed_judgeChannel (currents : List Half) (c : Nat) (x : State × List Judged) : Hushed x.1 (judgeChannel currents c x).1 := by
  unfold judgeChannel
  dsimp only
  split
  · exact hushed_of_same rfl rfl rfl rfl
  · exact .refl _

theorem hushed_judgeReport (station : Nat) (currents : List Half) (s : State) : Hushed s (judgeReport station currents s).1 := by
  have each : ∀ (l : List Nat) (x : State × List Judged), Hushed x.1 (l.foldl (fun x c => judgeChannel currents c x) x).1 := by
    intro l
    induction l with
    | nil => exact fun x => .refl _
    | cons c l ih => exact fun x => (hushed_judgeChannel currents c x).trans (ih _)
  exact each _ (s, [])

/-! #### The detectors -/

theorem hushed_changeDetector (c : Nat) (f : Detector → Detector) (s : State) : Hushed s (changeDetector c f s) := hushed_of_same rfl rfl rfl rfl

theorem hushed_raiseDetector (f : DetectorFault) (c : Nat) (s : State) : Hushed s (raiseDetector f c s) :=
  (reporting_raiseDetector (K := fun _ _ => True) trivial s).hushed

theorem hushed_endDetector (f : DetectorFault) (c : Nat) (s : State) : Hushed s (endDetector f c s) :=
  (reporting_endDetector (K := fun _ _ => True) trivial s).hushed

theorem hushed_decideFault (c : Nat) (s : State) : Hushed s (decideFault c s) := (reporting_decideFault c (mayTake_any s)).hushed

theorem hushed_takeSample (station : Nat) (inputs : List DsmInput) (s : State) : Hushed s (takeSample station inputs s) :=
  (reporting_takeSample (K := fun _ _ => True) station inputs (fun _ _ _ => trivial) (mayTake_any s)).hushed

theorem hushed_stationLost (station : Nat) (s : State) : Hushed s (stationLost station s) := (reporting_stationLost station (mayTake_any s)).hushed

theorem hushed_stationBack (station : Nat) (s : State) : Hushed s (stationBack station s) :=
  (reporting_stationBack (K := fun _ _ => True) station s).hushed

theorem hushed_serveCalls (g : Nat) (s : State) : Hushed s (serveCalls g s) :=
  hushed_eachOf (fun c u => (hushed_changeDetector c _ u).trans (reporting_reportChange (K := fun _ _ => True) _ _ _).hushed) _ s

theorem hushed_retableDetectors (s : State) : Hushed s (retableDetectors s) :=
  (hushed_eachOf (fun c u => hushed_eachOf (fun f v => hushed_endDetector f c v) _ u) _ s).trans (hushed_of_same rfl rfl rfl rfl)

end Sys2Proof.Machine

namespace Sys2Proof.Machine

open Sys2Proof.Safety

/-! #### The changes of mode -/

theorem hushed_resetWorking (s : State) : Hushed s (resetWorking s) := hushed_of_same rfl rfl rfl rfl

theorem hushed_writeRecordOf (record : Option (FaultKind × Option Nat)) (s : State) : Hushed s (writeRecordOf record s) := by
  unfold writeRecordOf
  split
  · exact ⟨fun _ => told_of_same rfl rfl rfl, rfl, rfl⟩
  · exact .refl s

theorem hushed_endLapse (s : State) : Hushed s (endLapse s) := by
  unfold endLapse
  split
  · exact (hushed_of_same rfl rfl rfl rfl : Hushed s { s with exchange.warning := none }).trans (hushed_reportEnd _ _ _)
  · exact .refl s

theorem hushed_exchangeFlash (s : State) : Hushed s (exchangeFlash s) := by
  have removed : Hushed s { s with exchange.expectedChain := none, exchange.accepted := none, exchange.supervision := none } :=
    hushed_of_same rfl rfl rfl rfl
  exact removed.trans (hushed_endLapse _)

/-- A mode has been taken, and its alarm is not yet made. -/
structure Entering (new : Mode) (s t : State) : Prop where
  told : ∀ p, Told p s p t
  mode : t.control.mode = new

theorem Entering.hush {new : Mode} {s t u : State} (first : Entering new s t) (second : Hushed t u) : Entering new s u :=
  ⟨fun p => told_trans (first.told p) (second.told p), second.mode.trans first.mode⟩

theorem Entering.announced {new : Mode} {s t : State} (h : Entering new s t) (changed : s.control.mode ≠ new) :
    Heard s (announce s.control.mode t) :=
  heard_announce h.told (h.mode ▸ changed.symm)

theorem entering_setMode (new : Mode) (cause : Cause) (s : State) : Entering new s (setMode new cause s) := ⟨fun _ => told_of_same rfl rfl rfl, rfl⟩

theorem heard_leavePermit {new : Mode} {s : State} (changed : s.control.mode ≠ new) (cause : Cause) (record : Option (FaultKind × Option Nat)) :
    Heard s (leavePermit new cause record s) := by
  have cleared : Entering new s
      (showFlash { setMode new cause s with
        control.closeTarget := none, control.closeCause := none, control.startTimer := none, control.firstImage := none }) :=
    ⟨fun _ => told_of_same rfl rfl rfl, rfl⟩
  have stopped := ((cleared.hush (hushed_exchangeFlash _)).hush (hushed_plansFlash _)).hush (hushed_stopProving _)
  exact ((stopped.hush (hushed_resetWorking _)).hush (hushed_writeRecordOf record _)).announced changed

theorem heard_changeFlashMode {new : Mode} {s : State} (changed : s.control.mode ≠ new) (cause : Cause) (record : Option (FaultKind × Option Nat)) :
    Heard s (changeFlashMode new cause record s) :=
  (((entering_setMode new cause s).hush (hushed_resetWorking _)).hush (hushed_writeRecordOf record _)).announced changed

theorem heard_enterRunning {s : State} (changed : s.control.mode ≠ .running) (cause : Cause) : Heard s (enterRunning cause s) := by
  have moded : Entering .running s { setMode .running cause s with control.startTimer := none, control.firstImage := none } :=
    ⟨fun _ => told_of_same rfl rfl rfl, rfl⟩
  exact ((moded.hush (hushed_endLapse _)).hush (hushed_considerTaking _)).announced changed

theorem heard_enterWarning {s : State} (running : s.control.mode = .running) : Heard s (enterWarning s) := by
  have opened : Hushed s { s with exchange.supervision := some .expired, exchange.warning := some (s.tables.cabinet.warning.toNat * 10) } :=
    hushed_of_same rfl rfl rfl rfl
  have noted := opened.trans (hushed_note { kind := .supervision, subject := none, action := .report, condition := true } _)
  have moded := ((entering_setMode .warning .supervision _).hush (hushed_considerTaking _)).announced
    (by rw [noted.mode, running]; exact nofun)
  rw [noted.mode, running] at moded
  exact noted.then moded

theorem heard_enterClosing {s : State} (changed : s.control.mode ≠ .closing) (target : CloseTarget) (cause : CloseCause) :
    Heard s (enterClosing target cause s) := by
  have moded : Entering .closing s { setMode .closing cause.cause s with
      control.closeTarget := some target, control.closeCause := some cause
      control.startTimer := none, control.firstImage := none, exchange.supervision := none } := ⟨fun _ => told_of_same rfl rfl rfl, rfl⟩
  exact ((moded.hush (hushed_endLapse _)).hush (hushed_clearStack _)).announced changed

theorem heard_completeClose {s : State} (closing : s.control.mode = .closing) : Heard s (completeClose s) := by
  refine heard_leavePermit ?_ _ _
  rw [closing]
  cases s.control.closeTarget.getD .flash <;> exact nofun

/-- Only a mode that admits an action changes at it (R58). -/
theorem heard_takeAction (r : Raise) (close : CloseTarget) (s : State) : Heard s (takeAction r close s) := by
  have stays : ∀ control : Control, control.mode = s.control.mode → control.lastCause = s.control.lastCause → Heard s { s with control := control } :=
    fun _ mode cause => Hushed.heard ⟨fun _ => told_of_same rfl rfl rfl, mode, cause⟩
  have leaves : ∀ (new : Mode) (cause : Cause) (record : Option (FaultKind × Option Nat)), s.control.mode ≠ new → Heard s (leavePermit new cause record s) :=
    fun _ cause record changed => heard_leavePermit changed cause record
  unfold takeAction
  split
  case h_4 =>
    split
    case h_4 =>
      split
      · exact leaves _ _ _ (by simp [*])
      · exact leaves _ _ _ (by simp [*])
    case h_1 | h_2 | h_3 => exact leaves _ _ _ (by simp [*])
    all_goals exact .refl s
  case h_5 =>
    split
    case h_4 =>
      split
      · exact stays _ rfl rfl
      · exact .refl s
    case h_1 | h_2 | h_3 => exact heard_enterClosing (by simp [*]) _ _
    all_goals exact .refl s
  case h_6 =>
    split
    case h_1 | h_2 | h_3 | h_4 => exact leaves _ _ _ (by simp [*])
    case h_5 => exact heard_changeFlashMode (by simp [*]) _ _
    case h_6 => exact stays _ rfl rfl
    case h_7 => exact .refl s
  all_goals exact .refl s

theorem heard_raise (r : Raise) (s : State) : Heard s (raise r s) := (hushed_note r s).then (heard_takeAction r .flash _)

theorem heard_handRed (change : Nat × Bool) (s : State) : Heard s (handRed change s) := by
  unfold handRed
  dsimp only
  split
  · have raised := (hushed_of_same rfl rfl rfl rfl : Hushed s (setRedFail true change.1 s)).then
      (heard_raise (redFailRaise s.tables change.1) _)
    split
    · exact raised
    · exact raised.hush (hushed_endRedFail _ _)
  · exact (hushed_endRedFail _ s).heard

theorem heard_evaluateReds (s : State) : Heard s (evaluateReds s) := heard_eachOf heard_handRed _ s

theorem heard_recurStations (br : BranchId) (s : State) : Heard s (recurStations br s) :=
  (heard_eachOf (fun _ u => heard_raise _ u) _ s).trans (heard_eachOf (fun _ u => heard_raise _ u) _ _)

theorem heard_enterStart {s : State} (changed : s.control.mode ≠ .start) (startChain : Half) : Heard s (enterStart startChain s) := by
  have entering : Entering .start s { showStop (setMode .start .modRun s) with
      control.startTimer := some (.running (s.tables.cabinet.startUp.toNat * 10)), control.firstImage := some false
      exchange.expectedChain := some startChain, exchange.accepted := none
      exchange.supervision := some (.running (s.tables.cabinet.supervision.toNat * 10)), exchange.warning := none } :=
    ⟨fun _ => told_of_same rfl rfl rfl, rfl⟩
  exact ((entering.announced changed).trans (heard_evaluateReds _)).trans (heard_eachOf heard_recurStations _ _)

/-! #### The conclusion of an event -/

theorem hushed_evaluated (s : State) : Hushed s (evaluateConcerned passLimit (rebuild s)) :=
  hushed_of_same (by simp) (by simp) (by simp) (by simp)

theorem hushed_settle (rounds : Nat) (s : State) : Hushed s (settle rounds s) := by
  induction rounds generalizing s with
  | zero => exact hushed_evaluated s
  | succ n ih =>
    have settled := hushed_evaluated s
    unfold settle
    dsimp only
    split
    · exact (settled.trans (hushed_advance _ _)).trans (ih _)
    · exact settled

theorem heard_closeIfDone (s : State) : Heard s (closeIfDone s) := by
  unfold closeIfDone
  split
  · next due => exact heard_completeClose due.1
  · exact .refl s

theorem heard_evaluateShown (s : State) : Heard s (evaluateShown s) := by
  unfold evaluateShown
  split
  · exact .refl s
  · exact heard_evaluateReds s

theorem hushed_numberImage (s : State) : Hushed s (numberImage s) := by
  unfold numberImage
  split
  · exact .refl s
  · exact (hushed_of_same rfl rfl rfl rfl : Hushed s { s with engine.imageNumber := s.engine.imageNumber + 1, event.remark := true }).trans
      (hushed_discardChanged _ _ _)

theorem hushed_markIfDue (s : State) : Hushed s (markIfDue s) := by
  unfold markIfDue
  split
  · exact hushed_eachOf (fun br u => hushed_changeBranch br _ u) _ s
  · exact .refl s

theorem hushed_noticeGo (s : State) : Hushed s (noticeGo s) := hushed_eachOf hushed_serveCalls _ s

theorem hushed_arbitrateAll (s : State) : Hushed s (arbitrateAll s) := hushed_of_same rfl rfl rfl rfl

theorem hushed_handReports (s : State) : Hushed s (handReports s) := hushed_eachOf (fun d u => hushed_send (.det d) (fun _ => by simp) u) _ s

theorem heard_conclude (s : State) : Heard s (conclude s) := by
  have closed := (hushed_settle roundLimit s).then (heard_closeIfDone _)
  have shown := (closed.hush (hushed_noticeGo _)).trans (heard_evaluateShown _)
  have marked := (shown.hush (hushed_numberImage _)).hush (hushed_markIfDue _)
  exact (marked.hush (hushed_arbitrateAll _)).hush (hushed_handReports _)

/-- The answer of an event makes no alarm. -/
def Mute (answer : State → State) : Prop := ∀ u, Hushed u (answer u)

theorem mute_id : Mute id := Hushed.refl

theorem mute_send (f : OutFrame) (quiet : ∀ a, f ≠ .alm a) : Mute (send f) := hushed_send f quiet

theorem heard_asEvent {effect answer : State → State} {s : State} (mute : Mute answer) (own : Heard (openEvent s) (effect (openEvent s))) :
    Heard s (asEvent effect answer s) := by
  have opened : Hushed s (openEvent s) := hushed_of_same rfl rfl rfl rfl
  have closes : ∀ u : State, Hushed u (closeEvent u) := fun u => hushed_of_same rfl rfl rfl rfl
  exact (((opened.then own).trans (heard_conclude _)).hush (mute _)).hush (closes _)

end Sys2Proof.Machine

namespace Sys2Proof.Machine

open Sys2Proof.Safety

/-! #### The effects of the commands -/

theorem heard_acceptImage (chain next : Half) (inhibit : Byte) (targets : BitVec 48) (s : State) : Heard s (acceptImage chain next inhibit targets s) := by
  have kept : Hushed s (keepImage chain next inhibit targets s) := hushed_of_same rfl rfl rfl rfl
  have noted : ∀ first, Hushed s { keepImage chain next inhibit targets s with control.firstImage := first } := fun _ =>
    kept.trans ⟨fun _ => told_of_same rfl rfl rfl, rfl, rfl⟩
  unfold acceptImage
  dsimp only
  split
  · next warning => exact kept.then (heard_enterRunning (by rw [warning]; exact nofun) _)
  · next start =>
    split
    · exact (noted _).then (heard_enterRunning (by show (keepImage chain next inhibit targets s).control.mode ≠ _; rw [start]; exact nofun) _)
    · exact (noted _).heard
  · split
    · exact kept.heard
    · exact kept.then (hushed_considerTaking _).heard
  all_goals exact kept.heard

theorem hushed_refuseImage (result : Result) (s : State) : Hushed s (refuseImage result s) := by
  have counted : Hushed s { s with exchange.imagesRefused := s.exchange.imagesRefused + 1 } := hushed_of_same rfl rfl rfl rfl
  have repeated : ∀ u, Hushed s u →
      Hushed s (if u.control.mode = .warning then note { kind := .supervision, subject := none, action := .report, condition := true } u else u) := by
    intro u hu
    split
    · exact hu.trans (hushed_note _ _)
    · exact hu
  unfold refuseImage
  dsimp only
  split
  · exact repeated _ (counted.trans (hushed_note _ _))
  · exact repeated _ (counted.trans (hushed_note _ _))
  · exact repeated _ counted

theorem heard_clearLatched (s : State) : Heard s (clearLatched s) := by
  have judged := (hushed_eachOf hushed_clearChannel s.channelNumbers s).then (heard_evaluateReds _)
  have concerned : ∀ (groups : List Nat) (u : State), Hushed u (concern groups u) := fun _ _ => hushed_of_same rfl rfl rfl rfl
  unfold clearLatched
  dsimp only
  split
  · exact judged.hush (concerned _ _)
  · exact judged

theorem heard_clearStrikes (s : State) : Heard s (clearStrikes s) := by
  have cleared : Hushed s { s with exchange.strikes := 0 } := hushed_of_same rfl rfl rfl rfl
  have erasing : ∀ u : State, Hushed u (startRecordErase u) := fun u => ⟨fun _ => told_of_same rfl rfl rfl, rfl, rfl⟩
  unfold clearStrikes
  dsimp only
  split
  · split
    · next lockout =>
      refine (cleared.trans (erasing _)).then (heard_changeFlashMode ?_ _ _)
      show s.control.mode ≠ .flash
      rw [show s.control.mode = .lockout from lockout]
      exact nofun
    · exact cleared.heard
  · exact .refl s

theorem heard_superviseClose (s : State) : Heard s (superviseClose s) := by
  have counted : ∀ n, Hushed s { s with exchange.strikes := n } := fun n => hushed_of_same rfl rfl rfl rfl
  have noted := ((counted (Nat.min 2 (s.exchange.strikes + 1))).trans (hushed_endLapse _)).trans (hushed_note supervisionCloseRaise _)
  exact noted.then (heard_takeAction _ _ _)

theorem hushed_handFindings (found : List Judged) (s : State) : Hushed s (handFindings found s) :=
  (hushed_eachOf (fun _ u => hushed_reportEnd _ _ u) _ s).trans (hushed_eachOf (fun _ u => hushed_note _ u) _ _)

theorem heard_takeReadings (station : Nat) (currents : List Half) (s : State) : Heard s (takeReadings station currents s) := by
  have judged := hushed_judgeReport station currents s
  have concerned : ∀ (groups : List Nat) (u : State), Hushed u (concern groups u) := fun _ _ => hushed_of_same rfl rfl rfl rfl
  unfold takeReadings
  generalize judgeReport station currents s = x at judged ⊢
  obtain ⟨u, found⟩ := x
  have handed := (judged.trans (hushed_handFindings found u)).then (heard_eachOf heard_handRed (u.redChanges found) _)
  have reported := handed.trans (heard_eachOf (fun g v => heard_raise (fieldConflictRaise g) v) (u.fieldConflicts station currents) _)
  exact reported.hush (concerned _ _)

theorem heard_countLag (br : BranchId) (station : Nat) (applied : Option Byte) (s : State) : Heard s (countLag br station applied s) := by
  have matched : ∀ l, Hushed s (lagMatched br l s) := fun l => by
    unfold lagMatched
    dsimp only
    split
    · exact (hushed_changeLiveness _ _ _ s).trans (hushed_reportEnd _ _ _)
    · exact hushed_changeLiveness _ _ _ s
  have missed : ∀ l, Heard s (lagMissed br l s) := fun l => by
    unfold lagMissed
    dsimp only
    split
    · exact (hushed_changeLiveness _ _ _ s).then (heard_raise _ _)
    · exact (hushed_changeLiveness _ _ _ s).heard
  unfold countLag
  repeat' split
  · exact .refl s
  · exact (matched _).heard
  · exact missed _
  · exact .refl s

theorem heard_takeReport (br : BranchId) (station : Nat) (applied : Option Byte) (currents : List Half) (s : State) :
    Heard s (countLag br station applied
      (proveReport br station applied currents (changeLiveness br station (fun l => { l with lastApplied := applied }) (pollAnswered br station s)))) := by
  have answered := (hushed_pollAnswered br station s).trans (hushed_changeLiveness br station (fun l => { l with lastApplied := applied }) _)
  refine .trans ?_ (heard_countLag _ _ _ _)
  unfold proveReport
  split
  · exact answered.then (heard_takeReadings _ _ _)
  · exact answered.heard

theorem heard_pollMissed (br : BranchId) (station : Nat) (s : State) : Heard s (pollMissed br station s) := by
  have absent : Heard s (becomeAbsent br station s) := by
    have reported : ∀ f (r : State → Raise), Heard s (raise (r (changeLiveness br station f s)) (changeLiveness br station f s)) := fun f r =>
      (hushed_changeLiveness br station f s).then (heard_raise _ _)
    unfold becomeAbsent
    dsimp only
    split
    · exact (reported _ (fun u => absentRaise (s.tables.roleOn br station) u.control.mode station)).hush (hushed_stationLost _ _)
    · exact reported _ (fun u => absentRaise (s.tables.roleOn br station) u.control.mode station)
  unfold pollMissed
  repeat' split
  · exact (hushed_changeLiveness _ _ _ s).heard
  · exact absent
  · exact (hushed_changeLiveness _ _ _ s).heard
  · exact .refl s

theorem hushed_reportLoad (s : State) : Hushed s (reportLoad s) := by
  have corrected : Hushed s (if 0 < s.store.corrected then noteOccurrence .tableCorrected none s else s) := by
    split
    · exact hushed_note _ s
    · exact .refl s
  unfold reportLoad
  dsimp only
  generalize (if 0 < s.store.corrected then noteOccurrence .tableCorrected none s else s) = u at corrected ⊢
  split
  · exact corrected
  · exact corrected.trans (hushed_note _ _)

theorem heard_leaveLoading {s : State} (loading : s.control.mode = .loading) : Heard s (leaveLoading s) := by
  have released : Hushed s { s with control.heldLockout := none } := ⟨fun _ => told_of_same rfl rfl rfl, rfl, rfl⟩
  have moved : ∀ (u : State) (new : Mode) (record : Option (FaultKind × Option Nat)), Hushed s u → new ≠ .loading →
      Heard s (changeFlashMode new .loadEnd record u) := fun u new record before other =>
    before.then (heard_changeFlashMode (by rw [before.mode, loading]; exact other.symm) _ _)
  unfold leaveLoading
  dsimp only
  split
  · exact moved _ _ _ (released.trans (hushed_recordRaise _ _)) nofun
  · repeat' split
    all_goals exact moved _ _ _ released nofun

theorem hushed_takeLoaded (s : State) : Hushed s (takeLoaded s) := by
  have retabled : ∀ u : State, Hushed u (retableGroups u) := fun u => hushed_of_same rfl rfl rfl rfl
  have loaded : ∀ u : State, Hushed u (loadDetectors u) := fun u => hushed_of_same rfl rfl rfl rfl
  exact (((retabled s).trans (hushed_loadBranches _)).trans (loaded _)).trans (hushed_retablePlans _)

theorem hushed_takeCommitted (s : State) : Hushed s (takeCommitted s) := by
  have remarked : Hushed s { s with event.remark := true } := hushed_of_same rfl rfl rfl rfl
  have retabled : ∀ u : State, Hushed u (retableGroups u) := fun u => hushed_of_same rfl rfl rfl rfl
  have proved := ((remarked.trans (retabled _)).trans (hushed_retableBranches _)).trans (hushed_retableProver _)
  exact (proved.trans (hushed_retableDetectors _)).trans (hushed_retablePlans _)

theorem hushed_endInvalid (s : State) : Hushed s (endInvalid s) := by
  unfold endInvalid
  split
  · exact hushed_reportEnd _ _ s
  · exact .refl s

end Sys2Proof.Machine

namespace Sys2Proof.Machine

open Sys2Proof.Safety

/-! #### The commands -/

/-- The alarms made by a command lead from the mode before it to the mode after it; the assembler is its own. -/
def Trails (s t : State) : Prop :=
  ∃ made : List OutFrame, t.link = made.foldl Link.accept { s.link with assembler := t.link.assembler }
    ∧ alarmTrail s.clock.now (s.faults.alarmNumber, s.control.mode, s.control.lastCause) made
      = some (t.faults.alarmNumber, t.control.mode, t.control.lastCause)

theorem foldl_accept_assembler (made : List OutFrame) (l : Link) : (made.foldl Link.accept l).assembler = l.assembler := by
  induction made generalizing l with
  | nil => rfl
  | cons f made ih => exact (ih _).trans (Link.accept_assembler l f)

theorem Heard.trails {s t : State} (h : Heard s t) : Trails s t := by
  obtain ⟨-, made, link, trail⟩ := h
  refine ⟨made, ?_, trail⟩
  have same : t.link.assembler = s.link.assembler := by rw [link, foldl_accept_assembler]
  rw [same]
  exact link

/-- A command of the line makes no alarm. -/
theorem trails_assembler (s : State) (assembler : Assembler) : Trails s { s with link.assembler := assembler } := ⟨[], rfl, by simp [alarmTrail]⟩

/-- The command's outcome, where it has one, is one to which the alarms lead. -/
def Trailing (s : State) (o : Host.Outcome State Fault Refusal) : Prop := ∀ t, o = .next t → Trails s t

theorem trailing_whileUp {s : State} {effect : State → State} (own : Trails s (effect s)) : Trailing s (.next (whileUp effect s)) := by
  rintro t ⟨⟩
  unfold whileUp
  split
  · exact own
  · exact (Heard.refl s).trails

theorem trailing_event {s : State} {effect : State → State} (own : Heard (openEvent s) (effect (openEvent s))) : Trailing s (eventOutcome effect s) :=
  trailing_whileUp (heard_asEvent mute_id own).trails

theorem trailing_frame {s : State} {effect answer : State → State} (mute : Mute answer) (own : Heard (openEvent s) (effect (openEvent s))) :
    Trailing s (frameOutcome effect answer s) := by
  refine trailing_whileUp ?_
  split
  · exact (heard_asEvent mute own).trails
  · exact trails_assembler s _

theorem mute_reply (kind : Byte) (result : Result) (content : List Byte) : Mute (reply kind result content) := fun u =>
  hushed_send (.rpl kind result content) (fun _ => by simp) u

theorem mute_echo (result : Result) : Mute (echoAnswer result) := fun u => hushed_send (.ech (u.echo result)) (fun _ => by simp) u

theorem hushed_tearCommit (s : State) : Hushed s (tearCommit s) := ⟨fun _ => told_of_same rfl rfl rfl, rfl, rfl⟩

theorem hushed_cutWrites (s : State) : Hushed s (cutWrites s) := by
  have spoilt : ∀ u : State, Hushed u (spoilErase u) := fun _ => ⟨fun _ => told_of_same rfl rfl rfl, rfl, rfl⟩
  unfold cutWrites
  dsimp only
  split <;> split
  · exact (hushed_tearCommit s).trans (spoilt _)
  · exact hushed_tearCommit s
  · exact spoilt s
  · exact .refl s

/-- START is entered from FLASH alone (R48). -/
theorem runResult_flash {cabinet generation : Half} {s : State} (ok : runResult cabinet generation s = .ok) : s.control.mode = .flash := by
  by_contra other
  rw [(runResult_iff cabinet generation s).1 other] at ok
  cases ok

theorem hushed_record (s : State) (record : LockoutRecord) (drawn : Nat) :
    Hushed s { s with store.nv.record := record, clock.drawn := drawn, control.recordOp := .none, store.op := .idle } :=
  ⟨fun _ => told_of_same rfl rfl rfl, rfl, rfl⟩

/-- Every command but the resets and the end of a transmission makes its alarms in the order of its changes of mode. -/
theorem trailing_exec (c : Instr) (s : State) (reset : isReset c = false) (sent : c ≠ .outgoingFrameSent) : Trailing s (exec c s) := by
  cases c with
  | powerOnReset => cases reset
  | nreset lowMicros supplyRising => cases reset
  | outgoingFrameSent => exact absurd rfl sent
  | supplyLoss =>
    rintro t ⟨⟩
    split
    · have same : ∀ u : State, u = cutWrites s → Hushed s { u with
          clock.powered := false, clock.lowFor := 0, control.runPermit := false, control.recordOp := .none, store.op := .idle, store.progress := none } :=
        fun u is => by
          have cut := hushed_cutWrites s
          rw [← is] at cut
          exact ⟨cut.told, cut.mode, cut.cause⟩
      exact (same _ rfl).heard.trails
    · exact (Heard.refl s).trails
  | tableLoadEnd upsets recordReadable =>
    refine trailing_event ?_
    split
    · next loading =>
      have loaded : Hushed (openEvent s) (loadStore ((openEvent s).store.nv.found upsets recordReadable) (openEvent s)) := hushed_of_same rfl rfl rfl rfl
      have reported := loaded.trans (hushed_reportLoad _)
      exact (reported.then (heard_leaveLoading (reported.mode.trans loading))).hush (hushed_takeLoaded _)
    · exact .refl _
  | img chain next inhibit targets =>
    refine trailing_frame (mute_echo _) ?_
    dsimp only
    split
    · exact heard_acceptImage _ _ _ _ _
    · exact (hushed_refuseImage _ _).heard
  | calCall plan =>
    refine trailing_frame (mute_reply _ _ _) ?_
    dsimp only
    split
    · exact (hushed_callPlan _ _ _).heard
    · exact .refl _
  | calCancel plan request =>
    refine trailing_frame (mute_reply _ _ _) ?_
    dsimp only
    split
    · exact (hushed_cancelPlan _ _).heard
    · exact .refl _
  | modRun cabinet generation startChain =>
    refine trailing_frame (mute_reply _ _ _) ?_
    dsimp only
    split
    · next ok => exact heard_enterStart (s := openEvent s) (by rw [show (openEvent s).control.mode = .flash from runResult_flash ok]; exact nofun) _
    · exact .refl _
  | modFlash request =>
    refine trailing_frame (mute_reply _ _ _) ?_
    dsimp only
    split
    · next ok => exact heard_enterClosing (s := openEvent s) (show s.control.mode ≠ .closing from ok.2.2) _ _
    · exact .refl _
  | twr table index content =>
    refine trailing_frame (mute_reply _ _ _) ?_
    dsimp only
    split
    · exact (hushed_of_same rfl rfl rfl rfl : Hushed _ _).heard
    · exact .refl _
  | trd table index copy => exact trailing_frame (mute_reply _ _ _) (.refl _)
  | tcm =>
    refine trailing_frame (mute_reply _ _ _) ?_
    dsimp only
    split
    · exact (hushed_of_same rfl rfl rfl rfl : Hushed _ _).heard
    · exact .refl _
  | tds =>
    refine trailing_frame (mute_reply _ _ _) ?_
    dsimp only
    split
    · exact (hushed_resetWorking _).heard
    · exact .refl _
  | sta part first => exact trailing_frame (fun u => hushed_send (.rpl _ _ _) (fun _ => by simp) u) (.refl _)
  | fcl =>
    unfold exec execFcl answeredOutcome
    dsimp only
    split
    · exact trailing_frame (mute_reply _ _ _) (((heard_clearLatched _).hush (hushed_pruneFaults _)).trans (heard_clearStrikes _))
    · exact trailing_frame (mute_reply _ _ _) (.refl _)
  | fwd tag station inner payload =>
    unfold exec execFwd answeredOutcome
    dsimp only
    split
    · exact trailing_frame (mute_send _ (fun _ => by simp)) (.refl _)
    · exact trailing_frame mute_id (hushed_changeBranch _ _ _).heard
  | unknownKindFrame kind => exact trailing_frame (mute_reply _ _ _) (.refl _)
  | damagedFrame cause => exact trailing_whileUp (trails_assembler s _)
  | commitCompletion =>
    refine trailing_event ?_
    split
    · have active : Hushed (openEvent s) (activate (openEvent s)) := hushed_of_same rfl rfl rfl rfl
      exact ((active.trans (hushed_endInvalid _)).trans (hushed_takeCommitted _)).heard
    · exact .refl _
  | commitWriteFailure =>
    refine trailing_event ?_
    split
    · have torn : ∀ u v : State, u = tearCommit v → Hushed v { u with store.op := .idle, store.progress := none, store.lastCommit := .failed, store.valid := false } :=
        fun u v is => is ▸ (hushed_tearCommit v).trans (hushed_of_same rfl rfl rfl rfl)
      exact ((torn _ _ rfl).trans (hushed_note _ _)).heard
    · exact .refl _
  | recordWriteCompletion =>
    refine trailing_event ?_
    split
    · exact (hushed_record _ _ _).heard
    · exact .refl _
  | recordWriteFailure =>
    refine trailing_event ?_
    split
    · exact ((hushed_record (openEvent s) (openEvent s).store.nv.record (openEvent s).clock.drawn).trans (hushed_note _ _)).heard
    · exact .refl _
  | recordEraseCompletion =>
    refine trailing_event ?_
    split
    · exact (hushed_record (openEvent s) _ (openEvent s).clock.drawn).heard
    · exact .refl _
  | recordEraseFailure =>
    refine trailing_event ?_
    split
    · exact ((hushed_record (openEvent s) _ _).trans (hushed_note _ _)).heard
    · exact .refl _
  | maintStateChange active heldMs =>
    refine trailing_whileUp ?_
    split
    · exact (⟨fun _ => told_of_same rfl rfl rfl, rfl, rfl⟩ : Hushed s _).heard.trails
    · exact (Heard.refl s).trails
  | peLineChange line active heldMs =>
    refine trailing_event ?_
    split
    · exact (hushed_changeLine _ _ _).heard
    · exact .refl _
  | startUpStopTimerExpiry =>
    refine trailing_event ?_
    split
    · next due =>
      have expired : Hushed (openEvent s) { openEvent s with control.startTimer := some .expired } := ⟨fun _ => told_of_same rfl rfl rfl, rfl, rfl⟩
      dsimp only
      split
      · exact expired.then (heard_enterRunning (by rw [expired.mode, due.1]; exact nofun) _)
      · exact expired.heard
    · exact .refl _
  | supervisionTimerExpiry =>
    refine trailing_event ?_
    split
    · have expired : Hushed (openEvent s) { openEvent s with exchange.supervision := some .expired } := hushed_of_same rfl rfl rfl rfl
      dsimp only
      split
      case h_1 => exact expired.then (heard_raise _ _)
      case h_2 running => exact expired.then (heard_enterWarning running)
      all_goals exact expired.heard
    · exact .refl _
  | warningWindowExpiry =>
    refine trailing_event ?_
    split
    · exact heard_superviseClose _
    · exact .refl _
  | endOfPrepare group | endOfClear group | minimumGoReached group | minimumStopReached group | deferralTimerExpiry group =>
    refine trailing_event ?_
    unfold groupExpiry
    split
    · exact (hushed_of_same rfl rfl rfl rfl : Hushed _ (concern [group] _)).heard
    · exact .refl _
  | planDelayEnd | planDwellEnd =>
    refine trailing_event ?_
    split
    · exact (hushed_advance _ _).heard
    · exact .refl _
  | planDurationExpiry plan =>
    refine trailing_event ?_
    split
    · exact ((hushed_timeOut _ _).trans (hushed_afterTimeOut _ _)).heard
    · exact .refl _
  | branchTransmissionEnd branch =>
    refine trailing_event ?_
    split
    · exact (hushed_endTransmission _ _ _).heard
    · exact .refl _
  | lstReceived branch station applied currents =>
    refine trailing_event ?_
    split
    · exact heard_takeReport _ _ _ _ _
    · exact (hushed_changeBranch _ _ _).heard
  | dsmReceived branch station inputs =>
    refine trailing_event ?_
    split
    · dsimp only
      refine Hushed.heard (.trans ?_ (hushed_takeSample _ _ _))
      split
      · exact (hushed_pollAnswered _ _ _).trans (hushed_stationBack _ _)
      · exact hushed_pollAnswered _ _ _
    · exact (hushed_changeBranch _ _ _).heard
  | sstReceived branch station status =>
    refine trailing_event ?_
    split
    · exact ((hushed_pollAnswered _ _ _).trans (hushed_changeLiveness _ _ _ _)).heard
    · exact (hushed_changeBranch _ _ _).heard
  | fwrReceived branch station payload =>
    refine trailing_whileUp ?_
    split
    · exact (heard_asEvent (mute_send _ (fun _ => by unfold forwardAnswer; split <;> simp)) (hushed_endWait _ _).heard).trails
    · exact (heard_asEvent mute_id (hushed_changeBranch _ _ _).heard).trails
  | branchFrameDiscarded branch cause => exact trailing_whileUp (hushed_changeBranch branch _ s).heard.trails
  | pollAnswerTimeout branch =>
    refine trailing_event ?_
    split
    · exact (hushed_endWait _ _).then (heard_pollMissed _ _ _)
    · exact .refl _
  | forwardAnswerTimeout branch =>
    refine trailing_whileUp ?_
    split
    · exact (heard_asEvent (mute_send _ (fun _ => by simp)) (hushed_endWait _ _).heard).trails
    · exact (Heard.refl s).trails
  | repollTimerExpiry station => exact trailing_event (hushed_eachOf (fun br u => hushed_changeBranch br _ u) _ _).heard
  | stuckDeadlineExpiry channel =>
    refine trailing_event ?_
    split
    · exact (((hushed_changeDetector _ _ _).trans (hushed_raiseDetector _ _ _)).trans (hushed_decideFault _ _)).heard
    · exact .refl _
  | idleDeadlineExpiry channel =>
    refine trailing_event ?_
    split
    · exact (((hushed_changeDetector _ _ _).trans (hushed_raiseDetector _ _ _)).trans (hushed_decideFault _ _)).heard
    · exact .refl _
  | idleGap line =>
    refine trailing_whileUp ?_
    cases line with
    | controller => exact trails_assembler s _
    | branch br => exact (hushed_changeBranch br _ s).heard.trails

end Sys2Proof.Machine

/-! ### What each report records and its one alarm (R157, R158, R163) -/

namespace Sys2Proof.Machine

open Sys2Proof.Safety

/-- An alarm is the one made since a state whose link, alarm numbers and clock stand. -/
theorem alarmed_alarm {body : AlarmBody} {s u : State} (link : u.link = s.link) (number : u.faults.alarmNumber = s.faults.alarmNumber)
    (clock : u.clock = s.clock) : alarmed body s (alarm body u) := by
  refine ⟨by rw [← number]; rfl, ?_⟩
  rw [← link, ← number, ← clock]
  rfl

theorem find_fresh {s : State} {kind : FaultKind} {subject : Option Nat} (fresh : ∀ e ∈ s.faults.entries, e.is kind subject = false) :
    s.faults.entries.find? (Entry.is kind subject) = none := find_entry_none.mpr fresh

/-- Two entries of one kind and subject are one. -/
theorem entry_unique {f : FaultList} (well : f.Well) {kind : FaultKind} {subject : Option Nat} {e o : Entry} (member : e ∈ f.entries)
    (is : e.is kind subject = true) (member' : o ∈ f.entries) (is' : o.is kind subject = true) : o = e :=
  Option.some.inj ((find_entry well member' is').symm.trans (find_entry well member is))

/-- A new entry, in the list that it makes. -/
theorem recordRaise_new {r : Raise} {s : State} {entries : List Entry} (fresh : ∀ e ∈ s.faults.entries, e.is r.kind r.subject = false)
    (made : s.faults.append (r.entry s.clock.now) = some entries) :
    (recordRaise r s).faults.entries = entries ∧ (recordRaise r s).faults.changeNumber = s.faults.changeNumber + 1
      ∧ alarmed (.fault r.kind r.subject r.condition 1 r.action r.latched true) s (recordRaise r s) := by
  rw [recordRaise_appended (find_fresh fresh) made]
  exact ⟨rfl, rfl, alarmed_alarm rfl rfl rfl⟩

/-- In a full list a new entry takes the place of the first one that is ENDED and not latched (R158). -/
theorem append_replaces {f : FaultList} {before after : List Entry} {o : Entry} (new : Entry) (full : f.entries.length = 32)
    (split : f.entries = before ++ o :: after) (ended : o.active = false) (free : o.latched = false)
    (held : ∀ e ∈ before, e.active = true ∨ e.latched = true) : f.append new = some (before ++ after ++ [new]) := by
  have gone : f.entries.eraseP (fun o => !o.active && !o.latched) = before ++ after := by
    rw [split, List.eraseP_append_right _ (fun e member => by rcases held e member with h | h <;> simp [h]),
      List.eraseP_cons_of_pos (by simp [ended, free])]
  have any : f.entries.any (fun o => !o.active && !o.latched) = true := by
    rw [split]
    simp [ended, free]
  unfold FaultList.append
  rw [if_neg (by simp [full, Config.faultEntries]), if_pos any, gone]

theorem append_full {f : FaultList} (new : Entry) (full : f.entries.length = 32) (held : ∀ e ∈ f.entries, e.active = true ∨ e.latched = true) :
    f.append new = none := by
  have none : f.entries.any (fun o => !o.active && !o.latched) = false := by
    rw [List.any_eq_false]
    intro e member
    rcases held e member with h | h <;> simp [h]
  unfold FaultList.append
  rw [if_neg (by simp [full, Config.faultEntries]), none]
  rfl

/-- A report against an entry, in a list that holds its bounds. -/
theorem recordRaise_against {r : Raise} {s : State} (well : s.faults.Well) {e : Entry} (member : e ∈ s.faults.entries)
    (is : e.is r.kind r.subject = true) :
    e.again r s.clock.now ∈ (recordRaise r s).faults.entries
      ∧ (recordRaise r s).faults.entries.length = s.faults.entries.length
      ∧ (∀ o ∈ s.faults.entries, o ≠ e → o ∈ (recordRaise r s).faults.entries)
      ∧ (recordRaise r s).faults.changeNumber = s.faults.changeNumber + 1
      ∧ (r.condition = true → e.active = true → unalarmed s (recordRaise r s))
      ∧ (r.condition = false ∨ e.active = false →
        alarmed (.fault r.kind r.subject (e.active || r.condition) (min 255 (e.count + 1)) r.action (e.latched || r.latched) true) s
          (recordRaise r s)) := by
  have found := recordRaise_again (find_entry well member is)
  have entries : (recordRaise r s).faults.entries = againAll r s.clock.now s.faults.entries := by rw [found]; split <;> rfl
  obtain ⟨kind, subject⟩ := entry_is_iff.mp is
  rw [entries]
  refine ⟨List.mem_map.mpr ⟨e, member, by simp [is]⟩, againAll_length _ _ _, fun o old other => ?_, ?_, fun condition active => ?_, fun news => ?_⟩
  · have apart : o.is r.kind r.subject = false := Bool.eq_false_iff.mpr fun here => other (entry_unique well member is old here)
    exact List.mem_map.mpr ⟨o, old, by simp [apart]⟩
  · rw [found]
    split <;> rfl
  · rw [found, condition, active]
    exact ⟨rfl, rfl⟩
  · have quiet : (r.condition && e.active) = false := by rcases news with h | h <;> simp [h]
    rw [found, quiet, ← kind, ← subject]
    exact alarmed_alarm rfl rfl rfl

theorem recordRaise_missed {r : Raise} {s : State} (fresh : ∀ e ∈ s.faults.entries, e.is r.kind r.subject = false) (full : s.faults.entries.length = 32)
    (held : ∀ e ∈ s.faults.entries, e.active = true ∨ e.latched = true) :
    (recordRaise r s).faults.entries = s.faults.entries ∧ (recordRaise r s).faults.changeNumber = s.faults.changeNumber
      ∧ (recordRaise r s).faults.alarmNumber = s.faults.alarmNumber + 1
      ∧ ∃ count, alarmed (.fault r.kind r.subject r.condition count r.action r.latched false) s (recordRaise r s) := by
  rw [recordRaise_unlisted (find_fresh fresh) (append_full _ full held)]
  exact ⟨rfl, rfl, rfl, _, alarmed_alarm rfl rfl rfl⟩

theorem reportEnd_active {kind : FaultKind} {subject : Option Nat} {s : State} (well : s.faults.Well) {e : Entry} (member : e ∈ s.faults.entries)
    (is : e.is kind subject = true) (active : e.active = true) :
    { e with active := false } ∈ (reportEnd kind subject s).faults.entries
      ∧ (reportEnd kind subject s).faults.changeNumber = s.faults.changeNumber + 1
      ∧ alarmed (.fault kind subject false e.count e.action e.latched true) s (reportEnd kind subject s) := by
  refine ⟨?_, ?_⟩
  · rw [reportEnd_entries kind subject well]
    exact List.mem_map.mpr ⟨e, member, by simp [is]⟩
  · obtain ⟨rfl, rfl⟩ := entry_is_iff.mp is
    unfold reportEnd
    simp only [find_entry well member is, active, if_true]
    exact ⟨rfl, alarmed_alarm rfl rfl rfl⟩

theorem reportEnd_ended {kind : FaultKind} {subject : Option Nat} {s : State} (well : s.faults.Well) {e : Entry} (member : e ∈ s.faults.entries)
    (is : e.is kind subject = true) (ended : e.active = false) : reportEnd kind subject s = s := by
  unfold reportEnd
  simp [find_entry well member is, ended]

theorem reportEnd_unlisted {kind : FaultKind} {subject : Option Nat} {s : State} (fresh : ∀ e ∈ s.faults.entries, e.is kind subject = false) :
    (reportEnd kind subject s).faults.entries = s.faults.entries ∧ (reportEnd kind subject s).faults.changeNumber = s.faults.changeNumber
      ∧ ∃ count action latched, alarmed (.fault kind subject false count action latched false) s (reportEnd kind subject s) := by
  unfold reportEnd
  simp only [find_fresh fresh]
  exact ⟨rfl, rfl, _, _, _, alarmed_alarm rfl rfl rfl⟩

/-- The end of what is not ACTIVE changes no entry. -/
theorem reportEnd_quiet {kind : FaultKind} {subject : Option Nat} {s : State} (well : s.faults.Well)
    (quiet : ∀ e ∈ s.faults.entries, e.is kind subject = true → e.active = false) :
    (reportEnd kind subject s).faults.entries = s.faults.entries ∧ (reportEnd kind subject s).faults.changeNumber = s.faults.changeNumber := by
  by_cases fresh : ∀ e ∈ s.faults.entries, e.is kind subject = false
  · obtain ⟨entries, number, -⟩ := reportEnd_unlisted fresh
    exact ⟨entries, number⟩
  · push Not at fresh
    obtain ⟨e, member, is⟩ := fresh
    have is : e.is kind subject = true := by simpa using is
    rw [reportEnd_ended well member is (quiet e member is)]
    exact ⟨rfl, rfl⟩

end Sys2Proof.Machine

namespace Sys2Proof.Proofs

open Sys2Proof Sys2Proof.Machine Sys2Proof.Safety

/-- Settles O42: each report by the entry that it finds, and the trail of the alarms by following each command through its changes of mode, which all
make their alarm with the mode before them. -/
theorem faultReportsAreRecorded : Obligations.FaultReportsAreRecorded := by
  unfold Obligations.FaultReportsAreRecorded
  refine ⟨fun s law => ?_, fun c s t ran reset sent => trailing_exec c s reset sent t ran⟩
  have well : s.faults.Well := faultLaw_iff.mp law
  refine ⟨fun r fresh room => recordRaise_new fresh (append_room _ room), fun r before o after fresh full split ended free held =>
    recordRaise_new fresh (append_replaces _ full split ended free held), fun r e member is => recordRaise_against well member is,
    fun r fresh full held => recordRaise_missed fresh full held, fun kind subject => ?_⟩
  refine ⟨reportEnd_notActive kind subject well, reportEnd_length kind subject well, fun o member other => reportEnd_other kind subject well member other,
    reportEnd_quiet well, fun e member is active => reportEnd_active well member is active, fun e member is ended => ?_, fun fresh => ?_⟩
  · rw [reportEnd_ended well member is ended]
    exact ⟨rfl, rfl⟩
  · exact (reportEnd_unlisted fresh).2.2

end Sys2Proof.Proofs

/-! ### The rebuilding and the re-evaluation of the groups at an event, group by group (R7, R20) -/

namespace Sys2Proof.Machine

open Sys2Proof.Safety

/-! #### The rebuilding -/

/-- The record of a group as the rebuilding leaves it (R7). -/
def State.rebuilt (s : State) (g : Nat) : Group := { s.group g with target := (s.effective g).1, source := (s.effective g).2 }

theorem rebuild_group {s : State} {g : Nat} (service : inService s g = true) : (rebuild s).group g = s.rebuilt g := by
  obtain ⟨⟨first, last⟩, live⟩ := inService_iff.mp service
  have plain : ∀ target source, { (rebuild s).group g with target := target, source := source } = { s.group g with target := target, source := source } := by
    intro target source
    have each : { (eachOf s.tables.liveGroups rebuildGroup s).group g with target := target, source := source }
        = { s.group g with target := target, source := source } := by
      refine eachOf_holds (fun u => { u.group g with target := target, source := source } = { s.group g with target := target, source := source })
        rebuildGroup (fun k u same => ?_) _ s rfl
      rcases rebuildGroup_groups k u with kept | set
      · rwa [group_congr kept]
      · rw [group_congr set]
        rcases setGroup_cases k { u.group k with target := (u.effective k).1, source := (u.effective k).2 } u g with kept | ⟨rfl, set⟩
        · rwa [kept]
        · rw [set]
          exact same
    unfold rebuild
    dsimp only
    split
    · exact each
    · exact each
  obtain ⟨target, source⟩ := aimed_rebuild s g (by rwa [(sameAim_rebuild s).inService])
  rw [(sameAim_rebuild s).effective] at target source
  have same := plain (s.effective g).1 (s.effective g).2
  rw [← target, ← source] at same
  rw [State.rebuilt, ← target, ← source]
  exact same

theorem rebuild_concerned {s : State} {g : Nat} (concerned : g ∈ s.event.concerned) : g ∈ (rebuild s).event.concerned := by
  have each : g ∈ (eachOf s.tables.liveGroups rebuildGroup s).event.concerned :=
    eachOf_holds (fun u => g ∈ u.event.concerned) rebuildGroup (fun k u held => by
      unfold rebuildGroup
      dsimp only
      split
      · exact held
      · exact List.mem_append_left _ held) _ s concerned
  unfold rebuild
  dsimp only
  split
  · exact List.mem_append_left _ each
  · exact each

/-! #### One re-evaluation -/

theorem evaluate_group_other {s : State} {k g : Nat} (other : k ≠ g) : (evaluate k s).group g = s.group g := by
  have groups := evaluate_groups k s
  split at groups
  · rw [group_congr groups, setGroup_group_other (Ne.symm other)]
  · rw [group_congr groups]

theorem evaluate_group_same {s : State} {g : Nat} (service : inService s g = true) : (evaluate g s).group g = s.judge g := by
  obtain ⟨⟨first, last⟩, live⟩ := inService_iff.mp service
  have groups := evaluate_groups g s
  rw [if_pos live] at groups
  rw [group_congr groups, setGroup_group first last, if_pos rfl]

theorem evaluate_concerned {s : State} {k g : Nat} (concerned : g ∈ s.event.concerned) : g ∈ (evaluate k s).event.concerned := by
  unfold evaluate
  split
  · dsimp only
    split
    · exact concerned
    · refine List.mem_append_left _ ?_
      split
      · exact concerned
      · exact concerned
  · exact concerned

/-- A group that has moved is evaluated once more (R20). -/
theorem evaluate_moved {s : State} {g : Nat} (live : s.tables.live g = true) (moved : (s.judge g).shown ≠ s.shown g) :
    g ∈ (evaluate g s).event.concerned := by
  unfold evaluate
  rw [if_pos live]
  dsimp only
  rw [if_neg moved]
  exact List.mem_append_right _ (List.mem_cons_self ..)

/-! #### The passes of one event -/

/-- What no re-evaluation changes, of what a re-evaluation looks at. -/
structure Beside (s u : State) : Prop where
  aim : SameAim s u
  prover : u.prover = s.prover

theorem Beside.refl (s : State) : Beside s s := ⟨.refl s, rfl⟩

theorem Beside.trans {s t u : State} (first : Beside s t) (second : Beside t u) : Beside s u :=
  ⟨first.aim.trans second.aim, second.prover.trans first.prover⟩

theorem beside_rebuild (s : State) : Beside s (rebuild s) := ⟨sameAim_rebuild s, by simp⟩

theorem beside_evaluate (k : Nat) (s : State) : Beside s (evaluate k s) := ⟨sameAim_evaluate k s, by simp⟩

theorem Beside.tables {s u : State} (h : Beside s u) : u.tables = s.tables := by
  obtain ⟨-, -, -, store, -⟩ := h.aim
  exact tables_congr (by rw [store])

theorem Beside.inService {s u : State} (h : Beside s u) {g : Nat} (service : inService s g = true) : inService u g = true := by
  rwa [h.aim.inService]

theorem Beside.control {s u : State} (h : Beside s u) : u.control = s.control := h.aim.1

/-- The groups that are re-evaluated in one pass. -/
def evaluationPass (s : State) : State :=
  eachOf (s.tables.liveGroups.filter (fun g => s.event.concerned.contains g)) evaluate { s with event.concerned := [] }

theorem evaluateConcerned_pass {s : State} {g : Nat} (concerned : g ∈ s.event.concerned) (passes : Nat) :
    evaluateConcerned (passes + 1) s = evaluateConcerned passes (evaluationPass s) := by
  rw [evaluateConcerned]
  split
  · next none' => rw [none'] at concerned; cases concerned
  · rfl

/-- What every re-evaluation keeps holds at the end of them. -/
theorem evaluateConcerned_keeps {good : State → Prop} (blind : ∀ u, good u → good { u with event.concerned := [] })
    (keeps : ∀ k u, good u → good (evaluate k u)) (passes : Nat) {s : State} (start : good s) : good (evaluateConcerned passes s) := by
  induction passes generalizing s with
  | zero => exact start
  | succ n ih =>
    unfold evaluateConcerned
    split
    · exact start
    · exact ih (eachOf_holds good evaluate keeps _ _ (blind s start))

/-- What the one re-evaluation of a concerned group makes in a pass. -/
theorem evaluationPass_makes {good done : State → Prop} {g : Nat} {s : State} (live : s.tables.live g = true) (concerned : g ∈ s.event.concerned)
    (keeps : ∀ k u, k ≠ g → good u → good (evaluate k u)) (makes : ∀ u, good u → done (evaluate g u))
    (stays : ∀ k u, k ≠ g → done u → done (evaluate k u)) (start : good { s with event.concerned := [] }) : done (evaluationPass s) := by
  have number : g ∈ s.tables.liveGroups := by simpa [TableSet.liveGroups, ← live_iff] using live
  exact eachOf_once (x := g) keeps makes stays (List.mem_filter.mpr ⟨number, by simpa using concerned⟩)
    ((liveGroups_nodup _).filter _) start

/-- A condition on each group's record that the sequence rules keep, group by group. -/
structure State.Lasting (s : State) (R : Nat → Group → Prop) : Prop where
  judged : ∀ (u : State) (k : Nat), Beside s u → inService s k = true → R k (u.group k) → R k (u.judge k)

/-- The groups in service each meet a condition, in a state beside another. -/
structure Holding (s : State) (R : Nat → Group → Prop) (u : State) : Prop where
  beside : Beside s u
  held : ∀ k, inService s k = true → R k (u.group k)

variable {s : State} {R : Nat → Group → Prop}

theorem Holding.unconcerned {u : State} (h : Holding s R u) : Holding s R { u with event.concerned := [] } :=
  ⟨⟨h.beside.aim.trans ⟨rfl, rfl, rfl, rfl, rfl⟩, h.beside.prover⟩, h.held⟩

/-- A re-evaluation of one group, from what it makes of that group's record. -/
theorem Holding.evaluated {R' : Nat → Group → Prop} {u : State} (h : Holding s R u) (k : Nat) (judged : inService s k = true → R' k (u.judge k))
    (kept : ∀ i, i ≠ k → inService s i = true → R' i (u.group i)) : Holding s R' (evaluate k u) := by
  refine ⟨h.beside.trans (beside_evaluate k u), fun i service => ?_⟩
  by_cases same : k = i
  · subst same
    rw [evaluate_group_same (h.beside.inService service)]
    exact judged service
  · rw [evaluate_group_other same]
    exact kept i (Ne.symm same) service

theorem Holding.evaluate {u : State} (lasting : s.Lasting R) (h : Holding s R u) (k : Nat) : Holding s R (evaluate k u) :=
  h.evaluated k (fun service => lasting.judged u k h.beside service (h.held k service)) fun i _ service => h.held i service

theorem Holding.evaluateConcerned {u : State} (lasting : s.Lasting R) (h : Holding s R u) (passes : Nat) : Holding s R (evaluateConcerned passes u) :=
  evaluateConcerned_keeps (fun _ hu => hu.unconcerned) (fun k _ hu => hu.evaluate lasting k) passes h

/-- A condition on one group beside those on the others. -/
def atGroup (g : Nat) (A : Group → Prop) (R : Nat → Group → Prop) (k : Nat) (x : Group) : Prop := (k = g → A x) ∧ (k ≠ g → R k x)

/-- What the first re-evaluation of the group concerned makes of it, beside groups that keep conditions of theirs. -/
theorem Holding.decides {g : Nat} {A D : Group → Prop} {u : State} (service : inService s g = true) (lasting : s.Lasting R)
    (makes : ∀ v, Holding s (atGroup g A R) v → D (v.judge g)) (stays : ∀ v, Holding s (atGroup g D R) v → D (v.judge g))
    (h : Holding s (atGroup g A R) u) (concerned : g ∈ u.event.concerned) (passes : Nat) :
    Holding s (atGroup g D R) (Machine.evaluateConcerned (passes + 1) u) := by
  have others : ∀ (B : Group → Prop) (k : Nat) (v : State), k ≠ g → Holding s (atGroup g B R) v → Holding s (atGroup g B R) (Machine.evaluate k v) :=
    fun B k v other hv => hv.evaluated k (fun service => ⟨fun same => absurd same other,
      fun _ => lasting.judged v k hv.beside service ((hv.held k service).2 other)⟩) fun i _ service => hv.held i service
  have own : ∀ (B : Group → Prop) (v : State), Holding s (atGroup g B R) v → D (v.judge g) → Holding s (atGroup g D R) (Machine.evaluate g v) :=
    fun B v hv made => hv.evaluated g (fun _ => ⟨fun _ => made, fun other => absurd rfl other⟩)
      fun i other service => ⟨fun same => absurd same other, fun _ => (hv.held i service).2 other⟩
  rw [evaluateConcerned_pass concerned]
  have live : u.tables.live g = true := by rw [h.beside.tables]; exact (inService_iff.mp service).2
  have made := evaluationPass_makes (good := Holding s (atGroup g A R)) (done := Holding s (atGroup g D R)) live concerned
    (fun k v other hv => others A k v other hv) (fun v hv => own A v hv (makes v hv)) (fun k v other hv => others D k v other hv) h.unconcerned
  refine evaluateConcerned_keeps (fun _ hu => hu.unconcerned) (fun k v hv => ?_) passes made
  by_cases same : k = g
  · subst same
    exact own D v hv (stays v hv)
  · exact others D k v same hv

/-! #### An event in RUNNING in which no plan moves -/

/-- The records at the end of an event whose own effect leaves the preemption unit at rest. -/
theorem event_groups {effect answer : State → State} (only : onlyLink answer) (calm : noLampOut (effect (openEvent s)) = true)
    (mode : (effect (openEvent s)).control.mode ≠ .closing) (top : (effect (openEvent s)).steadyTop) (g : Nat) :
    (asEvent effect answer s).group g = (evaluateConcerned passLimit (rebuild (effect (openEvent s)))).group g := by
  have same := congrArg State.engine (only (conclude (effect (openEvent s))))
  have ended : (asEvent effect answer s).group g = (conclude (effect (openEvent s))).group g := group_congr (congrArg Engine.groups same :) g
  have settled := settle_steady top roundLimit
  have open' : closeIfDone (settle roundLimit (effect (openEvent s))) = settle roundLimit (effect (openEvent s)) :=
    if_neg fun done => mode (by simpa using done.1)
  have dark : noLampOut (settle roundLimit (effect (openEvent s))) = true := (noLampOut_of_channels (by simp)).trans calm
  rw [ended, conclude_eq, open', group_congr (finish_calm dark).groups, settled]

end Sys2Proof.Machine

/-! ### The timed moves of groups (R10 to R13) and the admission at expiries (R28 to R34) -/

namespace Sys2Proof.Machine

open Sys2Proof.Safety

/-! #### The sequence rules, case by case -/

variable {s : State} {g : Nat}

theorem judge_prepare_over (shown : (s.group g).shown = .prepare) (over' : (s.tables.group g).prepareUnits ≤ (s.group g).time) :
    s.judge g = (s.group g).enter .go := by
  simp only [State.judge, shown, if_pos over']

theorem judge_prepare_fresh (shown : (s.group g).shown = .prepare) (fresh : (s.group g).time < (s.tables.group g).prepareUnits) :
    s.judge g = (s.group g).noted (s.group g).source.note := by
  simp only [State.judge, shown, if_neg (Nat.not_le.mpr fresh)]

theorem judge_clear_over (shown : (s.group g).shown = .clear) (over' : (s.tables.group g).clearUnits ≤ (s.group g).time) :
    s.judge g = (s.group g).enter .stop := by
  simp only [State.judge, shown, if_pos over']

theorem judge_clear_fresh (shown : (s.group g).shown = .clear) (fresh : (s.group g).time < (s.tables.group g).clearUnits) :
    s.judge g = (s.group g).noted (s.group g).source.note := by
  simp only [State.judge, shown, if_neg (Nat.not_le.mpr fresh)]

theorem judge_go_over (shown : (s.group g).shown = .go) (target : (s.group g).target ≠ .go) (over' : (s.tables.group g).minGoUnits ≤ (s.group g).time) :
    s.judge g = (s.group g).enter .clear := by
  simp only [State.judge, shown, if_neg target, if_neg (Nat.not_lt.mpr over')]

theorem judge_go_wanted (shown : (s.group g).shown = .go) (target : (s.group g).target = .go) :
    s.judge g = (s.group g).noted (s.group g).source.note := by
  simp only [State.judge, shown, if_pos target]

/-- A group that must last in GO stays there, whatever its target. -/
theorem judge_go_fresh (shown : (s.group g).shown = .go) (fresh : (s.group g).time < (s.tables.group g).minGoUnits) :
    ∃ note, s.judge g = (s.group g).noted note := by
  by_cases target : (s.group g).target = .go
  · exact ⟨_, judge_go_wanted shown target⟩
  · exact ⟨.held, by simp only [State.judge, shown, if_neg target, if_pos fresh]⟩

theorem judge_stop_wanted (shown : (s.group g).shown = .stop) (target : (s.group g).target = .stop) :
    s.judge g = (s.group g).noted (s.group g).source.note := by
  simp only [State.judge, shown, if_pos target]

/-- A group that must last in STOP stays there, whatever its target. -/
theorem judge_stop_fresh (shown : (s.group g).shown = .stop) (fresh : (s.group g).time < (s.tables.group g).minStopUnits) :
    ∃ note, s.judge g = (s.group g).noted note := by
  by_cases target : (s.group g).target = .stop
  · exact ⟨_, judge_stop_wanted shown target⟩
  · exact ⟨.held, by simp only [State.judge, shown, if_neg target, if_pos fresh]⟩

/-- A group in STOP that wants GO, past its minimum, goes by its admission (R10, R32). -/
theorem judge_stop_admission (shown : (s.group g).shown = .stop) (target : (s.group g).target = .go)
    (over' : (s.tables.group g).minStopUnits ≤ (s.group g).time) (admits : s.control.mode.admits = true) :
    (s.admission g = .blocked → s.judge g = (s.group g).noted .blocked)
      ∧ (∀ units, s.admission g = .deferred units → s.judge g = { s.group g with note := .deferred, deferral := some units })
      ∧ (s.admission g = .admitted → s.judge g = (s.group g).enter (if (s.tables.group g).prepareUnits = 0 then .go else .prepare)) := by
  refine ⟨fun is => ?_, fun units is => ?_, fun is => ?_⟩ <;>
    simp only [State.judge, shown, target, admits, if_neg (Nat.not_lt.mpr over'), is, reduceCtorEq, if_false]

/-! #### An expiry in RUNNING -/

theorem expiry_event {due : State → Nat → Bool} (running : runningCalm s = true) (stack : s.preempt.stack = []) (is : due (openEvent s) g = true) :
    ∃ t, eventOutcome (groupExpiry due g) s = .next t ∧ calmFrame s t
      ∧ ∀ k, t.group k = (evaluateConcerned passLimit (rebuild (concern [g] (openEvent s)))).group k := by
  obtain ⟨up, mode, calm⟩ := runningCalm_iff.mp running
  obtain ⟨effect, ran, own⟩ : ∃ effect, eventOutcome (groupExpiry due g) s = .next (asEvent effect id s) ∧ effect (openEvent s) = concern [g] (openEvent s) :=
    ⟨_, eventOutcome_up up, if_pos is⟩
  have dark : noLampOut (effect (openEvent s)) = true := by rw [own]; exact calm
  have open' : (effect (openEvent s)).control.mode ≠ .closing := by rw [own]; show s.control.mode ≠ _; rw [mode]; exact nofun
  have top : (effect (openEvent s)).steadyTop := by rw [own]; exact steadyTop_of_empty stack
  have groups := event_groups id_onlyLink dark open' top
  have frame := asEvent_calm id_onlyLink dark open'
  generalize asEvent effect id s = t at *
  rw [own] at groups frame
  exact ⟨t, ran, frame, groups⟩

/-! #### The timed moves (R10 to R13) -/

/-- A record just entered into an aspect, with its clearance clock. -/
def Group.Fresh (a : Aspect) (clearance : Nat) (x : Group) : Prop := x.shown = a ∧ x.time = 0 ∧ x.clearance = clearance

theorem Group.Fresh.noted {a : Aspect} {clearance : Nat} {x : Group} (h : x.Fresh a clearance) (note : Note) : (x.noted note).Fresh a clearance := h

theorem fresh_enter (a : Aspect) (x : Group) : (x.enter a).Fresh a (if a = .clear then 0 else x.clearance) := ⟨rfl, rfl, rfl⟩

/-- A group just entered into an aspect that must last stays in it at the event. -/
theorem Group.Fresh.judge {a : Aspect} {clearance : Nat} (h : (s.group g).Fresh a clearance)
    (lasts : a = .go ∧ 0 < (s.tables.group g).minGoUnits ∨ a = .stop ∧ 0 < (s.tables.group g).minStopUnits ∨ a = .clear ∧ 0 < (s.tables.group g).clearUnits) :
    (s.judge g).Fresh a clearance := by
  obtain ⟨shown, time, -⟩ := id h
  rcases lasts with ⟨rfl, lasts⟩ | ⟨rfl, lasts⟩ | ⟨rfl, lasts⟩
  · obtain ⟨note, is⟩ := judge_go_fresh shown (time ▸ lasts)
    rw [is]
    exact h.noted note
  · obtain ⟨note, is⟩ := judge_stop_fresh shown (time ▸ lasts)
    rw [is]
    exact h.noted note
  · rw [judge_clear_fresh shown (time ▸ lasts)]
    exact h.noted _

theorem lasting_free (s : State) : s.Lasting fun _ _ => True := ⟨fun _ _ _ _ _ => trivial⟩

theorem holding_rebuild {v : State} {R : Nat → Group → Prop} (held : ∀ k, inService v k = true → R k (v.rebuilt k)) : Holding v R (rebuild v) :=
  ⟨beside_rebuild v, fun k service => by rw [rebuild_group service]; exact held k service⟩

/-- The group concerned by an expiry, alone: what its first re-evaluation makes of it. -/
theorem moves_once {v : State} {A D : Group → Prop} (service : inService v g = true) (concerned : g ∈ v.event.concerned) (start : A (v.rebuilt g))
    (makes : ∀ w, Beside v w → A (w.group g) → D (w.judge g)) (stays : ∀ w, Beside v w → D (w.group g) → D (w.judge g)) (passes : Nat) :
    D ((evaluateConcerned (passes + 1) (rebuild v)).group g) := by
  have begun : Holding v (atGroup g A fun _ _ => True) (rebuild v) := holding_rebuild fun k _ => ⟨fun same => same ▸ start, fun _ => trivial⟩
  have ends := begun.decides service (lasting_free v) (D := D) (fun w hw => makes w hw.beside ((hw.held g service).1 rfl))
    (fun w hw => stays w hw.beside ((hw.held g service).1 rfl)) (rebuild_concerned concerned) passes
  exact (ends.held g service).1 rfl

/-- The same, where the group moves on to another aspect at once: it is evaluated once more (R20). -/
theorem moves_twice {v : State} {A M D : Group → Prop} (service : inService v g = true) (concerned : g ∈ v.event.concerned) (start : A (v.rebuilt g))
    (moves : ∀ w, Beside v w → A (w.group g) → M (w.judge g) ∧ (w.judge g).shown ≠ w.shown g)
    (makes : ∀ w, Beside v w → M (w.group g) → D (w.judge g)) (stays : ∀ w, Beside v w → D (w.group g) → D (w.judge g)) (passes : Nat) :
    D ((evaluateConcerned (passes + 2) (rebuild v)).group g) := by
  have live : ∀ w, Beside v w → w.tables.live g = true := fun w beside => by rw [beside.tables]; exact (inService_iff.mp service).2
  have begun : Holding v (atGroup g A fun _ _ => True) (rebuild v) := holding_rebuild fun k _ => ⟨fun same => same ▸ start, fun _ => trivial⟩
  have others : ∀ (B : Group → Prop) (k : Nat) (w : State), k ≠ g → Holding v (atGroup g B fun _ _ => True) w →
      Holding v (atGroup g B fun _ _ => True) (evaluate k w) := fun B k w other hw =>
    hw.evaluated k (fun _ => ⟨fun same => absurd same other, fun _ => trivial⟩) fun i _ service => hw.held i service
  obtain ⟨moved, again⟩ := evaluationPass_makes (good := Holding v (atGroup g A fun _ _ => True))
    (done := fun w => Holding v (atGroup g M fun _ _ => True) w ∧ g ∈ w.event.concerned) (live _ begun.beside) (rebuild_concerned concerned)
    (fun k w other hw => others A k w other hw)
    (fun w hw => by
      obtain ⟨made, moved⟩ := moves w hw.beside ((hw.held g service).1 rfl)
      exact ⟨hw.evaluated g (fun _ => ⟨fun _ => made, fun _ => trivial⟩) fun i other _ => ⟨fun same => absurd same other, fun _ => trivial⟩,
        evaluate_moved (live w hw.beside) moved⟩)
    (fun k w other hw => ⟨others M k w other hw.1, evaluate_concerned hw.2⟩) begun.unconcerned
  rw [evaluateConcerned_pass (rebuild_concerned concerned)]
  have ends := moved.decides service (lasting_free v) (D := D) (fun w hw => makes w hw.beside ((hw.held g service).1 rfl))
    (fun w hw => stays w hw.beside ((hw.held g service).1 rfl)) again passes
  exact (ends.held g service).1 rfl

end Sys2Proof.Machine

namespace Sys2Proof.Proofs

open Sys2Proof Sys2Proof.Machine Sys2Proof.Safety

/-- Settles O49: the group concerned moves at its first re-evaluation, and what it then shows must last; only a clear time of 0 lets it move on. -/
theorem timedMovesOfGroups : Obligations.TimedMovesOfGroups := by
  unfold Obligations.TimedMovesOfGroups
  intro g s running stack service minGo minStop
  have live := (inService_iff.mp service).2
  have concerned : g ∈ (concern [g] (openEvent s)).event.concerned := List.mem_append_right _ (List.mem_singleton_self g)
  have tables : ∀ {w}, Beside (concern [g] (openEvent s)) w → w.tables = s.tables := fun beside => beside.tables
  refine ⟨fun shown over' => ?_, fun shown over' => ?_, fun shown held over' target => ?_⟩
  · obtain ⟨t, ran, frame, groups⟩ := expiry_event (due := State.prepareOver) running stack (prepareOver_iff.mpr ⟨live, shown, over'⟩)
    have fresh := moves_once (v := concern [g] (openEvent s)) (A := fun x => x.shown = .prepare ∧ (s.tables.group g).prepareUnits ≤ x.time ∧ x.clearance = (s.group g).clearance)
      (D := Group.Fresh .go (s.group g).clearance) service concerned ⟨shown, over', rfl⟩
      (fun w beside ⟨shown, over', clearance⟩ => by
        rw [judge_prepare_over shown (by rw [tables beside]; exact over')]
        exact ⟨rfl, rfl, clearance⟩)
      (fun w beside fresh => fresh.judge (.inl ⟨rfl, by rw [tables beside]; exact minGo⟩)) 99
    obtain ⟨go, time, clearance⟩ := fresh
    exact ⟨t, ran, frame, by rw [State.shown, groups g]; exact go, by rw [groups g]; exact time, by rw [groups g]; exact clearance⟩
  · obtain ⟨t, ran, frame, groups⟩ := expiry_event (due := State.clearOver) running stack (clearOver_iff.mpr ⟨live, shown, over'⟩)
    have fresh := moves_once (v := concern [g] (openEvent s)) (A := fun x => x.shown = .clear ∧ (s.tables.group g).clearUnits ≤ x.time ∧ x.clearance = (s.group g).clearance)
      (D := Group.Fresh .stop (s.group g).clearance) service concerned ⟨shown, over', rfl⟩
      (fun w beside ⟨shown, over', clearance⟩ => by
        rw [judge_clear_over shown (by rw [tables beside]; exact over')]
        exact ⟨rfl, rfl, clearance⟩)
      (fun w beside fresh => fresh.judge (.inr (.inl ⟨rfl, by rw [tables beside]; exact minStop⟩))) 99
    obtain ⟨stop, time, clearance⟩ := fresh
    exact ⟨t, ran, frame, by rw [State.shown, groups g]; exact stop, by rw [groups g]; exact time, by rw [groups g]; exact clearance⟩
  · obtain ⟨t, ran, frame, groups⟩ := expiry_event (due := State.minGoOver) running stack (minGoOver_iff.mpr ⟨live, shown, held, over'⟩)
    refine ⟨t, ran, frame, ?_⟩
    have clears : ∀ w, Beside (concern [g] (openEvent s)) w → ((w.group g).shown = .go ∧ (s.tables.group g).minGoUnits ≤ (w.group g).time ∧ (w.group g).target ≠ .go) →
        (w.judge g).Fresh .clear 0 ∧ (w.judge g).shown ≠ w.shown g := fun w beside ⟨shown, over', target⟩ => by
      rw [judge_go_over shown target (by rw [tables beside]; exact over'), State.shown, shown]
      exact ⟨⟨rfl, rfl, rfl⟩, nofun⟩
    rw [State.shown, groups g]
    split
    · next none' =>
      exact moves_twice (v := concern [g] (openEvent s)) (A := fun x => x.shown = .go ∧ (s.tables.group g).minGoUnits ≤ x.time ∧ x.target ≠ .go) (M := Group.Fresh .clear 0)
        (D := Group.Fresh .stop 0) service concerned ⟨shown, over', target⟩ clears
        (fun w beside ⟨shown, time, clearance⟩ => by
          rw [judge_clear_over shown (by rw [tables beside, none']; exact Nat.zero_le _)]
          exact ⟨rfl, rfl, clearance⟩)
        (fun w beside fresh => fresh.judge (.inr (.inl ⟨rfl, by rw [tables beside]; exact minStop⟩))) 98
    · next some' =>
      exact moves_once (v := concern [g] (openEvent s)) (A := fun x => x.shown = .go ∧ (s.tables.group g).minGoUnits ≤ x.time ∧ x.target ≠ .go) (D := Group.Fresh .clear 0) service concerned
        ⟨shown, over', target⟩ (fun w beside start => (clears w beside start).1)
        (fun w beside fresh => fresh.judge (.inr (.inr ⟨rfl, by rw [tables beside]; omega⟩))) 99

end Sys2Proof.Proofs

namespace Sys2Proof.Machine

open Sys2Proof.Safety

/-! #### The admission at an expiry (R28 to R34) -/

variable {s : State} {g : Nat}

/-- A group at rest in STOP with target STOP, with its clearance clock. -/
def Group.Resting (clearance : Nat) (x : Group) : Prop := x.shown = .stop ∧ x.target = .stop ∧ x.clearance = clearance

/-- The groups in conflict with one rest in STOP, with the clearance clocks that they had. -/
def restingRivals (s : State) (g k : Nat) (x : Group) : Prop := s.tables.conflict k g = true → x.Resting (s.group k).clearance

theorem lasting_restingRivals (s v : State) (g : Nat) : v.Lasting (restingRivals s g) :=
  ⟨fun u k _ _ rests conflict => by
    obtain ⟨shown, target, clearance⟩ := rests conflict
    rw [judge_stop_wanted shown target]
    exact ⟨shown, target, clearance⟩⟩

/-- A group goes on lasting in GO. -/
def Group.Lasts (units : Nat) (x : Group) : Prop := x.shown = .go ∧ x.time < units

def lastingRival (s : State) (i k : Nat) (x : Group) : Prop := k = i → x.Lasts (s.tables.group i).minGoUnits

theorem lasting_lastingRival {s v : State} (tables : v.tables = s.tables) (i : Nat) : v.Lasting (lastingRival s i) :=
  ⟨fun u k beside _ lasts same => by
    subst same
    obtain ⟨shown, fresh⟩ := lasts rfl
    obtain ⟨note, is⟩ := judge_go_fresh (s := u) shown (by rw [beside.tables, tables]; exact fresh)
    rw [is]
    exact ⟨shown, fresh⟩⟩

/-- What an expiry makes of a group that waits in STOP for GO, beside rivals in a condition that lasts, where its admission is decided. -/
theorem admits_once {v : State} {R : Nat → Group → Prop} {D : Group → Prop} (service : inService v g = true) (concerned : g ∈ v.event.concerned)
    (lasting : v.Lasting R) (held : ∀ k, k ≠ g → inService v k = true → R k (v.rebuilt k))
    (shown : (v.group g).shown = .stop) (over' : (v.tables.group g).minStopUnits ≤ (v.group g).time) (target : (v.effective g).1 = .go)
    (makes : ∀ w, Holding v (atGroup g (fun x => x.shown = .stop ∧ (v.tables.group g).minStopUnits ≤ x.time ∧ x.target = .go) R) w → D (w.judge g))
    (stays : ∀ w, Holding v (atGroup g D R) w → D (w.judge g)) (passes : Nat) :
    D ((evaluateConcerned (passes + 1) (rebuild v)).group g) := by
  have begun : Holding v (atGroup g (fun x => x.shown = .stop ∧ (v.tables.group g).minStopUnits ≤ x.time ∧ x.target = .go) R) (rebuild v) :=
    holding_rebuild fun k inside => ⟨fun same => by subst same; exact ⟨shown, over', target⟩, fun other => held k other inside⟩
  have ends := begun.decides service lasting makes stays (rebuild_concerned concerned) passes
  exact (ends.held g service).1 rfl

/-- The rivals of a group, as its admission finds them. -/
theorem rivals_free {v w : State} {A : Group → Prop} (tables : v.tables = s.tables) (length : v.engine.groups.length = s.engine.groups.length)
    (prover : v.prover = s.prover) (hw : Holding v (atGroup g A (restingRivals s g)) w)
    (rivals : ∀ i ∈ s.tables.conflicting g, i ≠ g ∧ i ≤ s.engine.groups.length ∧ s.goLampFault i = false) :
    ∀ i ∈ w.tables.conflicting g, w.blocks i = false
      ∧ w.shortfall i g = (s.tables.intergreen i g : Int) - ((s.tables.group g).prepareUnits : Int) - ((s.group i).clearance : Int) := by
  have same : w.tables = s.tables := hw.beside.tables.trans tables
  intro i member
  rw [same] at member
  obtain ⟨other, last, dark⟩ := rivals i member
  have conflict := mem_conflicting.mp member
  obtain ⟨live, -, -⟩ := conflict_iff.mp conflict
  have inside : inService v i = true := inService_iff.mpr ⟨⟨(live_iff.mp live).1, by rw [length]; exact last⟩, by rw [tables]; exact live⟩
  obtain ⟨shown, -, clearance⟩ := (hw.held i inside).2 other conflict
  have fault : w.goLampFault i = s.goLampFault i := by unfold State.goLampFault; rw [same, hw.beside.prover, prover]
  exact ⟨by simp [State.blocks, State.shown, shown, fault, dark], by simp [State.shortfall, same, clearance]⟩

end Sys2Proof.Machine

namespace Sys2Proof.Proofs

open Sys2Proof Sys2Proof.Machine Sys2Proof.Safety

/-- Settles O50: the groups in conflict stay as they are at the event, so the group's admission is that of its first re-evaluation, and a later one
decides the same. -/
theorem admissionAtExpiries : Obligations.AdmissionAtExpiries := by
  unfold Obligations.AdmissionAtExpiries
  intro g s c running stack service shown over' target minGo expires
  have live := (inService_iff.mp service).2
  obtain ⟨up, mode, calm⟩ := runningCalm_iff.mp running
  have concerned : g ∈ (concern [g] (openEvent s)).event.concerned := List.mem_append_right _ (List.mem_singleton_self g)
  obtain ⟨t, ran, frame, groups⟩ : ∃ t, exec c s = .next t ∧ calmFrame s t
      ∧ ∀ k, t.group k = (evaluateConcerned passLimit (rebuild (concern [g] (openEvent s)))).group k := by
    rcases expires with ⟨rfl, held⟩ | ⟨rfl, out⟩
    · exact expiry_event (due := State.minStopOver) running stack (minStopOver_iff.mpr ⟨live, shown, held, over'⟩)
    · exact expiry_event (due := State.deferralOver) running stack (deferralOver_iff.mpr ⟨live, out⟩)
  have admits : ∀ {w}, Beside (concern [g] (openEvent s)) w → w.control.mode.admits = true := fun beside => by
    rw [beside.control]; show s.control.mode.admits = true; rw [mode]; rfl
  have tables : ∀ {w}, Beside (concern [g] (openEvent s)) w → w.tables = s.tables := fun beside => beside.tables
  refine ⟨t, ran, frame, fun rest => ?_, fun i member last go fresh => ?_⟩
  · have rivals : ∀ i ∈ s.tables.conflicting g, i ≠ g ∧ i ≤ s.engine.groups.length ∧ s.goLampFault i = false := fun i member => by
      obtain ⟨last, -, stop, dark⟩ := rest i member
      exact ⟨fun same => (by rw [same, target] at stop; cases stop), last, dark⟩
    have held : ∀ k, k ≠ g → inService (concern [g] (openEvent s)) k = true → restingRivals s g k ((concern [g] (openEvent s)).rebuilt k) :=
      fun k _ _ conflict => by
        obtain ⟨-, shown, stop, -⟩ := rest k (mem_conflicting.mpr conflict)
        exact ⟨shown, stop, rfl⟩
    have free : ∀ {A : Group → Prop} {w}, Holding (concern [g] (openEvent s)) (atGroup g A (restingRivals s g)) w → _ := fun hw =>
      rivals_free (v := concern [g] (openEvent s)) (s := s) rfl rfl rfl hw rivals
    refine ⟨fun enough => ?_, fun n above met greatest => ?_⟩
    · have admitted : ∀ {A : Group → Prop} {w}, Holding (concern [g] (openEvent s)) (atGroup g A (restingRivals s g)) w → w.admission g = .admitted :=
        fun hw => admission_eq_admitted.mpr fun i conflict => by
          obtain ⟨blocks, short⟩ := free hw i (mem_conflicting.mpr conflict)
          have units := enough i (by rw [← tables hw.beside]; exact mem_conflicting.mpr conflict)
          exact ⟨blocks, by rw [short]; omega⟩
      have made := admits_once (v := concern [g] (openEvent s)) (D := fun x => (x.shown = if (s.tables.group g).prepareUnits = 0 then .go else .prepare)
          ∧ x.time = 0 ∧ x.target = .go) service concerned (lasting_restingRivals s _ g) held shown over' target
        (fun w hw => by
          obtain ⟨shown, over', target⟩ := (hw.held g service).1 rfl
          rw [(judge_stop_admission shown target (by rw [tables hw.beside]; exact over') (admits hw.beside)).2.2 (admitted hw), tables hw.beside]
          exact ⟨rfl, rfl, target⟩)
        (fun w hw => by
          obtain ⟨shown, time, target⟩ := (hw.held g service).1 rfl
          have stays : ∃ note, w.judge g = (w.group g).noted note := by
            split at shown
            · exact ⟨_, judge_go_wanted shown target⟩
            · exact ⟨_, judge_prepare_fresh shown (by rw [time, tables hw.beside]; omega)⟩
          obtain ⟨note, is⟩ := stays
          rw [is]
          exact ⟨shown, time, target⟩) 99
      rw [State.shown, groups g]
      exact ⟨made.2.1, made.1⟩
    · have deferred : ∀ {A : Group → Prop} {w}, Holding (concern [g] (openEvent s)) (atGroup g A (restingRivals s g)) w → w.admission g = .deferred n :=
        fun {A w} hw => by
          have same := tables hw.beside
          refine admission_eq_deferred above (fun i member => (free hw i member).1) ?_ fun i member => ?_
          · obtain ⟨i, member, units⟩ := met
            have member : i ∈ w.tables.conflicting g := by rw [same]; exact member
            exact ⟨i, member, by rw [(free hw i member).2]; omega⟩
          · have units := greatest i (by rw [← same]; exact member)
            rw [(free hw i member).2]
            omega
      have again : ∀ {A : Group → Prop} {w}, Holding (concern [g] (openEvent s)) (atGroup g A (restingRivals s g)) w →
          (w.group g).shown = .stop ∧ (s.tables.group g).minStopUnits ≤ (w.group g).time ∧ (w.group g).target = .go →
          ((w.judge g).shown = .stop ∧ (s.tables.group g).minStopUnits ≤ (w.judge g).time ∧ (w.judge g).target = .go)
            ∧ (w.judge g).note = .deferred ∧ (w.judge g).deferral = some n := fun hw ⟨shown, over', target⟩ => by
        rw [(judge_stop_admission shown target (by rw [tables hw.beside]; exact over') (admits hw.beside)).2.1 n (deferred hw)]
        exact ⟨⟨shown, over', target⟩, rfl, rfl⟩
      have made := admits_once (v := concern [g] (openEvent s)) (D := fun x => (x.shown = .stop ∧ (s.tables.group g).minStopUnits ≤ x.time ∧ x.target = .go)
          ∧ x.note = .deferred ∧ x.deferral = some n) service concerned (lasting_restingRivals s _ g) held shown over' target
        (fun w hw => again hw ((hw.held g service).1 rfl)) (fun w hw => again hw ((hw.held g service).1 rfl).1) 99
      rw [State.shown, groups g]
      exact ⟨made.1.1, made.2⟩
  · have conflict := mem_conflicting.mp member
    have other : i ≠ g := fun same => by rw [same, shown] at go; cases go
    have inside : inService s i = true := inService_iff.mpr ⟨⟨(live_iff.mp (conflict_iff.mp conflict).1).1, last⟩, (conflict_iff.mp conflict).1⟩
    have again : ∀ {A : Group → Prop} {w}, Holding (concern [g] (openEvent s)) (atGroup g A (lastingRival s i)) w →
        (w.group g).shown = .stop ∧ (s.tables.group g).minStopUnits ≤ (w.group g).time ∧ (w.group g).target = .go →
        ((w.judge g).shown = .stop ∧ (s.tables.group g).minStopUnits ≤ (w.judge g).time ∧ (w.judge g).target = .go)
          ∧ (w.judge g).note = .blocked ∧ (w.judge g).deferral = none := fun {A w} hw ⟨shown, over', target⟩ => by
      have lasts := ((hw.held i inside).2 other rfl).1
      have blocked : w.admission g = .blocked :=
        admission_of_blocks ⟨i, by rw [tables hw.beside]; exact member, by simp [State.blocks, State.shown, lasts]⟩
      rw [(judge_stop_admission shown target (by rw [tables hw.beside]; exact over') (admits hw.beside)).1 blocked]
      exact ⟨⟨shown, over', target⟩, rfl, rfl⟩
    have made := admits_once (v := concern [g] (openEvent s)) (D := fun x => (x.shown = .stop ∧ (s.tables.group g).minStopUnits ≤ x.time ∧ x.target = .go)
        ∧ x.note = .blocked ∧ x.deferral = none) service concerned (lasting_lastingRival (s := s) (v := concern [g] (openEvent s)) rfl i)
      (fun k _ _ same => by subst same; exact ⟨go, fresh⟩) shown over' target
      (fun w hw => again hw ((hw.held g service).1 rfl)) (fun w hw => again hw ((hw.held g service).1 rfl).1) 99
    rw [State.shown, groups g]
    exact ⟨made.1.1, made.2⟩

end Sys2Proof.Proofs

/-! ### A plan that ends at the event that takes it (R97 to R99) -/

namespace Sys2Proof.Machine

open Sys2Proof.Safety

/-- An EDGE plan on preemption line 1 with no entry delay, no forced groups and no minimum dwell. -/
def fleetingPlan : PlanRec := { enabled := 1, source := 0, sensitivity := 1 }

/-- The supervisor in RUNNING without groups, 30 ms after its reset, with that plan alone. -/
def fleetingState : State :=
  { resetState [] 0 0 0 Nonvolatile.blank with
    clock.awake := 30
    control.mode := .running
    store.active := some { emptySet with plans := [fleetingPlan] } }

/-- The state after preemption line 1 has been active for 30 ms. -/
def fleetingNext : State := whileUp (asEvent (fun s => if s.heldSince 30 lineFilterMs ∧ s.line 1 ≠ true then changeLine 1 true s else s) id) fleetingState

theorem exec_fleeting : exec (.peLineChange 1 true 30) fleetingState = .next fleetingNext := rfl

/-- The plan passes through all its phases at once (R97 to R99), and its last outcome is ENDED (R101). -/
theorem fleetingNext_outcome : (fleetingNext.plan 1).outcome = .ended := by decide

end Sys2Proof.Machine

namespace Sys2Proof.Proofs

open Sys2Proof Sys2Proof.Machine Sys2Proof.Safety

/-- Refutes O53: the statement says of every plan taken below depth 4 that its last outcome stays, but an EDGE plan with an entry delay of 0, no forced-GO
group and a minimum dwell of 0 ends at the event that takes it, and its last outcome is then ENDED. -/
theorem not_preemptionLineChanges : ¬ Obligations.PreemptionLineChanges := by
  unfold Obligations.PreemptionLineChanges
  intro holds
  obtain ⟨-, taken⟩ := holds 1 30 true fleetingState (by decide) (by decide) rfl rfl (by decide) (by decide)
  obtain ⟨t, ran, -, -, room, -⟩ := taken (by decide) (by decide) (by decide) (by decide) rfl 1 (by decide) (by decide) (by decide)
    (fun level => absurd level (by decide)) (by decide) fun q below may => by
      rw [Nat.lt_one_iff.mp below] at may
      exact absurd may (by decide)
  rw [exec_fleeting] at ran
  cases ran
  obtain ⟨-, outcome, -⟩ := room (by decide)
  rw [fleetingNext_outcome] at outcome
  exact absurd outcome (by decide)

end Sys2Proof.Proofs

/-! ### What the steps of the plans keep (R94 to R102) -/

namespace Sys2Proof.Machine

open Sys2Proof.Safety

/-- A condition that each single move of the preemption unit keeps, and that looks at the unit, the tables and the fault list alone. -/
structure UnitInvariant (good : State → Prop) : Prop where
  blind : ∀ {s t : State}, good s → t.preempt = s.preempt → t.faults = s.faults → t.store = s.store → good t
  unstacks : ∀ {s : State} {x : Stacked} {rest : List Stacked} (outcome : PlanOutcome), s.preempt.stack = x :: rest → good s → good (unstack x.plan outcome s)
  takes : ∀ {s : State} {q : Nat}, (s.plan q).pending = true → good s → good (takePlan q s)
  limits : ∀ {s : State} {q : Nat}, 1 ≤ q → q ≤ 8 → good s → good (reportLimit q s)
  moves : ∀ {s : State} {x : Stacked} {rest : List Stacked} (f : Stacked → Stacked), (f x).plan = x.plan → s.preempt.stack = x :: rest → good s →
    good (changeTop f s)

namespace UnitInvariant

variable {good : State → Prop} {s : State}

theorem consider (h : UnitInvariant good) (start : good s) : good (consider s) := by
  have wants : ∀ q ∈ planNumbers.filter s.wantsTaking, (s.plan q).pending = true := fun q member => by
    have wants := (List.mem_filter.mp member).2
    unfold State.wantsTaking at wants
    simp only [Bool.and_eq_true] at wants
    exact wants.1.1.1
  have range : ∀ q ∈ planNumbers.filter s.wantsTaking, 1 ≤ q ∧ q ≤ 8 := fun q member => mem_numbers.mp (List.mem_filter.mp member).1
  unfold Machine.consider
  dsimp only
  split
  · split
    · split
      · next q rest wanting => exact h.takes (wants q (wanting ▸ List.mem_cons_self ..)) start
      · exact start
    · have each : ∀ (l : List Nat) (t : State), (∀ q ∈ l, 1 ≤ q ∧ q ≤ 8) → good t → good (eachOf l reportLimit t) := by
        intro l
        induction l with
        | nil => exact fun _ _ ht => ht
        | cons q l ih =>
          intro t inside ht
          obtain ⟨first, last⟩ := inside q (List.mem_cons_self ..)
          exact ih _ (fun r member => inside r (List.mem_cons_of_mem _ member)) (h.limits first last ht)
      exact each _ s range start
  · exact start

theorem topStep (h : UnitInvariant good) {t : State} (step : topStep s = some t) (start : good s) : good t := by
  unfold Machine.topStep at step
  split at step
  · cases step
  · next x rest stack =>
    dsimp only at step
    repeat' split at step
    all_goals cases step
    · exact h.consider (h.unstacks _ stack start)
    · exact h.moves _ rfl stack start
    · exact h.moves _ rfl stack start
    · exact h.moves _ rfl stack start
    · exact h.consider (h.unstacks _ stack start)
    · exact h.consider (h.unstacks _ stack start)

theorem advance (h : UnitInvariant good) (steps : Nat) (start : good s) : good (advance steps s) := by
  induction steps generalizing s with
  | zero => exact start
  | succ n ih =>
    unfold Machine.advance
    split
    · next t step => exact ih (h.topStep step start)
    · exact start

theorem considerTaking (h : UnitInvariant good) (start : good s) : good (considerTaking s) := by
  unfold Machine.considerTaking
  dsimp only
  split
  · exact h.consider start
  · exact h.advance _ (h.consider start)

theorem afterTimeOut (h : UnitInvariant good) (wasTop : Bool) (start : good s) : good (afterTimeOut wasTop s) := by
  unfold Machine.afterTimeOut
  split
  · exact h.advance _ (h.consider start)
  · exact h.considerTaking start

theorem settle (h : UnitInvariant good) (rounds : Nat) (start : good s) : good (settle rounds s) := by
  have evaluated : ∀ {u : State}, good u → good (evaluateConcerned passLimit (rebuild u)) := fun hu => h.blind hu (by simp) (by simp) (by simp)
  induction rounds generalizing s with
  | zero => exact evaluated start
  | succ n ih =>
    unfold Machine.settle
    dsimp only
    split
    · exact ih (h.advance _ (evaluated start))
    · exact evaluated start

end UnitInvariant

/-! #### A plan that is gone -/

/-- A plan's record has an outcome and is not PENDING; that of a plan whose request follows its source is also not to become so. -/
def PlanState.Out (follows : Bool) (outcome : PlanOutcome) (x : PlanState) : Prop :=
  x.outcome = outcome ∧ x.pending = false ∧ (follows = true → (x.active && !x.spent) = false)

/-- Plan `p` is off the stack with an outcome, and nothing in an event of the plans makes it PENDING. -/
structure Gone (p : Nat) (outcome : PlanOutcome) (s : State) : Prop where
  out : s.stacked p = false
  record : (s.plan p).Out ((s.tables.plan p).on && (s.tables.plan p).level) outcome

variable {p : Nat} {outcome : PlanOutcome} {s t : State}

theorem stacked_congr (stack : t.preempt.stack = s.preempt.stack) (p : Nat) : t.stacked p = s.stacked p := by unfold State.stacked; rw [stack]

theorem Gone.congr (h : Gone p outcome s) (plans : t.preempt.plans = s.preempt.plans) (stack : t.preempt.stack = s.preempt.stack)
    (active : t.store.active = s.store.active) : Gone p outcome t := by
  obtain ⟨out, record⟩ := h
  refine ⟨by rw [stacked_congr stack]; exact out, ?_⟩
  rw [tables_congr active, show t.plan p = s.plan p by unfold State.plan; rw [plans]]
  exact record

theorem Gone.changePlan (h : Gone p outcome s) {q : Nat} {f : PlanState → PlanState}
    (keeps : q = p → ∀ x : PlanState, x.Out ((s.tables.plan p).on && (s.tables.plan p).level) outcome →
      (f x).Out ((s.tables.plan p).on && (s.tables.plan p).level) outcome) : Gone p outcome (changePlan q f s) := by
  obtain ⟨out, record⟩ := h
  refine ⟨out, ?_⟩
  show PlanState.Out _ outcome (entryD (changeEntry s.preempt.plans q f) p PlanState.reset)
  by_cases same : q = p
  · subst same
    rcases entryD_changeEntry s.preempt.plans q q f PlanState.reset with kept | ⟨-, changed⟩
    · rw [kept]; exact record
    · rw [changed]; exact keeps rfl _ record
  · rw [entryD_changeEntry_other (Ne.symm same)]
    exact record

theorem Gone.refreshRequest (h : Gone p outcome s) (q : Nat) : Gone p outcome (refreshRequest q s) := by
  unfold Machine.refreshRequest
  dsimp only
  split
  · next follows =>
    refine h.changePlan fun same x out => ?_
    subst same
    obtain ⟨marked, -, quiet⟩ := out
    simp only [Bool.and_eq_true] at follows
    exact ⟨marked, quiet (by simp [follows.1]), fun _ => quiet (by simp [follows.1])⟩
  · exact h

theorem Gone.setSource (h : Gone p outcome s) (q : Nat) : Gone p outcome (setSource false q s) := by
  have dark : Gone p outcome (Machine.changePlan q (fun x => { x with active := false, spent := x.spent && false }) s) :=
    h.changePlan fun _ _ out => ⟨out.1, out.2.1, fun _ => rfl⟩
  exact dark.refreshRequest q

theorem Gone.emptySlot (h : Gone p outcome s) : Gone p outcome (emptySlot s) := by
  unfold Machine.emptySlot
  split
  · exact (h.congr (t := { s with preempt.slot := none }) rfl rfl rfl).setSource _
  · exact h

theorem Gone.unstack (h : Gone p outcome s) {q : Nat} (other : q ≠ p) (o : PlanOutcome) : Gone p outcome (unstack q o s) := by
  have off : ({ s with preempt.stack := s.preempt.stack.filter (fun x => decide (x.plan ≠ q)) } : State).stacked p = false := by
    have out := h.out
    unfold State.stacked at out ⊢
    rw [List.any_eq_false] at out ⊢
    exact fun x member => out x (List.mem_filter.mp member).1
  have removed : Gone p outcome (Machine.changePlan q (fun x => { x with outcome := o })
      { s with preempt.stack := s.preempt.stack.filter (fun x => decide (x.plan ≠ q)) }) :=
    Gone.changePlan (s := { s with preempt.stack := _ }) ⟨off, h.record⟩ fun same => absurd same other
  unfold Machine.unstack
  dsimp only
  refine Gone.refreshRequest ?_ q
  split
  · exact removed.emptySlot
  · exact removed

theorem Gone.other (h : Gone p outcome s) {x : Stacked} {rest : List Stacked} (stack : s.preempt.stack = x :: rest) : x.plan ≠ p := fun same => by
  have out := h.out
  unfold State.stacked at out
  rw [stack, List.any_cons, decide_eq_true same] at out
  cases out

theorem gone_invariant (p : Nat) (outcome : PlanOutcome) : UnitInvariant (Gone p outcome) where
  blind h preempt _ store := h.congr (by rw [preempt]) (by rw [preempt]) (by rw [store])
  unstacks o stack h := h.unstack (h.other stack) o
  takes {s q} pending h := by
    have other : q ≠ p := fun same => by rw [same, h.record.2.1] at pending; cases pending
    have off : ({ s with preempt.stack := pushed s q :: s.preempt.stack } : State).stacked p = false := by
      have out := h.out
      unfold State.stacked at out ⊢
      rw [List.any_cons, out, Bool.or_false]
      exact decide_eq_false other
    exact Gone.changePlan (s := { s with preempt.stack := pushed s q :: s.preempt.stack }) ⟨off, h.record⟩ fun same => absurd same other
  limits {s q} _ _ h := by
    have flagged : Gone p outcome { s with preempt.nestingLimit := true } := h.congr rfl rfl rfl
    have marked := flagged.changePlan (q := q) (f := fun x => { x with limitReported := true }) fun _ _ out => out
    unfold Machine.reportLimit
    dsimp only
    split
    · exact flagged
    · exact marked.congr (by simp) (by simp) (by simp)
  moves {s x rest} f same stack h := by
    have off : ({ s with preempt.stack := f x :: rest } : State).stacked p = false := by
      have out := h.out
      unfold State.stacked at out ⊢
      rw [stack, List.any_cons] at out
      rw [List.any_cons, same]
      exact out
    unfold Machine.changeTop
    rw [stack]
    exact ⟨off, h.record⟩

/-- A plan that leaves the stack is gone, where it is not PENDING and its request, if it follows its source, has nothing to follow. -/
theorem gone_unstack (first : 1 ≤ p) (last : p ≤ s.preempt.plans.length) (idle : (s.plan p).pending = false)
    (quiet : (s.tables.plan p).level = true → ((s.plan p).active && !(s.plan p).spent) = false) (outcome : PlanOutcome) : Gone p outcome (unstack p outcome s) := by
  have off : ({ s with preempt.stack := s.preempt.stack.filter (fun x => decide (x.plan ≠ p)) } : State).stacked p = false := by
    unfold State.stacked
    rw [List.any_eq_false]
    exact fun x member => by
      have apart := (List.mem_filter.mp member).2
      simpa using apart
  have removed : Gone p outcome (changePlan p (fun x => { x with outcome := outcome })
      { s with preempt.stack := s.preempt.stack.filter (fun x => decide (x.plan ≠ p)) }) := by
    refine ⟨off, ?_⟩
    show PlanState.Out _ outcome (entryD (changeEntry s.preempt.plans p _) p PlanState.reset)
    rw [entryD_changeEntry_same first last]
    exact ⟨rfl, idle, fun follows => quiet (Bool.and_eq_true_iff.mp follows).2⟩
  unfold Machine.unstack
  dsimp only
  refine Gone.refreshRequest ?_ p
  split
  · exact removed.emptySlot
  · exact removed

end Sys2Proof.Machine

namespace Sys2Proof.Machine

open Sys2Proof.Safety

/-! #### The spent mark while the remote call slot is empty -/

variable {p : Nat} {s : State}

theorem spent_changePlan {q : Nat} {f : PlanState → PlanState} (same : ∀ x, (f x).spent = x.spent) (s : State) :
    ((changePlan q f s).plan p).spent = (s.plan p).spent := by
  rcases entryD_changeEntry s.preempt.plans q p f PlanState.reset with kept | ⟨-, changed⟩
  · exact congrArg PlanState.spent kept
  · exact (congrArg PlanState.spent changed).trans (same _)

theorem spent_refreshRequest (q : Nat) (s : State) : ((refreshRequest q s).plan p).spent = (s.plan p).spent := by
  unfold refreshRequest
  dsimp only
  split
  · exact spent_changePlan (by exact fun _ => rfl) s
  · rfl

/-- The slot is empty, and the spent mark of plan `p` stands. -/
structure SpentMark (p : Nat) (mark : Bool) (s : State) : Prop where
  slot : s.preempt.slot = none
  mark : (s.plan p).spent = mark

theorem SpentMark.unstack {mark : Bool} (h : SpentMark p mark s) (q : Nat) (o : PlanOutcome) : SpentMark p mark (unstack q o s) := by
  obtain ⟨slot, is⟩ := h
  have empty : (changePlan q (fun x => { x with outcome := o })
      { s with preempt.stack := s.preempt.stack.filter (fun x => decide (x.plan ≠ q)) }).preempt.slot = none := slot
  unfold Machine.unstack
  dsimp only
  rw [empty, Option.any_none, if_neg Bool.false_ne_true]
  exact ⟨(refreshRequest_unit _ _).1.trans empty, (spent_refreshRequest _ _).trans ((spent_changePlan (by exact fun _ => rfl) _).trans is)⟩

theorem spentMark_invariant (p : Nat) (mark : Bool) : UnitInvariant (SpentMark p mark) where
  blind h preempt _ _ := ⟨by rw [preempt]; exact h.slot, by rw [plan_congr preempt]; exact h.mark⟩
  unstacks o _ h := h.unstack _ o
  takes _ h := ⟨h.slot, (spent_changePlan (by exact fun _ => rfl) _).trans h.mark⟩
  limits {s q} _ _ h := by
    unfold Machine.reportLimit
    dsimp only
    split
    · exact ⟨h.slot, h.mark⟩
    · exact ⟨Eq.trans (by simp [changePlan]) h.slot, by
        rw [plan_congr (s := changePlan q (fun x => { x with limitReported := true }) { s with preempt.nestingLimit := true }) (by simp)]
        exact (spent_changePlan (by exact fun _ => rfl) _).trans h.mark⟩
  moves {s x rest} f _ stack h := by
    unfold Machine.changeTop
    rw [stack]
    exact ⟨h.slot, h.mark⟩

/-! #### A report beside those of the nesting limit -/

/-- The kinds and subjects of the nesting limit. -/
def nestingKeys : List (FaultKind × Option Nat) := planNumbers.map (fun q => (.nestingLimit, some q))

def Entry.key (e : Entry) : FaultKind × Option Nat := (e.kind, e.subject)

/-- A fault list that holds an entry, and beside those of another list no others but of the nesting limit. -/
structure FaultList.Limited (x : FaultList) (o : Entry) (f : FaultList) : Prop where
  well : f.Well
  holds : o ∈ f.entries
  keys : ∀ e ∈ f.entries, e.key ∈ x.entries.map Entry.key ++ nestingKeys

/-- Such a list has room for one more report of the nesting limit. -/
theorem FaultList.Limited.room {x f : FaultList} {o : Entry} (h : x.Limited o f) (few : x.entries.length ≤ 24) {kind : FaultKind} {subject : Option Nat}
    (key : (kind, subject) ∈ nestingKeys) (fresh : f.entries.find? (Entry.is kind subject) = none) : f.entries.length < 32 := by
  have distinct : (f.entries.map Entry.key).Nodup := List.pairwise_map.mpr (h.well.2.1.imp fun apart same => apart (Prod.mk.injEq .. ▸ same))
  have new : (kind, subject) ∉ f.entries.map Entry.key := fun member => by
    obtain ⟨e, here, is⟩ := List.mem_map.mp member
    obtain ⟨rfl, rfl⟩ := Prod.mk.inj is
    have no := find_entry_none.mp fresh e here
    rw [entry_is_iff.mpr ⟨rfl, rfl⟩] at no
    cases no
  have sub : ∀ k ∈ (kind, subject) :: f.entries.map Entry.key, k ∈ x.entries.map Entry.key ++ nestingKeys := fun k member => by
    rcases List.mem_cons.mp member with rfl | old
    · exact List.mem_append_right _ key
    · obtain ⟨e, here, rfl⟩ := List.mem_map.mp old
      exact h.keys e here
  have length := (List.subperm_of_subset (List.nodup_cons.mpr ⟨new, distinct⟩) sub).length_le
  simp only [List.length_cons, List.length_map, List.length_append, nestingKeys, planNumbers, numbers, List.length_range] at length
  have eight : Config.plans = 8 := rfl
  omega

theorem FaultList.Limited.recordRaise {x : FaultList} {o : Entry} {r : Raise} (h : x.Limited o s.faults) (few : x.entries.length ≤ 24)
    (key : (r.kind, r.subject) ∈ nestingKeys) (other : o.is r.kind r.subject = false) : x.Limited o (recordRaise r s).faults := by
  refine ⟨(recorded_recordRaise (K := fun _ _ => True) trivial s).well h.well, ?_, fun e member => ?_⟩
  · cases found : s.faults.entries.find? (Entry.is r.kind r.subject) with
    | some e =>
      have entries : (Machine.recordRaise r s).faults.entries = againAll r s.clock.now s.faults.entries := by rw [recordRaise_again found]; split <;> rfl
      rw [entries]
      exact List.mem_map.mpr ⟨o, h.holds, by simp [other]⟩
    | none => exact recordRaise_other (h.room few key found) h.holds other
  · rcases recordRaise_subset member with is | old
    · obtain ⟨kind, subject⟩ := entry_is_iff.mp is
      exact List.mem_append_right _ (by rw [Entry.key, kind, subject]; exact key)
    · exact h.keys e old

theorem limited_invariant {x : FaultList} {o : Entry} (few : x.entries.length ≤ 24) (other : o.kind ≠ .nestingLimit) :
    UnitInvariant fun s => x.Limited o s.faults where
  blind h _ faults _ := by rw [faults]; exact h
  unstacks {s y rest} o' _ h := by
    rw [show (unstack y.plan o' s).faults = s.faults by simp]
    exact h
  takes _ h := h
  limits {s q} first last h := by
    unfold Machine.reportLimit
    dsimp only
    split
    · exact h
    · refine FaultList.Limited.recordRaise (r := { kind := .nestingLimit, subject := some q, action := .report, condition := false }) h few
        (List.mem_map.mpr ⟨q, mem_numbers.mpr ⟨first, last⟩, rfl⟩) ?_
      exact Bool.eq_false_iff.mpr fun is => other (entry_is_iff.mp is).1
  moves {s y rest} f _ stack h := by
    unfold Machine.changeTop
    rw [stack]
    exact h

end Sys2Proof.Machine

/-! ### The steps of the top plan (R97 to R99), and the event of an expiry of a plan -/

namespace Sys2Proof.Machine

open Sys2Proof.Safety

variable {s u : State} {x : Stacked} {rest : List Stacked} {f g : Nat}

/-! #### The steps -/

theorem topStep_delay_over (stack : s.preempt.stack = x :: rest) (phase : x.phase = .delay) (out : x.delay = some 0)
    (source : (s.tables.plan x.plan).level = true → (s.plan x.plan).active = true) :
    topStep s = some { s with preempt.stack := { x with phase := .entry, delay := none } :: rest } := by
  have stays : ((s.tables.plan x.plan).level && !(s.plan x.plan).active) = false := by
    cases level : (s.tables.plan x.plan).level with
    | true => simp [source level]
    | false => rfl
  unfold topStep changeTop
  rw [stack]
  simp only [phase, stays, out, if_true, Bool.false_eq_true, if_false]

theorem topStep_delay_gone (stack : s.preempt.stack = x :: rest) (phase : x.phase = .delay) (level : (s.tables.plan x.plan).level = true)
    (inactive : (s.plan x.plan).active = false) : topStep s = some (consider (unstack x.plan .abandoned s)) := by
  unfold topStep
  rw [stack]
  simp only [phase, level, inactive, Bool.not_false, Bool.and_self, if_true]

/-- A live forced-GO group that is not shown GO keeps the plan in ENTRY (R98). -/
theorem forcedGoShown_false {r : PlanRec} (live : s.tables.live f = true) (forced : member r.forcedGo f = true) (shown : s.shown f ≠ .go) :
    s.forcedGoShown r = false := by
  have number : f ∈ s.tables.liveGroups := by simpa [TableSet.liveGroups, ← live_iff] using live
  unfold State.forcedGoShown
  rw [List.all_eq_false]
  exact ⟨f, number, by simp [forced, shown]⟩

theorem topStep_entry_waits (stack : s.preempt.stack = x :: rest) (phase : x.phase = .entry) (waits : s.forcedGoShown (s.tables.plan x.plan) = false) :
    topStep s = none := by
  unfold topStep
  rw [stack]
  simp only [phase, waits, Bool.false_eq_true, if_false]

/-- The decision at the end of DWELL (R99). -/
theorem topStep_dwell_over (stack : s.preempt.stack = x :: rest) (phase : x.phase = .dwell) (out : x.dwell = some 0) :
    ((s.tables.plan x.plan).level = true → (s.plan x.plan).active = true →
        topStep s = some { s with preempt.stack := { x with phase := .hold, dwell := none } :: rest })
      ∧ ((s.tables.plan x.plan).level = false ∨ (s.plan x.plan).active = false → topStep s = some (consider (unstack x.plan .ended s))) := by
  refine ⟨fun level active => ?_, fun gone => ?_⟩
  · unfold topStep changeTop
    rw [stack]
    simp only [phase, out, level, active, if_true, Bool.not_true, Bool.and_false, Bool.not_false, Bool.and_self]
  · have ends : ((s.tables.plan x.plan).level && !((s.tables.plan x.plan).level && !(s.plan x.plan).active)) = false := by
      rcases gone with h | h
      · rw [h]; rfl
      · rw [h]; cases (s.tables.plan x.plan).level <;> rfl
    unfold topStep
    rw [stack]
    simp only [phase, out, ends, if_true, Bool.false_eq_true, if_false]

theorem topStep_hold_stays (stack : s.preempt.stack = x :: rest) (phase : x.phase = .hold) (active : (s.plan x.plan).active = true) : topStep s = none := by
  unfold topStep
  rw [stack]
  simp only [phase, active, Bool.not_true, Bool.and_false, Bool.false_eq_true, if_false]

theorem topStep_empty (stack : s.preempt.stack = []) : topStep s = none := by
  unfold topStep
  rw [stack]

theorem advance_once {n : Nat} {t : State} (step : topStep s = some t) (rests : topStep t = none) : advance (n + 1) s = t := by
  rw [advance, step]
  exact advance_stays rests n

/-! #### The settling of an event while a plan waits in ENTRY -/

/-- A group that must last in STOP is shown STOP at the end of the event. -/
theorem evaluated_stopped (service : inService u f = true) (shown : u.shown f = .stop) (fresh : (u.group f).time < (u.tables.group f).minStopUnits)
    (passes : Nat) : (evaluateConcerned passes (rebuild u)).shown f = .stop := by
  have lasting : u.Lasting fun k y => k = f → y.shown = .stop ∧ y.time < (u.tables.group f).minStopUnits := ⟨fun v k beside _ lasts same => by
    subst same
    obtain ⟨shown, fresh⟩ := lasts rfl
    obtain ⟨note, is⟩ := judge_stop_fresh (s := v) shown (by rw [beside.tables]; exact fresh)
    rw [is]
    exact ⟨shown, fresh⟩⟩
  have begun : Holding u (fun k y => k = f → y.shown = .stop ∧ y.time < (u.tables.group f).minStopUnits) (rebuild u) :=
    holding_rebuild fun k _ same => by subst same; exact ⟨shown, fresh⟩
  exact ((begun.evaluateConcerned lasting passes).held f service rfl).1

/-- A plan whose forced-GO group must last in STOP waits in ENTRY (R98). -/
theorem settle_waits (stack : u.preempt.stack = x :: rest) (service : inService u f = true) (forced : member (u.tables.plan x.plan).forcedGo f = true)
    (shown : u.shown f = .stop) (fresh : (u.group f).time < (u.tables.group f).minStopUnits) (rounds : Nat) :
    settle rounds u = evaluateConcerned passLimit (rebuild u) := by
  have stopped := evaluated_stopped service shown fresh passLimit
  have frame : (evaluateConcerned passLimit (rebuild u)).preempt = u.preempt ∧ (evaluateConcerned passLimit (rebuild u)).store = u.store := by simp
  have tables : (evaluateConcerned passLimit (rebuild u)).tables = u.tables := tables_congr (congrArg Store.active frame.2)
  have waits : (evaluateConcerned passLimit (rebuild u)).forcedGoShown ((evaluateConcerned passLimit (rebuild u)).tables.plan x.plan) = false :=
    forcedGoShown_false (f := f) (by rw [tables]; exact (inService_iff.mp service).2) (by rw [tables]; exact forced) (by rw [stopped]; exact nofun)
  cases rounds with
  | zero => rfl
  | succ n =>
    unfold settle
    dsimp only
    rw [if_neg]
    unfold State.entryMet
    rw [frame.1, stack]
    simp only [waits, Bool.and_false, Bool.false_and, Bool.false_eq_true, not_false_eq_true]

/-- The targets that an overlay in force gives (R7, R103). -/
theorem effective_overlaid (admits : s.control.mode.admits = true) (stack : s.preempt.stack = x :: rest) (phase : x.phase ≠ .delay) :
    (member (s.tables.plan x.plan).forcedStop g = true → (s.effective g).1 = .stop)
      ∧ (member (s.tables.plan x.plan).forcedStop g = false → member (s.tables.plan x.plan).forcedGo g = true → (s.effective g).1 = .go) := by
  have laid : s.overlay = some (s.tables.plan x.plan) := by
    unfold State.overlay
    rw [if_pos admits, stack]
    exact if_neg phase
  unfold State.effective
  rw [if_pos admits, laid]
  unfold overlaid
  exact ⟨fun stop => by simp [stop], fun free go => by simp [free, go]⟩

/-! #### The event -/

/-- What the event of an expiry of a plan leaves, after an effect that ends in a state `u`. -/
structure PlanEnd (s u t : State) : Prop where
  frame : calmFrame s t
  preempt : t.preempt = (settle roundLimit u).preempt
  groups : t.engine.groups = (settle roundLimit u).engine.groups
  keeps : (settle roundLimit u).faults.Keeps (· ≠ .redFail) t.faults

theorem plan_event {effect : State → State} (running : runningCalm s = true) (own : UnitOnly (openEvent s) (effect (openEvent s))) :
    ∃ t, eventOutcome effect s = .next t ∧ PlanEnd s (effect (openEvent s)) t := by
  obtain ⟨up, mode, calm⟩ := runningCalm_iff.mp running
  have dark : noLampOut (effect (openEvent s)) = true := (noLampOut_of_channels (congrArg Prover.channels own.prover)).trans calm
  have open' : (effect (openEvent s)).control.mode ≠ .closing := by rw [own.control]; show s.control.mode ≠ _; rw [mode]; exact nofun
  have frame : calmFrame s (asEvent effect id s) := by
    obtain ⟨pending, clock, event, exchange, control, store⟩ := asEvent_calm (effect := effect) id_onlyLink dark open'
    exact ⟨pending.trans own.pending, clock.trans own.clock, event, exchange.trans own.exchange, control.trans own.control, store.trans own.store⟩
  have shut : closeIfDone (settle roundLimit (effect (openEvent s))) = settle roundLimit (effect (openEvent s)) :=
    if_neg fun done => open' (by simpa using done.1)
  have ends := finish_calm (u := settle roundLimit (effect (openEvent s))) ((noLampOut_of_channels (by simp)).trans dark)
  rw [← show conclude (effect (openEvent s)) = finish (settle roundLimit (effect (openEvent s))) by rw [conclude_eq, shut]] at ends
  have faults := asEvent_faults (effect := effect) id_onlyLink s
  have groups := congrArg State.engine (id_onlyLink (conclude (effect (openEvent s))))
  exact ⟨asEvent effect id s, eventOutcome_up up, frame, (asEvent_preempt id_onlyLink s).trans ends.preempt,
    (congrArg Engine.groups groups :).trans ends.groups, by rw [faults]; exact ends.keeps⟩

theorem PlanEnd.settled {t : State} (h : PlanEnd s u t) (once : settle roundLimit u = evaluateConcerned passLimit (rebuild u)) : t.preempt = u.preempt := by
  rw [h.preempt, once]
  simp

/-- The targets at the end of an event in which a plan waits in ENTRY or goes on. -/
theorem PlanEnd.target {t : State} (h : PlanEnd s u t) (once : settle roundLimit u = evaluateConcerned passLimit (rebuild u)) (service : inService u g = true) :
    (t.group g).target = (u.effective g).1 := by
  have aimed := aimed_settle roundLimit u
  have same : SameAim u (settle roundLimit u) := by
    rw [once]
    have both : Beside u (evaluateConcerned passLimit (rebuild u)) :=
      evaluateConcerned_keeps (good := Beside u) (fun v hv => ⟨hv.aim.trans ⟨rfl, rfl, rfl, rfl, rfl⟩, hv.prover⟩)
        (fun k v hv => hv.trans (beside_evaluate k v)) passLimit (beside_rebuild u)
    exact both.aim
  rw [group_congr h.groups, (aimed g (by rwa [same.inService])).1, same.effective]

end Sys2Proof.Machine

namespace Sys2Proof.Machine

open Sys2Proof.Safety

/-! #### What stands when a plan has left the top of the stack (R101) -/

variable {s u t : State} {x y : Stacked} {rest more : List Stacked} {p : Nat} {outcome : PlanOutcome}

/-- The plan at the top has left the stack, with an outcome, and all else of the unit stands. -/
structure Left (p : Nat) (outcome : PlanOutcome) (rest : List Stacked) (s u : State) : Prop where
  stack : u.preempt.stack = rest
  others : ∀ q, q ≠ p → u.plan q = s.plan q
  gone : Gone p outcome u
  length : u.preempt.plans.length = s.preempt.plans.length
  inhibit : u.preempt.inhibit = s.preempt.inhibit
  slot : u.preempt.slot = s.preempt.slot
  store : u.store = s.store
  control : u.control = s.control
  engine : u.engine = s.engine

theorem length_refreshRequest (q : Nat) (s : State) : (refreshRequest q s).preempt.plans.length = s.preempt.plans.length := by
  unfold refreshRequest
  dsimp only
  split
  · exact length_changePlan _ _ _
  · rfl

theorem left_unstack (stack : s.preempt.stack = x :: rest) (apart : ∀ y ∈ rest, y.plan ≠ x.plan) (first : 1 ≤ x.plan)
    (last : x.plan ≤ s.preempt.plans.length) (idle : (s.plan x.plan).pending = false)
    (quiet : (s.tables.plan x.plan).level = true → ((s.plan x.plan).active && !(s.plan x.plan).spent) = false)
    (slot : s.preempt.slot.all (fun slot => decide (slot.plan ≠ x.plan)) = true) (outcome : PlanOutcome) :
    Left x.plan outcome rest s (unstack x.plan outcome s) := by
  have held : s.preempt.slot.any (fun slot => decide (slot.plan = x.plan)) = false := by
    cases is : s.preempt.slot with
    | none => rfl
    | some slot' => simpa [is] using slot
  have is : unstack x.plan outcome s = refreshRequest x.plan (changePlan x.plan (fun z => { z with outcome := outcome })
      { s with preempt.stack := s.preempt.stack.filter (fun z => decide (z.plan ≠ x.plan)) }) := by
    unfold unstack
    dsimp only
    rw [if_neg]
    exact Bool.eq_false_iff.mp held
  refine ⟨by rw [unstack_stack, stack, filter_out rfl apart], fun q other => ?_, gone_unstack first last idle quiet outcome, ?_, inhibit_unstack _ _ _, ?_,
    by simp, by simp, by simp⟩
  · rw [is, refreshRequest_plan_other other]
    exact entryD_changeEntry_other other _ _
  · rw [is, length_refreshRequest, length_changePlan]
  · rw [is, (refreshRequest_unit _ _).1]
    rfl

/-- The unit takes no plan over those left, where none PENDING may be taken. -/
theorem Left.untaken (h : Left p outcome rest s u)
    (none' : ∀ q, (s.plan q).pending = true → mayTake { s with preempt.stack := rest } s.preempt.inhibit q = false) : consider u = u := by
  refine consider_nothing fun q pending => ?_
  by_cases same : q = p
  · rw [same, h.gone.record.2.1] at pending
    cases pending
  · rw [h.others q same] at pending
    rw [h.inhibit, mayTake_congr (s := { s with preempt.stack := rest }) (by rw [h.store]) h.stack]
    exact none' q pending

/-- The plan with the smallest number among those PENDING that may be taken over those left is taken, and stays in DELAY. -/
theorem Left.taken (h : Left p outcome rest s u) {q : Nat} (admits : s.control.mode.admits = true) (room : rest.length < 4)
    (length : s.preempt.plans.length = 8) (pending : (s.plan q).pending = true)
    (may : mayTake { s with preempt.stack := rest } s.preempt.inhibit q = true)
    (least : ∀ r, r < q → (s.plan r).pending = true → mayTake { s with preempt.stack := rest } s.preempt.inhibit r = false)
    (delay : (s.tables.plan q).entryDelay ≠ 0) (source : (s.tables.plan q).level = true → (s.plan q).active = true) (other : q ≠ p) (steps : Nat) :
    advance steps (consider u) = takePlan q u := by
  have congr : ∀ r, mayTake u u.preempt.inhibit r = mayTake { s with preempt.stack := rest } s.preempt.inhibit r := fun r => by
    rw [h.inhibit, mayTake_congr (s := { s with preempt.stack := rest }) (by rw [h.store]) h.stack]
  have tables : u.tables = s.tables := tables_congr (by rw [h.store])
  obtain ⟨first, last⟩ := mayTake_range may
  have took : consider u = takePlan q u := by
    refine consider_takes (by rw [h.control]; exact admits) (by rw [h.stack]; exact room) (by rw [h.others q other]; exact pending) (by rw [congr]; exact may)
      fun r below wants => ?_
    by_cases same : r = p
    · rw [same, h.gone.record.2.1] at wants
      cases wants
    · rw [h.others r same] at wants
      rw [congr]
      exact least r below wants
  have stays : topStep (takePlan q u) = none := by
    refine topStep_delay (takePlan_stack q u) rfl (pushed_delay (by rw [tables]; exact delay)) fun level => ?_
    show ((takePlan q u).plan q).active = true
    rw [takePlan_plan_same first (by rw [h.length, length]; exact last), h.others q other]
    exact source (by rw [← tables]; exact level)
  rw [took, advance_stays stays]

/-! #### The events -/

theorem delay_event (running : runningCalm s = true) (stack : s.preempt.stack = x :: rest) (phase : x.phase = .delay) (out : x.delay = some 0) :
    ∃ t, exec .planDelayEnd s = .next t ∧ PlanEnd s (advance stepLimit (openEvent s)) t := by
  have over' : (openEvent s).delayOver = true := by
    unfold State.delayOver
    rw [show (openEvent s).preempt.stack = x :: rest from stack]
    simp [phase, out]
  obtain ⟨t, ran, ends⟩ := plan_event (effect := fun s => if s.delayOver then advance stepLimit s else s) running (by rw [if_pos over']; exact {})
  rw [if_pos over'] at ends
  exact ⟨t, ran, ends⟩

theorem dwell_event (running : runningCalm s = true) (stack : s.preempt.stack = x :: rest) (phase : x.phase = .dwell) (out : x.dwell = some 0) :
    ∃ t, exec .planDwellEnd s = .next t ∧ PlanEnd s (advance stepLimit (openEvent s)) t := by
  have over' : (openEvent s).dwellOver = true := by
    unfold State.dwellOver
    rw [show (openEvent s).preempt.stack = x :: rest from stack]
    simp [phase, out]
  obtain ⟨t, ran, ends⟩ := plan_event (effect := fun s => if s.dwellOver then advance stepLimit s else s) running (by rw [if_pos over']; exact {})
  rw [if_pos over'] at ends
  exact ⟨t, ran, ends⟩

/-- The event of the end of an EDGE plan's dwell, up to what becomes of the plans below it (R99, R101). -/
theorem dwell_left (running : runningCalm s = true) (length : s.preempt.plans.length = 8) (stack : s.preempt.stack = x :: rest) (phase : x.phase = .dwell)
    (out : x.dwell = some 0) (edge : (s.tables.plan x.plan).level = false) (first : 1 ≤ x.plan) (last : x.plan ≤ 8) (idle : (s.plan x.plan).pending = false)
    (apart : ∀ y ∈ rest, y.plan ≠ x.plan) (slot : s.preempt.slot.all (fun slot => decide (slot.plan ≠ x.plan)) = true) :
    ∃ u t, Left x.plan .ended rest (openEvent s) u ∧ exec .planDwellEnd s = .next t ∧ PlanEnd s (advance 99 (consider u)) t := by
  obtain ⟨t, ran, ends⟩ := dwell_event running stack phase out
  have step := (topStep_dwell_over (s := openEvent s) stack phase out).2 (.inl edge)
  have went : advance stepLimit (openEvent s) = advance 99 (consider (unstack x.plan .ended (openEvent s))) := by
    show advance (99 + 1) _ = _
    rw [advance, step]
  rw [went] at ends
  exact ⟨_, t, left_unstack (s := openEvent s) stack apart first (by show _ ≤ s.preempt.plans.length; omega) idle
    (fun level => absurd (edge.symm.trans level) Bool.false_ne_true) slot .ended, ran, ends⟩

/-- A plan that comes to the top and has no step to make resumes (R101). -/
theorem Left.resumes (h : Left p outcome rest (openEvent s) u) (ends : PlanEnd s (advance 99 (consider u)) t)
    (none' : ∀ q, (s.plan q).pending = true → mayTake { s with preempt.stack := rest } s.preempt.inhibit q = false)
    (rests : topStep u = none) (top : u.steadyTop) : t.preempt.stack = rest := by
  rw [h.untaken none', advance_stays rests] at ends
  rw [ends.settled (settle_steady top _), h.stack]

/-- A LEVEL plan that comes to the top with its source inactive leaves the stack too, in DELAY and in HOLD (R97, R99). -/
theorem Left.follows (h : Left p outcome (y :: []) (openEvent s) u) (ends : PlanEnd s (advance 99 (consider u)) t) {o : PlanOutcome}
    (none' : ∀ q, (s.plan q).pending = true → mayTake { s with preempt.stack := [y] } s.preempt.inhibit q = false)
    (none'' : ∀ q, (s.plan q).pending = true → mayTake { s with preempt.stack := [] } s.preempt.inhibit q = false)
    (other : y.plan ≠ p) (first : 1 ≤ y.plan) (last : y.plan ≤ s.preempt.plans.length) (idle : (s.plan y.plan).pending = false)
    (inactive : (s.plan y.plan).active = false) (slot : s.preempt.slot = none) (step : topStep u = some (consider (unstack y.plan o u))) :
    t.preempt.stack = [] ∧ (t.plan y.plan).outcome = o := by
  have plan : u.plan y.plan = s.plan y.plan := h.others y.plan other
  have left : Left y.plan o [] u (unstack y.plan o u) :=
    left_unstack h.stack nofun first (by rw [h.length]; exact last) (by rw [plan]; exact idle) (fun _ => by rw [plan, inactive]; rfl)
      (by rw [h.slot, show (openEvent s).preempt.slot = none from slot]; rfl) o
  have still : consider (unstack y.plan o u) = unstack y.plan o u := left.untaken fun q pending => by
    rw [h.inhibit, mayTake_congr (s := { s with preempt.stack := [] }) (t := { u with preempt.stack := [] }) (by show u.store.active = _; rw [h.store]; rfl) rfl]
    by_cases same : q = p
    · rw [same, h.gone.record.2.1] at pending
      cases pending
    · rw [h.others q same] at pending
      exact none'' q pending
  have went : advance 99 (consider u) = unstack y.plan o u := by
    rw [h.untaken none']
    exact advance_once (n := 98) (step.trans (by rw [still])) (topStep_empty left.stack)
  rw [went] at ends
  have same := ends.settled (settle_steady (steadyTop_of_empty left.stack) _)
  exact ⟨by rw [same]; exact left.stack, by rw [plan_congr same]; exact left.gone.record.1⟩

end Sys2Proof.Machine

namespace Sys2Proof.Machine

open Sys2Proof.Safety

/-! #### The end of the maximum duration (R100) -/

variable {s t : State} {p : Nat}

/-- The state in which a plan's maximum duration has run out, its spent mark set where its source is active. -/
def spending (p : Nat) (s : State) : State := changePlan p (fun x => { x with spent := x.spent || ((s.tables.plan p).level && x.active) }) s

theorem timeOut_eq (p : Nat) (s : State) : timeOut p s = noteOccurrence .planTimeout (some p) (unstack p .timedOut (spending p s)) := rfl

theorem spending_plan (first : 1 ≤ p) (last : p ≤ s.preempt.plans.length) :
    (spending p s).plan p = { s.plan p with spent := (s.plan p).spent || ((s.tables.plan p).level && (s.plan p).active) } :=
  entryD_changeEntry_same first last _ _

theorem gone_timeOut (first : 1 ≤ p) (last : p ≤ s.preempt.plans.length) (idle : (s.plan p).pending = false) : Gone p .timedOut (timeOut p s) := by
  have plan := spending_plan first last
  have gone : Gone p .timedOut (unstack p .timedOut (spending p s)) := by
    refine gone_unstack first (by show p ≤ (changePlan p _ s).preempt.plans.length; rw [length_changePlan]; exact last) (by rw [plan]; exact idle)
      (fun level => ?_) _
    have level : (s.tables.plan p).level = true := level
    rw [plan, level]
    cases (s.plan p).active <;> simp
  rw [timeOut_eq]
  exact gone.congr (by simp) (by simp) (by simp)

theorem spentMark_timeOut (first : 1 ≤ p) (last : p ≤ s.preempt.plans.length) (level : (s.tables.plan p).level = true) (active : (s.plan p).active = true)
    (slot : s.preempt.slot = none) : SpentMark p true (timeOut p s) := by
  have marked : SpentMark p true (spending p s) := ⟨slot, by rw [spending_plan first last, level, active]; simp⟩
  have kept := marked.unstack p .timedOut
  rw [timeOut_eq]
  exact ⟨Eq.trans (by simp) kept.slot, (congrArg PlanState.spent (plan_congr (by simp) p)).trans kept.mark⟩

/-- PLAN_TIMEOUT is reported, and stands in the list with the entries before it. -/
theorem limited_timeOut (law : s.faults.Well) (few : s.faults.entries.length < 24) (quiet : notActive s .planTimeout (some p)) :
    ∃ o : Entry, o.kind = .planTimeout ∧ o.subject = some p ∧ o.active = false ∧ o.action = .report
      ∧ (timeOut p s).faults.Limited o (timeOut p s).faults ∧ (timeOut p s).faults.entries.length ≤ 24 := by
  generalize removed : ({ unstack p .timedOut (spending p s) with
    event.worst := (unstack p .timedOut (spending p s)).event.worst.max .report } : State) = v
  have faults : v.faults = s.faults := by rw [← removed]; simp [spending, changePlan]
  have is : timeOut p s = recordRaise { kind := .planTimeout, subject := some p, action := .report, condition := false } v := by rw [← removed]; rfl
  have room : v.faults.entries.length < 32 := by rw [faults]; omega
  obtain ⟨o, member, kind, subject, -, action, -, -, active⟩ :=
    recordRaise_lists (r := { kind := .planTimeout, subject := some p, action := .report, condition := false }) room
  rw [is]
  refine ⟨o, kind, subject, active (fun e member => quiet e (by rw [← faults]; exact member)), action,
    ⟨(recorded_recordRaise (K := fun _ _ => True) trivial v).well (by rw [faults]; exact law), member,
      fun e member => List.mem_append_left _ (List.mem_map_of_mem member)⟩, ?_⟩
  have length := recordRaise_length (r := { kind := .planTimeout, subject := some p, action := .report, condition := false }) room
  rw [faults] at length
  omega

theorem duration_event (running : runningCalm s = true) (out : s.durationOver p = true) :
    ∃ t, exec (.planDurationExpiry p) s = .next t ∧ PlanEnd s (afterTimeOut ((openEvent s).topAmong [p]) (timeOut p (openEvent s))) t := by
  have over' : (openEvent s).durationOver p = true := out
  obtain ⟨t, ran, ends⟩ := plan_event (s := s)
    (effect := fun s => if s.durationOver p then afterTimeOut (s.topAmong [p]) (timeOut p s) else s) running (by rw [if_pos over']; exact {})
  rw [if_pos over'] at ends
  exact ⟨t, ran, ends⟩

/-- What the end of a plan's maximum duration leaves of it. -/
theorem PlanEnd.timedOut (ends : PlanEnd s (afterTimeOut ((openEvent s).topAmong [p]) (timeOut p (openEvent s))) t) (first : 1 ≤ p)
    (last : p ≤ s.preempt.plans.length) (idle : (s.plan p).pending = false) :
    t.stacked p = false ∧ (t.plan p).outcome = .timedOut
      ∧ (faultLaw s = true → notActive s .planTimeout (some p) → s.faults.entries.length < 24 → listed t .planTimeout (some p) false .report)
      ∧ ((s.tables.plan p).level = true → (s.plan p).active = true → s.preempt.slot = none → (t.plan p).spent = true) := by
  have gone := (gone_invariant p .timedOut).settle roundLimit ((gone_invariant p .timedOut).afterTimeOut ((openEvent s).topAmong [p])
    (gone_timeOut (s := openEvent s) first last idle))
  refine ⟨(stacked_congr (congrArg Preemption.stack ends.preempt) p).trans gone.out, by rw [plan_congr ends.preempt]; exact gone.record.1, fun law quiet few => ?_,
    fun level active slot => ?_⟩
  · obtain ⟨o, kind, subject, ended, action, limited, length⟩ := limited_timeOut (s := openEvent s) (faultLaw_iff.mp law) few quiet
    have invariant := limited_invariant (o := o) length (by rw [kind]; exact nofun)
    have holds := invariant.settle roundLimit (invariant.afterTimeOut ((openEvent s).topAmong [p]) limited)
    exact ⟨o, ends.keeps.keeps holds.well o holds.holds (by rw [kind]; exact nofun), kind, subject, ended, action⟩
  · have mark := (spentMark_invariant p true).settle roundLimit ((spentMark_invariant p true).afterTimeOut ((openEvent s).topAmong [p])
      (spentMark_timeOut (s := openEvent s) first last level active slot))
    rw [plan_congr ends.preempt]
    exact mark.mark

end Sys2Proof.Machine

namespace Sys2Proof.Machine

open Sys2Proof.Safety

variable {s t u : State} {x y : Stacked} {rest more : List Stacked} {p f g : Nat} {outcome : PlanOutcome}

/-! #### The ends of the delay and of the dwell of the top plan (R97 to R99, R103) -/

/-- A plan in ENTRY with a live forced-GO group that must last in STOP waits, and its overlay is laid (R98, R103). -/
theorem entry_waits (stack : u.preempt.stack = x :: rest) (phase : x.phase = .entry) (control : u.control = s.control) (store : u.store = s.store)
    (engine : u.engine = s.engine) (running : runningCalm s = true) (service : inService s f = true)
    (forced : member (s.tables.plan x.plan).forcedGo f = true) (shown : s.shown f = .stop) (fresh : (s.group f).time < (s.tables.group f).minStopUnits) :
    topStep u = none ∧ ∀ t, PlanEnd s u t → t.preempt.stack = x :: rest ∧ ∀ g, inService s g = true →
      (member (s.tables.plan x.plan).forcedStop g = true → (t.group g).target = .stop)
        ∧ (member (s.tables.plan x.plan).forcedStop g = false → member (s.tables.plan x.plan).forcedGo g = true → (t.group g).target = .go) := by
  have tables : u.tables = s.tables := tables_congr (by rw [store])
  have groups : u.engine.groups = s.engine.groups := congrArg Engine.groups engine
  have serviced : ∀ g, inService u g = inService s g := fun g => by unfold inService; rw [groups, tables]
  have shown' : u.shown f = .stop := by unfold State.shown; rw [group_congr groups]; exact shown
  have fresh' : (u.group f).time < (u.tables.group f).minStopUnits := by rw [group_congr groups, tables]; exact fresh
  refine ⟨topStep_entry_waits stack phase (forcedGoShown_false (f := f) (by rw [tables]; exact (inService_iff.mp service).2) (by rw [tables]; exact forced)
    (by rw [shown']; exact nofun)), fun t ends => ?_⟩
  have once := settle_waits stack (by rw [serviced]; exact service) (by rw [tables]; exact forced) shown' fresh' roundLimit
  refine ⟨by rw [ends.settled once, stack], fun g live => ?_⟩
  obtain ⟨_, mode, _⟩ := runningCalm_iff.mp running
  rw [ends.target once (by rw [serviced]; exact live), ← tables]
  exact effective_overlaid (g := g) (s := u) (by rw [control, mode]; rfl) stack (by rw [phase]; exact nofun)

theorem delay_over_entry (running : runningCalm s = true) (stack : s.preempt.stack = x :: rest) (phase : x.phase = .delay) (out : x.delay = some 0)
    (source : (s.tables.plan x.plan).level = true → (s.plan x.plan).active = true) (service : inService s f = true)
    (forced : member (s.tables.plan x.plan).forcedGo f = true) (shown : s.shown f = .stop) (fresh : (s.group f).time < (s.tables.group f).minStopUnits) :
    ∃ t, exec .planDelayEnd s = .next t ∧ calmFrame s t ∧ t.preempt.stack = { x with phase := .entry, delay := none } :: rest
      ∧ ∀ g, inService s g = true →
        (member (s.tables.plan x.plan).forcedStop g = true → (t.group g).target = .stop)
          ∧ (member (s.tables.plan x.plan).forcedStop g = false → member (s.tables.plan x.plan).forcedGo g = true → (t.group g).target = .go) := by
  obtain ⟨t, ran, ends⟩ := delay_event running stack phase out
  have step := topStep_delay_over (s := openEvent s) stack phase out source
  obtain ⟨waits, after⟩ := entry_waits (s := s) (u := { openEvent s with preempt.stack := { x with phase := .entry, delay := none } :: rest }) (x := { x with phase := .entry, delay := none })
    rfl rfl rfl rfl rfl running service forced shown fresh
  have went := advance_once (n := 99) step waits
  rw [show advance stepLimit (openEvent s) = _ from went] at ends
  exact ⟨t, ran, ends.frame, after t ends⟩

theorem dwell_over_hold (running : runningCalm s = true) (stack : s.preempt.stack = x :: rest) (phase : x.phase = .dwell) (out : x.dwell = some 0)
    (level : (s.tables.plan x.plan).level = true) (active : (s.plan x.plan).active = true) :
    ∃ t, exec .planDwellEnd s = .next t ∧ calmFrame s t ∧ t.preempt.stack = { x with phase := .hold, dwell := none } :: rest := by
  obtain ⟨t, ran, ends⟩ := dwell_event running stack phase out
  have step := (topStep_dwell_over (s := openEvent s) stack phase out).1 level active
  generalize entered : ({ openEvent s with preempt.stack := { x with phase := .hold, dwell := none } :: rest } : State) = u at step
  have held : u.preempt.stack = { x with phase := .hold, dwell := none } :: rest := by rw [← entered]
  have stays : topStep u = none := topStep_hold_stays held rfl (by rw [← entered]; exact active)
  have went : advance stepLimit (openEvent s) = u := advance_once (n := 99) step stays
  rw [went] at ends
  exact ⟨t, ran, ends.frame, by rw [ends.settled (settle_steady (steadyTop_of_cons held nofun) _), held]⟩

theorem dwell_over_ends (running : runningCalm s = true) (length : s.preempt.plans.length = 8) (stack : s.preempt.stack = x :: rest)
    (phase : x.phase = .dwell) (out : x.dwell = some 0) (gone : (s.tables.plan x.plan).level = false ∨ (s.plan x.plan).active = false)
    (first : 1 ≤ x.plan) (last : x.plan ≤ 8) (idle : (s.plan x.plan).pending = false) :
    ∃ t, exec .planDwellEnd s = .next t ∧ calmFrame s t ∧ t.stacked x.plan = false ∧ (t.plan x.plan).outcome = .ended := by
  obtain ⟨t, ran, ends⟩ := dwell_event running stack phase out
  have step := (topStep_dwell_over (s := openEvent s) stack phase out).2 gone
  have left : Gone x.plan .ended (unstack x.plan .ended (openEvent s)) := by
    refine gone_unstack (s := openEvent s) first (by show _ ≤ s.preempt.plans.length; omega) idle (fun level => ?_) _
    rcases gone with edge | inactive
    · exact absurd (edge.symm.trans level) Bool.false_ne_true
    · show ((s.plan x.plan).active && !(s.plan x.plan).spent) = false
      rw [inactive]; rfl
  have went : advance stepLimit (openEvent s) = advance 99 (consider (unstack x.plan .ended (openEvent s))) := by
    show advance (99 + 1) _ = _
    rw [advance, step]
  rw [went] at ends
  have invariant := gone_invariant x.plan .ended
  have holds := invariant.settle roundLimit (invariant.advance 99 (invariant.consider left))
  exact ⟨t, ran, ends.frame, (stacked_congr (congrArg Preemption.stack ends.preempt) x.plan).trans holds.out, by
    rw [plan_congr ends.preempt]; exact holds.record.1⟩

/-! #### What follows the end of the top plan (R101) -/

theorem Left.takes (h : Left p outcome rest (openEvent s) u) (ends : PlanEnd s (advance 99 (consider u)) t) {q : Nat}
    (running : runningCalm s = true) (room : rest.length < 4) (length : s.preempt.plans.length = 8) (pending : (s.plan q).pending = true)
    (may : mayTake { s with preempt.stack := rest } s.preempt.inhibit q = true)
    (least : ∀ r, r < q → (s.plan r).pending = true → mayTake { s with preempt.stack := rest } s.preempt.inhibit r = false)
    (delay : (s.tables.plan q).entryDelay ≠ 0) (source : (s.tables.plan q).level = true → (s.plan q).active = true) (other : q ≠ p) :
    t.preempt.stack = pushed s q :: rest ∧ (t.plan q).pending = false := by
  obtain ⟨_, mode, _⟩ := runningCalm_iff.mp running
  have taken := h.taken (q := q) (by show s.control.mode.admits = true; rw [mode]; rfl) room length pending may least delay source other 99
  have held : (takePlan q u).preempt.stack = pushed s q :: rest := by
    rw [takePlan_stack, h.stack, pushed_congr (s := s) (congrArg Store.active h.store)]
  rw [taken] at ends
  have same := ends.settled (settle_steady (steadyTop_of_cons held nofun) _)
  obtain ⟨first, last⟩ := mayTake_range may
  refine ⟨by rw [same, held], ?_⟩
  rw [plan_congr same, takePlan_plan_same first (by rw [h.length]; show q ≤ s.preempt.plans.length; omega)]

/-- A plan in ENTRY that comes to the top waits on (R98, R101). -/
theorem Left.waits (h : Left p outcome (y :: more) (openEvent s) u) (ends : PlanEnd s (advance 99 (consider u)) t) (running : runningCalm s = true)
    (none' : ∀ q, (s.plan q).pending = true → mayTake { s with preempt.stack := y :: more } s.preempt.inhibit q = false)
    (phase : y.phase = .entry) (service : inService s f = true) (forced : member (s.tables.plan y.plan).forcedGo f = true)
    (shown : s.shown f = .stop) (fresh : (s.group f).time < (s.tables.group f).minStopUnits) :
    t.preempt.stack = y :: more
      ∧ ∀ g, inService s g = true → member (s.tables.plan y.plan).forcedStop g = true → (t.group g).target = .stop := by
  obtain ⟨waits, after⟩ := entry_waits (s := s) h.stack phase h.control h.store h.engine running service forced shown fresh
  rw [h.untaken none', advance_stays waits] at ends
  obtain ⟨stack, targets⟩ := after t ends
  exact ⟨stack, fun g live => (targets g live).1⟩

end Sys2Proof.Machine

namespace Sys2Proof.Machine

open Sys2Proof.Safety

variable {s : State} {x y : Stacked} {rest more : List Stacked}

/-- What becomes of the plan below an EDGE plan whose dwell has run out, where none is taken (R101). -/
theorem dwell_end_resumes (running : runningCalm s = true) (length : s.preempt.plans.length = 8) (stack : s.preempt.stack = x :: y :: more)
    (phase : x.phase = .dwell) (out : x.dwell = some 0) (edge : (s.tables.plan x.plan).level = false) (first : 1 ≤ x.plan) (last : x.plan ≤ 8)
    (idle : (s.plan x.plan).pending = false) (apart : ∀ z ∈ y :: more, z.plan ≠ x.plan) (yFirst : 1 ≤ y.plan) (yLast : y.plan ≤ 8)
    (yIdle : (s.plan y.plan).pending = false) (slot : s.preempt.slot = none)
    (none' : ∀ q, (s.plan q).pending = true → mayTake { s with preempt.stack := y :: more } s.preempt.inhibit q = false) :
    (∀ n, y.phase = .delay → y.delay = some (n + 1) → ((s.tables.plan y.plan).level = true → (s.plan y.plan).active = true) →
        ∃ t, exec .planDwellEnd s = .next t ∧ calmFrame s t ∧ t.preempt.stack = y :: more)
      ∧ (y.phase = .delay → (s.tables.plan y.plan).level = true → (s.plan y.plan).active = false → more = [] →
        (∀ q, (s.plan q).pending = true → mayTake { s with preempt.stack := [] } s.preempt.inhibit q = false) →
        ∃ t, exec .planDwellEnd s = .next t ∧ calmFrame s t ∧ t.preempt.stack = [] ∧ (t.plan y.plan).outcome = .abandoned)
      ∧ (∀ f, y.phase = .entry → inService s f = true → member (s.tables.plan y.plan).forcedGo f = true →
        s.shown f = .stop → (s.group f).time < (s.tables.group f).minStopUnits →
        ∃ t, exec .planDwellEnd s = .next t ∧ calmFrame s t ∧ t.preempt.stack = y :: more
          ∧ ∀ g, inService s g = true → member (s.tables.plan y.plan).forcedStop g = true → (t.group g).target = .stop)
      ∧ (∀ n, y.phase = .dwell → y.dwell = some (n + 1) →
        ∃ t, exec .planDwellEnd s = .next t ∧ calmFrame s t ∧ t.preempt.stack = y :: more)
      ∧ (y.phase = .hold → (s.plan y.plan).active = true →
        ∃ t, exec .planDwellEnd s = .next t ∧ calmFrame s t ∧ t.preempt.stack = y :: more)
      ∧ (y.phase = .hold → (s.tables.plan y.plan).level = true → (s.plan y.plan).active = false → more = [] →
        (∀ q, (s.plan q).pending = true → mayTake { s with preempt.stack := [] } s.preempt.inhibit q = false) →
        ∃ t, exec .planDwellEnd s = .next t ∧ calmFrame s t ∧ t.preempt.stack = [] ∧ (t.plan y.plan).outcome = .ended) := by
  obtain ⟨u, t, left, ran, ends⟩ := dwell_left running length stack phase out edge first last idle apart (by rw [slot]; rfl)
  have other : y.plan ≠ x.plan := apart y (List.mem_cons_self ..)
  have plan : u.plan y.plan = s.plan y.plan := left.others y.plan other
  have tables : u.tables = s.tables := tables_congr (by rw [left.store]; rfl)
  have resumes : topStep u = none → y.phase ≠ .entry → t.preempt.stack = y :: more := fun rests steady =>
    left.resumes ends none' rests (steadyTop_of_cons left.stack steady)
  refine ⟨fun n phase runs source => ⟨t, ran, ends.frame, resumes (topStep_delay left.stack phase (by rw [runs]; simp) (by rw [plan, tables]; exact source))
      (by rw [phase]; exact nofun)⟩,
    fun phase level inactive alone nothing => ?_,
    fun f phase service forced shown fresh => ⟨t, ran, ends.frame, left.waits ends running none' phase service forced shown fresh⟩,
    fun n phase runs => ⟨t, ran, ends.frame, resumes (topStep_dwelling left.stack phase runs) (by rw [phase]; exact nofun)⟩,
    fun phase active => ⟨t, ran, ends.frame, resumes (topStep_hold_stays left.stack phase (by rw [plan]; exact active)) (by rw [phase]; exact nofun)⟩,
    fun phase level inactive alone nothing => ?_⟩
  · subst alone
    exact ⟨t, ran, ends.frame, left.follows ends none' nothing other yFirst (by omega) yIdle inactive slot
      (topStep_delay_gone left.stack phase (by rw [tables]; exact level) (by rw [plan]; exact inactive))⟩
  · subst alone
    exact ⟨t, ran, ends.frame, left.follows ends none' nothing other yFirst (by omega) yIdle inactive slot
      (topStep_hold_gone left.stack phase (by rw [tables]; exact level) (by rw [plan]; exact inactive))⟩

end Sys2Proof.Machine

namespace Sys2Proof.Proofs

open Sys2Proof Sys2Proof.Machine Sys2Proof.Safety

/-- Settles O54: an expiry runs the steps of the top plan (R97 to R99), each equation of which `topStep` has a lemma for; a plan that leaves stays off the
stack through the rest of the event (`gone_invariant`), and what comes to the top then is taken, waits, resumes or follows. -/
theorem planExpiries : Obligations.PlanExpiries := by
  unfold Obligations.PlanExpiries
  intro s running length
  refine ⟨fun x rest f stack phase out source service forced shown fresh => delay_over_entry running stack phase out source service forced shown fresh,
    fun x rest stack phase out => ⟨dwell_over_hold running stack phase out, dwell_over_ends running length stack phase out⟩,
    fun p out first last idle => ?_, fun x rest stack phase out edge first last idle apart => ⟨fun q pending may least delay room source slot => ?_, ?_⟩⟩
  · obtain ⟨t, ran, ends⟩ := duration_event running out
    exact ⟨t, ran, ends.frame, ends.timedOut first (by omega) idle⟩
  · obtain ⟨u, t, left, ran, ends⟩ := dwell_left running length stack phase out edge first last idle apart slot
    have other : q ≠ x.plan := fun same => by
      rw [same, idle] at pending
      cases pending
    exact ⟨t, ran, ends.frame, left.takes ends running room length pending may least delay source other⟩
  · rintro y more rfl yFirst yLast yIdle slot - none'
    exact dwell_end_resumes running length stack phase out edge first last idle apart yFirst yLast yIdle slot none'

end Sys2Proof.Proofs

/-! ### The judging of a reading (R129, R130) -/

namespace Sys2Proof.Machine

open Sys2Proof.Safety

variable {r : ChannelRec} {current : Half} {now start : Time} {x : Proving}

/-! #### A channel proved ON -/

theorem judgeOn_keeps (r : ChannelRec) (current : Half) (now : Time) (x : Proving) :
    (judgeOn r current now x).1.last = some (current, now) ∧ (judgeOn r current now x).1.foreign = x.foreign
      ∧ (judgeOn r current now x).1.foreignRun = x.foreignRun ∧ (judgeOn r current now x).1.foreignReleased = x.foreignReleased
      ∧ (judgeOn r current now x).1.proved = x.proved := by
  unfold judgeOn
  dsimp only
  repeat' split
  all_goals exact ⟨rfl, rfl, rfl, rfl, rfl⟩

theorem judgeOn_dark (sound : x.lampOut = false) (low : current.toNat < r.onThreshold.toNat) :
    judgeOn r current now x = x.outRun.elim ({ x with last := some (current, now), outRun := some now }, .nothing) fun start =>
      if r.lampOutMs ≤ (now - start).toNat then
        ({ x with last := some (current, now), lampOut := true, lampOutReleased := false, outRun := none }, .qualified)
      else ({ x with last := some (current, now) }, .nothing) := by
  unfold judgeOn
  dsimp only
  rw [sound, if_neg Bool.false_ne_true, if_pos low]
  cases x.outRun <;> rfl

theorem judgeOn_lit (sound : x.lampOut = false) (lit : r.onThreshold.toNat ≤ current.toNat) :
    judgeOn r current now x = ({ x with last := some (current, now), outRun := none }, .nothing) := by
  unfold judgeOn
  dsimp only
  rw [sound, if_neg Bool.false_ne_true, if_neg (by omega)]

theorem judgeOn_out (out : x.lampOut = true) :
    judgeOn r current now x = if r.onThreshold.toNat + r.hysteresis.toNat ≤ current.toNat then
        if r.latched then ({ x with last := some (current, now), lampOutReleased := true }, .nothing)
        else ({ x with last := some (current, now), lampOut := false }, .ended)
      else ({ x with last := some (current, now) }, .nothing) := by
  unfold judgeOn
  dsimp only
  rw [out, if_pos rfl]

theorem latched_iff : r.latched = true ↔ r.latch = 1 := decide_eq_true_iff

/-- How a run toward LAMP_OUT goes on while the reading lies below the on threshold (R129). -/
theorem judgeOn_run (sound : x.lampOut = false) (low : current.toNat < r.onThreshold.toNat) :
    (x.outRun = none → (judgeOn r current now x).1.outRun = some now ∧ (judgeOn r current now x).1.lampOut = false ∧ (judgeOn r current now x).2 = .nothing)
      ∧ (∀ start, x.outRun = some start → (now - start).toNat < r.lampOutQualifier.toNat * 100 →
        (judgeOn r current now x).1.outRun = some start ∧ (judgeOn r current now x).1.lampOut = false ∧ (judgeOn r current now x).2 = .nothing)
      ∧ (∀ start, x.outRun = some start → r.lampOutQualifier.toNat * 100 ≤ (now - start).toNat →
        (judgeOn r current now x).1.outRun = none ∧ (judgeOn r current now x).1.lampOut = true
          ∧ (judgeOn r current now x).1.lampOutReleased = false ∧ (judgeOn r current now x).2 = .qualified) := by
  have is := judgeOn_dark (now := now) sound low
  refine ⟨fun none' => ?_, fun start run short => ?_, fun start run long => ?_⟩
  · rw [none'] at is
    rw [is]
    exact ⟨rfl, sound, rfl⟩
  · rw [run, Option.elim_some, if_neg (show ¬ r.lampOutMs ≤ _ from not_le.mpr short)] at is
    rw [is]
    exact ⟨rfl, sound, rfl⟩
  · rw [run, Option.elim_some, if_pos (show r.lampOutMs ≤ _ from long)] at is
    rw [is]
    exact ⟨rfl, rfl, rfl, rfl⟩

/-- What a reading of the released lamp does to an active LAMP_OUT (R129). -/
theorem judgeOn_release (out : x.lampOut = true) (lit : r.onThreshold.toNat + r.hysteresis.toNat ≤ current.toNat) :
    (r.latch ≠ 1 → (judgeOn r current now x).1.lampOut = false ∧ (judgeOn r current now x).2 = .ended)
      ∧ (r.latch = 1 → (judgeOn r current now x).1.lampOut = true ∧ (judgeOn r current now x).1.lampOutReleased = true
        ∧ (judgeOn r current now x).2 = .nothing) := by
  have is := judgeOn_out (r := r) (current := current) (now := now) out
  rw [if_pos lit] at is
  refine ⟨fun free => ?_, fun held => ?_⟩
  · rw [is, if_neg (fun held => free (latched_iff.mp held))]
    exact ⟨rfl, rfl⟩
  · rw [is, if_pos (latched_iff.mpr held)]
    exact ⟨out, rfl, rfl⟩

/-! #### A channel proved OFF -/

theorem judgeOff_keeps (r : ChannelRec) (current : Half) (now : Time) (x : Proving) :
    (judgeOff r current now x).1.last = some (current, now) ∧ (judgeOff r current now x).1.lampOut = x.lampOut
      ∧ (judgeOff r current now x).1.outRun = x.outRun ∧ (judgeOff r current now x).1.lampOutReleased = x.lampOutReleased
      ∧ (judgeOff r current now x).1.proved = x.proved := by
  unfold judgeOff
  dsimp only
  repeat' split
  all_goals exact ⟨rfl, rfl, rfl, rfl, rfl⟩

theorem judgeOff_lit (sound : x.foreign = false) (high : r.offThreshold.toNat ≤ current.toNat) :
    judgeOff r current now x = x.foreignRun.elim ({ x with last := some (current, now), foreignRun := some now }, .nothing) fun start =>
      if r.foreignMs ≤ (now - start).toNat then
        ({ x with last := some (current, now), foreign := true, foreignReleased := false, foreignRun := none }, .qualified)
      else ({ x with last := some (current, now) }, .nothing) := by
  unfold judgeOff
  dsimp only
  rw [sound, if_neg Bool.false_ne_true, if_pos high]
  cases x.foreignRun <;> rfl

theorem judgeOff_dark (sound : x.foreign = false) (low : current.toNat < r.offThreshold.toNat) :
    judgeOff r current now x = ({ x with last := some (current, now), foreignRun := none }, .nothing) := by
  unfold judgeOff
  dsimp only
  rw [sound, if_neg Bool.false_ne_true, if_neg (by omega)]

theorem judgeOff_foreign (foreign : x.foreign = true) :
    judgeOff r current now x = if r.releasesForeign current then
        if r.latched then ({ x with last := some (current, now), foreignReleased := true }, .nothing)
        else ({ x with last := some (current, now), foreign := false }, .ended)
      else ({ x with last := some (current, now) }, .nothing) := by
  unfold judgeOff
  dsimp only
  rw [foreign, if_pos rfl]

theorem releasesForeign_iff :
    r.releasesForeign current = true
      ↔ current.toNat + r.hysteresis.toNat < r.offThreshold.toNat ∨ (r.offThreshold.toNat ≤ r.hysteresis.toNat ∧ current = 0) := by
  unfold ChannelRec.releasesForeign
  split
  · next low => exact decide_eq_true_iff.trans ⟨fun zero => .inr ⟨low, zero⟩, fun either => either.elim (fun below => by omega) And.right⟩
  · next high => exact decide_eq_true_iff.trans ⟨fun below => .inl (by omega), fun either => either.elim (fun below => by omega) fun other => absurd other.1 high⟩

/-- How a run toward FOREIGN_CURRENT goes on while the reading reaches the off threshold (R130). -/
theorem judgeOff_run (sound : x.foreign = false) (high : r.offThreshold.toNat ≤ current.toNat) :
    (x.foreignRun = none →
        (judgeOff r current now x).1.foreignRun = some now ∧ (judgeOff r current now x).1.foreign = false ∧ (judgeOff r current now x).2 = .nothing)
      ∧ (∀ start, x.foreignRun = some start → (now - start).toNat < r.foreignQualifier.toNat * 10 →
        (judgeOff r current now x).1.foreignRun = some start ∧ (judgeOff r current now x).1.foreign = false ∧ (judgeOff r current now x).2 = .nothing)
      ∧ (∀ start, x.foreignRun = some start → r.foreignQualifier.toNat * 10 ≤ (now - start).toNat →
        (judgeOff r current now x).1.foreignRun = none ∧ (judgeOff r current now x).1.foreign = true
          ∧ (judgeOff r current now x).1.foreignReleased = false ∧ (judgeOff r current now x).2 = .qualified) := by
  have is := judgeOff_lit (now := now) sound high
  refine ⟨fun none' => ?_, fun start run short => ?_, fun start run long => ?_⟩
  · rw [none'] at is
    rw [is]
    exact ⟨rfl, sound, rfl⟩
  · rw [run, Option.elim_some, if_neg (show ¬ r.foreignMs ≤ _ from not_le.mpr short)] at is
    rw [is]
    exact ⟨rfl, sound, rfl⟩
  · rw [run, Option.elim_some, if_pos (show r.foreignMs ≤ _ from long)] at is
    rw [is]
    exact ⟨rfl, rfl, rfl, rfl⟩

/-- What a reading does to an active FOREIGN_CURRENT without a latch (R130). -/
theorem judgeOff_unlatched (foreign : x.foreign = true) (free : r.latch ≠ 1) :
    ((judgeOff r current now x).1.foreign = false
        ↔ current.toNat + r.hysteresis.toNat < r.offThreshold.toNat ∨ (r.offThreshold.toNat ≤ r.hysteresis.toNat ∧ current = 0))
      ∧ ((judgeOff r current now x).2 = .ended ↔ (judgeOff r current now x).1.foreign = false)
      ∧ (judgeOff r current now x).2 ≠ .qualified ∧ (judgeOff r current now x).1.foreignReleased = x.foreignReleased := by
  rw [judgeOff_foreign foreign, ← releasesForeign_iff, if_neg (fun held => free (latched_iff.mp held))]
  cases r.releasesForeign current <;> simp [foreign]

/-- What a reading does to an active FOREIGN_CURRENT with a latch (R130). -/
theorem judgeOff_latched (foreign : x.foreign = true) (held : r.latch = 1) :
    (judgeOff r current now x).1.foreign = true ∧ (judgeOff r current now x).2 = .nothing
      ∧ ((judgeOff r current now x).1.foreignReleased = true
        ↔ x.foreignReleased = true ∨ current.toNat + r.hysteresis.toNat < r.offThreshold.toNat
          ∨ (r.offThreshold.toNat ≤ r.hysteresis.toNat ∧ current = 0)) := by
  rw [judgeOff_foreign foreign, ← releasesForeign_iff, if_pos (latched_iff.mpr held)]
  cases r.releasesForeign current <;> simp [foreign]

theorem judgeOff_foreignRun (foreign : x.foreign = true) : (judgeOff r current now x).1.foreignRun = x.foreignRun := by
  rw [judgeOff_foreign foreign]
  repeat' split
  all_goals rfl

/-! #### Either -/

theorem judgeReading_eq (r : ChannelRec) (current : Half) (now : Time) (x : Proving) :
    judgeReading r current now x
      = if x.proved = some .on then judgeOn r current now x else if x.proved = some .off then judgeOff r current now x else (x, .nothing) := by
  unfold judgeReading
  cases x.proved with
  | none => rfl
  | some lamp => cases lamp <;> rfl

theorem judgeReading_proved (r : ChannelRec) (current : Half) (now : Time) (x : Proving) : (judgeReading r current now x).1.proved = x.proved := by
  rw [judgeReading_eq]
  split
  · exact (judgeOn_keeps r current now x).2.2.2.2
  · split
    · exact (judgeOff_keeps r current now x).2.2.2.2
    · rfl

end Sys2Proof.Machine

/-! ### An event that stays in RUNNING (R58, R134) -/

namespace Sys2Proof.Machine

open Sys2Proof.Safety

variable {K : FaultKind → Option Nat → Prop} {s u v t : State}

/-- What an event leaves alone while it stays in RUNNING, but for the reports about some kinds and subjects and the RED_FAIL marks that go with them. -/
structure StaysOn (K : FaultKind → Option Nat → Prop) (s u : State) : Prop where
  control : u.control = s.control
  exchange : u.exchange = s.exchange
  store : u.store = s.store
  engine : u.engine = s.engine
  preempt : u.preempt = s.preempt
  channels : u.prover.channels = s.prover.channels
  scope : u.event = { s.event with worst := u.event.worst, concerned := u.event.concerned }
  reds : ∀ g, ¬ K .redFail (some g) → u.redFail g = s.redFail g
  faults : Recorded K s.faults u.faults

theorem StaysOn.refl (K : FaultKind → Option Nat → Prop) (s : State) : StaysOn K s s :=
  ⟨rfl, rfl, rfl, rfl, rfl, rfl, rfl, fun _ _ => rfl, .refl _ _⟩

theorem StaysOn.trans (first : StaysOn K s u) (second : StaysOn K u v) : StaysOn K s v where
  control := second.control.trans first.control
  exchange := second.exchange.trans first.exchange
  store := second.store.trans first.store
  engine := second.engine.trans first.engine
  preempt := second.preempt.trans first.preempt
  channels := second.channels.trans first.channels
  scope := by
    have scope := second.scope
    rw [first.scope] at scope
    exact scope
  reds g out := (second.reds g out).trans (first.reds g out)
  faults := first.faults.trans second.faults

/-- What a part of an event leaves alone if the mode is RUNNING behind it. -/
def Onward (K : FaultKind → Option Nat → Prop) (s u : State) : Prop := u.control.mode = .running → StaysOn K s u

theorem StaysOn.onward (h : StaysOn K s u) : Onward K s u := fun _ => h

theorem Onward.trans (first : Onward K s u) (second : Onward K u v) : Onward K s v := fun running =>
  have stays := second running
  (first (by rw [← stays.control]; exact running)).trans stays

theorem Onward.eachOf {α : Type} {f : α → State → State} {l : List α} (each : ∀ x ∈ l, ∀ s, Onward K s (f x s)) (s : State) :
    Onward K s (Machine.eachOf l f s) := by
  induction l generalizing s with
  | nil => exact (StaysOn.refl K s).onward
  | cons x l ih =>
    exact (each x (List.mem_cons_self ..) s).trans (ih (fun y member => each y (List.mem_cons_of_mem _ member)) _)

/-! #### Its pieces -/

theorem staysOn_note {r : Raise} (is : K r.kind r.subject) (s : State) : StaysOn K s (note r s) :=
  ⟨by simp, by simp, by simp, by simp, by simp, by simp, by rw [note_event], fun g _ => by unfold State.redFail; simp, (reporting_note is s).faults⟩

theorem staysOn_reportEnd {kind : FaultKind} {subject : Option Nat} (is : K kind subject) (s : State) : StaysOn K s (reportEnd kind subject s) :=
  ⟨by simp, by simp, by simp, by simp, by simp, by simp, by simp, fun g _ => by unfold State.redFail; simp, recorded_reportEnd is s⟩

theorem staysOn_setRedFail {g : Nat} (is : K .redFail (some g)) (active : Bool) (s : State) : StaysOn K s (setRedFail active g s) :=
  ⟨rfl, rfl, rfl, rfl, rfl, rfl, rfl, fun k out => entryD_changeEntry_other (fun same => out (by rw [same]; exact is)) _ _, .refl _ _⟩

theorem staysOn_endRedFail {g : Nat} (is : K .redFail (some g)) (s : State) : StaysOn K s (endRedFail g s) := by
  unfold endRedFail
  split
  · exact (staysOn_setRedFail is false s).trans (staysOn_reportEnd is _)
  · exact .refl K s

/-- An action that does something takes the mode elsewhere than RUNNING (R58). -/
theorem takeAction_moves (r : Raise) (close : CloseTarget) (s : State) : takeAction r close s = s ∨ (takeAction r close s).control.mode ≠ .running := by
  unfold takeAction
  repeat' split
  all_goals simp [*, leavePermit_controls, enterClosing_control, changeFlashMode_record]

theorem onward_raise {r : Raise} (is : K r.kind r.subject) (s : State) : Onward K s (raise r s) := fun running => by
  have same : raise r s = note r s := (takeAction_moves r .flash (note r s)).resolve_right (not_not.mpr running)
  rw [same]
  exact staysOn_note is s

theorem onward_handRed {change : Nat × Bool} (is : K .redFail (some change.1)) (s : State) : Onward K s (handRed change s) := by
  have raised : Onward K s (raise (redFailRaise s.tables change.1) (setRedFail true change.1 s)) :=
    (staysOn_setRedFail is true s).onward.trans (onward_raise is _)
  unfold handRed
  dsimp only
  split
  · split
    · exact raised
    · exact raised.trans (staysOn_endRedFail is _).onward
  · exact (staysOn_endRedFail is s).onward

theorem onward_evaluateShown (due : ∀ g, s.redOut g ≠ s.redFail g → K .redFail (some g)) : Onward K s (evaluateShown s) := by
  unfold evaluateShown
  split
  · exact (StaysOn.refl K s).onward
  · refine .eachOf (fun change member u => onward_handRed ?_ u) s
    unfold State.redDue at member
    obtain ⟨g, here, rfl⟩ := List.mem_map.mp member
    exact due g (by simpa using (List.mem_filter.mp here).2)

/-! #### Its conclusion -/

theorem recorded_settle_of (nests : ∀ subject, K .nestingLimit subject) (rounds : Nat) (s : State) : Recorded K s.faults (settle rounds s).faults := by
  have evaluated : ∀ u : State, (evaluateConcerned passLimit (rebuild u)).faults = u.faults := fun u => by simp
  induction rounds generalizing s with
  | zero => exact recorded_of_same (evaluated s)
  | succ n ih =>
    unfold settle
    dsimp only
    split
    · have advanced := (reporting_advance (K := K) stepLimit (s := evaluateConcerned passLimit (rebuild s)) (fun _ _ => nests _)).faults
      rw [evaluated] at advanced
      exact advanced.trans (ih _)
    · exact recorded_of_same (evaluated s)

/-- The state on which an event judges red failure: its groups have settled, and the calls of those that have entered GO are served. -/
def judgedAt (u : State) : State := noticeGo (settle roundLimit u)

theorem judgedAt_frame (u : State) :
    (judgedAt u).control = u.control ∧ (judgedAt u).exchange = u.exchange ∧ (judgedAt u).store = u.store ∧ (judgedAt u).prover = u.prover
      ∧ (judgedAt u).faults = (settle roundLimit u).faults ∧ (judgedAt u).engine = (settle roundLimit u).engine := by
  unfold judgedAt
  refine ⟨by simp, by simp, by simp, by simp, by simp, by simp⟩

/-- The close does not complete in an event that ends in RUNNING. -/
theorem conclude_running_eq (running : (conclude u).control.mode = .running) :
    conclude u = handReports (arbitrateAll (markIfDue (numberImage (evaluateShown (judgedAt u)))))
      ∧ (evaluateShown (judgedAt u)).control.mode = .running := by
  have shut : closeIfDone (settle roundLimit u) = settle roundLimit u := by
    have controls : (conclude u).control = (evaluateShown (noticeGo (closeIfDone (settle roundLimit u)))).control := by simp [conclude]
    have stays := onward_evaluateShown (K := fun _ _ => True) (s := noticeGo (closeIfDone (settle roundLimit u))) (fun _ _ => trivial) (controls ▸ running)
    have mode : (closeIfDone (settle roundLimit u)).control.mode = .running := by
      have same : (noticeGo (closeIfDone (settle roundLimit u))).control = (closeIfDone (settle roundLimit u)).control := by simp
      rw [← same, ← stays.control, ← controls]
      exact running
    unfold closeIfDone at mode ⊢
    split at mode
    · unfold completeClose at mode
      dsimp only at mode
      rw [leavePermit_controls] at mode
      cases target : (settle roundLimit u).control.closeTarget.getD .flash <;> rw [target] at mode <;> cases mode
    · next open' => exact if_neg open'
  have is : conclude u = handReports (arbitrateAll (markIfDue (numberImage (evaluateShown (judgedAt u))))) := by
    unfold conclude judgedAt
    rw [shut]
  refine ⟨is, ?_⟩
  rw [is] at running
  simpa using running

/-- What the conclusion of an event leaves that ends in RUNNING. -/
structure RunningEnd (K : FaultKind → Option Nat → Prop) (u t : State) : Prop where
  control : t.control = u.control
  exchange : t.exchange = u.exchange
  store : t.store = u.store
  proving : ∀ c, t.proving c = u.proving c ∨ t.proving c = (u.proving c).noRuns
  unmoved : t.shownImage = u.event.before → ∀ c, t.proving c = u.proving c
  reds : ∀ g, ¬ K .redFail (some g) → t.redFail g = u.redFail g
  faults : Recorded K u.faults t.faults

theorem redFail_of_prover (same : t.prover = s.prover) (g : Nat) : t.redFail g = s.redFail g := by unfold State.redFail; rw [same]

theorem proving_of_channels (same : t.prover.channels = s.prover.channels) (c : Nat) : t.proving c = s.proving c := by unfold State.proving; rw [same]

theorem shownImage_of_groups (same : t.engine.groups = s.engine.groups) : t.shownImage = s.shownImage := by unfold State.shownImage; rw [same]

theorem before_evaluateConcerned (passes : Nat) (s : State) : (evaluateConcerned passes s).event.before = s.event.before := by
  have group : ∀ g (t : State), (evaluate g t).event.before = t.event.before := fun g t => by
    unfold evaluate
    dsimp only
    repeat' split
    all_goals rfl
  induction passes generalizing s with
  | zero => rfl
  | succ n ih =>
    unfold evaluateConcerned
    split
    · rfl
    · exact (ih _).trans (eachOf_keeps (fun t => t.event.before) evaluate (fun g t => group g t) _ _)

theorem before_rebuild (s : State) : (rebuild s).event.before = s.event.before := by
  have group : ∀ g (t : State), (rebuildGroup g t).event.before = t.event.before := fun g t => by
    unfold rebuildGroup
    dsimp only
    split <;> rfl
  have each := eachOf_keeps (fun t => t.event.before) rebuildGroup group s.tables.liveGroups s
  unfold rebuild
  dsimp only
  split
  · exact each
  · exact each

theorem before_settle (rounds : Nat) (s : State) : (settle rounds s).event.before = s.event.before := by
  have evaluated : ∀ u : State, (evaluateConcerned passLimit (rebuild u)).event.before = u.event.before := fun u =>
    (before_evaluateConcerned _ _).trans (before_rebuild u)
  induction rounds generalizing s with
  | zero => exact evaluated s
  | succ n ih =>
    unfold settle
    dsimp only
    split
    · have advanced := (reporting_advance (K := fun _ _ => True) stepLimit (s := evaluateConcerned passLimit (rebuild s)) (fun _ _ => trivial)).scope
      exact (ih _).trans ((by rw [advanced] : _ = (evaluateConcerned passLimit (rebuild s)).event.before).trans (evaluated s))
    · exact evaluated s

theorem before_judgedAt (u : State) : (judgedAt u).event.before = u.event.before := by
  have served := (Reporting.eachOf (K := fun _ _ => True) (fun g _ t => reporting_serveCalls g t)
    (s := settle roundLimit u) (l := groupNumbers.filter (fun g => (settle roundLimit u).event.enteredGo.contains g))).scope
  exact (by unfold judgedAt noticeGo; rw [served] : _ = (settle roundLimit u).event.before).trans (before_settle _ _)

theorem conclude_running (nests : ∀ subject, K .nestingLimit subject)
    (due : ∀ g, (judgedAt u).redOut g ≠ (judgedAt u).redFail g → K .redFail (some g)) (running : (conclude u).control.mode = .running) :
    RunningEnd K u (conclude u) := by
  obtain ⟨is, mode⟩ := conclude_running_eq running
  have stays := onward_evaluateShown due mode
  obtain ⟨control, exchange, store, prover, faults, -⟩ := judgedAt_frame u
  have settled := recorded_settle_of nests roundLimit u
  rw [← faults] at settled
  have before := before_judgedAt u
  generalize judgedAt u = w at *
  generalize evaluateShown w = x at *
  obtain ⟨reds, proving⟩ := numberImage_prover x
  have groups : (conclude u).engine.groups = x.engine.groups := by rw [is]; simp [numberImage_groups]
  have provers : (conclude u).prover = (numberImage x).prover := by rw [is]; simp
  have here : ∀ c, x.proving c = u.proving c := fun c => proving_of_channels (stays.channels.trans (congrArg Prover.channels prover)) c
  have scope : x.event.before = w.event.before := by rw [stays.scope]
  refine ⟨?_, ?_, ?_, fun c => ?_, fun still c => ?_, fun g out => ?_, ?_⟩
  · rw [is]; simp [stays.control, control]
  · rw [is]; simp [stays.exchange, exchange]
  · rw [is]; simp [stays.store, store]
  · rw [proving_of_channels (congrArg Prover.channels provers) c, ← here c]
    exact proving c
  · have same : numberImage x = x := by
      unfold numberImage
      exact if_pos (by rw [← shownImage_of_groups groups, still, scope, before])
    rw [proving_of_channels (congrArg Prover.channels provers) c, same, here c]
  · rw [redFail_of_prover provers, reds, stays.reds g out, redFail_of_prover prover]
  · have recorded := settled.trans stays.faults
    rw [show (conclude u).faults = x.faults by rw [is]; simp]
    exact recorded

theorem RunningEnd.answered (h : RunningEnd K u v) (control : t.control = v.control) (exchange : t.exchange = v.exchange) (store : t.store = v.store)
    (groups : t.engine.groups = v.engine.groups) (prover : t.prover = v.prover) (faults : t.faults = v.faults) : RunningEnd K u t where
  control := control.trans h.control
  exchange := exchange.trans h.exchange
  store := store.trans h.store
  proving c := by rw [proving_of_channels (congrArg Prover.channels prover)]; exact h.proving c
  unmoved still c := by rw [proving_of_channels (congrArg Prover.channels prover)]; exact h.unmoved ((shownImage_of_groups groups).symm.trans still) c
  reds g out := (redFail_of_prover prover g).trans (h.reds g out)
  faults := faults ▸ h.faults

/-- Its groups are those on which red failure was judged. -/
theorem conclude_running_groups (running : (conclude u).control.mode = .running) : (conclude u).engine.groups = (judgedAt u).engine.groups := by
  obtain ⟨is, mode⟩ := conclude_running_eq running
  have stays := onward_evaluateShown (K := fun _ _ => True) (fun _ _ => trivial) mode
  rw [is, ← stays.engine]
  simp [numberImage_groups]

/-- The end of an event, seen from an earlier point of it. -/
theorem RunningEnd.since (h : RunningEnd K u t) (stays : StaysOn K s u) : RunningEnd K s t where
  control := h.control.trans stays.control
  exchange := h.exchange.trans stays.exchange
  store := h.store.trans stays.store
  proving c := by rw [← proving_of_channels stays.channels c]; exact h.proving c
  unmoved still c := by
    rw [← proving_of_channels stays.channels c]
    exact h.unmoved (by rw [still, stays.scope]) c
  reds g out := (h.reds g out).trans (stays.reds g out)
  faults := stays.faults.trans h.faults

theorem RunningEnd.asEvent {effect : State → State} (h : RunningEnd K u (conclude (effect (openEvent s)))) :
    RunningEnd K u (Machine.asEvent effect id s) := by
  have same := id_onlyLink (conclude (effect (openEvent s)))
  exact h.answered (congrArg State.control same :) (congrArg State.exchange same :) (congrArg State.store same :)
    (congrArg (fun x : State => x.engine.groups) same :) (congrArg State.prover same :) (congrArg State.faults same :)

end Sys2Proof.Machine

/-! ### A usable lamp report in RUNNING (R128, R132) -/

namespace Sys2Proof.Machine

open Sys2Proof.Safety

variable {K : FaultKind → Option Nat → Prop} {br : BranchId} {station c n : Nat} {image : Byte} {current : Half} {currents : List Half} {s t u v x : State}
  {l : Liveness} {found : List Judged}

/-! #### What the branch keeps of the report -/

/-- No record of a station on a branch is lagging. -/
def State.unlagged (s : State) (br : BranchId) (station : Nat) : Prop := ∀ l, (s.branch br).record station = some l → l.lagging = false

theorem unlagged_changeBranch {f : Branch → Branch} (keeps : ∀ b : Branch, (f b).record station = b.record station) (h : s.unlagged br station) :
    (changeBranch br f s).unlagged br station := by
  have own := entryD_changeEntry s.branches (placeOf br) (placeOf br) f Branch.reset
  intro l found
  rcases own with kept | ⟨-, changed⟩
  · exact h l ((congrArg (fun b : Branch => b.record station) kept).symm.trans found)
  · exact h l ((keeps _).symm.trans ((congrArg (fun b : Branch => b.record station) changed).symm.trans found))

theorem unlagged_changeLiveness {f : Liveness → Liveness} (same : ∀ y, (f y).station = y.station) (lag : ∀ y, (f y).lagging = y.lagging)
    (h : s.unlagged br station) : (changeLiveness br station f s).unlagged br station := by
  have own := entryD_changeEntry s.branches (placeOf br) (placeOf br)
    (fun b : Branch => { b with liveness := b.liveness.map (fun l => if l.station = station then f l else l) }) Branch.reset
  intro l found
  rcases own with kept | ⟨-, changed⟩
  · exact h l ((congrArg (fun b : Branch => b.record station) kept).symm.trans found)
  · have here : ((s.branch br).liveness.map (fun l => if l.station = station then f l else l)).find? (fun y => decide (y.station = station)) = some l :=
      (congrArg (fun b : Branch => b.record station) changed).symm.trans found
    have keeps : (fun y : Liveness => decide (y.station = station)) ∘ (fun l => if l.station = station then f l else l)
        = fun y => decide (y.station = station) := by
      funext y
      show decide ((if y.station = station then f y else y).station = station) = _
      split
      · rw [same]
      · rfl
    rw [List.find?_map, keeps, Option.map_eq_some_iff] at here
    obtain ⟨y, old, rfl⟩ := here
    have before := h y old
    split
    · rw [lag]; exact before
    · exact before

theorem unlagged_lstKept (h : s.unlagged br station) (applied : Option Byte) : (lstKept br station applied s).unlagged br station := by
  unfold lstKept pollAnswered
  refine unlagged_changeLiveness (fun _ => rfl) (fun _ => rfl) ?_
  have answered : ∀ f : Liveness → Liveness, (∀ y, (f y).station = y.station) → (∀ y, (f y).lagging = y.lagging) →
      (changeLiveness br station f (changeBranch br (fun b => { b with awaited := none }) s)).unlagged br station := fun f same lag =>
    unlagged_changeLiveness same lag (unlagged_changeBranch (fun _ => rfl) h)
  have told : ∀ u : State, u.unlagged br station → (reportEnd .stationAbsent (some station) u).unlagged br station := fun u hu l found =>
    hu l ((congrArg (fun b : Branch => b.record station) (branch_congr (by simp) br)).symm.trans found)
  dsimp only
  split
  · exact told _ (answered _ (fun _ => rfl) (fun _ => rfl))
  · exact answered _ (fun _ => rfl) (fun _ => rfl)

theorem usable_named (usable : s.usable br (some image) = true) : (∃ sent, (s.branch br).lastApply = some (image, sent)) ∧ s.settled br = true := by
  unfold State.usable at usable
  simp only [Bool.and_eq_true] at usable
  obtain ⟨⟨-, settled⟩, names⟩ := usable
  refine ⟨?_, settled⟩
  cases last : (s.branch br).lastApply with
  | none =>
    rw [last] at names
    cases names
  | some apply =>
    rw [last] at names
    exact ⟨apply.2, congrArg some (Prod.ext (decide_eq_true_iff.mp names).symm rfl)⟩

/-- A report that names the last apply is counted on the branches alone, where the station does not lag (R118). -/
theorem countLag_branches {sent : Time} (h : s.unlagged br station) (last : (s.branch br).lastApply = some (image, sent)) (settled : s.settled br = true) :
    ∃ branches, countLag br station (some image) s = { s with branches := branches } := by
  cases found : (s.branch br).record station with
  | none =>
    refine ⟨s.branches, ?_⟩
    unfold countLag
    rw [last, found]
  | some l =>
    refine ⟨(changeLiveness br l.station (fun x => { x with lagCount := 0, lagging := false }) s).branches, ?_⟩
    rw [countLag_matched settled last found]
    unfold lagMatched
    dsimp only
    rw [if_neg (by rw [h l found]; decide)]
    rfl

/-- The effect of a usable report in RUNNING. -/
theorem lst_event (up : s.up = true) (answers : s.answersPoll br station .output = true)
    (usable : s.usable br (some image) = true) (record : (s.branch br).record station = some l) (present : l.present = true) (unlagged : l.lagging = false)
    (currents : List Half) :
    ∃ effect kept counted, exec (.lstReceived br station (some image) currents) s = .next (asEvent effect id s)
      ∧ effect (openEvent s) = { takeReadings station currents { openEvent s with branches := kept } with branches := counted } := by
  have only := lstKept_present (applied := some image) (s := openEvent s) record present
  have free : (openEvent s).unlagged br station := fun y found => by
    have is : some l = some y := record.symm.trans found
    cases is
    exact unlagged
  have kept := unlagged_lstKept free (some image)
  have last : ∀ t : State, t.branches = (lstKept br station (some image) (openEvent s)).branches → (t.branch br).lastApply = (s.branch br).lastApply :=
    fun t same => (congrArg Branch.lastApply (branch_congr same br)).trans
      ((lastApply_changeLiveness br br station _ _).trans (pollAnswered_lastApply br br station (openEvent s)))
  have effect : lstEffect br station (some image) currents (openEvent s)
      = countLag br station (some image) (proveReport br station (some image) currents (lstKept br station (some image) (openEvent s))) := rfl
  generalize lstKept br station (some image) (openEvent s) = k at *
  obtain ⟨⟨sent, names⟩, settled⟩ := usable_named usable
  have same : k.usable br (some image) = s.usable br (some image) := usable_congr (by rw [only]; rfl) (by rw [only]; rfl) (by rw [only]; rfl) (last k rfl) _
  have proved : proveReport br station (some image) currents k = takeReadings station currents k := if_pos (same.trans usable)
  rw [proved] at effect
  have branches : (takeReadings station currents k).branches = k.branches := by simp
  have clock : (takeReadings station currents k).clock = s.clock := (by simp : _ = k.clock).trans (by rw [only]; rfl)
  have active : (takeReadings station currents k).store.active = s.store.active := (by simp : _ = k.store.active).trans (by rw [only]; rfl)
  have settled' : (takeReadings station currents k).settled br = true := by
    unfold State.settled at settled ⊢
    rw [last _ branches, clock, tables_congr active]
    exact settled
  obtain ⟨counted, is⟩ := countLag_branches (s := takeReadings station currents k)
    (fun y found => kept y ((congrArg (fun b : Branch => b.record station) (branch_congr branches br)).symm.trans found))
    ((last _ branches).trans names) settled'
  refine ⟨_, k.branches, counted, exec_lstReceived up answers, ?_⟩
  rw [effect, is, ← only]

/-! #### The judging of the channels of a station -/

theorem judgeChannel_eq (entry : entry? currents (s.tables.output c).output.toNat = some current) (found : List Judged) :
    judgeChannel currents c (s, found)
      = (changeProving c (fun _ => (judgeReading (s.tables.output c) current s.clock.now (s.proving c)).1) s,
        found ++ [{ channel := c, kind := (s.proving c).faultKind, finding := (judgeReading (s.tables.output c) current s.clock.now (s.proving c)).2 }]) := by
  unfold judgeChannel
  dsimp only
  rw [entry]

theorem judgeChannel_other (other : n ≠ c) (y : State × List Judged) : (judgeChannel currents c y).1.proving n = y.1.proving n := by
  unfold judgeChannel
  dsimp only
  split
  · exact entryD_changeEntry_other other _ _
  · rfl

theorem judgeChannel_length (y : State × List Judged) : (judgeChannel currents c y).1.prover.channels.length = y.1.prover.channels.length := by
  unfold judgeChannel
  dsimp only
  split
  · exact length_changeEntry _ _ _
  · rfl

/-- What the judging of some channels leaves of the record of one that is not among them. -/
theorem judges_other (l : List Nat) (out : c ∉ l) (y : State × List Judged) :
    (l.foldl (fun y c => judgeChannel currents c y) y).1.proving c = y.1.proving c
      ∧ (l.foldl (fun y c => judgeChannel currents c y) y).1.prover.channels.length = y.1.prover.channels.length
      ∧ (l.foldl (fun y c => judgeChannel currents c y) y).1.tables = y.1.tables
      ∧ (l.foldl (fun y c => judgeChannel currents c y) y).1.clock = y.1.clock := by
  induction l generalizing y with
  | nil => exact ⟨rfl, rfl, rfl, rfl⟩
  | cons n l ih =>
    obtain ⟨apart, rest⟩ := not_or.mp (mt List.mem_cons.mpr out)
    obtain ⟨proving, length, tables, clock⟩ := ih rest (judgeChannel currents n y)
    exact ⟨proving.trans (judgeChannel_other apart y), length.trans (judgeChannel_length y), tables.trans (tables_congr (by simp)),
      clock.trans (by simp)⟩

theorem channelsOfStation_nodup (s : State) (station : Nat) : (s.channelsOfStation station).Nodup := ((numbers_nodup _).filter _).filter _

theorem mem_channelsOfStation :
    c ∈ s.channelsOfStation station ↔ (1 ≤ c ∧ c ≤ s.tables.outputs.length) ∧ s.tables.proved c = true ∧ (s.tables.output c).station.toNat = station := by
  unfold State.channelsOfStation State.provedChannels
  simp only [List.mem_filter, mem_numbers, decide_eq_true_eq, and_assoc]

/-- A report judges the reading of each channel of its station once (R128, R132). -/
theorem judgeReport_proving (member : c ∈ s.channelsOfStation station) (last : c ≤ s.prover.channels.length)
    (entry : entry? currents (s.tables.output c).output.toNat = some current) :
    (judgeReport station currents s).1.proving c = (judgeReading (s.tables.output c) current s.clock.now (s.proving c)).1 := by
  have first : 1 ≤ c := (mem_channelsOfStation.mp member).1.1
  obtain ⟨before, after, split, out⟩ := List.append_of_mem member |>.elim fun before ⟨after, split⟩ =>
    (⟨before, after, split, split ▸ channelsOfStation_nodup s station⟩ : ∃ before after, s.channelsOfStation station = before ++ c :: after
      ∧ (before ++ c :: after).Nodup)
  obtain ⟨-, tail, apart⟩ := List.nodup_append.mp out
  have early : c ∉ before := fun here => apart c here c (List.mem_cons_self ..) rfl
  have late : c ∉ after := (List.nodup_cons.mp tail).1
  unfold judgeReport
  rw [split, List.foldl_append, List.foldl_cons]
  obtain ⟨proving, length, tables, clock⟩ := judges_other (currents := currents) before early (s, [])
  generalize before.foldl (fun y c => judgeChannel currents c y) (s, []) = y at proving length tables clock ⊢
  obtain ⟨w, found⟩ := y
  dsimp only at proving length tables clock
  rw [(judges_other after late _).1, judgeChannel_eq (by rw [tables]; exact entry), ← tables, ← clock, ← proving]
  exact entryD_changeEntry_same first (by rw [length]; exact last) _ _

/-- What a report decides at a station with one channel. -/
theorem judgeReport_single (member : c ∈ s.channelsOfStation station)
    (only : ∀ n, s.tables.proved n = true → (s.tables.output n).station.toNat = station → n = c)
    (entry : entry? currents (s.tables.output c).output.toNat = some current) :
    s.channelsOfStation station = [c]
      ∧ judgeReport station currents s
        = (changeProving c (fun _ => (judgeReading (s.tables.output c) current s.clock.now (s.proving c)).1) s,
          [{ channel := c, kind := (s.proving c).faultKind, finding := (judgeReading (s.tables.output c) current s.clock.now (s.proving c)).2 }]) := by
  have single : s.channelsOfStation station = [c] :=
    eq_singleton_of_nodup (channelsOfStation_nodup s station) member fun n here => by
      obtain ⟨-, proved, at'⟩ := mem_channelsOfStation.mp here
      exact only n proved at'
  refine ⟨single, ?_⟩
  unfold judgeReport
  rw [single]
  exact judgeChannel_eq entry []

/-! #### Handing on -/

/-- What the judged report hands on: the findings, the red failures and the field conflicts (R132). -/
def handedOn (station : Nat) (currents : List Half) (found : List Judged) (s : State) : State :=
  eachOf (s.fieldConflicts station currents) (fun g => raise (fieldConflictRaise g)) (eachOf (s.redChanges found) handRed (handFindings found s))

theorem takeReadings_eq (station : Nat) (currents : List Half) (s : State) :
    takeReadings station currents s
      = concern ((foreignReleased (judgeReport station currents s).2).flatMap
          (handedOn station currents (judgeReport station currents s).2 (judgeReport station currents s).1).blockedBy)
        (handedOn station currents (judgeReport station currents s).2 (judgeReport station currents s).1) := rfl

theorem staysOn_handFindings (all : ∀ j ∈ found, K j.kind (some j.channel)) (s : State) : StaysOn K s (handFindings found s) := by
  have each : ∀ {f : Judged → State → State} (l : List Judged), (∀ j ∈ l, j ∈ found) → (∀ j ∈ found, ∀ s, StaysOn K s (f j s)) → ∀ s, StaysOn K s (eachOf l f s) := by
    intro f l
    induction l with
    | nil => exact fun _ _ s => .refl K s
    | cons j l ih =>
      exact fun sub step s => (step j (sub j (List.mem_cons_self ..)) s).trans (ih (fun i here => sub i (List.mem_cons_of_mem _ here)) step _)
  exact (each _ (fun j here => (List.mem_filter.mp here).1) (fun j here s => staysOn_reportEnd (all j here) s) s).trans
    (each _ (fun j here => (List.mem_filter.mp here).1) (fun j here s => staysOn_note (by exact all j here) s) _)

theorem onward_handedOn (findings : ∀ j ∈ found, K j.kind (some j.channel)) (reds : ∀ g, K .redFail (some g)) (conflicts : ∀ g, K .fieldConflict (some g)) (s : State) :
    Onward K s (handedOn station currents found s) :=
  ((staysOn_handFindings findings s).onward.trans (.eachOf (fun _ _ _ => onward_handRed (reds _) _) _)).trans
    (.eachOf (fun _ _ _ => onward_raise (conflicts _) _) _)

end Sys2Proof.Machine

/-! ### A lamp report in an event that stays in RUNNING (R129, R130, R132) -/

namespace Sys2Proof.Machine

open Sys2Proof.Safety

variable {K : FaultKind → Option Nat → Prop} {station c : Nat} {current : Half} {currents : List Half} {s t u v w : State} {found : List Judged}

/-- An event that takes a report and ends in RUNNING, from the point at which the report has been judged or its findings handed on. -/
theorem taken_running {effect : State → State} {groups : List Nat} {counted : List Branch} (nests : ∀ subject, K .nestingLimit subject)
    (reds : ∀ g, K .redFail (some g)) (is : effect (openEvent s) = { concern groups v with branches := counted }) (onward : Onward K w v)
    (running : (asEvent effect id s).control.mode = .running) : RunningEnd K w (asEvent effect id s) := by
  have control : (conclude (effect (openEvent s))).control = (asEvent effect id s).control := (asEvent_blocks id_onlyLink s).1.symm
  have concluded := conclude_running (K := K) nests (fun g _ => reds g) (by rw [control]; exact running)
  have mode : (effect (openEvent s)).control.mode = .running := by rw [← concluded.control, control]; exact running
  have ends := concluded.asEvent
  rw [is] at ends mode
  have last : StaysOn K v { concern groups v with branches := counted } := ⟨rfl, rfl, rfl, rfl, rfl, rfl, rfl, fun _ _ => rfl, .refl _ _⟩
  exact ends.since ((onward.trans last.onward) mode)

/-- The judging of a report changes the lamp prover's records alone. -/
theorem judgeReport_same (station : Nat) (currents : List Half) (s : State) :
    (judgeReport station currents s).1.control = s.control ∧ (judgeReport station currents s).1.exchange = s.exchange
      ∧ (judgeReport station currents s).1.store = s.store ∧ (judgeReport station currents s).1.event = s.event := by
  refine ⟨by simp, by simp, by simp, by simp⟩

/-- The event of a report as it was taken. -/
structure Taken (s t : State) (station : Nat) (currents : List Half) (found : List Judged) (v : State) : Prop where
  running : t.control.mode = .running → ∀ {K : FaultKind → Option Nat → Prop}, (∀ subject, K .nestingLimit subject) → (∀ g, K .redFail (some g)) →
    ∀ {w : State}, Onward K w (handedOn station currents found v) → RunningEnd K w t
  control : v.control = s.control
  exchange : v.exchange = s.exchange
  store : v.store = s.store
  before : v.event.before = s.shownImage

theorem lst_taken {br : BranchId} {image : Byte} {l : Liveness} (up : s.up = true) (answers : s.answersPoll br station .output = true)
    (usable : s.usable br (some image) = true) (record : (s.branch br).record station = some l) (present : l.present = true) (unlagged : l.lagging = false)
    (currents : List Half) :
    ∃ t kept, exec (.lstReceived br station (some image) currents) s = .next t
      ∧ Taken s t station currents (judgeReport station currents { openEvent s with branches := kept }).2
        (judgeReport station currents { openEvent s with branches := kept }).1 := by
  obtain ⟨effect, kept, counted, ran, is⟩ := lst_event up answers usable record present unlagged currents
  rw [takeReadings_eq] at is
  obtain ⟨control, exchange, store, event⟩ := judgeReport_same station currents { openEvent s with branches := kept }
  exact ⟨_, kept, ran, fun running _ nests reds _ onward => taken_running nests reds is onward running, control, exchange, store, by rw [event]; rfl⟩

/-- What the judged record of a channel is in RUNNING behind the event (R129, R130). -/
theorem Taken.proving (h : Taken s t station currents found v) (running : t.control.mode = .running) {y : Proving} (judged : v.proving c = y)
    (proved : y.proved = (s.proving c).proved) :
    t.control = s.control ∧ t.exchange = s.exchange ∧ t.store = s.store ∧ (t.proving c).proved = (s.proving c).proved
      ∧ (t.proving c).last = y.last ∧ (t.proving c).lampOut = y.lampOut ∧ (t.proving c).lampOutReleased = y.lampOutReleased
      ∧ (t.proving c).foreign = y.foreign ∧ (t.proving c).foreignReleased = y.foreignReleased
      ∧ (t.shownImage = s.shownImage → (t.proving c).outRun = y.outRun ∧ (t.proving c).foreignRun = y.foreignRun) := by
  have ends := h.running running (K := fun _ _ => True) (fun _ => trivial) (fun _ => trivial)
    (onward_handedOn (fun _ _ => trivial) (fun _ => trivial) (fun _ => trivial) v)
  have either := ends.proving c
  rw [judged] at either
  have kept : (t.proving c).proved = (s.proving c).proved ∧ (t.proving c).last = y.last ∧ (t.proving c).lampOut = y.lampOut
      ∧ (t.proving c).lampOutReleased = y.lampOutReleased ∧ (t.proving c).foreign = y.foreign ∧ (t.proving c).foreignReleased = y.foreignReleased := by
    rcases either with is | is
    · rw [is]; exact ⟨proved, rfl, rfl, rfl, rfl, rfl⟩
    · rw [is]; exact ⟨proved, rfl, rfl, rfl, rfl, rfl⟩
  obtain ⟨proved, last, out, outReleased, foreign, foreignReleased⟩ := kept
  refine ⟨ends.control.trans h.control, ends.exchange.trans h.exchange, ends.store.trans h.store, proved, last, out, outReleased, foreign, foreignReleased,
    fun still => ?_⟩
  rw [ends.unmoved (still.trans h.before.symm) c, judged]
  exact ⟨rfl, rfl⟩

/-- Other kinds than those of a lamp's own faults. -/
def NotLamp (kind : FaultKind) (_ : Option Nat) : Prop := kind ≠ .lampOut ∧ kind ≠ .foreignCurrent

/-- From the point at which the findings have been handed on, an event that stays in RUNNING reports on no lamp. -/
theorem Taken.handed (h : Taken s t station currents found v) (running : t.control.mode = .running) : RunningEnd NotLamp (handFindings found v) t :=
  h.running running (fun _ => ⟨nofun, nofun⟩) (fun _ => ⟨nofun, nofun⟩)
    ((Onward.eachOf (fun _ _ _ => onward_handRed ⟨nofun, nofun⟩ _) _).trans (.eachOf (fun _ _ _ => onward_raise ⟨nofun, nofun⟩ _) _))

theorem faultKind_lamp (y : Proving) : ¬ NotLamp y.faultKind (some c) := by
  unfold Proving.faultKind
  split
  · exact fun h => h.1 rfl
  · exact fun h => h.2 rfl

/-- The report of a finding that has qualified (R132). -/
def findingRaise (j : Judged) (latched : Bool) : Raise where
  kind := j.kind
  subject := some j.channel
  action := .report
  condition := true
  latched := latched

theorem handFindings_qualified {j : Judged} (qualified : j.finding = .qualified) (s : State) :
    handFindings [j] s = note (findingRaise j (s.tables.output j.channel).latched) s := by
  unfold handFindings
  simp [qualified, eachOf, findingRaise]

theorem handFindings_ended {j : Judged} (ended : j.finding = .ended) (s : State) : handFindings [j] s = reportEnd j.kind (some j.channel) s := by
  unfold handFindings
  simp [ended, eachOf]

/-- A finding that has qualified stands in the list (R132). -/
theorem Taken.qualified {j : Judged} (h : Taken s t station currents [j] v) (running : t.control.mode = .running) (kind : ¬ NotLamp j.kind (some j.channel))
    (qualified : j.finding = .qualified) (well : v.faults.Well) (room : v.faults.entries.length < 32) :
    ∃ e ∈ t.faults.entries, e.kind = j.kind ∧ e.subject = some j.channel ∧ e.active = true ∧ e.action = .report
      ∧ ((v.tables.output j.channel).latch = 1 → e.latched = true) := by
  have ends := h.handed running
  rw [handFindings_qualified qualified] at ends
  obtain ⟨e, member, is, of, -, action, latched, active, -⟩ := note_lists (s := v) (r := findingRaise j (v.tables.output j.channel).latched) room
  have noted := (staysOn_note (K := fun _ _ => True) (r := findingRaise j (v.tables.output j.channel).latched) trivial v).faults.well well
  exact ⟨e, ends.faults.stays noted e member (active rfl) (by rw [is, of]; exact kind), is, of, active rfl, action, fun held => latched (latched_iff.mpr held)⟩

/-- A finding that has ended is not ACTIVE (R132). -/
theorem Taken.ended {j : Judged} (h : Taken s t station currents [j] v) (running : t.control.mode = .running) (kind : ¬ NotLamp j.kind (some j.channel))
    (ended : j.finding = .ended) (well : v.faults.Well) : notActive t j.kind (some j.channel) := by
  have ends := h.handed running
  rw [handFindings_ended ended] at ends
  exact ends.faults.quiet ((recorded_reportEnd (K := fun _ _ => True) trivial v).well well) _ _ kind (reportEnd_notActive _ _ well)

end Sys2Proof.Machine

/-! ### A lamp report that takes RUNNING to LOCKOUT (R58, R133, R134) -/

namespace Sys2Proof.Machine

open Sys2Proof.Safety

variable {station c g : Nat} {current : Half} {currents : List Half} {s t u v w y : State} {found : List Judged} {r : Raise}

/-! #### The transfer -/

theorem raise_lockout_running (action : r.action = .lockout) (mode : s.control.mode = .running) :
    raise r s = leavePermit .lockout .faultLockout (some (r.kind, r.subject)) (note r s) := by
  have same : (note r s).control.mode = .running := by simpa using mode
  unfold raise takeAction
  rw [action, same]

/-- The conclusion seen from before some ends of red failures. -/
theorem FlashEnd.since (h : FlashEnd v t) (ended : RedsEnded u v) : FlashEnd u t where
  control := h.control.trans ended.control
  store := h.store.trans ended.store
  exchange := h.exchange.trans ended.exchange
  preempt := h.preempt.trans ended.preempt
  flashing := h.flashing
  reds g off := h.reds g (ended.reds g off)
  proving c := by rw [← proving_of_channels ended.channels c]; exact h.proving c
  keeps := ended.keeps.trans h.keeps
  quieter := ended.quieter.trans h.quieter
  length := h.length.trans (by rw [ended.engine])

/-- The state on which an event that takes a report concludes. -/
def takenAt (groups : List Nat) (counted : List Branch) (v : State) : State := { concern groups v with branches := counted }

theorem takenAt_flashing {groups : List Nat} {counted : List Branch} {record : Option (FaultKind × Option Nat)}
    (ended : RedsEnded (leavePermit .lockout .faultLockout record y) v) :
    (takenAt groups counted v).control.mode.permit = false ∧ (takenAt groups counted v).preempt.stack = [] ∧ Flashing (takenAt groups counted v) := by
  have flashing : Flashing v := (flashing_leavePermit .lockout .faultLockout record y).congr (congrArg Engine.groups ended.engine) (congrArg Store.active ended.store)
  refine ⟨?_, ?_, flashing.congr rfl rfl⟩
  · show v.control.mode.permit = false
    rw [ended.control, leavePermit_controls]
    rfl
  · show v.preempt.stack = []
    rw [ended.preempt]
    exact leavePermit_stack _ _ _ y

/-- An event that takes a report and leaves RUNNING for LOCKOUT. -/
theorem lockout_end {effect : State → State} {groups : List Nat} {counted : List Branch} {record : Option (FaultKind × Option Nat)}
    (is : effect (openEvent s) = takenAt groups counted v) (ended : RedsEnded (leavePermit .lockout .faultLockout record y) v) :
    FlashEnd v (asEvent effect id s) := by
  refine FlashEnd.asEvent id_onlyLink ?_
  rw [is]
  obtain ⟨mode, stack, flashing⟩ := takenAt_flashing (groups := groups) (counted := counted) ended
  exact (conclude_flashed mode stack flashing).after rfl rfl rfl rfl rfl rfl rfl

/-- What such an event leaves (R58, R60). -/
theorem FlashEnd.lockedOut {kind : FaultKind} {subject : Option Nat} (h : FlashEnd (leavePermit .lockout .faultLockout (some (kind, subject)) y) t)
    (intended : Intended t) (control : y.control = s.control) (exchange : y.exchange = s.exchange) (store : y.store = s.store) (engine : y.engine = s.engine) :
    Safety.transferred s t .lockout .faultLockout ∧ t.control.recordOp = .writing kind subject ∧ t.store.op = .record ∧ t.store.nv.record.isSome = true := by
  obtain ⟨recorded, op, nv⟩ := leavePermit_record .lockout .faultLockout (some (kind, subject)) y
  refine ⟨h.transferred rfl intended (by rw [engine]) (by rw [store]) (by rw [control]) (by rw [exchange]), ?_, ?_, ?_⟩
  · rw [h.control, recorded]; rfl
  · rw [h.store, op]; rfl
  · rw [h.store, nv]; rfl

/-! #### An entry of RED_FAIL, and what its ends leave of it -/

/-- The list holds an entry of RED_FAIL of group `g` with the action LOCKOUT, and if it is ACTIVE then so is RED_FAIL (R134). -/
structure RedListed (g : Nat) (s : State) : Prop where
  well : s.faults.Well
  listed : ∃ e ∈ s.faults.entries, e.kind = .redFail ∧ e.subject = some g ∧ e.action = .lockout ∧ (e.active = true → s.redFail g = true)

theorem RedListed.congr (h : RedListed g s) (entries : t.faults.entries = s.faults.entries) (reds : t.redFail g = s.redFail g) : RedListed g t := by
  obtain ⟨well, e, member, rest⟩ := h
  refine ⟨?_, e, by rw [entries]; exact member, by rw [reds]; exact rest⟩
  unfold FaultList.Well at well ⊢
  rw [entries]
  exact well

theorem RedListed.asEvent {effect : State → State} (h : RedListed g (conclude (effect (openEvent s)))) : RedListed g (Machine.asEvent effect id s) :=
  h.congr (congrArg FaultList.entries (asEvent_faults id_onlyLink s)) (redFail_of_prover (asEvent_blocks id_onlyLink s).2.2.2 g)

theorem RedListed.reportEnd (h : RedListed g s) (kind : FaultKind) (subject : Option Nat) : RedListed g (reportEnd kind subject s) := by
  obtain ⟨well, e, member, is, of, action, active⟩ := h
  have reds : (Machine.reportEnd kind subject s).redFail g = s.redFail g := redFail_of_prover (by simp) g
  refine ⟨(recorded_reportEnd (K := fun _ _ => True) trivial s).well well, ?_⟩
  rw [reportEnd_entries kind subject well, reds]
  refine ⟨_, List.mem_map_of_mem member, ?_⟩
  split
  · exact ⟨is, of, action, nofun⟩
  · exact ⟨is, of, action, active⟩

theorem RedListed.endRedFail (h : RedListed g s) (k : Nat) : RedListed g (endRedFail k s) := by
  by_cases same : k = g
  · subst same
    by_cases was : s.redFail k = true
    · have ended : Machine.endRedFail k s = Machine.reportEnd .redFail (some k) (setRedFail false k s) := if_pos was
      rw [ended]
      obtain ⟨well, e, member, is, of, action, -⟩ := h
      refine ⟨(recorded_reportEnd (K := fun _ _ => True) trivial (setRedFail false k s)).well well, ?_⟩
      rw [reportEnd_entries (s := setRedFail false k s) .redFail (some k) well]
      refine ⟨_, List.mem_map_of_mem member, ?_⟩
      rw [if_pos (entry_is_iff.mpr ⟨is, of⟩)]
      exact ⟨is, of, action, nofun⟩
    · have same : Machine.endRedFail k s = s := if_neg was
      rw [same]
      exact h
  · have stays : ∀ active, RedListed g (setRedFail active k s) := fun active =>
      h.congr rfl (entryD_changeEntry_other (Ne.symm same) _ _)
    unfold Machine.endRedFail
    split
    · exact (stays false).reportEnd _ _
    · exact h

theorem RedListed.stopProving (h : RedListed g s) : RedListed g (stopProving s) := by
  have ended : ∀ (active : Prop) [Decidable active] (kind : FaultKind) (subject : Option Nat) (t : State), RedListed g t →
      RedListed g ((if active then Machine.reportEnd kind subject else id) t) := fun active _ kind subject t ht => by
    split
    · exact ht.reportEnd kind subject
    · exact ht
  have channel : ∀ c (t : State), RedListed g t → RedListed g (stopChannel c t) := fun c t ht => by
    rw [stopChannel_eq]
    exact ended _ _ _ _ (ended _ _ _ _ (ht.congr rfl rfl))
  unfold Machine.stopProving
  exact eachOf_holds (RedListed g) _ (fun k t ht => ht.endRedFail k) _ _ (eachOf_holds (RedListed g) _ channel _ _ h)

theorem RedListed.leavePermit (h : RedListed g s) (new : Mode) (cause : Cause) (record : Option (FaultKind × Option Nat)) :
    RedListed g (leavePermit new cause record s) := by
  have lapse : ∀ t : State, RedListed g t → RedListed g (endLapse t) := fun t ht => by
    unfold endLapse
    split
    · exact RedListed.reportEnd (s := { t with exchange.warning := none }) (ht.congr rfl rfl) _ _
    · exact ht
  have plans : ∀ t : State, RedListed g t → RedListed g (plansFlash t) := fun t ht => ht.congr (by simp) (redFail_of_prover (by simp) g)
  have flash : ∀ t : State, RedListed g t → RedListed g (showFlash t) := fun t ht => ht.congr (by simp) (redFail_of_prover (by simp) g)
  have last : ∀ (old : Mode) (t : State), RedListed g t → RedListed g (announce old (writeRecordOf record (resetWorking t))) := fun old t ht =>
    ht.congr (by unfold announce; simp only [alarm_entries, writeRecordOf_frame, resetWorking_frame]) (redFail_of_prover (by simp) g)
  unfold Machine.leavePermit
  refine last _ _ (RedListed.stopProving (plans _ ?_))
  unfold exchangeFlash
  exact lapse _ ((flash _ (h.congr rfl rfl)).congr rfl rfl)

/-- The conclusion of an event in LOCKOUT or FLASH keeps it. -/
theorem RedListed.conclude (h : RedListed g u) (mode : u.control.mode.permit = false) (stack : u.preempt.stack = []) (flashing : Flashing u) :
    RedListed g (conclude u) := by
  have settled : settle roundLimit u = evaluateConcerned passLimit (rebuild u) := settle_empty stack roundLimit
  have control : (settle roundLimit u).control = u.control := by rw [settled]; simp
  have open' : closeIfDone (settle roundLimit u) = settle roundLimit u :=
    if_neg fun done => by rw [← control, done.1] at mode; cases mode
  have noticed : RedListed g (noticeGo (settle roundLimit u)) := h.congr (by rw [settled]; simp) (redFail_of_prover (by rw [settled]; simp) g)
  have stands : Flashing (noticeGo (settle roundLimit u)) := by
    rw [settled]
    exact ((flashing.rebuild).evaluateConcerned passLimit).congr (by simp) (by simp)
  rw [conclude_eq, open']
  unfold finish
  generalize noticeGo (settle roundLimit u) = v at noticed stands
  have judged : RedListed g (evaluateShown v) := by
    unfold evaluateShown
    split
    · exact noticed
    · have each : ∀ (l : List (Nat × Bool)), (∀ change ∈ l, change.2 = false) → ∀ x, RedListed g x → RedListed g (eachOf l handRed x) := by
        intro l
        induction l with
        | nil => exact fun _ x hx => hx
        | cons change l ih =>
          intro ends x hx
          have first : RedListed g (handRed change x) := by
            unfold handRed
            rw [ends change (List.mem_cons_self ..)]
            exact hx.endRedFail _
          exact ih (fun y member => ends y (List.mem_cons_of_mem _ member)) _ first
      exact each _ (redDue_ends fun k live => redOut_of_flash (stands k live)) v noticed
  exact judged.congr (by simp) ((redFail_of_prover (s := numberImage (evaluateShown v)) (by simp) g).trans ((numberImage_prover _).1 g))

end Sys2Proof.Machine

/-! ### A lamp report of a station with one channel, that finds a field conflict or a red failure (R133, R134) -/

namespace Sys2Proof.Machine

open Sys2Proof.Safety

variable {br : BranchId} {station c g : Nat} {image : Byte} {current : Half} {currents : List Half} {s t u v : State} {l : Liveness} {j : Judged}

/-- What a report decides about channel `c` of the state. -/
def State.finding (s : State) (c : Nat) (current : Half) : Judged where
  channel := c
  kind := (s.proving c).faultKind
  finding := (judgeReading (s.tables.output c) current s.clock.now (s.proving c)).2

/-- The state behind the judging of channel `c`. -/
def State.judged (s : State) (c : Nat) (current : Half) : State :=
  changeProving c (fun _ => (judgeReading (s.tables.output c) current s.clock.now (s.proving c)).1) s

/-- The event of a report of a station with one channel. -/
theorem lst_single (up : s.up = true) (answers : s.answersPoll br station .output = true)
    (usable : s.usable br (some image) = true) (record : (s.branch br).record station = some l) (present : l.present = true) (unlagged : l.lagging = false)
    (member : c ∈ s.channelsOfStation station) (only : ∀ n, s.tables.proved n = true → (s.tables.output n).station.toNat = station → n = c)
    (entry : entry? currents (s.tables.output c).output.toNat = some current) :
    ∃ effect kept counted groups, exec (.lstReceived br station (some image) currents) s = .next (asEvent effect id s)
      ∧ effect (openEvent s) = { concern groups (handedOn station currents [s.finding c current] { (openEvent s).judged c current with branches := kept }) with
          branches := counted }
      ∧ groups = (foreignReleased [s.finding c current]).flatMap
          (handedOn station currents [s.finding c current] { (openEvent s).judged c current with branches := kept }).blockedBy
      ∧ s.channelsOfStation station = [c] := by
  obtain ⟨effect, kept, counted, ran, is⟩ := lst_event up answers usable record present unlagged currents
  obtain ⟨single, judged⟩ := judgeReport_single (s := { openEvent s with branches := kept }) member only entry
  rw [takeReadings_eq, judged] at is
  exact ⟨effect, kept, counted, _, ran, is, rfl, single⟩

/-! #### What is found -/

theorem fieldConflicts_single (single : s.channelsOfStation station = [c]) :
    s.fieldConflicts station currents
      = if s.checksConflict currents c && s.rivalReleased (s.tables.output c).group.toNat then [(s.tables.output c).group.toNat] else [] := by
  unfold State.fieldConflicts
  rw [single]
  cases is : s.checksConflict currents c && s.rivalReleased (s.tables.output c).group.toNat <;> simp [is, sortByKey, insertByKey]

theorem redChanges_none (other : (s.tables.output j.channel).redProving ≠ 1) : s.redChanges [j] = [] := by
  unfold State.redChanges
  simp only [List.any_cons, List.any_nil, decide_eq_false other, Bool.and_false, Bool.or_false, List.filter_false]

theorem foreignReleased_none (other : j.kind ≠ .foreignCurrent) : foreignReleased [j] = [] := by
  unfold foreignReleased
  simp [other]

/-- The red failure that a report brings about on the group of its one channel (R134). -/
theorem redChanges_single (kind : j.kind = .lampOut) (found : j.finding ≠ .nothing) (at' : (s.tables.output j.channel).group.toNat = g)
    (red : (s.tables.output j.channel).redProving = 1) (live : s.tables.live g = true) (out : s.redOut g = true) (off : s.redFail g = false) :
    s.redChanges [j] = [(g, true)] := by
  have holds : ∀ change : Nat × Bool, ([j].any fun j => decide (j.kind = .lampOut) && decide (j.finding ≠ .nothing)
      && decide ((s.tables.output j.channel).group.toNat = change.1) && decide ((s.tables.output j.channel).redProving = 1)) = decide (g = change.1) := fun change => by
    simp [kind, found, at', red]
  unfold State.redChanges
  rw [List.filter_congr fun change _ => holds change]
  have distinct : s.redDue.Nodup := by
    unfold State.redDue
    exact ((liveGroups_nodup s.tables).filter _).map fun a b same => congrArg Prod.fst same
  refine eq_singleton_of_nodup (distinct.filter _) (List.mem_filter.mpr ⟨?_, by simp⟩) fun change member => ?_
  · unfold State.redDue
    refine List.mem_map.mpr ⟨g, List.mem_filter.mpr ⟨by simpa [TableSet.liveGroups] using live_iff.mp live, by rw [out, off]; rfl⟩, by rw [out]⟩
  · obtain ⟨due, is⟩ := List.mem_filter.mp member
    unfold State.redDue at due
    obtain ⟨k, -, rfl⟩ := List.mem_map.mp due
    obtain rfl : g = k := by simpa using is
    rw [out]

theorem mem_numberedEntries {α : Type} {l : List α} {n : Nat} {d : α} (first : 1 ≤ n) (last : n ≤ l.length) : (n, entryD l n d) ∈ numberedEntries l := by
  refine List.mem_iff_getElem?.mpr ⟨n - 1, ?_⟩
  unfold numberedEntries entryD entry?
  rw [List.getElem?_zip_eq_some, numbers_getElem?, if_pos (by omega), if_neg (by omega), List.getElem?_eq_getElem (by omega)]
  exact ⟨by congr 1; omega, rfl⟩

/-- LAMP_OUT of the only red-proving channel of a group in STOP or PREPARE is its red failure (R134). -/
theorem redOut_single (shown : s.shown g = .stop ∨ s.shown g = .prepare) (first : 1 ≤ c) (last : c ≤ s.tables.outputs.length)
    (used : (s.tables.output c).used = true) (at' : (s.tables.output c).group.toNat = g) (red : (s.tables.output c).redProving = 1)
    (out : (s.proving c).lampOut = true)
    (only : ∀ n, n ≠ c → (s.tables.output n).used = true → (s.tables.output n).group = (s.tables.output c).group → (s.tables.output n).redProving ≠ 1) :
    s.redOut g = true := by
  have member : (c, s.tables.output c) ∈ (numberedEntries s.tables.outputs).filter
      (fun (_, r) => r.used && decide (r.group.toNat = g) && decide (r.redProving = 1)) :=
    List.mem_filter.mpr ⟨mem_numberedEntries first last, by simp [used, at', red]⟩
  have all : ∀ x ∈ (numberedEntries s.tables.outputs).filter (fun (_, r) => r.used && decide (r.group.toNat = g) && decide (r.redProving = 1)),
      (s.proving x.1).lampOut = true := fun (n, r) here => by
    obtain ⟨listed, counts⟩ := List.mem_filter.mp here
    have record : s.tables.output n = r := by
      unfold TableSet.output entryD
      rw [entry?_of_mem_numberedEntries listed]
      rfl
    simp only [Bool.and_eq_true, decide_eq_true_eq] at counts
    obtain ⟨⟨names, of⟩, proves⟩ := counts
    by_cases same : n = c
    · rw [same]; exact out
    · exact absurd (record ▸ proves) (only n same (by rw [record]; exact names) (BitVec.eq_of_toNat_eq (by rw [record, of, at'])))
  unfold State.redOut
  dsimp only
  rw [Bool.and_eq_true, Bool.and_eq_true]
  exact ⟨⟨by simpa using shown, by simpa using List.ne_nil_of_mem member⟩, List.all_eq_true.mpr fun x here => all x here⟩

end Sys2Proof.Machine

namespace Sys2Proof.Machine

open Sys2Proof.Safety

variable {br : BranchId} {station c g : Nat} {image : Byte} {current : Half} {currents : List Half} {s t u v : State} {l : Liveness} {j : Judged}

/-! #### The state behind the judging -/

theorem judged_proving (first : 1 ≤ c) (last : c ≤ s.prover.channels.length) :
    (s.judged c current).proving c = (judgeReading (s.tables.output c) current s.clock.now (s.proving c)).1 := entryD_changeEntry_same first last _ _

/-- What the judging of one channel leaves of the state, and the handing on of its finding. -/
theorem staysOn_finding (current : Half) (kept : List Branch) (s : State) :
    StaysOn (fun kind subject => kind = (s.proving c).faultKind ∧ subject = some c) { (openEvent s).judged c current with branches := kept }
      (handFindings [s.finding c current] { (openEvent s).judged c current with branches := kept }) :=
  staysOn_handFindings (fun j member => by rw [List.mem_singleton.mp member]; exact ⟨rfl, rfl⟩) _

/-- The fault list behind the handing on of the finding of one channel. -/
theorem finding_faults (current : Half) (kept : List Branch) (law : faultLaw s = true) :
    (handFindings [s.finding c current] { (openEvent s).judged c current with branches := kept }).faults.Well
      ∧ (handFindings [s.finding c current] { (openEvent s).judged c current with branches := kept }).faults.entries.length ≤ s.faults.entries.length + 1
      ∧ ∀ kind subject, NotLamp kind subject → notActive s kind subject →
        notActive (handFindings [s.finding c current] { (openEvent s).judged c current with branches := kept }) kind subject := by
  have well : s.faults.Well := faultLaw_iff.mp law
  have recorded := (staysOn_finding (c := c) current kept s).faults
  refine ⟨recorded.well well, ?_, fun kind subject other quiet => ?_⟩
  · exact recorded.length well [((s.proving c).faultKind, some c)] fun kind subject is => by rw [is.1, is.2]; exact List.mem_cons_self ..
  · exact recorded.quiet well kind subject (fun is => faultKind_lamp (c := c) (s.proving c) (is.1 ▸ is.2 ▸ other)) quiet

/-! #### The field conflict -/

theorem rivalReleased_iff : s.rivalReleased g = true ↔ ∃ i, s.tables.conflict i g = true ∧ (s.shown i = .prepare ∨ s.shown i = .go) := by
  unfold State.rivalReleased TableSet.conflicting
  rw [List.any_eq_true]
  refine ⟨fun ⟨i, member, shown⟩ => ⟨i, (List.mem_filter.mp member).2, by simpa using shown⟩, fun ⟨i, conflict, shown⟩ => ⟨i, ?_, by simpa using shown⟩⟩
  have live : s.tables.live i = true := by
    unfold TableSet.conflict at conflict
    simp only [Bool.and_eq_true] at conflict
    exact conflict.1.1
  exact List.mem_filter.mpr ⟨by simpa [TableSet.liveGroups] using live_iff.mp live, conflict⟩

/-- A reading of a go lamp with foreign current makes the field-conflict check (log 36). -/
theorem checksConflict_judged {kept : List Branch} (first : 1 ≤ c) (last : c ≤ s.prover.channels.length)
    (entry : entry? currents (s.tables.output c).output.toNat = some current) (lamp : (s.tables.output c).goLamp = true)
    (foreign : (judgeReading (s.tables.output c) current s.clock.now (s.proving c)).1.foreign = true)
    (checks : (s.proving c).proved = some .on
      ∨ (s.proving c).proved = some .off ∧ (s.tables.output c).offThreshold.toNat ≤ current.toNat + (s.tables.output c).hysteresis.toNat ∧ current ≠ 0) :
    ({ (openEvent s).judged c current with branches := kept } : State).checksConflict currents c = true := by
  have proving : ({ (openEvent s).judged c current with branches := kept } : State).proving c
      = (judgeReading (s.tables.output c) current s.clock.now (s.proving c)).1 := judged_proving (s := openEvent s) first last
  have tables : ({ (openEvent s).judged c current with branches := kept } : State).tables = s.tables := rfl
  unfold State.checksConflict
  rw [proving, tables]
  dsimp only
  rw [entry]
  simp only [lamp, foreign, judgeReading_proved, Option.getD_some, Bool.and_eq_true, Bool.or_eq_true, decide_eq_true_eq, Bool.not_eq_true', true_and]
  refine checks.imp id fun ⟨off, high, some'⟩ => ⟨off, Bool.eq_false_iff.mpr fun releases => ?_⟩
  rcases releasesForeign_iff.mp releases with low | ⟨-, zero⟩
  · omega
  · exact some' zero

/-- A field conflict takes RUNNING to LOCKOUT (R133, R135). -/
theorem fieldConflict_event (up : s.up = true) (mode : s.control.mode = .running) (answers : s.answersPoll br station .output = true)
    (usable : s.usable br (some image) = true) (record : (s.branch br).record station = some l) (present : l.present = true) (unlagged : l.lagging = false)
    (member : c ∈ s.channelsOfStation station) (last : c ≤ s.prover.channels.length)
    (only : ∀ n, s.tables.proved n = true → (s.tables.output n).station.toNat = station → n = c)
    (entry : entry? currents (s.tables.output c).output.toNat = some current)
    (red : (s.tables.output c).redProving ≠ 1) (lamp : (s.tables.output c).goLamp = true)
    (foreign : (judgeReading (s.tables.output c) current s.clock.now (s.proving c)).1.foreign = true)
    (checks : (s.proving c).proved = some .on
      ∨ (s.proving c).proved = some .off ∧ (s.tables.output c).offThreshold.toNat ≤ current.toNat + (s.tables.output c).hysteresis.toNat ∧ current ≠ 0)
    (rival : ∃ i, s.tables.conflict i (s.tables.output c).group.toNat = true ∧ (s.shown i = .prepare ∨ s.shown i = .go)) :
    ∃ t, exec (.lstReceived br station (some image) currents) s = .next t ∧ transferred s t .lockout .faultLockout
      ∧ t.control.recordOp = .writing .fieldConflict (some (s.tables.output c).group.toNat) ∧ t.store.op = .record ∧ t.store.nv.record.isSome = true
      ∧ (faultLaw s = true → s.faults.entries.length < 30 → notActive s .fieldConflict (some (s.tables.output c).group.toNat) →
        listed t .fieldConflict (some (s.tables.output c).group.toNat) false .lockout) := by
  obtain ⟨effect, kept, counted, groups, ran, is, -, single⟩ := lst_single up answers usable record present unlagged member only entry
  have first : 1 ≤ c := (mem_channelsOfStation.mp member).1.1
  have conflicts : ({ (openEvent s).judged c current with branches := kept } : State).fieldConflicts station currents = [(s.tables.output c).group.toNat] := by
    have checked := checksConflict_judged (kept := kept) (s := s) first last entry lamp foreign checks
    have released : ({ (openEvent s).judged c current with branches := kept } : State).rivalReleased (s.tables.output c).group.toNat = true :=
      rivalReleased_iff.mpr rival
    rw [fieldConflicts_single (c := c) (by exact single), checked]
    exact if_pos released
  have handed : handedOn station currents [s.finding c current] { (openEvent s).judged c current with branches := kept }
      = leavePermit .lockout .faultLockout (some (.fieldConflict, some (s.tables.output c).group.toNat))
        (note (fieldConflictRaise (s.tables.output c).group.toNat) (handFindings [s.finding c current] { (openEvent s).judged c current with branches := kept })) := by
    have none' : ({ (openEvent s).judged c current with branches := kept } : State).redChanges [s.finding c current] = [] := redChanges_none (by exact red)
    unfold handedOn
    rw [conflicts, none']
    have fired := raise_lockout_running (r := fieldConflictRaise (s.tables.output c).group.toNat)
      (s := handFindings [s.finding c current] { (openEvent s).judged c current with branches := kept }) rfl
      (by rw [(staysOn_finding (c := c) current kept s).control]; exact mode)
    exact fired
  have stays := (staysOn_finding (c := c) current kept s)
  have lists := fun law => finding_faults (c := c) (s := s) current kept law
  rw [handed] at is
  generalize handFindings [s.finding c current] { (openEvent s).judged c current with branches := kept } = w at *
  have ends := lockout_end (by exact is) (RedsEnded.refl _)
  obtain ⟨moved, op, stored, isSome⟩ := ends.lockedOut (intended_asEvent (answer := id) id_onlyLink effect s) (by simp [stays.control]; rfl) (by simp [stays.exchange])
    (by simp [stays.store]) (by simp [stays.engine])
  refine ⟨_, ran, moved, op, stored, isSome, fun law room quiet => ?_⟩
  obtain ⟨well, length, others⟩ := lists law
  obtain ⟨e, member, kind, subject, -, action, -, -, active⟩ := note_lists (r := fieldConflictRaise (s.tables.output c).group.toNat) (s := w) (by omega)
  refine ends.listed (note_well well) ⟨nofun, nofun, nofun, nofun⟩ ⟨e, member, kind, subject, active (others _ _ ⟨nofun, nofun⟩ quiet), action⟩

end Sys2Proof.Machine

/-! ### A lamp report that finds a red failure (R134) -/

namespace Sys2Proof.Machine

open Sys2Proof.Safety

variable {br : BranchId} {station c g : Nat} {image : Byte} {current : Half} {currents : List Half} {s t u v : State} {l : Liveness} {j : Judged}

/-- What brings a red failure about: a station with the one channel `c`, on which LAMP_OUT has qualified, and which alone proves the red of a live group
that is shown STOP or PREPARE. -/
structure RedFound (station : Nat) (currents : List Half) (current : Half) (c : Nat) (s : State) : Prop where
  member : c ∈ s.channelsOfStation station
  last : c ≤ s.prover.channels.length
  only : ∀ n, s.tables.proved n = true → (s.tables.output n).station.toNat = station → n = c
  entry : entry? currents (s.tables.output c).output.toNat = some current
  red : (s.tables.output c).redProving = 1
  foreign : (s.proving c).foreign = false
  on : (s.proving c).proved = some .on
  qualified : (judgeReading (s.tables.output c) current s.clock.now (s.proving c)).2 = .qualified
  service : inService s (s.tables.output c).group.toNat = true
  shown : s.shown (s.tables.output c).group.toNat = .stop ∨ s.shown (s.tables.output c).group.toNat = .prepare
  off : s.redFail (s.tables.output c).group.toNat = false
  marks : (s.tables.output c).group.toNat ≤ s.prover.redFail.length
  alone : ∀ n, n ≠ c → (s.tables.output n).used = true → (s.tables.output n).group = (s.tables.output c).group → (s.tables.output n).redProving ≠ 1

/-- The lamp of the channel is out behind the judging. -/
theorem judgeReading_out {r : ChannelRec} {now : Time} {x : Proving} (on : x.proved = some .on) (qualified : (judgeReading r current now x).2 = .qualified) :
    (judgeReading r current now x).1.lampOut = true ∧ (judgeReading r current now x).1.foreign = x.foreign := by
  rw [judgeReading_eq, if_pos on] at qualified ⊢
  refine ⟨?_, (judgeOn_keeps r current now x).2.1⟩
  cases out : x.lampOut with
  | true =>
    rw [judgeOn_out out] at qualified
    repeat' split at qualified
    all_goals cases qualified
  | false =>
    by_cases low : current.toNat < r.onThreshold.toNat
    · rw [judgeOn_dark out low] at qualified ⊢
      cases run : x.outRun with
      | none =>
        rw [run] at qualified
        cases qualified
      | some start =>
        rw [run, Option.elim_some] at qualified
        rw [Option.elim_some]
        split at qualified
        · next long => rw [if_pos long]
        · cases qualified
    · rw [judgeOn_lit out (by omega)] at qualified
      cases qualified

namespace RedFound

variable (h : RedFound station currents current c s)

include h

theorem first : 1 ≤ c := (mem_channelsOfStation.mp h.member).1.1

theorem used : (s.tables.output c).used = true := by
  have proved := (mem_channelsOfStation.mp h.member).2.1
  unfold TableSet.proved at proved
  simp only [Bool.and_eq_true] at proved
  exact proved.1

theorem live : s.tables.live (s.tables.output c).group.toNat = true := (inService_iff.mp h.service).2

theorem lampOut (kept : List Branch) : (({ (openEvent s).judged c current with branches := kept } : State).proving c).lampOut = true
    ∧ (({ (openEvent s).judged c current with branches := kept } : State).proving c).foreign = false := by
  have proving : ({ (openEvent s).judged c current with branches := kept } : State).proving c
      = (judgeReading (s.tables.output c) current s.clock.now (s.proving c)).1 := judged_proving (s := openEvent s) h.first h.last
  obtain ⟨out, foreign⟩ := judgeReading_out h.on h.qualified
  rw [proving]
  exact ⟨out, foreign.trans h.foreign⟩

/-- The red-failure condition holds on every state with the judged channel on which the group is still shown STOP or PREPARE. -/
theorem redOut (kept : List Branch) (channels : t.prover.channels = ((openEvent s).judged c current).prover.channels) (active : t.store.active = s.store.active)
    (shown : t.shown (s.tables.output c).group.toNat = .stop ∨ t.shown (s.tables.output c).group.toNat = .prepare) :
    t.redOut (s.tables.output c).group.toNat = true := by
  have tables : t.tables = s.tables := tables_congr active
  have range := (mem_channelsOfStation.mp h.member).1
  refine redOut_single (c := c) shown range.1 (by rw [tables]; exact range.2) (by rw [tables]; exact h.used) (by rw [tables]) (by rw [tables]; exact h.red) ?_
    fun n other names at' => by rw [tables] at names at' ⊢; exact h.alone n other names at'
  rw [proving_of_channels (s := { (openEvent s).judged c current with branches := kept }) channels c]
  exact (h.lampOut kept).1

theorem kind : (s.finding c current).kind = .lampOut := if_pos h.on

/-- What the report hands on. -/
theorem handedOn_eq (kept : List Branch) :
    handedOn station currents [s.finding c current] { (openEvent s).judged c current with branches := kept }
        = handRed ((s.tables.output c).group.toNat, true) (handFindings [s.finding c current] { (openEvent s).judged c current with branches := kept })
      ∧ foreignReleased [s.finding c current] = [] := by
  refine ⟨?_, foreignReleased_none (by rw [h.kind]; exact nofun)⟩
  have single : ({ (openEvent s).judged c current with branches := kept } : State).channelsOfStation station = [c] :=
    eq_singleton_of_nodup (channelsOfStation_nodup _ station) h.member fun n here => by
      obtain ⟨-, proved, at'⟩ := mem_channelsOfStation.mp here
      exact h.only n proved at'
  have conflicts : ({ (openEvent s).judged c current with branches := kept } : State).fieldConflicts station currents = [] := by
    rw [fieldConflicts_single single, if_neg]
    unfold State.checksConflict
    dsimp only
    rw [(h.lampOut kept).2]
    simp
  have reds : ({ (openEvent s).judged c current with branches := kept } : State).redChanges [s.finding c current] = [((s.tables.output c).group.toNat, true)] :=
    redChanges_single h.kind (by show (judgeReading _ _ _ _).2 ≠ _; rw [h.qualified]; exact nofun) rfl h.red h.live (h.redOut kept rfl rfl h.shown) h.off
  unfold handedOn
  rw [conflicts, reds]
  rfl

end RedFound

end Sys2Proof.Machine

namespace Sys2Proof.Machine

open Sys2Proof.Safety

variable {br : BranchId} {station c g : Nat} {image : Byte} {current : Half} {currents : List Half} {s t u v w : State} {l : Liveness}

/-! #### A red failure with the action LOCKOUT -/

/-- What a new red failure with the action LOCKOUT does in RUNNING (R58, R134, log 38). -/
theorem handRed_lockout (mode : w.control.mode = .running) (action : (w.tables.group g).redFail ≠ 1) (live : w.tables.live g = true) :
    handRed (g, true) w
      = endRedFail g (leavePermit .lockout .faultLockout (some (.redFail, some g)) (note (redFailRaise w.tables g) (setRedFail true g w))) := by
  have fired := raise_lockout_running (r := redFailRaise w.tables g) (s := setRedFail true g w) (if_neg action) mode
  have flash : (leavePermit .lockout .faultLockout (some (.redFail, some g)) (note (redFailRaise w.tables g) (setRedFail true g w))).redOut g = false :=
    redOut_of_flash (flashing_leavePermit _ _ _ _ g (by rw [tables_congr (s := w) (by simp)]; exact live))
  unfold handRed
  dsimp only
  rw [if_pos rfl, fired]
  exact if_neg (by rw [show (some ((redFailRaise w.tables g).kind, (redFailRaise w.tables g).subject)) = some (FaultKind.redFail, some g) from rfl, flash]; decide)

theorem redListed_note (well : w.faults.Well) (room : w.faults.entries.length < 32) (marks : g ≤ w.prover.redFail.length) (first : 1 ≤ g)
    (action : (w.tables.group g).redFail ≠ 1) : RedListed g (note (redFailRaise w.tables g) (setRedFail true g w)) := by
  obtain ⟨e, member, kind, subject, -, asks, -⟩ := note_lists (r := redFailRaise w.tables g) (s := setRedFail true g w) room
  refine ⟨note_well (s := setRedFail true g w) well, e, member, kind, subject, asks.trans (if_neg action), fun _ => ?_⟩
  rw [redFail_of_prover (s := setRedFail true g w) (by simp) g]
  exact entryD_changeEntry_same first marks _ _

theorem redLockout_event (up : s.up = true) (mode : s.control.mode = .running) (answers : s.answersPoll br station .output = true)
    (usable : s.usable br (some image) = true) (record : (s.branch br).record station = some l) (present : l.present = true) (unlagged : l.lagging = false)
    (h : RedFound station currents current c s) (action : (s.tables.group (s.tables.output c).group.toNat).redFail ≠ 1) :
    ∃ t, exec (.lstReceived br station (some image) currents) s = .next t ∧ transferred s t .lockout .faultLockout
      ∧ t.control.recordOp = .writing .redFail (some (s.tables.output c).group.toNat) ∧ t.store.op = .record
      ∧ t.redFail (s.tables.output c).group.toNat = false
      ∧ (faultLaw s = true → s.faults.entries.length < 30 → listed t .redFail (some (s.tables.output c).group.toNat) false .lockout) := by
  obtain ⟨effect, kept, counted, groups, ran, is, -, -⟩ := lst_single up answers usable record present unlagged h.member h.only h.entry
  obtain ⟨handed, -⟩ := h.handedOn_eq kept
  have stays := staysOn_finding (c := c) current kept s
  have prover : (handFindings [s.finding c current] { (openEvent s).judged c current with branches := kept }).prover.redFail = s.prover.redFail := by simp; rfl
  have lists := fun law => finding_faults (c := c) (s := s) current kept law
  rw [handed] at is
  generalize handFindings [s.finding c current] { (openEvent s).judged c current with branches := kept } = w at *
  have tables : w.tables = s.tables := tables_congr (by rw [stays.store]; rfl)
  have live : w.tables.live (s.tables.output c).group.toNat = true := by rw [tables]; exact h.live
  have action' : (w.tables.group (s.tables.output c).group.toNat).redFail ≠ 1 := by rw [tables]; exact action
  rw [handRed_lockout (by rw [stays.control]; exact mode) action' live] at is
  have reds := redsEnded_endRedFail (s.tables.output c).group.toNat
    (leavePermit .lockout .faultLockout (some (.redFail, some (s.tables.output c).group.toNat))
      (note (redFailRaise w.tables (s.tables.output c).group.toNat) (setRedFail true (s.tables.output c).group.toNat w)))
  have ends := lockout_end (by exact is) reds
  obtain ⟨moved, op, stored, -⟩ := (ends.since reds).lockedOut (intended_asEvent (answer := id) id_onlyLink effect s) (by simp [stays.control]; rfl)
    (by simp [stays.exchange]) (by simp [stays.store]) (by simp [stays.engine])
  have off := ends.reds (s.tables.output c).group.toNat (by rw [endRedFail_redFail, if_pos rfl])
  refine ⟨_, ran, moved, op, stored, off, fun law room => ?_⟩
  obtain ⟨well, length, -⟩ := lists law
  have first : 1 ≤ (s.tables.output c).group.toNat := (live_iff.mp h.live).1
  have noted := redListed_note (g := (s.tables.output c).group.toNat) well (by omega) (by rw [prover]; exact h.marks) first action'
  obtain ⟨permit, stack, flashing⟩ := takenAt_flashing (groups := groups) (counted := counted) reds
  have concluded := (((noted.leavePermit _ _ _).endRedFail _).congr (t := takenAt groups counted _) rfl rfl).conclude permit stack flashing
  obtain ⟨-, e, member, kind, subject, asks, active⟩ := (RedListed.asEvent (effect := effect) (s := s) (by rw [is]; exact concluded))
  exact ⟨e, member, kind, subject, Bool.eq_false_iff.mpr fun on => Bool.false_ne_true (off.symm.trans (active on)), asks⟩

end Sys2Proof.Machine

namespace Sys2Proof.Machine

open Sys2Proof.Safety

variable {br : BranchId} {station c g : Nat} {image : Byte} {current : Half} {currents : List Half} {s t u v w : State} {l : Liveness}

/-! #### An event that moves no group keeps its mode -/

theorem conclude_calm_control (h : u.Calm) (open' : u.control.mode ≠ .closing) (image : u.shownImage = u.event.before) :
    (conclude u).control = u.control := by
  have settled := settle_calm h roundLimit
  have shut : closeIfDone (settle roundLimit u) = u := by
    rw [settled]
    exact if_neg fun done => open' done.1
  have before := before_judgedAt u
  have groups : (judgedAt u).engine.groups = u.engine.groups := by rw [(judgedAt_frame u).2.2.2.2.2, settled]
  have quiet : evaluateShown (noticeGo u) = noticeGo u := by
    unfold judgedAt at before groups
    rw [settled] at before groups
    unfold evaluateShown
    exact if_pos (by rw [before, shownImage_of_groups groups, image])
  unfold conclude
  rw [shut, quiet]
  simp

/-! #### An event from RUNNING ends in RUNNING or with every live group shown FLASH -/

/-- The mode is RUNNING, or every live group is shown FLASH. -/
def RunsOrFlashes (s : State) : Prop := s.control.mode = .running ∨ Flashing s

theorem RunsOrFlashes.congr (h : RunsOrFlashes s) (control : t.control = s.control) (groups : t.engine.groups = s.engine.groups)
    (active : t.store.active = s.store.active) : RunsOrFlashes t :=
  h.imp (fun mode => by rw [control]; exact mode) (fun flashing => flashing.congr groups active)

theorem RunsOrFlashes.raise (h : RunsOrFlashes s) {r : Raise} (action : r.action = .report ∨ r.action = .lockout) : RunsOrFlashes (raise r s) := by
  have noted : RunsOrFlashes (note r s) := h.congr (by simp) (by simp) (by simp)
  have still : r.action = .report → Machine.raise r s = note r s := fun report => by
    unfold Machine.raise takeAction
    rw [report]
  rcases action with report | lockout
  · rw [still report]
    exact noted
  · rcases h with running | flashing
    · rw [raise_lockout_running lockout running]
      exact .inr (flashing_leavePermit _ _ _ _)
    · have shows : Flashing (note r s) := flashing.congr (by simp) (by simp)
      have active : (Machine.raise r s).store.active = (note r s).store.active := by unfold Machine.raise; simp
      rcases takeAction_engine r .flash (note r s) with same | same
      · exact .inr (shows.congr (congrArg Engine.groups same) active)
      · refine .inr (Flashing.congr (s := showFlash (note r s)) (fun g live => showFlash_shown ?_) (congrArg Engine.groups same) (active.trans (by simp)))
        rwa [tables_congr (s := note r s) (by simp)] at live

theorem RunsOrFlashes.handRed (h : RunsOrFlashes s) (change : Nat × Bool) : RunsOrFlashes (handRed change s) := by
  have ended : ∀ {x : State}, RunsOrFlashes x → RunsOrFlashes (endRedFail change.1 x) := fun hx => hx.congr (by simp) (by simp) (by simp)
  have raised : RunsOrFlashes (Machine.raise (redFailRaise s.tables change.1) (setRedFail true change.1 s)) := by
    refine RunsOrFlashes.raise (s := setRedFail true change.1 s) (h.congr rfl rfl rfl) ?_
    unfold redFailRaise
    dsimp only
    split
    · exact .inl rfl
    · exact .inr rfl
  unfold Machine.handRed
  dsimp only
  split
  · split
    · exact raised
    · exact ended raised
  · exact ended h

theorem RunsOrFlashes.conclude (running : u.control.mode = .running) : RunsOrFlashes (conclude u) := by
  have control : (settle roundLimit u).control = u.control := by simp
  have shut : closeIfDone (settle roundLimit u) = settle roundLimit u := if_neg fun done => by
    rw [control, running] at done
    cases done.1
  have start : RunsOrFlashes (noticeGo (settle roundLimit u)) := .inl (by simpa using running)
  have judged : RunsOrFlashes (evaluateShown (noticeGo (settle roundLimit u))) := by
    unfold evaluateShown
    split
    · exact start
    · exact eachOf_holds RunsOrFlashes Machine.handRed (fun change x hx => hx.handRed change) _ _ start
  rw [conclude_eq, shut]
  unfold finish
  exact judged.congr (by simp) (by simp [numberImage_groups]) (by simp)

/-- An event from RUNNING that shows a live group otherwise than FLASH ends in RUNNING. -/
theorem running_of_shown (running : u.control.mode = .running) (live : u.tables.live g = true) (shown : (conclude u).shown g ≠ .flash) :
    (conclude u).control.mode = .running := by
  rcases RunsOrFlashes.conclude running with stays | flashing
  · exact stays
  · exact absurd (flashing g (by rw [tables_congr (s := u) (by simp)]; exact live)) shown

/-! #### A red failure with the action REPORT -/

/-- What the report of a red failure with the action REPORT does (R134). -/
theorem handRed_report (action : (w.tables.group g).redFail = 1) (out : (note (redFailRaise w.tables g) (setRedFail true g w)).redOut g = true) :
    handRed (g, true) w = note (redFailRaise w.tables g) (setRedFail true g w) := by
  have still : raise (redFailRaise w.tables g) (setRedFail true g w) = note (redFailRaise w.tables g) (setRedFail true g w) := by
    unfold raise takeAction
    rw [show (redFailRaise w.tables g).action = .report from if_pos action]
  unfold handRed
  dsimp only
  rw [if_pos rfl, still]
  exact if_pos out

/-- The kinds and subjects but RED_FAIL of one group. -/
def NotRedOf (g : Nat) (kind : FaultKind) (subject : Option Nat) : Prop := ¬ (kind = .redFail ∧ subject = some g)

/-- RED_FAIL stands through the conclusion of an event that leaves its group in STOP or PREPARE. -/
theorem red_stands (running : u.control.mode = .running) (live : u.tables.live g = true) (red : u.redFail g = true)
    (out : ∀ x : State, x.prover = u.prover → x.store = u.store → (x.shown g = .stop ∨ x.shown g = .prepare) → x.redOut g = true)
    (shown : (conclude u).shown g = .stop ∨ (conclude u).shown g = .prepare) : RunningEnd (NotRedOf g) u (conclude u) := by
  have stays := running_of_shown running live (by rcases shown with is | is <;> rw [is] <;> exact nofun)
  obtain ⟨-, -, store, prover, -⟩ := judgedAt_frame u
  have same : (judgedAt u).shown g = (conclude u).shown g := congrArg Group.shown (group_congr (conclude_running_groups stays).symm g)
  refine conclude_running (fun _ is => nomatch is.1) (fun k differ is => differ ?_) stays
  obtain rfl : k = g := Option.some.inj is.2
  rw [out _ prover store (by rw [same]; exact shown), redFail_of_prover prover, red]

/-- The state of the event at which the red failure of group `g` has been reported, with the action REPORT. -/
structure RedNoted (g : Nat) (s x : State) : Prop where
  control : x.control = s.control
  exchange : x.exchange = s.exchange
  preempt : x.preempt = s.preempt
  engine : x.engine = s.engine
  store : x.store = s.store
  scope : x.event.concerned = [] ∧ x.event.enteredGo = [] ∧ x.event.modeChanged = false ∧ x.event.before = s.shownImage
  red : x.redFail g = true
  out : ∀ y : State, y.prover.channels = x.prover.channels → y.store = x.store → (y.shown g = .stop ∨ y.shown g = .prepare) → y.redOut g = true
  listed : faultLaw s = true → s.faults.entries.length < 30 → x.faults.Well ∧ Safety.listed x .redFail (some g) true .report

theorem RedFound.noted (h : RedFound station currents current c s) (kept : List Branch)
    (action : (s.tables.group (s.tables.output c).group.toNat).redFail = 1) :
    ∃ x, handRed ((s.tables.output c).group.toNat, true) (handFindings [s.finding c current] { (openEvent s).judged c current with branches := kept }) = x
      ∧ RedNoted (s.tables.output c).group.toNat s x := by
  have stays := staysOn_finding (c := c) current kept s
  have lists := fun law => finding_faults (c := c) (s := s) current kept law
  have prover : (handFindings [s.finding c current] { (openEvent s).judged c current with branches := kept }).prover = ((openEvent s).judged c current).prover := by
    simp
  have event : (handFindings [s.finding c current] { (openEvent s).judged c current with branches := kept }).event.concerned = []
      ∧ (handFindings [s.finding c current] { (openEvent s).judged c current with branches := kept }).event.enteredGo = []
      ∧ (handFindings [s.finding c current] { (openEvent s).judged c current with branches := kept }).event.modeChanged = false := by
    rw [handFindings_qualified (by exact h.qualified), note_event]
    exact ⟨rfl, rfl, rfl⟩
  generalize handFindings [s.finding c current] { (openEvent s).judged c current with branches := kept } = w at *
  have tables : w.tables = s.tables := tables_congr (by rw [stays.store]; rfl)
  have outs : ∀ y : State, y.prover.channels = w.prover.channels → y.store.active = s.store.active →
      (y.shown (s.tables.output c).group.toNat = .stop ∨ y.shown (s.tables.output c).group.toNat = .prepare) → y.redOut (s.tables.output c).group.toNat = true :=
    fun y same held shown => h.redOut kept (same.trans (congrArg Prover.channels prover)) held shown
  have own : ∀ r : Raise, (note r (setRedFail true (s.tables.output c).group.toNat w)).prover.channels = w.prover.channels
      ∧ (note r (setRedFail true (s.tables.output c).group.toNat w)).engine = w.engine
      ∧ (note r (setRedFail true (s.tables.output c).group.toNat w)).store = w.store
      ∧ (note r (setRedFail true (s.tables.output c).group.toNat w)).control = w.control
      ∧ (note r (setRedFail true (s.tables.output c).group.toNat w)).exchange = w.exchange
      ∧ (note r (setRedFail true (s.tables.output c).group.toNat w)).preempt = w.preempt
      ∧ (note r (setRedFail true (s.tables.output c).group.toNat w)).prover.redFail = (setRedFail true (s.tables.output c).group.toNat w).prover.redFail := fun r => by
    simp [setRedFail]
  obtain ⟨channels, engine, store, control, exchange, preempt, reds⟩ := own (redFailRaise w.tables (s.tables.output c).group.toNat)
  have standing : (note (redFailRaise w.tables (s.tables.output c).group.toNat) (setRedFail true (s.tables.output c).group.toNat w)).redOut
      (s.tables.output c).group.toNat = true := by
    refine outs _ channels (by rw [store, stays.store]; rfl) ?_
    have same := group_congr (g := (s.tables.output c).group.toNat) (congrArg Engine.groups (engine.trans stays.engine))
    unfold State.shown
    rw [same]
    exact h.shown
  refine ⟨_, handRed_report (by rw [tables]; exact action) standing, ?_⟩
  refine ⟨control.trans stays.control, exchange.trans stays.exchange, preempt.trans stays.preempt, engine.trans stays.engine, store.trans stays.store, ?_, ?_,
    fun y same held => outs y (same.trans channels) (by rw [held, store, stays.store]; rfl), fun law room => ?_⟩
  · rw [note_event]
    obtain ⟨concerned, entered, moved⟩ := event
    exact ⟨concerned, entered, moved, by show w.event.before = _; rw [stays.scope]; rfl⟩
  · unfold State.redFail
    rw [reds]
    exact entryD_changeEntry_same (live_iff.mp h.live).1 (by rw [prover]; exact h.marks) _ _
  · obtain ⟨well, length, -⟩ := lists law
    obtain ⟨e, member, kind, subject, -, asks, -, active, -⟩ := note_lists (r := redFailRaise w.tables (s.tables.output c).group.toNat)
      (s := setRedFail true (s.tables.output c).group.toNat w) (by show w.faults.entries.length < 32; omega)
    exact ⟨note_well (s := setRedFail true (s.tables.output c).group.toNat w) well, e, member, kind, subject, active rfl, asks.trans (if_pos (by rw [tables]; exact action))⟩

theorem RedNoted.calm {x : State} (h : RedNoted g s x) (mode : s.control.mode = .running) (law : effectiveLaw s) (counted : List Branch) :
    (takenAt [] counted x).Calm := by
  obtain ⟨concerned, entered, moved, -⟩ := h.scope
  have aimed : Aimed s := aimed_of_effectiveLaw (by rw [mode]; rfl) law
  have still : Aimed x := aimed.congr (congrArg Engine.groups h.engine) (by rw [h.control]) (by rw [h.preempt]) (by rw [h.exchange]) (by rw [h.store])
  exact ⟨still.congr rfl rfl rfl rfl rfl, by show x.event.concerned ++ [] = []; rw [concerned]; rfl, entered, moved⟩

theorem redReport_event (up : s.up = true) (mode : s.control.mode = .running) (answers : s.answersPoll br station .output = true)
    (usable : s.usable br (some image) = true) (record : (s.branch br).record station = some l) (present : l.present = true) (unlagged : l.lagging = false)
    (h : RedFound station currents current c s) (action : (s.tables.group (s.tables.output c).group.toNat).redFail = 1) :
    ∃ t, exec (.lstReceived br station (some image) currents) s = .next t ∧ (effectiveLaw s → t.control.mode = .running)
      ∧ ((t.shown (s.tables.output c).group.toNat = .stop ∨ t.shown (s.tables.output c).group.toNat = .prepare) →
        t.redFail (s.tables.output c).group.toNat = true)
      ∧ (faultLaw s = true → s.faults.entries.length < 30 →
        (t.shown (s.tables.output c).group.toNat = .stop ∨ t.shown (s.tables.output c).group.toNat = .prepare) →
        listed t .redFail (some (s.tables.output c).group.toNat) true .report) := by
  obtain ⟨effect, kept, counted, groups, ran, is, released, -⟩ := lst_single up answers usable record present unlagged h.member h.only h.entry
  obtain ⟨handed, none'⟩ := h.handedOn_eq kept
  obtain ⟨x, made, noted⟩ := h.noted kept action
  have live := h.live
  generalize (s.tables.output c).group.toNat = g at *
  rw [none'] at released
  rw [released, handed, made] at is
  have taken : effect (openEvent s) = takenAt [] counted x := is
  have controls : (asEvent effect id s).control = (conclude (takenAt [] counted x)).control := by rw [← taken]; exact (asEvent_blocks id_onlyLink s).1
  have provers : (asEvent effect id s).prover = (conclude (takenAt [] counted x)).prover := by rw [← taken]; exact (asEvent_blocks id_onlyLink s).2.2.2
  have faults : (asEvent effect id s).faults = (conclude (takenAt [] counted x)).faults := by rw [← taken]; exact asEvent_faults id_onlyLink s
  have groups' : (asEvent effect id s).engine.groups = (conclude (takenAt [] counted x)).engine.groups := by
    have same := id_onlyLink (conclude (effect (openEvent s)))
    rw [← taken]
    exact (congrArg (fun y : State => y.engine.groups) same :)
  have stands : ((asEvent effect id s).shown g = .stop ∨ (asEvent effect id s).shown g = .prepare) →
      RunningEnd (NotRedOf g) (takenAt [] counted x) (conclude (takenAt [] counted x)) := fun shown =>
    red_stands (by show x.control.mode = _; rw [noted.control, mode]) (by rw [tables_congr (t := takenAt [] counted x) (s := s) (congrArg Store.active noted.store)]; exact live)
      noted.red (fun y prover store => noted.out y (congrArg Prover.channels prover) store)
      (by unfold State.shown at shown ⊢; rwa [group_congr groups'] at shown)
  refine ⟨_, ran, fun law => ?_, fun shown => ?_, fun law room shown => ?_⟩
  · have image : (takenAt [] counted x).shownImage = (takenAt [] counted x).event.before :=
      (shownImage_of_groups (congrArg Engine.groups noted.engine)).trans noted.scope.2.2.2.symm
    have open' : (takenAt [] counted x).control.mode ≠ .closing := by show x.control.mode ≠ _; rw [noted.control, mode]; exact nofun
    rw [controls, conclude_calm_control (noted.calm mode law counted) open' image]
    show x.control.mode = _
    rw [noted.control, mode]
  · rw [redFail_of_prover provers, (stands shown).reds g (fun out => out ⟨rfl, rfl⟩)]
    exact noted.red
  · obtain ⟨well, e, member, kind, subject, active, asks⟩ := noted.listed law room
    refine ⟨e, ?_, kind, subject, active, asks⟩
    rw [faults]
    exact (stands shown).faults.stays well e member active fun out => out ⟨kind, subject⟩

end Sys2Proof.Machine

namespace Sys2Proof.Machine

open Sys2Proof.Safety

variable {br : BranchId} {station c : Nat} {image : Byte} {current : Half} {currents : List Half} {s t : State} {l : Liveness}

/-- The judging of readings of a channel proved ON and of one proved OFF (R129, R130). -/
theorem readings_judged (r : ChannelRec) (current : Half) (now : Time) (x : Proving) :
    ((judgeOn r current now x).1.last = some (current, now) ∧ (judgeOff r current now x).1.last = some (current, now))
      ∧ ((judgeOn r current now x).1.foreign = x.foreign ∧ (judgeOn r current now x).1.foreignRun = x.foreignRun
        ∧ (judgeOn r current now x).1.foreignReleased = x.foreignReleased ∧ (judgeOff r current now x).1.lampOut = x.lampOut
        ∧ (judgeOff r current now x).1.outRun = x.outRun ∧ (judgeOff r current now x).1.lampOutReleased = x.lampOutReleased) := by
  obtain ⟨onLast, foreign, foreignRun, foreignReleased, -⟩ := judgeOn_keeps r current now x
  obtain ⟨offLast, lampOut, outRun, lampOutReleased, -⟩ := judgeOff_keeps r current now x
  exact ⟨⟨onLast, offLast⟩, foreign, foreignRun, foreignReleased, lampOut, outRun, lampOutReleased⟩

theorem outcome_unique {o : Host.Outcome State Fault Refusal} {a b : State} (first : o = .next a) (second : o = .next b) : a = b := by
  rw [first] at second
  exact Host.Outcome.next.inj second

end Sys2Proof.Machine

namespace Sys2Proof.Proofs

open Sys2Proof Sys2Proof.Machine Sys2Proof.Safety

/-- Settles O58: `judgeReading` by its equations; an event that stays in RUNNING leaves the judged records and findings (`Taken`), and the transfers to
LOCKOUT and the report of a red failure are the event of a station with one channel (`lst_single`). -/
theorem lampReadingsAreJudged : Obligations.LampReadingsAreJudged := by
  unfold Obligations.LampReadingsAreJudged
  refine ⟨fun r current now x => ?_, fun br station image currents s l up mode answers usable record present unlagged c current first last inside proved at' entry => ?_⟩
  · obtain ⟨lasts, others⟩ := readings_judged r current now x
    refine ⟨lasts, others, judgeOn_run, fun sound lit => ?_, judgeOn_release, fun out low => ?_, judgeOff_run, fun sound low => ?_, judgeOff_unlatched,
      judgeOff_latched, judgeOff_foreignRun, judgeReading_eq r current now x⟩
    · rw [judgeOn_lit sound lit]
      exact ⟨rfl, sound, rfl⟩
    · rw [judgeOn_out out, if_neg (by omega)]
      exact ⟨rfl, rfl⟩
    · rw [judgeOff_dark sound low]
      exact ⟨rfl, sound, rfl⟩
  · have member : c ∈ s.channelsOfStation station := mem_channelsOfStation.mpr ⟨⟨first, inside⟩, proved, at'⟩
    obtain ⟨t, kept, ran, taken⟩ := lst_taken up answers usable record present unlagged currents
    have judged := judgeReport_proving (s := { openEvent s with branches := kept }) (station := station) member last entry
    refine ⟨t, ran, fun running => taken.proving running judged (judgeReading_proved _ _ _ _), fun only => ?_⟩
    have single := (judgeReport_single (s := { openEvent s with branches := kept }) (station := station) member only entry).2
    rw [single] at taken
    refine ⟨fun law room running qualified => ?_, fun law running ended => ?_, fun red lamp foreign checks rival => ?_,
      fun red sound on qualified service shown off marks alone => ?_⟩
    · exact taken.qualified running (faultKind_lamp _) qualified (faultLaw_iff.mp law) (by show s.faults.entries.length < 32; omega)
    · exact taken.ended running (faultKind_lamp _) ended (faultLaw_iff.mp law)
    · obtain ⟨t', ran', rest⟩ := fieldConflict_event up mode answers usable record present unlagged member last only entry red lamp foreign checks rival
      rw [outcome_unique ran ran']
      exact rest
    · have found : RedFound station currents current c s :=
        ⟨member, last, only, entry, red, sound, on, qualified, service, shown, off, marks, alone⟩
      refine ⟨fun action => ?_, fun action => ?_⟩
      · obtain ⟨t', ran', rest⟩ := redLockout_event up mode answers usable record present unlagged found action
        rw [outcome_unique ran ran']
        exact rest
      · obtain ⟨t', ran', rest⟩ := redReport_event up mode answers usable record present unlagged found action
        rw [outcome_unique ran ran']
        exact rest

end Sys2Proof.Proofs

/-! ### The conclusion of an event that has taken new tables (R19, R110, R122, R169, R174) -/

namespace Sys2Proof.Machine

open Sys2Proof.Safety

variable {s t u v : State} {br : BranchId} {g : Nat}

/-! #### The marked slots -/

/-- A branch with its slots marked with an image that lights no lamp (R110, log 29). -/
def Branch.marked (image : Byte) (b : Branch) : Branch :=
  { b with
    slots := b.slots.map (fun slot => { slot with image := image, states := List.replicate 16 .off, pending := true })
    applyPending := if b.slots.isEmpty then b.applyPending.map (fun _ => image) else some image }

/-- No group is shown a running aspect. -/
def State.unlit (s : State) : Prop := ∀ g, s.shown g = .flash ∨ s.shown g = .dark

theorem stationStates_unlit (h : s.unlit) (station : Nat) : s.stationStates station = List.replicate 16 .off := by
  have off : ∀ (r : ChannelRec) (g : Nat), r.lamp (s.shown g) = .off := fun r g => by
    rcases h g with is | is <;> rw [is] <;> rfl
  unfold State.stationStates
  refine List.eq_replicate_iff.mpr ⟨by simp [numbers], fun lamp member => ?_⟩
  obtain ⟨k, -, rfl⟩ := List.mem_map.mp member
  split
  · exact off _ _
  · rfl

theorem markBranch_unlit (h : s.unlit) (br : BranchId) : markBranch br s = changeBranch br (Branch.marked s.engine.imageNumber) s := by
  have states := stationStates_unlit h
  unfold markBranch Branch.marked
  simp only [states]

theorem markAll_branch (h : s.unlit) (four : s.branches.length = 4) (br : BranchId) :
    (markAll s).branch br = (s.branch br).marked s.engine.imageNumber := by
  have unlit : ∀ {x : State}, x.engine = s.engine → x.unlit := fun same k => by
    unfold State.shown
    rw [group_congr (congrArg Engine.groups same)]
    exact h k
  refine (eachOf_once (good := fun x => x.branches.length = 4 ∧ x.engine = s.engine ∧ x.branch br = s.branch br)
    (done := fun x => x.engine = s.engine ∧ x.branch br = (s.branch br).marked s.engine.imageNumber) (f := markBranch)
    (fun y x other ⟨length, engine, same⟩ => ⟨(length_changeEntry _ _ _).trans length, engine, (branch_changeBranch_other (Ne.symm other) _ x).trans same⟩)
    (fun x ⟨length, engine, same⟩ => ⟨engine, ?_⟩)
    (fun y x other ⟨engine, same⟩ => ⟨engine, (branch_changeBranch_other (Ne.symm other) _ x).trans same⟩) (mem_branchIds br) (by decide) ⟨four, rfl, rfl⟩).2
  rw [markBranch_unlit (unlit engine), branch_changeBranch_same length, same, engine]

/-! #### The conclusion -/

theorem remark_numberImage (remark : s.event.remark = true) : (numberImage s).event.remark = true := by
  unfold numberImage
  split
  · exact remark
  · simp

/-- What the conclusion of an event leaves of a state `u` in which the blocks have taken new tables. -/
structure TablesTaken (u t : State) : Prop where
  control : t.control = u.control
  store : t.store = u.store
  exchange : t.exchange = u.exchange
  preempt : t.preempt = u.preempt
  detectors : t.detectors = u.detectors
  pending : t.pending = u.pending
  clock : t.clock = u.clock
  faces : t.faces = u.faces
  reds : ∀ g, u.redFail g = false → t.redFail g = false
  proving : ∀ c, t.proving c = u.proving c ∨ t.proving c = (u.proving c).noRuns
  keeps : u.faults.Keeps (· ≠ .redFail) t.faults
  ends : ∃ D, u.faults.EndedBy D t.faults
  quiet : (∀ g, u.redFail g = false) → t.faults = u.faults ∧ (u.event.reports = [] → t.link = u.link)
  branches : u.branches.length = 4 → ∀ br, t.branch br = ((u.branch br).marked t.engine.imageNumber).arbitrate

theorem conclude_taken (flash : u.control.mode.permit = false) (law : aspectLaw u = true) (unlit : u.unlit) (entered : u.event.enteredGo = [])
    (remark : u.event.remark = true) : TablesTaken u (conclude u) := by
  obtain ⟨⟨faces, -, enteredGo, reports, -, remarked, -, control, store⟩, preempt, link, faults⟩ := settle_rest flash law entered roundLimit
  have closing : closeIfDone (settle roundLimit u) = settle roundLimit u := if_neg fun done => by
    rw [← control, done.1] at flash
    cases flash
  have going : noticeGo (settle roundLimit u) = settle roundLimit u := by
    unfold noticeGo
    rw [enteredGo, entered]
    simp [eachOf]
  have exchange : (settle roundLimit u).exchange = u.exchange := by simp
  have prover : (settle roundLimit u).prover = u.prover := by simp
  have detectors : (settle roundLimit u).detectors = u.detectors := by simp
  have branches : (settle roundLimit u).branches = u.branches := by simp
  have pending : (settle roundLimit u).pending = u.pending := by simp
  have clock : (settle roundLimit u).clock = u.clock := by simp
  have sound : ∀ g, (settle roundLimit u).tables.live g = true → (settle roundLimit u).redOut g = false := fun g live => by
    refine redOut_of_flash ?_
    rw [tables_congr (s := u) (congrArg Store.active store)] at live
    exact (congrArg Prod.fst (shown_of_faces faces g)).trans (shown_flash flash law live)
  have concluded : conclude u = handReports (arbitrateAll (markIfDue (numberImage (evaluateShown (settle roundLimit u))))) := by
    unfold conclude
    rw [closing, going]
  rw [concluded]
  generalize settle roundLimit u = v at *
  have judged : RedsEnded v (evaluateShown v) := redsEnded_evaluateShown sound
  have ended : ∃ D, v.faults.EndedBy D (evaluateShown v).faults := by
    unfold evaluateShown
    split
    · exact ⟨_, .refl _⟩
    · exact ⟨_, endedBy_evaluateReds sound⟩
  have still : (∀ g, v.redFail g = false) → evaluateShown v = v := fun none' => by
    unfold evaluateShown
    rw [evaluateReds_quiet sound none', ite_self]
  have own : (evaluateShown v).detectors = v.detectors ∧ (evaluateShown v).pending = v.pending ∧ (evaluateShown v).clock = v.clock := by
    refine ⟨by simp, by simp, by simp⟩
  obtain ⟨detectors', pending', clock'⟩ := own
  generalize evaluateShown v = w at *
  obtain ⟨reds, proving⟩ := numberImage_prover w
  have after : ∀ x : State, (handReports (arbitrateAll (markIfDue x))).engine = x.engine ∧ (handReports (arbitrateAll (markIfDue x))).prover = x.prover := fun x => by simp
  obtain ⟨engine, provers⟩ := after (numberImage w)
  have groups : (numberImage w).engine.groups = v.engine.groups := by rw [numberImage_groups, judged.engine]
  refine ⟨?_, ?_, ?_, ?_, ?_, ?_, ?_, ?_, fun g off => ?_, fun c => ?_, ?_, ?_, fun none' => ⟨?_, fun none'' => ?_⟩, fun four br => ?_⟩
  · simp [judged.control, control]
  · simp [judged.store, store]
  · simp [judged.exchange, exchange]
  · simp [judged.preempt, preempt]
  · simp [detectors', detectors]
  · simp [pending', pending]
  · simp [clock', clock]
  · unfold State.faces at faces ⊢
    rw [engine, groups]
    exact faces
  · rw [redFail_of_prover provers, reds]
    exact judged.reds g ((redFail_of_prover prover g).trans off)
  · rw [proving_of_channels (congrArg Prover.channels provers), ← proving_of_channels (congrArg Prover.channels prover) c,
      ← proving_of_channels judged.channels c]
    exact proving c
  · have keeps := judged.keeps
    rw [faults] at keeps
    simpa using keeps
  · rw [faults] at ended
    simpa using ended
  · have none : ∀ g, v.redFail g = false := fun g => (redFail_of_prover prover g).trans (none' g)
    rw [still none]
    simp [faults]
  · have none : ∀ g, v.redFail g = false := fun g => (redFail_of_prover prover g).trans (none' g)
    have quiet : (arbitrateAll (markIfDue (numberImage v))).event.reports = [] := by simp [reports_numberImage, reports, none'']
    rw [still none, handReports_link, quiet]
    simp [link, sortByKey]
  · have marks : (numberImage w).event.remark = true := remark_numberImage (by rw [judged.event, remarked]; exact remark)
    have unlit' : (numberImage w).unlit := fun g => by
      have same : (numberImage w).shown g = u.shown g :=
        (congrArg Group.shown (group_congr groups g)).trans (congrArg Prod.fst (shown_of_faces faces g))
      rw [same]
      exact unlit g
    have own : (numberImage w).branches = u.branches := by simp [judged.branches, branches]
    have handed : (handReports (arbitrateAll (markIfDue (numberImage w)))).branch br = ((markIfDue (numberImage w)).branch br).arbitrate :=
      (branch_congr (by simp) br).trans (arbitrateAll_branch br _)
    have marked : markIfDue (numberImage w) = markAll (numberImage w) := if_pos marks
    rw [handed, engine, marked, markAll_branch unlit' (by rw [own]; exact four), branch_congr own]

end Sys2Proof.Machine

/-! ### What the blocks make of new tables (R19, R85, R107, R109, R140) -/

namespace Sys2Proof.Machine

open Sys2Proof.Safety

variable {s t u x : State} {br : BranchId} {g p c : Nat}

/-! #### Groups -/

/-- The records of the groups are those that the active tables give afresh. -/
def State.regrouped (u : State) : Prop := u.engine.groups = (retableGroups u).engine.groups

theorem regrouped_of_same (groups : u.engine.groups = (retableGroups x).engine.groups) (active : u.store.active = x.store.active) : u.regrouped := by
  refine groups.trans ?_
  unfold retableGroups
  dsimp only
  rw [tables_congr active]

theorem State.regrouped.group (h : u.regrouped) (g : Nat) :
    u.group g = if 1 ≤ g ∧ g ≤ 24 then (if u.tables.live g then Group.reset else Group.notLive) else Group.reset := by
  rw [group_congr (s := retableGroups u) h, group_def]
  simp only [retableGroups, entry?_map_numbers, Config.groups]
  split <;> rfl

theorem State.regrouped.unlit (h : u.regrouped) : u.unlit := fun g => by
  unfold State.shown
  rw [h.group]
  split
  · split
    · exact .inl rfl
    · exact .inr rfl
  · exact .inl rfl

theorem State.regrouped.aspectLaw (h : u.regrouped) (flash : u.control.mode.permit = false) : Safety.aspectLaw u = true := by
  have length : u.engine.groups.length = Config.groups := by
    rw [h]
    simp [retableGroups, numbers]
  have shown : ∀ g, u.tables.live g = true → u.shown g = .flash := fun g live => by
    unfold State.shown
    rw [h.group, live, if_pos rfl, ite_self]
    rfl
  unfold Safety.aspectLaw
  rw [length, flash, decide_eq_true rfl, Bool.true_and, List.all_eq_true]
  intro g _
  cases live : u.tables.live g with
  | false => rfl
  | true => rw [shown g live]; rfl

/-- What the conclusion leaves of a group in numbers 1 to 24. -/
theorem State.regrouped.faced (h : u.regrouped) (faces : t.faces = u.faces) (first : 1 ≤ g) (last : g ≤ 24) :
    (t.group g).time = 0 ∧ (t.group g).clearance = 0 ∧ t.shown g = (if u.tables.live g then .flash else .dark) := by
  have face := shown_of_faces faces g
  rw [h.group, if_pos ⟨first, last⟩] at face
  cases live : u.tables.live g <;> rw [live] at face <;> injection face with shown rest <;> injection rest with time clearance <;>
    exact ⟨time, clearance, shown⟩

/-! #### Plans -/

/-- Two states with the same plans' sources: all that is read of a source but the plans' own records. -/
structure SameSources (s u : State) : Prop where
  active : u.store.active = s.store.active
  detectors : u.detectors = s.detectors
  slot : u.preempt.slot = s.preempt.slot
  lines : u.preempt.lines = s.preempt.lines
  stack : u.preempt.stack = s.preempt.stack
  length : u.preempt.plans.length = s.preempt.plans.length

theorem SameSources.trans (first : SameSources s t) (later : SameSources t u) : SameSources s u :=
  ⟨later.active.trans first.active, later.detectors.trans first.detectors, later.slot.trans first.slot, later.lines.trans first.lines,
    later.stack.trans first.stack, later.length.trans first.length⟩

theorem SameSources.sourceNow (h : SameSources s u) (p : Nat) : u.sourceNow p = s.sourceNow p := by
  unfold State.sourceNow
  rw [tables_congr h.active, h.detectors, h.slot, h.lines]

theorem sameSources_changePlan (p : Nat) (f : PlanState → PlanState) (s : State) : SameSources s (changePlan p f s) :=
  ⟨rfl, rfl, rfl, rfl, rfl, length_changePlan _ _ _⟩

theorem sameSources_refreshRequest (p : Nat) (s : State) : SameSources s (refreshRequest p s) := by
  unfold refreshRequest
  dsimp only
  split
  · exact sameSources_changePlan _ _ _
  · exact ⟨rfl, rfl, rfl, rfl, rfl, rfl⟩

/-- One plan as the unit takes it from new tables. -/
def retablePlan (p : Nat) (s : State) : State :=
  refreshRequest p (changePlan p (fun x => { x with pending := false, spent := false, limitReported := false, active := s.sourceNow p }) s)

theorem retablePlans_eq (s : State) : retablePlans s = eachOf planNumbers retablePlan s := rfl

theorem sameSources_retablePlan (p : Nat) (s : State) : SameSources s (retablePlan p s) :=
  (sameSources_changePlan p _ s).trans (sameSources_refreshRequest p _)

theorem sameSources_retablePlans (s : State) : SameSources s (retablePlans s) :=
  eachOf_holds (SameSources s) retablePlan (fun p t h => h.trans (sameSources_retablePlan p t)) _ s ⟨rfl, rfl, rfl, rfl, rfl, rfl⟩

/-- What new tables leave of a plan that is not stacked. -/
def PlanState.retabled (r : PlanRec) (source : Bool) (x : PlanState) : PlanState :=
  { pending := r.on && r.level && source, spent := false, active := source, limitReported := false, outcome := x.outcome }

theorem retablePlan_plan (stack : s.preempt.stack = []) (first : 1 ≤ p) (last : p ≤ s.preempt.plans.length) :
    (retablePlan p s).plan p = (s.plan p).retabled (s.tables.plan p) (s.sourceNow p) := by
  unfold retablePlan
  generalize is : changePlan p (fun x => { x with pending := false, spent := false, limitReported := false, active := s.sourceNow p }) s = u
  have same : SameSources s u := is ▸ sameSources_changePlan p _ s
  have plan : u.plan p = { s.plan p with pending := false, spent := false, limitReported := false, active := s.sourceNow p } := by
    rw [← is]
    exact entryD_changeEntry_same first last _ _
  have free : u.stacked p = false := by
    unfold State.stacked
    rw [same.stack, stack]
    rfl
  have again : ∀ f, (changePlan p f u).plan p = f (u.plan p) := fun f => entryD_changeEntry_same first (by rw [same.length]; exact last) f _
  unfold refreshRequest PlanState.retabled
  dsimp only
  rw [free, tables_congr same.active]
  cases held : (s.tables.plan p).on && (s.tables.plan p).level with
  | true => simp [again, plan]
  | false => simp [plan]

theorem retablePlan_plan_other {q : Nat} (other : q ≠ p) (s : State) : (retablePlan p s).plan q = s.plan q :=
  (refreshRequest_plan_other other _).trans (entryD_changeEntry_other other _ _)

theorem retablePlans_plan (stack : s.preempt.stack = []) (length : s.preempt.plans.length = 8) (first : 1 ≤ p) (last : p ≤ 8) :
    (retablePlans s).plan p = (s.plan p).retabled (s.tables.plan p) (s.sourceNow p) := by
  refine eachOf_once (good := fun u => SameSources s u ∧ u.plan p = s.plan p)
    (done := fun u => u.plan p = (s.plan p).retabled (s.tables.plan p) (s.sourceNow p)) (f := retablePlan)
    (fun q u other ⟨same, is⟩ => ⟨same.trans (sameSources_retablePlan q u), (retablePlan_plan_other (Ne.symm other) u).trans is⟩)
    (fun u ⟨same, is⟩ => ?_) (fun q u other is => (retablePlan_plan_other (Ne.symm other) u).trans is)
    (mem_numbers.mpr ⟨first, last⟩) (numbers_nodup _) ⟨⟨rfl, rfl, rfl, rfl, rfl, rfl⟩, rfl⟩
  rw [retablePlan_plan (same.stack.trans stack) first (by rw [same.length, length]; exact last), is, same.sourceNow, tables_congr same.active]

/-! #### Detector channels -/

theorem loadDetectors_detector (first : 1 ≤ c) (last : c ≤ 48) (s : State) :
    (loadDetectors s).detector c
      = if (s.tables.detector c).station = 0 then none else some (Detector.fresh (s.tables.detector c) s.clock.now) := by
  unfold State.detector loadDetectors
  simp only [entryD, entry?_map_numbers, Config.detectors, first, last, and_self, if_true, Option.getD_some, DetectorRec.used, decide_eq_true_eq]
  by_cases free : (s.tables.detector c).station = 0 <;> simp [free]

theorem loadDetectors_vacant {d : Detector} (at' : entryD (loadDetectors s).detectors c none = some d) : d.occupied = false := by
  unfold loadDetectors at at'
  simp only [entryD, entry?_map_numbers] at at'
  split at at'
  · split at at'
    · obtain rfl := Option.some.inj at'
      rfl
    · exact nomatch at'
  · exact nomatch at'

/-- With fresh detector records a source is a line or the slot's call. -/
theorem sourceNow_loadDetectors (slot : t.preempt.slot = s.preempt.slot) (lines : t.preempt.lines = s.preempt.lines) (p : Nat) :
    (loadDetectors t).sourceNow p = sourceAfresh s (loadDetectors t) p := by
  unfold State.sourceNow sourceAfresh
  dsimp only
  rw [show (loadDetectors t).preempt = t.preempt from rfl, slot, lines]
  cases ((loadDetectors t).tables.plan p).on with
  | false => rfl
  | true =>
    cases ((loadDetectors t).tables.plan p).remote with
    | true => rfl
    | false =>
      by_cases line : ((loadDetectors t).tables.plan p).source.toNat < 6
      · simp [line]
      · simp only [if_true, line, if_false, decide_false, Bool.false_and, Bool.true_and, reduceCtorEq]
        cases found : entryD (loadDetectors t).detectors (((loadDetectors t).tables.plan p).source.toNat - 5) none with
        | none => rfl
        | some d =>
          dsimp only
          rw [loadDetectors_vacant found]
          rfl

/-- The preemption unit and the conditioner have taken new tables over `x`. -/
theorem inputsRetaken_of (is : u = retablePlans (loadDetectors x)) (clock : x.clock.now = s.clock.now) (stack : x.preempt.stack = s.preempt.stack)
    (slot : x.preempt.slot = s.preempt.slot) (lines : x.preempt.lines = s.preempt.lines)
    (plans : s.preempt.stack = [] → x.preempt.plans.length = s.preempt.plans.length ∧ ∀ p, (x.plan p).outcome = (s.plan p).outcome)
    (preempt : t.preempt = u.preempt) (detectors : t.detectors = u.detectors) (active : t.store.active = u.store.active) : inputsRetaken s t := by
  have same : SameSources (loadDetectors x) u := is ▸ sameSources_retablePlans _
  have tables : t.tables = (loadDetectors x).tables := tables_congr (active.trans same.active)
  have aside : ∀ p, sourceAfresh s (loadDetectors x) p = sourceAfresh s t p := fun p => by
    unfold sourceAfresh
    rw [tables]
  refine ⟨fun c first last => ?_, ?_, ?_, ?_, fun empty eight p first last => ?_⟩
  · rw [show t.detector c = (loadDetectors x).detector c from congrArg (fun l => entryD l c none) (detectors.trans same.detectors), tables,
      loadDetectors_detector first last, clock]
    rfl
  · rw [preempt, same.stack]; exact stack
  · rw [preempt, same.slot]; exact slot
  · rw [preempt, same.lines]; exact lines
  · obtain ⟨length, outcome⟩ := plans empty
    have plan : t.plan p = (retablePlans (loadDetectors x)).plan p := by
      unfold State.plan
      rw [preempt, is]
    rw [plan, retablePlans_plan (s := loadDetectors x) (stack.trans empty) (length.trans eight) first last, sourceNow_loadDetectors slot lines, aside, ← tables]
    unfold PlanState.retabled
    rw [show ((loadDetectors x).plan p).outcome = (s.plan p).outcome from outcome p]

/-! #### Branches -/

/-- A branch with the records and slots of new tables, not yet marked. -/
def Branch.afresh (stations : List StationRec) (b : Branch) : Branch :=
  { b with
    liveness := stations.map (fun r => Liveness.fresh r.address.toNat)
    slots := (stations.filter (fun r => decide (r.roleOf = .output))).map (fun r => DriveSlot.fresh r.address.toNat)
    pointer := none }

theorem freshBranch_eq (br : BranchId) (s : State) : freshBranch br s = changeBranch br (Branch.afresh (s.tables.stationsOn br)) s := rfl

theorem loadBranches_branch (four : s.branches.length = 4) (br : BranchId) :
    (loadBranches s).branch br = (s.branch br).afresh (s.tables.stationsOn br) := by
  refine (eachOf_once (good := fun x => x.branches.length = 4 ∧ x.store = s.store ∧ x.branch br = s.branch br)
    (done := fun x => x.branch br = (s.branch br).afresh (s.tables.stationsOn br)) (f := freshBranch)
    (fun y x other ⟨length, store, same⟩ =>
      ⟨(length_changeEntry _ _ _).trans length, store, (branch_changeBranch_other (Ne.symm other) _ x).trans same⟩)
    (fun x ⟨length, store, same⟩ => ?_) (fun y x other same => (branch_changeBranch_other (Ne.symm other) _ x).trans same)
    (mem_branchIds br) (by decide) ⟨four, rfl, rfl⟩)
  rw [freshBranch_eq, branch_changeBranch_same length, same, tables_congr (congrArg Store.active store)]

/-- Marked, the branch is one that has taken the tables. -/
theorem marked_afresh (tables : t.tables = u.tables) (b : Branch) :
    (b.afresh (u.tables.stationsOn br)).marked t.engine.imageNumber = retaken t br b := by
  unfold Branch.marked Branch.afresh retaken
  rw [tables]
  simp [List.map_map, Function.comp_def, DriveSlot.fresh]

end Sys2Proof.Machine

/-! ### The faults that end at the completion of a commit (R122, R137, R140, R174) -/

namespace Sys2Proof.Machine

open Sys2Proof.Safety

variable {s t u x : State} {br : BranchId} {g p c : Nat}

/-- A pass in which each step ends conditions that do not depend on the steps before. -/
theorem endedBy_pass {α : Type} {f : α → State → State} {D : α → FaultKind → Option Nat → Bool}
    (each : ∀ x (t : State), t.faults.EndedBy (D x) (f x t).faults) (l : List α) (s : State) :
    s.faults.EndedBy (fun k j => l.any (fun x => D x k j)) (eachOf l f s).faults := by
  induction l generalizing s with
  | nil => exact .refl _
  | cons x l ih => exact ((each x s).trans (ih (f x s))).congr fun k j => List.any_cons

/-! #### What each block ends -/

/-- A liveness record's faults (R122). -/
def Liveness.holds (l : Liveness) (k : FaultKind) (j : Option Nat) : Bool :=
  (!l.present && (decide (k = .stationAbsent) && decide (j = some l.station)))
    || (l.lagging && (decide (k = .stationLag) && decide (j = some l.station)))

/-- The lamp faults of a channel (R137). -/
def Proving.holds (x : Proving) (c : Nat) (k : FaultKind) (j : Option Nat) : Bool :=
  (x.lampOut && (decide (k = .lampOut) && decide (j = some c))) || (x.foreign && (decide (k = .foreignCurrent) && decide (j = some c)))

/-- The faults of a detector channel (R140). -/
def Detector.holds (d : Detector) (c : Nat) (k : FaultKind) (j : Option Nat) : Bool :=
  detectorFaults.any (fun f => d.has f && (decide (k = f.kind) && decide (j = some c)))

theorem endedBy_endStationFaults (br : BranchId) (s : State) :
    s.faults.EndedBy (fun k j => (s.branch br).liveness.any (fun l => l.holds k j)) (endStationFaults br s).faults := by
  refine endedBy_pass (D := Liveness.holds) (fun l t => ?_) _ s
  dsimp only
  have absent : t.faults.EndedBy (fun k j => !l.present && (decide (k = .stationAbsent) && decide (j = some l.station)))
      (if l.present then t else reportEnd .stationAbsent (some l.station) t).faults := by
    cases l.present
    · exact endedBy_reportEnd .stationAbsent (some l.station) t
    · exact .refl _
  exact absent.trans (endedBy_reportEnd_if l.lagging .stationLag (some l.station) _)

theorem endedBy_endChannelFaults (c : Nat) (s : State) : s.faults.EndedBy ((s.proving c).holds c) (endChannelFaults c s).faults :=
  (endedBy_reportEnd_if (s.proving c).lampOut .lampOut (some c) s).trans (endedBy_reportEnd_if (s.proving c).foreign .foreignCurrent (some c) _)

theorem endedBy_endDetector {d : Detector} (has : s.detector c = some d) (f : DetectorFault) :
    s.faults.EndedBy (fun k j => d.has f && (decide (k = f.kind) && decide (j = some c))) (endDetector f c s).faults := by
  unfold endDetector
  rw [has]
  dsimp only
  cases d.has f with
  | true => exact endedBy_reportEnd f.kind (some c) (changeDetector c (fun x => x.mark false f) s)
  | false => exact .refl _

theorem has_mark_other {d : Detector} {b : Bool} {f f' : DetectorFault} (other : f ≠ f') : (d.mark b f).has f' = d.has f' := by
  cases f <;> cases f' <;> simp_all [Detector.has, Detector.mark]

/-- All faults of a detector channel end. -/
def endDetectorFaults (c : Nat) (s : State) : State := eachOf detectorFaults (fun f => endDetector f c) s

theorem endedBy_endDetectorFaults {d : Detector} (has : s.detector c = some d) : s.faults.EndedBy (d.holds c) (endDetectorFaults c s).faults := by
  refine endedBy_eachOf (good := fun f t => ∃ d', t.detector c = some d' ∧ d'.has f = d.has f)
    (D := fun f k j => d.has f && (decide (k = f.kind) && decide (j = some c))) (fun f _ t ⟨d', is, same⟩ => ?_)
    (fun f f' t other ⟨d', is, same⟩ => ⟨_, endDetector_record is, (has_mark_other other).trans same⟩) (by decide) (fun f _ => ⟨d, has, rfl⟩)
  exact (endedBy_endDetector is f).congr fun k j => by rw [same]

theorem onlyChannel_endDetectorFaults (c : Nat) (s : State) : OnlyChannel c s (endDetectorFaults c s) :=
  eachOf_holds (OnlyChannel c s) (fun f => endDetector f c) (fun f _ h => h.trans (onlyChannel_endDetector f c _)) _ s (.refl c s)

/-! #### What the blocks end together -/

/-- What the prover ends (R137). -/
def State.lampEnds (s : State) (k : FaultKind) (j : Option Nat) : Bool :=
  s.channelNumbers.any (fun c => (s.proving c).holds c k j)
    || groupNumbers.any (fun g => s.redFail g && (decide (k = .redFail) && decide (j = some g)))

theorem endChannelFaults_prover (c : Nat) (s : State) : (endChannelFaults c s).prover = s.prover := by simp

theorem redFail_endChannelFaults (g c : Nat) (s : State) : (endChannelFaults c s).redFail g = s.redFail g := redFail_of_prover (endChannelFaults_prover c s) g

theorem endedBy_retableProver (s : State) : s.faults.EndedBy s.lampEnds (retableProver s).faults := by
  have channels : s.faults.EndedBy (fun k j => s.channelNumbers.any (fun c => (s.proving c).holds c k j)) (eachOf s.channelNumbers endChannelFaults s).faults :=
    endedBy_eachOf (good := fun c t => t.proving c = s.proving c) (D := fun c => (s.proving c).holds c)
      (fun c _ t same => same ▸ endedBy_endChannelFaults c t)
      (fun c c' t _ same => (proving_of_channels (congrArg Prover.channels (endChannelFaults_prover c t)) c').trans same) (numbers_nodup _) (fun _ _ => rfl)
  have reds : ∀ g, (eachOf s.channelNumbers endChannelFaults s).redFail g = s.redFail g := fun g =>
    eachOf_holds (fun t => t.redFail g = s.redFail g) endChannelFaults (fun c t h => (redFail_endChannelFaults g c t).trans h) _ s rfl
  have groups := endedBy_eachOf (good := fun g t => t.redFail g = s.redFail g)
    (D := fun g k j => s.redFail g && (decide (k = .redFail) && decide (j = some g))) (f := endRedFail) (l := groupNumbers)
    (fun g _ t same => same ▸ endedBy_endRedFail g t)
    (fun g k t other same => by rw [endRedFail_redFail, if_neg (Ne.symm other)]; exact same) (numbers_nodup _) (fun g _ => reds g)
  have same : (retableProver s).faults = (eachOf groupNumbers endRedFail (eachOf s.channelNumbers endChannelFaults s)).faults := by
    unfold retableProver
    dsimp only
  rw [same]
  exact channels.trans groups

/-- What the conditioner ends (R140). -/
def State.detectorEnds (s : State) (k : FaultKind) (j : Option Nat) : Bool :=
  s.detectorChannels.any (fun c => (s.detector c).any (fun d => d.holds c k j))

theorem endedBy_detectors (s : State) :
    s.faults.EndedBy s.detectorEnds (eachOf s.detectorChannels endDetectorFaults s).faults := by
  refine endedBy_eachOf (good := fun c t => t.detector c = s.detector c) (D := fun c k j => (s.detector c).any (fun d => d.holds c k j))
    (fun c member t same => ?_) (fun c c' t other same => (onlyChannel_endDetectorFaults c t c' (Ne.symm other)).trans same)
    ((numbers_nodup _).filter _) (fun _ _ => rfl)
  obtain ⟨d, has⟩ := Option.isSome_iff_exists.mp (List.mem_filter.mp member).2
  rw [has]
  exact endedBy_endDetectorFaults (same.trans has)

theorem retableDetectors_eq (s : State) : retableDetectors s = loadDetectors (eachOf s.detectorChannels endDetectorFaults s) := rfl

/-- What the branch controllers end (R122). -/
def State.stationEnds (s : State) (k : FaultKind) (j : Option Nat) : Bool :=
  branchIds.any (fun br => (s.branch br).liveness.any (fun l => l.holds k j))

theorem retableBranch_faults (br : BranchId) (s : State) : (retableBranch br s).faults = (endStationFaults br s).faults := by simp [retableBranch]

theorem retableBranch_branch_other {br' : BranchId} (other : br' ≠ br) (s : State) : (retableBranch br s).branch br' = s.branch br' := by
  unfold retableBranch purgeForwards
  dsimp only
  refine (branch_congr (eachOf_holds (fun t => t.branches = _) (fun (e : Forward) => send (.fwr e.tag (byteOf e.station) .range []))
    (fun _ t h => h) _ _ rfl) br').trans ?_
  rw [branch_changeBranch_other other, freshBranch_eq, branch_changeBranch_other other]
  exact branch_congr (by simp) br'

theorem endedBy_retableBranches (s : State) : s.faults.EndedBy s.stationEnds (retableBranches s).faults :=
  endedBy_eachOf (good := fun br t => t.branch br = s.branch br) (D := fun br k j => (s.branch br).liveness.any (fun l => l.holds k j))
    (fun br _ t same => by
      have own := endedBy_endStationFaults br t
      rw [same] at own
      rw [retableBranch_faults]
      exact own)
    (fun br br' t other same => (retableBranch_branch_other (Ne.symm other) t).trans same) (by decide) (fun _ _ => rfl)

theorem endedBy_endInvalid (s : State) :
    s.faults.EndedBy (fun k j => decide (k = .tableInvalid) && decide (j = none)) (endInvalid s).faults := by
  unfold endInvalid
  split
  · exact endedBy_reportEnd .tableInvalid none s
  · next none' =>
    refine ⟨id, fun _ => ((List.map_congr_left fun e member => ?_).trans (List.map_id _)).symm⟩
    unfold Entry.endedBy
    split
    · next is =>
      have ended : e.active = false := Bool.eq_false_iff.mpr fun active => none' (List.any_eq_true.mpr ⟨e, member, by
        unfold Entry.is
        rw [active, Bool.and_true]
        exact is⟩)
      rw [← ended]
      rfl
    · rfl

/-! #### The whole of what ends -/

/-- What the completion of a commit ends. -/
def State.commitEnds (s : State) (k : FaultKind) (j : Option Nat) : Bool :=
  (decide (k = .tableInvalid) && decide (j = none)) || s.stationEnds k j || s.lampEnds k j || s.detectorEnds k j

/-- A pass over numbers that concerns one of them. -/
theorem any_own (l : List Nat) (f : Nat → Bool) (n : Nat) : l.any (fun c => f c && decide (n = c)) = (decide (n ∈ l) && f n) := by
  induction l with
  | nil => rfl
  | cons c l ih =>
    rw [List.any_cons, ih]
    by_cases same : n = c
    · subst same
      cases f n <;> simp
    · simp [same]

theorem any_never {α : Type} (l : List α) : (l.any fun _ => false) = false := by simp

theorem mem_channelNumbers_of {f : Proving → Bool} (reset : f Proving.reset = false) (is : f (s.proving c) = true) : c ∈ s.channelNumbers := by
  refine mem_numbers.mpr (Classical.byContradiction fun out => ?_)
  have none' : entry? s.prover.channels c = none := by
    unfold entry?
    split
    · rfl
    · exact List.getElem?_eq_none (by omega)
  unfold State.proving entryD at is
  rw [none', Option.getD_none, reset] at is
  exact nomatch is

theorem lampEnds_own {f : Proving → Bool} (reset : f Proving.reset = false) (n : Nat) :
    s.channelNumbers.any (fun c => f (s.proving c) && decide (n = c)) = f (s.proving n) := by
  rw [any_own s.channelNumbers (fun c => f (s.proving c))]
  cases is : f (s.proving n) with
  | false => exact Bool.and_false _
  | true => rw [decide_eq_true (mem_channelNumbers_of reset is)]; rfl

theorem detectorEnds_own (f : Detector → Bool) (n : Nat) :
    s.detectorChannels.any (fun c => (s.detector c).any (fun d => f d && decide (n = c))) = (s.detector n).any f := by
  have pulled : ∀ c, (s.detector c).any (fun d => f d && decide (n = c)) = ((s.detector c).any f && decide (n = c)) := fun c => by
    cases s.detector c <;> rfl
  simp only [pulled]
  rw [any_own s.detectorChannels (fun c => (s.detector c).any f)]
  cases has : s.detector n with
  | none => exact Bool.and_false _
  | some d => rw [decide_eq_true (mem_detectorChannels has)]; rfl

theorem stationEnds_own (f : Liveness → Bool) (n : Nat) :
    branchIds.any (fun br => (s.branch br).liveness.any (fun l => f l && decide (n = l.station)))
      = branchIds.any (fun br => (s.branch br).liveness.any (fun l => decide (l.station = n) && f l)) := by
  have turned : ∀ l : Liveness, (f l && decide (n = l.station)) = (decide (l.station = n) && f l) := fun l => by
    rw [Bool.and_comm, decide_eq_decide.mpr (eq_comm (a := n))]
  simp only [turned]

theorem commitEnds_eq (s : State) (e : Entry) : s.commitEnds e.kind e.subject = endsAtCommit s e := by
  obtain ⟨kind, subject, _⟩ := e
  cases subject with
  | none =>
    cases kind <;>
      simp [State.commitEnds, State.stationEnds, State.lampEnds, State.detectorEnds, endsAtCommit, Liveness.holds, Proving.holds, Detector.holds,
        detectorFaults, DetectorFault.kind, any_never]
  | some n =>
    have absent := stationEnds_own (s := s) (fun l => !l.present) n
    have lag := stationEnds_own (s := s) Liveness.lagging n
    have out := lampEnds_own (s := s) (f := Proving.lampOut) rfl n
    have foreign := lampEnds_own (s := s) (f := Proving.foreign) rfl n
    have broken := detectorEnds_own (s := s) (fun d => d.has .openCircuit) n
    have short := detectorEnds_own (s := s) (fun d => d.has .shortCircuit) n
    have stuck := detectorEnds_own (s := s) (fun d => d.has .stuck) n
    have idle := detectorEnds_own (s := s) (fun d => d.has .idle) n
    have chatter := detectorEnds_own (s := s) (fun d => d.has .chatter) n
    cases kind <;>
      simp [State.commitEnds, State.stationEnds, State.lampEnds, State.detectorEnds, endsAtCommit, Liveness.holds, Proving.holds, Detector.holds,
        detectorFaults, DetectorFault.kind, any_never, any_own, absent, lag, out, foreign, broken, short, stuck, idle, chatter] <;> rfl

end Sys2Proof.Machine

/-! ### The branches and the link at the completion of a commit (R122) -/

namespace Sys2Proof.Machine

open Sys2Proof.Safety

variable {s t u x : State} {br : BranchId} {frames more : List OutFrame}

/-- The link interface has been handed these frames, in their order, among alarms and detector reports. -/
def Handed (frames : List OutFrame) (s t : State) : Prop :=
  ∃ made : List OutFrame, t.link = made.foldl Link.accept s.link ∧ made.filter (fun f => !isReport f) = frames

theorem handed_of_reportedOnly (h : reportedOnly s t) : Handed [] s t := by
  obtain ⟨made, reports, link⟩ := h
  refine ⟨made, link, List.filter_eq_nil_iff.mpr fun f member => ?_⟩
  rw [List.all_eq_true.mp reports f member]
  decide

theorem Handed.trans (first : Handed frames s t) (later : Handed more t u) : Handed (frames ++ more) s u := by
  obtain ⟨made, link, rfl⟩ := first
  obtain ⟨made', link', rfl⟩ := later
  exact ⟨made ++ made', by rw [link', link, List.foldl_append], List.filter_append ..⟩

theorem Handed.congr (h : Handed frames s t) (link : u.link = t.link) : Handed frames s u := by
  obtain ⟨made, is, kinds⟩ := h
  exact ⟨made, link.trans is, kinds⟩

theorem handed_eachOf {α : Type} {f : α → State → State} {frames : α → List OutFrame} {good : α → State → Prop} {l : List α}
    (each : ∀ x ∈ l, ∀ t, good x t → Handed (frames x) t (f x t)) (keeps : ∀ x y t, x ≠ y → good y t → good y (f x t)) (distinct : l.Nodup)
    {s : State} (start : ∀ x ∈ l, good x s) : Handed (l.flatMap frames) s (eachOf l f s) := by
  induction l generalizing s with
  | nil => exact ⟨[], rfl, rfl⟩
  | cons x l ih =>
    obtain ⟨out, distinct⟩ := List.nodup_cons.mp distinct
    refine (each x (List.mem_cons_self ..) s (start x (List.mem_cons_self ..))).trans
      (ih (fun y member => each y (List.mem_cons_of_mem _ member)) distinct (fun y member => ?_))
    exact keeps x y s (fun same => out (same ▸ member)) (start y (List.mem_cons_of_mem _ member))

/-! #### A branch's FIFO -/

/-- The answers to the forwarded frames whose stations a table set no longer has on the branch (R122). -/
def goneAnswers (tables : TableSet) (br : BranchId) (fifo : List Forward) : List OutFrame :=
  (fifo.filter (fun e => (tables.roleOn br e.station).isNone)).map (fun e => .fwr e.tag (byteOf e.station) .range [])

theorem link_sends (l : List Forward) (s : State) :
    (eachOf l (fun e => send (.fwr e.tag (byteOf e.station) .range [])) s).link
      = (l.map fun e => OutFrame.fwr e.tag (byteOf e.station) .range []).foldl Link.accept s.link := by
  induction l generalizing s with
  | nil => rfl
  | cons e l ih => exact ih _

theorem handed_purgeForwards (br : BranchId) (s : State) : Handed (goneAnswers s.tables br (s.branch br).fifo) s (purgeForwards br s) := by
  unfold purgeForwards goneAnswers
  dsimp only
  simp only [Option.not_isSome]
  refine ⟨_, link_sends _ _, List.filter_eq_self.mpr fun f member => ?_⟩
  obtain ⟨e, -, rfl⟩ := List.mem_map.mp member
  rfl

theorem handed_retableBranch (br : BranchId) (s : State) : Handed (goneAnswers s.tables br (s.branch br).fifo) s (retableBranch br s) := by
  have ends : reportedOnly s (endStationFaults br s) := by
    unfold endStationFaults
    refine reportedOnly_eachOf (fun l t => ?_) _ s
    dsimp only
    have absent : reportedOnly t (if l.present then t else reportEnd .stationAbsent (some l.station) t) := by
      cases l.present
      · exact reportedOnly_reportEnd _ _ t
      · exact ⟨[], rfl, rfl⟩
    exact reportedOnly_trans absent (reportedOnly_reportEnd_if _ _ _ _)
  have fresh : Handed [] s (freshBranch br (endStationFaults br s)) := (handed_of_reportedOnly ends).congr rfl
  have tables : (freshBranch br (endStationFaults br s)).tables = s.tables := tables_congr (congrArg Store.active (by simp))
  have branches : (endStationFaults br s).branches = s.branches := by simp
  have fifo : ((freshBranch br (endStationFaults br s)).branch br).fifo = (s.branch br).fifo := by
    rw [freshBranch_eq]
    rcases entryD_changeEntry (endStationFaults br s).branches (placeOf br) (placeOf br) (Branch.afresh ((endStationFaults br s).tables.stationsOn br))
      Branch.reset with same | ⟨-, changed⟩
    · exact congrArg Branch.fifo (same.trans (branch_congr branches br))
    · exact (congrArg Branch.fifo changed).trans (congrArg Branch.fifo (branch_congr branches br) :)
  have purged := handed_purgeForwards br (freshBranch br (endStationFaults br s))
  rw [tables, fifo] at purged
  exact fresh.trans purged

theorem retableBranch_tables (br : BranchId) (s : State) : (retableBranch br s).tables = s.tables := tables_congr (congrArg Store.active (by simp))

theorem handed_retableBranches (s : State) :
    Handed (branchIds.flatMap fun br => goneAnswers s.tables br (s.branch br).fifo) s (retableBranches s) :=
  handed_eachOf (good := fun br t => t.branch br = s.branch br ∧ t.tables = s.tables) (frames := fun br => goneAnswers s.tables br (s.branch br).fifo)
    (fun br _ t ⟨same, tables⟩ => by
      have own := handed_retableBranch br t
      rw [same, tables] at own
      exact own)
    (fun br br' t other ⟨same, tables⟩ => ⟨(retableBranch_branch_other (Ne.symm other) t).trans same, (retableBranch_tables br t).trans tables⟩)
    (by decide) (fun _ _ => ⟨rfl, rfl⟩)

/-! #### The branch itself -/

/-- The branch with the forwarded frames of the stations that stay. -/
def Branch.purged (tables : TableSet) (br : BranchId) (b : Branch) : Branch :=
  { b with fifo := b.fifo.filter (fun e => (tables.roleOn br e.station).isSome) }

theorem retableBranch_branches (br : BranchId) (s : State) :
    (retableBranch br s).branches = (changeBranch br (Branch.purged s.tables br) (changeBranch br (Branch.afresh (s.tables.stationsOn br)) s)).branches := by
  have tables : (endStationFaults br s).tables = s.tables := tables_congr (congrArg Store.active (by simp))
  have branches : (endStationFaults br s).branches = s.branches := by simp
  have fresh : (freshBranch br (endStationFaults br s)).tables = s.tables := tables_congr (congrArg Store.active (by simp))
  unfold retableBranch purgeForwards
  dsimp only
  refine (eachOf_holds (fun t => t.branches = _) (fun (e : Forward) => send (.fwr e.tag (byteOf e.station) .range [])) (fun _ t h => h) _ _ rfl).trans ?_
  rw [fresh, freshBranch_eq, tables]
  unfold changeBranch Branch.purged
  dsimp only
  rw [branches]

theorem length_retableBranch (br : BranchId) (s : State) : (retableBranch br s).branches.length = s.branches.length := by
  rw [retableBranch_branches]
  exact (length_changeEntry _ _ _).trans (length_changeEntry _ _ _)

theorem length_retableBranches (s : State) : (retableBranches s).branches.length = s.branches.length :=
  eachOf_holds (fun t => t.branches.length = s.branches.length) retableBranch (fun br t h => (length_retableBranch br t).trans h) _ s rfl

theorem retableBranches_branch (four : s.branches.length = 4) (br : BranchId) :
    (retableBranches s).branch br = ((s.branch br).afresh (s.tables.stationsOn br)).purged s.tables br := by
  refine (eachOf_once (good := fun x => x.branches.length = 4 ∧ x.tables = s.tables ∧ x.branch br = s.branch br)
    (done := fun x => x.branch br = ((s.branch br).afresh (s.tables.stationsOn br)).purged s.tables br) (f := retableBranch)
    (fun y x other ⟨four, tables, same⟩ =>
      ⟨(length_retableBranch y x).trans four, (retableBranch_tables y x).trans tables, (retableBranch_branch_other (Ne.symm other) x).trans same⟩)
    (fun x ⟨four, tables, same⟩ => ?_) (fun y x other same => (retableBranch_branch_other (Ne.symm other) x).trans same)
    (mem_branchIds br) (by decide) ⟨four, rfl, rfl⟩)
  rw [branch_congr (retableBranch_branches br x), branch_changeBranch_same ((length_changeEntry _ _ _).trans four), branch_changeBranch_same four, same, tables]

end Sys2Proof.Machine

/-! ### The completion of a commit (R174) -/

namespace Sys2Proof.Machine

open Sys2Proof.Safety

variable {s t u v x : State} {br : BranchId}

theorem TablesTaken.closed (h : TablesTaken u v) : TablesTaken u (closeEvent v) :=
  ⟨h.control, h.store, h.exchange, h.preempt, h.detectors, h.pending, h.clock, h.faces, h.reds, h.proving, h.keeps, h.ends, h.quiet, h.branches⟩

theorem exec_commitCompletion (commit : s.store.op = .commit) :
    exec .commitCompletion s = eventOutcome (fun s => takeCommitted (endInvalid (activate s))) s := by
  have here : (openEvent s).store.op = .commit := commit
  show Host.Outcome.next _ = Host.Outcome.next _
  simp only [whileUp, asEvent, here, if_true]

/-- The state in which the commit's blocks end the faults of what they give up: the detector records are still those before it. -/
def commitEnded (s : State) : State :=
  let x := retableProver (retableBranches (retableGroups { endInvalid (activate s) with event.remark := true }))
  eachOf x.detectorChannels endDetectorFaults x

theorem takeCommitted_eq (s : State) : takeCommitted (endInvalid (activate s)) = retablePlans (loadDetectors (commitEnded s)) := rfl

/-- What a commit's blocks leave alone before the plans and the detectors take the tables. -/
structure CommitEnded (s x : State) : Prop where
  pending : x.pending = s.pending
  clock : x.clock = s.clock
  exchange : x.exchange = s.exchange
  preempt : x.preempt = s.preempt
  control : x.control = s.control
  store : x.store = (activate s).store
  prover : x.prover = Prover.reset
  event : x.event = { s.event with remark := true }
  groups : x.regrouped
  branches : s.branches.length = 4 → ∀ br, x.branch br = ((s.branch br).afresh (x.tables.stationsOn br)).purged x.tables br
  length : x.branches.length = s.branches.length
  faults : s.faults.EndedBy s.commitEnds x.faults
  link : Handed (branchIds.flatMap fun br => goneAnswers x.tables br (s.branch br).fifo) s x

theorem reportedOnly_endDetectorFaults (c : Nat) (s : State) : reportedOnly s (endDetectorFaults c s) :=
  reportedOnly_eachOf (fun _ t => reportedOnly_of_reporting (reporting_endDetector (K := fun _ _ => True) trivial t)) _ s

theorem reportedOnly_endChannelFaults (c : Nat) (s : State) : reportedOnly s (endChannelFaults c s) :=
  reportedOnly_trans (reportedOnly_reportEnd_if _ _ _ s) (reportedOnly_reportEnd_if _ _ _ _)

theorem reportedOnly_retableProver (s : State) : reportedOnly s (retableProver s) := by
  have channels := reportedOnly_eachOf reportedOnly_endChannelFaults s.channelNumbers s
  have reds := reportedOnly_eachOf reportedOnly_endRedFail groupNumbers (eachOf s.channelNumbers endChannelFaults s)
  unfold retableProver
  generalize eachOf groupNumbers endRedFail (eachOf s.channelNumbers endChannelFaults s) = t at reds ⊢
  exact reportedOnly_congr (reportedOnly_trans channels reds) rfl

theorem reportedOnly_endInvalid (s : State) : reportedOnly s (endInvalid s) := reportedOnly_reportEnd_if _ _ _ s

theorem proving_reset (prover : u.prover = Prover.reset) (c : Nat) : u.proving c = Proving.reset := by
  unfold State.proving
  rw [prover]
  exact entryD_replicate _ _ _

theorem redFail_reset (prover : u.prover = Prover.reset) (g : Nat) : u.redFail g = false := by
  unfold State.redFail
  rw [prover]
  exact entryD_replicate _ _ _

theorem endsAtCommit_invalid {e : Entry} (kind : e.kind = .tableInvalid) (subject : e.subject = none) : endsAtCommit s e = true := by
  unfold endsAtCommit
  rw [kind, subject]

/-- The state in which the branch controllers take the tables. -/
def commitGrouped (s : State) : State := retableGroups { endInvalid (activate s) with event.remark := true }

theorem commitGrouped_frame (s : State) :
    (commitGrouped s).store = (activate s).store ∧ (commitGrouped s).prover = s.prover ∧ (commitGrouped s).detectors = s.detectors
      ∧ (commitGrouped s).branches = s.branches ∧ (commitGrouped s).faults = (endInvalid (activate s)).faults
      ∧ (commitGrouped s).link = (endInvalid (activate s)).link ∧ (commitGrouped s).pending = s.pending ∧ (commitGrouped s).clock = s.clock
      ∧ (commitGrouped s).exchange = s.exchange ∧ (commitGrouped s).preempt = s.preempt ∧ (commitGrouped s).control = s.control
      ∧ (commitGrouped s).event = { s.event with remark := true } ∧ (commitGrouped s).regrouped := by
  unfold commitGrouped
  obtain ⟨pending, clock, event, exchange, preempt, -, control, branches, prover, detectors, store⟩ := endInvalid_frame (activate s)
  generalize endInvalid (activate s) = a at *
  exact ⟨store, prover, detectors, branches, rfl, rfl, pending, clock, exchange, preempt, control,
    congrArg (fun e : Event => { e with remark := true }) event, rfl⟩

theorem stationEnds_congr (branches : t.branches = s.branches) : t.stationEnds = s.stationEnds := by
  unfold State.stationEnds State.branch
  rw [branches]

theorem lampEnds_congr (prover : t.prover = s.prover) : t.lampEnds = s.lampEnds := by
  unfold State.lampEnds State.channelNumbers State.proving State.redFail
  rw [prover]

theorem detectorEnds_congr (detectors : t.detectors = s.detectors) : t.detectorEnds = s.detectorEnds := by
  unfold State.detectorEnds State.detectorChannels State.detector
  rw [detectors]

theorem commitEnded_ended (s : State) : CommitEnded s (commitEnded s) := by
  obtain ⟨store, prover, detectors, branches, faults, link, pending, clock, exchange, preempt, control, event, groups⟩ := commitGrouped_frame s
  have invalid : s.faults.EndedBy _ (commitGrouped s).faults := faults ▸ endedBy_endInvalid (activate s)
  have alarmed : reportedOnly s (commitGrouped s) := reportedOnly_congr (s := s) (reportedOnly_endInvalid (activate s)) link
  have loaded : retableDetectors (retableProver (retableBranches (commitGrouped s))) = loadDetectors (commitEnded s) := rfl
  have last : commitEnded s = eachOf (retableProver (retableBranches (commitGrouped s))).detectorChannels endDetectorFaults
      (retableProver (retableBranches (commitGrouped s))) := rfl
  generalize commitEnded s = x at loaded last
  generalize commitGrouped s = g at *
  have stored : x.store = g.store := (congrArg State.store loaded.symm :).trans (by simp)
  have tables : x.tables = g.tables := tables_congr (congrArg Store.active stored)
  have station : g.faults.EndedBy s.stationEnds (retableBranches g).faults := stationEnds_congr branches ▸ endedBy_retableBranches g
  have sameProver : (retableBranches g).prover = s.prover := by simp [prover]
  have lamp : (retableBranches g).faults.EndedBy s.lampEnds (retableProver (retableBranches g)).faults :=
    lampEnds_congr sameProver ▸ endedBy_retableProver (retableBranches g)
  have detector : (retableProver (retableBranches g)).faults.EndedBy s.detectorEnds x.faults := by
    rw [last, ← detectorEnds_congr (t := retableProver (retableBranches g)) (by simp [detectors])]
    exact endedBy_detectors _
  have own : ∀ {α : Type} (f : State → α), f (loadDetectors x) = f (retableDetectors (retableProver (retableBranches g))) := fun f => congrArg f loaded.symm
  refine ⟨?_, ?_, ?_, ?_, ?_, ?_, ?_, ?_, ?_, ?_, ?_, ?_, ?_⟩
  · exact (own State.pending).trans (by simp [pending])
  · exact (own State.clock).trans (by simp [clock])
  · exact (own State.exchange).trans (by simp [exchange])
  · exact (own State.preempt).trans (by simp [preempt])
  · exact (own State.control).trans (by simp [control])
  · exact (own State.store).trans (by simp [store])
  · exact (own State.prover).trans (by rw [(retableDetectors_frame _).2.2.2.2.2.2.2.2.1]; rfl)
  · exact (own State.event).trans (by simp [event])
  · have same : x.engine.groups = g.engine.groups := (own (fun t => t.engine.groups)).trans (by simp)
    exact regrouped_of_same (same.trans groups) (congrArg Store.active stored)
  · intro four br
    have here : x.branches = (retableBranches g).branches := (own State.branches).trans (by simp)
    rw [branch_congr here, retableBranches_branch (branches ▸ four), tables, branch_congr branches]
  · have here : x.branches = (retableBranches g).branches := (own State.branches).trans (by simp)
    rw [here, length_retableBranches, branches]
  · exact (((invalid.trans station).trans lamp).trans detector).congr fun _ _ => rfl
  · have frames := handed_retableBranches g
    have same : (fun br => goneAnswers g.tables br (g.branch br).fifo) = fun br => goneAnswers x.tables br (s.branch br).fifo := by
      funext br
      rw [tables, branch_congr branches]
    rw [same] at frames
    have later : reportedOnly (retableBranches g) x := by
      rw [last]
      exact reportedOnly_trans (reportedOnly_retableProver _) (reportedOnly_eachOf reportedOnly_endDetectorFaults _ _)
    have all := ((handed_of_reportedOnly alarmed).trans frames).trans (handed_of_reportedOnly later)
    rwa [List.nil_append, List.append_nil] at all

end Sys2Proof.Machine

namespace Sys2Proof.Proofs

open Sys2Proof Sys2Proof.Machine Sys2Proof.Safety

/-- Settles O35: each block's part of the commit is taken by itself, and the conclusion, which moves nothing, marks the branches. -/
theorem commitCompletes : Obligations.CommitCompletes := by
  unfold Obligations.CommitCompletes
  intro s began generation up flash commit progress
  have ended := commitEnded_ended (openEvent s)
  have effect := takeCommitted_eq (openEvent s)
  generalize commitEnded (openEvent s) = x at ended effect
  have store : x.store = { s.store with
            active := some s.store.working, generation := generation, valid := true, corrected := 0
            tablesCorrected := false, op := .idle, progress := none, lastCommit := .done
            nv := s.store.nv.write s.store.working generation } := by
    rw [ended.store]
    unfold activate
    rw [show (openEvent s).store = s.store from rfl, progress]
    rfl
  have groups : (retablePlans (loadDetectors x)).regrouped := 
    regrouped_of_same (x := x) ((congrArg Engine.groups (by simp)).trans ended.groups) (by simp)
  have lit : (retablePlans (loadDetectors x)).control.mode.permit = false := by simpa [ended.control] using flash
  have taken := (conclude_taken lit (groups.aspectLaw lit) groups.unlit (by simp [ended.event, openEvent]) (by simp [ended.event])).closed
  have ran : exec .commitCompletion s = .next (closeEvent (conclude (retablePlans (loadDetectors x)))) := by
    rw [exec_commitCompletion commit, eventOutcome_up up]
    unfold asEvent
    dsimp only [id]
    rw [effect]
  have same : SameSources (loadDetectors x) (retablePlans (loadDetectors x)) := sameSources_retablePlans _
  generalize closeEvent (conclude (retablePlans (loadDetectors x))) = t at taken ran
  have faults : (retablePlans (loadDetectors x)).faults = x.faults := by simp
  have prover : (retablePlans (loadDetectors x)).prover = Prover.reset := by simpa using ended.prover
  have tables : t.tables = s.store.working := by
    rw [tables_congr (s := x) (congrArg Store.active (taken.store.trans (by simp)))]
    unfold State.tables
    rw [store]
    rfl
  have stored := taken.store.trans (show _ = x.store by simp)
  have quiet := taken.quiet (redFail_reset prover)
  have reports : (retablePlans (loadDetectors x)).event.reports = [] := by simp [ended.event, openEvent]
  have entries : faultLaw s = true → t.faults.entries = s.faults.entries.map (fun e => if endsAtCommit s e then { e with active := false } else e) := fun law => by
    rw [quiet.1, faults, ended.faults.entries (faultLaw_iff.mp law)]
    refine List.map_congr_left fun e _ => ?_
    unfold Entry.endedBy
    rw [commitEnds_eq]
    rfl
  refine ⟨t, ran, ?_, ?_, ?_, ?_, ?_, ?_, ?_, ?_, ?_, fun g first last => ?_, fun c => ?_, fun g => ?_, fun law e member kind subject => ?_, fun four br => ?_, ?_, ?_, entries⟩
  · exact taken.pending.trans (by simp [ended.pending, openEvent])
  · exact taken.clock.trans (by simp [ended.clock, openEvent])
  · exact taken.control.trans (by simp [ended.control, openEvent])
  · exact taken.exchange.trans (by simp [ended.exchange, openEvent])
  · rw [taken.preempt, same.stack]
    exact congrArg Preemption.stack ended.preempt
  · rw [taken.preempt, same.slot]
    exact congrArg Preemption.slot ended.preempt
  · exact stored.trans store
  · rw [stored, store]; rfl
  · rw [stored, store]; rfl
  · have faced := groups.faced taken.faces first last
    rwa [← tables_congr (s := retablePlans (loadDetectors x)) (t := t) (congrArg Store.active taken.store), tables] at faced
  · rcases taken.proving c with kept | stopped
    · exact kept.trans (proving_reset prover c)
    · rw [stopped, proving_reset prover]
      rfl
  · exact taken.reds g (redFail_reset prover g)
  · rw [entries law] at member
    obtain ⟨e, -, rfl⟩ := List.mem_map.mp member
    split at kind
    · next is => rw [if_pos is]
    · next no =>
      rw [if_neg no] at subject
      exact absurd (endsAtCommit_invalid kind subject) no
  · have own : x.branches = (retablePlans (loadDetectors x)).branches := by simp
    have length : (retablePlans (loadDetectors x)).branches.length = 4 := by
      have kept := ended.length
      rw [← own, kept]
      exact four
    have alike : t.tables = x.tables := tables_congr (congrArg Store.active stored)
    rw [taken.branches length br, ← branch_congr own, ended.branches four br, ← tables, alike]
    refine congrArg Branch.arbitrate ?_
    exact congrArg (Branch.purged x.tables br) (marked_afresh (br := br) alike (s.branch br))
  · obtain ⟨made, link, frames⟩ := ended.link
    have alike : x.tables = s.store.working := (tables_congr (congrArg Store.active stored)).symm.trans tables
    refine ⟨made, ((quiet.2 reports).trans (by simp)).trans link, frames.trans ?_⟩
    rw [alike]
    rfl
  · refine inputsRetaken_of rfl ?_ ?_ ?_ ?_ (fun _ => ⟨?_, fun p => ?_⟩) taken.preempt taken.detectors (congrArg Store.active taken.store)
    · rw [ended.clock]; rfl
    · rw [ended.preempt]; rfl
    · rw [ended.preempt]; rfl
    · rw [ended.preempt]; rfl
    · rw [ended.preempt]; rfl
    · unfold State.plan
      rw [ended.preempt]
      rfl

end Sys2Proof.Proofs

/-! ### The end of a load (R45, R168, R169) -/

namespace Sys2Proof.Machine

open Sys2Proof.Safety

variable {s t u v x : State} {br : BranchId}

/-! #### The mode that is entered (R45) -/

/-- The mode that LOADING is left for. -/
def State.loadMode (s : State) : Mode :=
  if s.store.nv.record.isSome || decide (s.exchange.strikes = 2) || s.control.heldLockout.isSome then .lockout else .flash

/-- The lockout record that is written at the end of a load. -/
def State.loadRecord (s : State) : Option (FaultKind × Option Nat) :=
  if s.store.nv.record.isSome then none else if s.exchange.strikes = 2 then some (.supervisionClose, none) else s.control.heldLockout

/-- The report of a record that is PRESENT at the end of a load. -/
def restoreFault (s : State) : State :=
  match s.store.nv.record with
  | some (kind, subject) => recordRaise (restoredRaise kind subject) { s with control.heldLockout := none }
  | none => { s with control.heldLockout := none }

theorem leaveLoading_eq (s : State) : leaveLoading s = changeFlashMode s.loadMode .loadEnd s.loadRecord (restoreFault s) := by
  unfold leaveLoading State.loadMode State.loadRecord restoreFault
  dsimp only
  cases s.store.nv.record with
  | some record => rfl
  | none =>
    by_cases two : s.exchange.strikes = 2
    · simp [two]
    · cases held : s.control.heldLockout <;> simp [two]

theorem loadMode_permit (s : State) : s.loadMode.permit = false := by
  unfold State.loadMode
  split <;> rfl

theorem restoreFault_frame (s : State) :
    (restoreFault s).event = s.event ∧ (restoreFault s).store = s.store ∧ (restoreFault s).control = { s.control with heldLockout := none } := by
  unfold restoreFault
  split
  · simp
  · exact ⟨rfl, rfl, rfl⟩

theorem changeFlashMode_event (new : Mode) (cause : Cause) (record : Option (FaultKind × Option Nat)) (s : State) :
    (changeFlashMode new cause record s).event = { s.event with modeChanged := true, remark := true } := by
  simp [changeFlashMode, setMode]

theorem changeFlashMode_entries (new : Mode) (cause : Cause) (record : Option (FaultKind × Option Nat)) (s : State) :
    (changeFlashMode new cause record s).faults.entries = s.faults.entries := by
  unfold changeFlashMode announce
  simp only [alarm_entries, writeRecordOf_frame, resetWorking_frame, setMode_frame]

/-! #### The reports of the table store (R169) -/

/-- The report of a load that found no valid set. -/
def invalidRaise : Raise := { kind := .tableInvalid, subject := none, action := .noRun, condition := true }

/-- The report of a load that corrected a bit. -/
def noteCorrected (s : State) : State := if 0 < s.store.corrected then noteOccurrence .tableCorrected none s else s

theorem noteCorrected_frame (s : State) :
    (noteCorrected s).store = s.store ∧ (noteCorrected s).control = s.control ∧ (noteCorrected s).exchange = s.exchange
      ∧ (noteCorrected s).preempt = s.preempt ∧ (noteCorrected s).prover = s.prover ∧ (noteCorrected s).clock = s.clock := by
  unfold noteCorrected
  split <;> simp

theorem reportLoad_eq (s : State) : reportLoad s = if s.store.valid then noteCorrected s else note invalidRaise (noteCorrected s) := by
  rw [← (noteCorrected_frame s).1]
  rfl

theorem reportLoad_rest (s : State) :
    (reportLoad s).store = s.store ∧ (reportLoad s).control = s.control ∧ (reportLoad s).exchange = s.exchange
      ∧ (reportLoad s).preempt = s.preempt ∧ (reportLoad s).prover = s.prover ∧ (reportLoad s).event.enteredGo = s.event.enteredGo
      ∧ (reportLoad s).event.reports = s.event.reports := by
  obtain ⟨store, control, exchange, preempt, prover, -⟩ := noteCorrected_frame s
  have event : (noteCorrected s).event.enteredGo = s.event.enteredGo ∧ (noteCorrected s).event.reports = s.event.reports := by
    unfold noteCorrected
    split
    · rw [noteOccurrence_event]
      exact ⟨rfl, rfl⟩
    · exact ⟨rfl, rfl⟩
  rw [reportLoad_eq]
  split
  · exact ⟨store, control, exchange, preempt, prover, event⟩
  · rw [note_event]
    simp only [note_frame]
    exact ⟨store, control, exchange, preempt, prover, event⟩

/-! #### The state behind the mode change -/

/-- What the mode controller leaves of the state `l` in which the table store has found the set. -/
structure LoadLeft (l y : State) : Prop where
  pending : y.pending = l.pending
  clock : y.clock = l.clock
  exchange : y.exchange = l.exchange
  preempt : y.preempt = l.preempt
  branches : y.branches = l.branches
  active : y.store.active = l.store.active
  generation : y.store.generation = l.store.generation
  valid : y.store.valid = l.store.valid
  corrected : y.store.corrected = l.store.corrected
  working : y.store.working = l.store.active.getD defaultSet
  control : y.control = { l.control with
    heldLockout := none, mode := l.loadMode, runPermit := false, lastCause := .loadEnd, recordOp := writingOf l.loadRecord l.control.recordOp }
  op : y.store.op = if l.loadRecord.isSome then .record else l.store.op
  entered : y.event.enteredGo = l.event.enteredGo
  reports : y.event.reports = l.event.reports
  remark : y.event.remark = true
  entries : y.faults.entries = (restoreFault (reportLoad l)).faults.entries
  well : l.faults.Well → y.faults.Well

theorem leaveLoading_left (l : State) : LoadLeft l (leaveLoading (reportLoad l)) := by
  obtain ⟨store, control, exchange, preempt, -, entered, reports⟩ := reportLoad_rest l
  obtain ⟨event', store', control'⟩ := restoreFault_frame (reportLoad l)
  have mode : (reportLoad l).loadMode = l.loadMode := by unfold State.loadMode; rw [store, exchange, control]
  have record : (reportLoad l).loadRecord = l.loadRecord := by unfold State.loadRecord; rw [store, exchange, control]
  have changed := changeFlashMode_record l.loadMode .loadEnd l.loadRecord (restoreFault (reportLoad l))
  have is := leaveLoading_eq (reportLoad l)
  rw [mode, record] at is
  rw [← is] at changed
  obtain ⟨control'', op, -, working⟩ := changed
  have event : (leaveLoading (reportLoad l)).event = { (reportLoad l).event with modeChanged := true, remark := true } := by
    rw [is, changeFlashMode_event, event']
  refine ⟨by simp, by simp, ?_, ?_, by simp, by simp, by simp, by simp, by simp, ?_, ?_, ?_, ?_, ?_, ?_, ?_, fun well => ?_⟩
  · simp [exchange]
  · simp [preempt]
  · rw [working, store', store]
  · rw [control'', control', control, loadMode_permit]
  · rw [op, store', store]
  · rw [event]; exact entered
  · rw [event]; exact reports
  · rw [event]
  · rw [is, changeFlashMode_entries]
  · exact (steady_leaveLoading (a := allowed l .commitCompletion) _).faults ((steady_reportLoad (a := allowed l .commitCompletion) l).faults well)

end Sys2Proof.Machine

/-! ### The fault list at the end of a load (R45, R157, R169) -/

namespace Sys2Proof.Machine

open Sys2Proof.Safety

variable {s t u v x l : State} {br : BranchId} {kind : FaultKind} {subject : Option Nat} {active : Bool} {action : Action} {r : Raise}

/-- An occurrence makes no entry ACTIVE. -/
theorem recordRaise_occurrence (occurrence : r.condition = false) (room : s.faults.entries.length < 32) (quiet : notActive s kind subject) :
    notActive (recordRaise r s) kind subject := by
  intro e member is about
  rw [recordRaise_entries room] at member
  split at member
  · obtain ⟨o, old, rfl⟩ := List.mem_map.mp member
    split at is
    · next same =>
      rw [if_pos same] at about ⊢
      simp [Entry.again, occurrence, quiet o old is about]
    · next other =>
      rw [if_neg other] at about ⊢
      exact quiet o old is about
  · rcases List.mem_append.mp member with old | new
    · exact quiet e old is about
    · obtain rfl := List.mem_singleton.mp new
      exact occurrence

/-- An entry stays listed in its state at an occurrence that asks for its action, or at the report of another fault. -/
theorem recordRaise_listed_stays (room : s.faults.entries.length < 32)
    (alike : r.kind = kind → r.subject = subject → r.condition = false ∧ r.action = action) (lists : listed s kind subject active action) :
    listed (recordRaise r s) kind subject active action := by
  obtain ⟨e, member, is, about, state, asks⟩ := lists
  cases same : e.is r.kind r.subject with
  | false => exact ⟨e, recordRaise_other room member same, is, about, state, asks⟩
  | true =>
    obtain ⟨ofKind, ofSubject⟩ := entry_is_iff.mp same
    obtain ⟨occurrence, asked⟩ := alike (ofKind.symm.trans is) (ofSubject.symm.trans about)
    have found : (s.faults.entries.find? (Entry.is r.kind r.subject)).isSome = true := List.find?_isSome.mpr ⟨e, member, same⟩
    refine ⟨e.again r s.clock.now, ?_, is, about, ?_, asked⟩
    · rw [recordRaise_entries room, if_pos found]
      exact List.mem_map.mpr ⟨e, member, by simp [same]⟩
    · simp [Entry.again, occurrence, state]

theorem listed_congr (entries : t.faults.entries = s.faults.entries) (lists : listed s kind subject active action) : listed t kind subject active action := by
  unfold listed at lists ⊢
  rwa [entries]

theorem notActive_of_entries (entries : t.faults.entries = s.faults.entries) (quiet : notActive s kind subject) : notActive t kind subject := by
  unfold notActive at quiet ⊢
  rwa [entries]

/-! #### The two reports of the table store -/

theorem noteCorrected_length (room : l.faults.entries.length < 32) : (noteCorrected l).faults.entries.length ≤ l.faults.entries.length + 1 := by
  unfold noteCorrected
  split
  · exact recordRaise_length (s := { l with event.worst := l.event.worst.max .report }) room
  · exact Nat.le_succ _

theorem noteCorrected_notActive (room : l.faults.entries.length < 32) (quiet : notActive l kind subject) : notActive (noteCorrected l) kind subject := by
  unfold noteCorrected
  split
  · exact recordRaise_occurrence (s := { l with event.worst := l.event.worst.max .report }) rfl room quiet
  · exact quiet

/-- The report of an invalid set, recorded. -/
def noteInvalid (s : State) : State := if s.store.valid then s else note invalidRaise s

theorem reportLoad_parts (l : State) : reportLoad l = noteInvalid (noteCorrected l) := by
  rw [reportLoad_eq, ← (noteCorrected_frame l).1]
  rfl

theorem noteInvalid_length (room : s.faults.entries.length < 32) : (noteInvalid s).faults.entries.length ≤ s.faults.entries.length + 1 := by
  unfold noteInvalid
  split
  · exact Nat.le_succ _
  · exact recordRaise_length (s := { s with event.worst := s.event.worst.max invalidRaise.action }) room

theorem noteInvalid_notActive (other : kind ≠ .tableInvalid) (quiet : notActive s kind subject) : notActive (noteInvalid s) kind subject := by
  unfold noteInvalid
  split
  · exact quiet
  · exact recordRaise_notActive (s := { s with event.worst := s.event.worst.max invalidRaise.action }) (.inl (Ne.symm other)) quiet

theorem noteInvalid_listed (room : s.faults.entries.length < 32) (other : kind ≠ .tableInvalid) (lists : listed s kind subject active action) :
    listed (noteInvalid s) kind subject active action := by
  unfold noteInvalid
  split
  · exact lists
  · exact recordRaise_listed_stays (s := { s with event.worst := s.event.worst.max invalidRaise.action }) room (fun is => absurd is (Ne.symm other)) lists

/-! #### The restored fault -/

theorem restoreFault_listed (room : s.faults.entries.length < 32) (same : restoredAction kind = action) (lists : listed s kind subject active action) :
    listed (restoreFault s) kind subject active action := by
  unfold restoreFault
  split
  · exact recordRaise_listed_stays (s := { s with control.heldLockout := none }) room (fun is _ => ⟨rfl, (congrArg restoredAction is).trans same⟩) lists
  · exact lists

/-- What the end of a load lists. -/
structure LoadListed (l y : State) : Prop where
  corrected : 0 < l.store.corrected → notActive l .tableCorrected none → listed y .tableCorrected none false .report
  invalid : l.store.valid = false → listed y .tableInvalid none true .noRun
  restored : ∀ kind subject, l.store.nv.record = some (kind, subject) → ∃ e ∈ y.faults.entries, e.kind = kind ∧ e.subject = subject
    ∧ e.last = l.clock.now ∧ e.latched = true ∧ e.action = restoredAction kind ∧ (notActive l kind subject → kind ≠ .tableInvalid → e.active = false)

theorem restoreFault_lists (room : l.faults.entries.length < 30) : LoadListed l (restoreFault (reportLoad l)) := by
  have room0 : l.faults.entries.length < 32 := by omega
  have room1 : (noteCorrected l).faults.entries.length < 32 := lt_of_le_of_lt (noteCorrected_length room0) (by omega)
  have room2 : (reportLoad l).faults.entries.length < 32 := by
    have first := noteCorrected_length room0
    have second := noteInvalid_length room1
    rw [reportLoad_parts]
    omega
  obtain ⟨store, -, -, -, -, clock⟩ := noteCorrected_frame l
  refine ⟨fun some' quiet => ?_, fun bad => ?_, fun kind subject is => ?_⟩
  · refine restoreFault_listed room2 rfl ?_
    rw [reportLoad_parts]
    refine noteInvalid_listed room1 (by decide) ?_
    unfold noteCorrected
    rw [if_pos some']
    obtain ⟨e, member, is, about, -, asks, ended⟩ := noteOccurrence_lists (kind := .tableCorrected) (subject := none) room0
    exact ⟨e, member, is, about, ended quiet, asks⟩
  · refine restoreFault_listed room2 rfl ?_
    rw [reportLoad_parts]
    unfold noteInvalid
    rw [if_neg (by rw [store, bad]; decide)]
    obtain ⟨e, member, is, about, -, asks, -, activates, -⟩ := note_lists (r := invalidRaise) room1
    exact ⟨e, member, is, about, activates rfl, asks⟩
  · have record : (reportLoad l).store.nv.record = some (kind, subject) := by rw [(reportLoad_rest l).1]; exact is
    have now : (reportLoad l).clock.now = l.clock.now := by simp
    unfold restoreFault
    rw [record]
    obtain ⟨e, member, is, about, last, asks, latched, -, ended⟩ :=
      recordRaise_lists (r := restoredRaise kind subject) (s := { reportLoad l with control.heldLockout := none }) room2
    refine ⟨e, member, is, about, last.trans now, latched rfl, asks, fun quiet other => ended ?_⟩
    refine notActive_of_entries (s := reportLoad l) rfl ?_
    rw [reportLoad_parts]
    exact noteInvalid_notActive other (noteCorrected_notActive room0 quiet)

theorem LoadListed.congr (h : LoadListed l u) (entries : t.faults.entries = u.faults.entries) : LoadListed l t :=
  ⟨fun some' quiet => listed_congr entries (h.corrected some' quiet), fun bad => listed_congr entries (h.invalid bad),
    fun kind subject is => entries ▸ h.restored kind subject is⟩

/-- The conclusion of the load keeps what is listed. -/
theorem LoadListed.taken (h : LoadListed l u) (well : u.faults.Well) (taken : TablesTaken u t) : LoadListed l t := by
  have stays : ∀ {kind subject active action}, kind ≠ .redFail → listed u kind subject active action → listed t kind subject active action :=
    fun other ⟨e, member, is, about, state, asks⟩ => ⟨e, taken.keeps.keeps well e member (by rw [is]; exact other), is, about, state, asks⟩
  refine ⟨fun some' quiet => stays (by decide) (h.corrected some' quiet), fun bad => stays (by decide) (h.invalid bad), fun kind subject is => ?_⟩
  obtain ⟨e, member, of, about, last, latched, asks, ended⟩ := h.restored kind subject is
  obtain ⟨D, ends⟩ := taken.ends
  refine ⟨e.endedBy D, by rw [ends.entries well]; exact List.mem_map_of_mem member, ?_⟩
  unfold Entry.endedBy
  split
  · exact ⟨of, about, last, latched, asks, fun _ _ => rfl⟩
  · exact ⟨of, about, last, latched, asks, ended⟩

end Sys2Proof.Machine

/-! ### The end of a load as an event (R168, R169) -/

namespace Sys2Proof.Machine

open Sys2Proof.Safety

variable {s t u v x y l : State} {br : BranchId}

theorem exec_tableLoadEnd {upsets : List Upset} {readable : Bool} (loading : s.control.mode = .loading) :
    exec (.tableLoadEnd upsets readable) s
      = eventOutcome (fun s => takeLoaded (leaveLoading (reportLoad (loadStore (s.store.nv.found upsets readable) s)))) s := by
  have here : (openEvent s).control.mode = .loading := loading
  show Host.Outcome.next _ = Host.Outcome.next _
  simp only [whileUp, asEvent, here, if_true]

theorem takeLoaded_regrouped (y : State) : (takeLoaded y).regrouped :=
  regrouped_of_same (takeLoaded_groups y) (congrArg Store.active (by simp))

/-- The end of a load with its conclusion, where the mode controller leaves `y`. -/
theorem load_taken (left : LoadLeft l y) (entered : l.event.enteredGo = []) : TablesTaken (takeLoaded y) (closeEvent (conclude (takeLoaded y))) := by
  have flash : (takeLoaded y).control.mode.permit = false := by
    simp only [takeLoaded_frame, left.control]
    exact loadMode_permit l
  refine (conclude_taken flash ((takeLoaded_regrouped y).aspectLaw flash) (takeLoaded_regrouped y).unlit ?_ ?_).closed
  · simp only [takeLoaded_frame, left.entered, entered]
  · simp only [takeLoaded_frame, left.remark]

theorem takeLoaded_branch (four : y.branches.length = 4) (br : BranchId) :
    (takeLoaded y).branch br = (y.branch br).afresh ((takeLoaded y).tables.stationsOn br) := by
  have same : (takeLoaded y).branches = (loadBranches (retableGroups y)).branches := by simp [takeLoaded]
  have tables : (takeLoaded y).tables = y.tables := tables_congr (congrArg Store.active (by simp))
  rw [branch_congr same, loadBranches_branch (s := retableGroups y) four, tables]
  rfl

theorem takeLoaded_length (y : State) : (takeLoaded y).branches.length = y.branches.length := by
  have same : (takeLoaded y).branches = (loadBranches (retableGroups y)).branches := by simp [takeLoaded]
  rw [same]
  exact eachOf_holds (fun t => t.branches.length = y.branches.length) freshBranch (fun br t h => (length_changeEntry _ _ _).trans h) _ _ rfl

end Sys2Proof.Machine

namespace Sys2Proof.Proofs

open Sys2Proof Sys2Proof.Machine Sys2Proof.Safety

/-- Settles O38: the store's findings, the mode controller's way out of LOADING and the blocks' new tables, each by its own lemma; the conclusion moves
nothing but the marks of the branches. -/
theorem loadEndsInFlashOrLockout : Obligations.LoadEndsInFlashOrLockout := by
  unfold Obligations.LoadEndsInFlashOrLockout
  intro upsets readable s up loading
  have ran : exec (.tableLoadEnd upsets readable) s = .next (closeEvent (conclude (takeLoaded (leaveLoading (reportLoad
      (loadStore (s.store.nv.found upsets readable) (openEvent s))))))) := by
    rw [exec_tableLoadEnd loading, eventOutcome_up up]
    unfold asEvent
    dsimp only [id]
    rw [show (openEvent s).store = s.store from rfl]
  generalize s.store.nv.found upsets readable = nv at ran ⊢
  generalize found : loadStore nv (openEvent s) = l at ran
  have left := leaveLoading_left l
  have listed : l.faults.entries.length < 30 → LoadListed l (leaveLoading (reportLoad l)) := fun room => (restoreFault_lists room).congr left.entries
  generalize leaveLoading (reportLoad l) = y at left ran listed
  have taken := load_taken left (by rw [← found]; rfl)
  have groups := takeLoaded_regrouped y
  generalize closeEvent (conclude (takeLoaded y)) = t at taken ran
  have stored : t.store = y.store := taken.store.trans (by simp)
  have control : t.control = { l.control with
    heldLockout := none, mode := l.loadMode, runPermit := false, lastCause := .loadEnd, recordOp := writingOf l.loadRecord l.control.recordOp } :=
    (taken.control.trans (by simp)).trans left.control
  have active : t.store.active = if nv.passes then some nv.set else none := by
    rw [stored, left.active, ← found]
    rfl
  have generation : t.store.generation = if nv.passes then nv.headerGeneration else 0 := by
    rw [stored, left.generation, ← found]
    rfl
  have valid : t.store.valid = nv.passes := by
    rw [stored, left.valid, ← found]
    rfl
  have mode : t.control.mode = l.loadMode := by rw [control]
  have record : l.store.nv.record = nv.record := by rw [← found]; rfl
  have strikes : l.exchange.strikes = s.exchange.strikes := by rw [← found]; rfl
  have kept : l.control.heldLockout = s.control.heldLockout := by rw [← found]; rfl
  refine ⟨t, ran, ?_, ?_, ?_, fun pass => ?_, fun bad => ?_, ?_, ?_, ?_, ?_, fun present => ?_, fun absent two => ?_, fun absent other held => ?_,
    fun absent other free => ?_, fun g first last => ?_, fun four br => ?_, ?_, fun law room => ?_⟩
  · rw [taken.pending, (takeLoaded_frame y).1, left.pending, ← found]; rfl
  · rw [taken.clock, (takeLoaded_frame y).2.1, left.clock, ← found]; rfl
  · rw [taken.exchange, (takeLoaded_frame y).2.2.2.2.1, left.exchange, ← found]; rfl
  · rw [active, generation, valid, pass]
    exact ⟨rfl, rfl, rfl⟩
  · rw [active, generation, valid, bad]
    exact ⟨rfl, rfl, rfl⟩
  · rw [stored, left.working, left.active]
  · rw [stored, left.corrected, ← found]; rfl
  · rw [control]
  · rw [control]
  · rw [mode]
    unfold State.loadMode
    rw [record, present]
    rfl
  · have written : l.loadRecord = some (.supervisionClose, none) := by
      unfold State.loadRecord
      rw [record, absent, strikes, two]
      rfl
    refine ⟨?_, ?_, ?_⟩
    · rw [mode]
      unfold State.loadMode
      simp [strikes, two]
    · rw [control, written]; rfl
    · rw [stored, left.op, written]; rfl
  · rw [mode]
    unfold State.loadMode
    simp [kept, held]
  · rw [mode]
    unfold State.loadMode
    rw [record, absent, strikes, kept, free]
    simp [other]
  · rw [tables_congr (congrArg Store.active taken.store)]
    exact (groups.faced taken.faces first last).2.2
  · have own : y.branches = s.branches := by rw [left.branches, ← found]; rfl
    rw [taken.branches (by rw [takeLoaded_length, own]; exact four) br, takeLoaded_branch (own ▸ four), branch_congr own,
      marked_afresh (tables_congr (congrArg Store.active taken.store))]
  · have preempt : y.preempt = s.preempt := by rw [left.preempt, ← found]; rfl
    have before : (loadBranches (retableGroups y)).preempt = s.preempt := by simp [retableGroups, preempt]
    have clock : (loadBranches (retableGroups y)).clock = s.clock := by
      rw [(loadBranches_frame _).2.1]
      exact left.clock.trans (by rw [← found]; rfl)
    refine inputsRetaken_of (x := loadBranches (retableGroups y)) rfl ?_ ?_ ?_ ?_ (fun _ => ⟨?_, fun p => ?_⟩) taken.preempt taken.detectors
      (congrArg Store.active taken.store)
    · rw [clock]
    · rw [before]
    · rw [before]
    · rw [before]
    · rw [before]
    · unfold State.plan
      rw [before]
  · have faults : (takeLoaded y).faults = y.faults := by simp
    have old : l.faults = s.faults := by rw [← found]; rfl
    have well : y.faults.Well := left.well (old ▸ faultLaw_iff.mp law)
    have lists : LoadListed l (takeLoaded y) := (listed (old ▸ room)).congr (congrArg FaultList.entries faults)
    obtain ⟨corrected, invalid, restored⟩ := lists.taken (by rw [faults]; exact well) taken
    have before : ∀ {kind subject}, notActive s kind subject → notActive l kind subject :=
      notActive_of_entries (congrArg FaultList.entries old)
    refine ⟨fun some' quiet => corrected ?_ (before quiet), fun bad => invalid ?_, fun kind subject is => ?_⟩
    · rw [← found]; exact some'
    · rw [← found]; exact bad
    · obtain ⟨e, member, of, about, last, latched, asks, ended⟩ := restored kind subject (record.trans is)
      exact ⟨e, member, of, about, last.trans (by rw [← found]; rfl), latched, asks, fun quiet => ended (before quiet)⟩

end Sys2Proof.Proofs
